-- ==== Sys2Proof/Word.lean ====
section
/-!
DEFINITION. The words the manual names: a register is 32 bits (ch. 00, "Register addresses and field types"), a byte is 8.
-/

namespace Sys2Proof

/-- A register of parameter space. -/
abbrev Word := BitVec 32

/-- A byte of a frame, a command or a store. -/
abbrev Byte := BitVec 8

end Sys2Proof
end

