-- ==== Sys2Proof/Syntax.lean ====
section
/-!
DEFINITION. The commands of the block: one constructor per row of spec/opcode_table.json, with what comes from outside the
block as operands (levels, frames, data of the dies, the index of the engine that acts).
-/

namespace Sys2Proof

/-- The four access paths of parameter space (R121). -/
inductive Path where
  | sp | host | svc | tap
  deriving DecidableEq, Repr

/-- A supply input: a monitored rail of Table 21-5 by number, or the crystal oscillator (R43). -/
inductive Supply where
  | rail (r : Nat) | xtal
  deriving DecidableEq, Repr

/-- The causes of an orderly reset (Table 3-4). -/
inductive Cause where
  | thermal | soft | host | cascade
  deriving DecidableEq, Repr

/-- What a keep-bus transfer reaches (R13). -/
inductive KeepTarget where
  | ps | nor | otp
  deriving DecidableEq, Repr

/-- How a PS write ends: passed after so many repeats, verify failed three times, or keep-bus link fault (R464). -/
inductive PsOutcome where
  | ok (repeats : Nat) | verifyFail | linkFault
  deriving DecidableEq, Repr

/-- What comes from outside when a sequencer executes one instruction (ch. 14, 15): an error in the word fetched or loaded (0 none,
1 corrected, 2 double-bit), the same in the Hamper data read (R262), the bytes the die drives, the RB levels (bit per line),
and how a PS write that a TAKE needs ends. -/
structure SeqIn where
  fetchEcc : Nat := 0
  ramEcc : Nat := 0
  hmpEcc : Nat := 0
  bus : List Byte := []
  rb : Nat := 0xF
  ps : List PsOutcome := []
  deriving DecidableEq, Repr


/-- What step 1 of the Trailhead finds: the two ISNS inputs in mV (R278), and whether the SVC SRAM fails its self-test (R529). -/
structure StartIn where
  isns : Nat × Nat := (0, 0)
  sramBad : Bool := false
  deriving DecidableEq, Repr

/-- An access of the queue pair `q`; `mm` says that HOST finds the two copies of its pointers to differ (R188). -/
structure QpAccess where
  q : Nat
  mm : Bool := false
  deriving DecidableEq, Repr

/-- What a training or a tracking measurement finds at one target (R469): whether the gate and DQS delays were found, with the reference
level as `CAL_DQS` holds them, and the pass windows, first and last deskew step, of DQ_0 to DQ_7 at reads and at writes. -/
structure Eye where
  ce : Nat
  found : Bool := true
  dqs : Word := 0
  rd : List (Nat × Nat) := []
  wr : List (Nat × Nat) := []
  deriving DecidableEq, Repr

/-- What is found at the target of CE `ce`: the delays, if found, and eight windows at reads and eight at writes. -/
def Eye.of (ce : Nat) (dqs : Option Word) (wins : List (Nat × Nat)) : Eye :=
  { ce, found := dqs.isSome, dqs := dqs.getD 0, rd := wins.take 8, wr := wins.drop 8 }

/-- What discovery finds behind one chip enable of a channel (R292): the protocol, whether a parameter-page copy is valid, READ ID
bytes 0 to 7, LUNs and planes per LUN (1, 2 or 4), the rates advertised as a mask of rate codes, parameter-page bytes 232 to 239, the
page size with spare bytes, pages per block, blocks per LUN, and whether it has a reset of one LUN. -/
structure FoundTarget where
  ch : Nat
  ce : Nat
  jedec : Bool := false
  pageOk : Bool := true
  ident : List Byte := []
  luns : Nat := 1
  planes : Nat := 1
  rates : Nat := 0
  ext : List Byte := []
  pageBytes : Nat := 0
  pages : Nat := 0
  blocks : Nat := 0
  lunReset : Bool := false
  deriving DecidableEq, Repr

/-- What comes from outside when a register write performs its action: how a PS or OTP write that it needs ends, whether the entropy
source passes its tests (R417), the eNOR reads that fail in an image check, the means a ledger calibration measures by kind (energy,
duration), the bits a pattern checker receives, and the input of the instruction that a debug step executes. -/
structure RegIn where
  ps : List PsOutcome := []
  rng : Bool := true
  bad : List Nat := []
  means : List (Nat × (Nat × Nat)) := []
  rx : List (List Bool) := []
  seq : SeqIn := {}
  deriving DecidableEq, Repr

/-- A TS1 or TS2 as it is received on one lane (Table 6-6); `inv` says that its polarity is inverted. -/
structure TsSet where
  lane : Nat := 0xF7
  width : Nat := 0xF7
  genSup : Nat := 7
  chg : Bool := false
  target : Nat := 0
  preset : Nat := 0
  phase : Nat := 0
  usePreset : Bool := false
  role : Nat := 1
  loopback : Bool := false
  inv : Bool := false
  deriving DecidableEq, Repr

/-- The head of a cascade frame (R509, R510): the link it arrives on (1 on CL_0 or in pair topology, 2 on CL_1), `SEQ`, `DST` and
`SRC`. -/
structure CHead where
  l : Nat
  seq : Nat
  dst : Nat := 0
  src : Nat := 0
  deriving DecidableEq, Repr


/-- The commands, one constructor per row of the table; each docstring names the row and its rule. -/
inductive Instr where
  /-- SUPPLY_RAIL_VALID (R43). -/
  | supplyRailValid (r : Supply)
  /-- POR_RELEASE (R43). -/
  | porRelease
  /-- BROWNOUT (R45). -/
  | brownout (rail : Nat)
  /-- VDD_KEEP_LOSS (R45). -/
  | vddKeepLoss
  /-- RESET_N_LOW (R44). -/
  | resetNLow
  /-- RESET_N_RISE (R44). -/
  | resetNRise
  /-- ORDERLY_RESET (R66). -/
  | orderlyReset (cause : Cause)
  /-- ORDERLY_RESET_LIMIT (R66). -/
  | orderlyResetLimit
  /-- PRESENCE_ARMED (R53). -/
  | presenceArmed
  /-- PRESENCE_INPUT_CHANGE (R53). -/
  | presenceInputChange (prsntN pwrFailN : Bool)
  /-- REMOVAL (R55). -/
  | removal (prsnt pwrFail : Bool)
  /-- LOGGING_PHASE (R59). -/
  | loggingPhase
  /-- PARK (R56). -/
  | park
  /-- REJOIN_RESET (R64). -/
  | rejoinReset
  /-- HOLDUP_OK_CHANGE (R284). -/
  | holdupOkChange (level : Bool)
  /-- TRAILHEAD_START (R84). -/
  | trailheadStart (straps : Nat) (vccq : List Nat) (start : StartIn)
  /-- KEEP_BUS_UP (R84). -/
  | keepBusUp (o : List PsOutcome)
  /-- SVI_SELECTION (R79). -/
  | sviSelection (badReads : List Nat)
  /-- SPB_SELECTION (R80). -/
  | spbSelection (badReads : List Nat) (o : List PsOutcome)
  /-- LOGBOOK_RECOVERY (R216). -/
  | logbookRecovery (o : List PsOutcome)
  /-- DIE_READY_WAIT_END (R72). -/
  | dieReadyWaitEnd
  /-- DIE_DISCOVERY (R292). -/
  | dieDiscovery (found : List FoundTarget)
  /-- CAL_RESTORE_OR_TRAIN (R85). -/
  | calRestoreOrTrain (verify : Nat)
  /-- TRAILHEAD_FINISH (R86). -/
  | trailheadFinish (rng : Bool) (o : List PsOutcome)
  /-- LANE_TRAINING_START (R54). -/
  | laneTrainingStart
  /-- KEEP_BUS_TRANSFER (R13). -/
  | keepBusTransfer (target : KeepTarget) (addr crcErrors : Nat)
  /-- RST_CTL_SOFT (R68). -/
  | rstCtlSoft (p : Path) (v : Word) (x : RegIn)
  /-- RST_CTL_SAVE_RMV (R68). -/
  | rstCtlSaveRmv (p : Path) (v : Word) (x : RegIn)
  /-- FAULT_STAT_CLEAR (R71). -/
  | faultStatClear (p : Path) (v : Word) (x : RegIn)
  /-- READ (R102). -/
  | spRead (off crc : Byte)
  /-- WRITE (R102). -/
  | spWrite (off : Byte) (data : Word) (crc : Byte) (x : RegIn)
  /-- BURST_READ (R109). -/
  | spBurstRead (off n crc : Byte)
  /-- BURST_WRITE (R109). -/
  | spBurstWrite (off n : Byte) (data : List Word) (crc : Byte) (x : RegIn)
  /-- SET_PAGE (R108). -/
  | spSetPage (page crc : Byte)
  /-- GET_STATUS (R110). -/
  | spGetStatus (off crc : Byte)
  /-- UNLOCK (R115). -/
  | spUnlock (lock : Byte) (key : Word) (crc : Byte)
  /-- BAD_OPCODE (R98). -/
  | spBadOpcode (op : Byte)
  /-- SP_FRAME_ABORT (R98). -/
  | spFrameAbort (bytes : List Byte)
  /-- SP_READ_TRANSFER (R101). -/
  | spReadTransfer
  /-- FRAME_ERR (R100). -/
  | spFrameErr (bytes : List Byte)
  /-- UNL_REQ (R119). -/
  | unlReq (p : Path) (v : Word) (x : RegIn)
  /-- UNL_KEY (R119). -/
  | unlKey (p : Path) (v : Word) (x : RegIn)
  /-- ACC_LOCK_SET (R118). -/
  | accLockSet (p : Path) (v : Word) (x : RegIn)
  /-- REGISTER_WRITE (R7). -/
  | registerWrite (p : Path) (addr : Nat) (v : Word) (x : RegIn)
  /-- CMT_COMMIT (R123). -/
  | cmtCommit (p : Path) (v : Word) (x : RegIn)
  /-- CMT_DISCARD (R127). -/
  | cmtDiscard (p : Path) (v : Word) (x : RegIn)
  /-- COMMIT_APPLY (R125). -/
  | commitApply (g : Nat) (accept : Bool) (res : List Eye)
  /-- COMMIT_HOLD (R126). -/
  | commitHold (g : Nat)
  /-- IMG_CTL_ACTIVATE (R91). -/
  | imgCtlActivate (p : Path) (v : Word) (x : RegIn)
  /-- EPOCH_SET (R92). -/
  | epochSet (p : Path) (v : Word) (x : RegIn)
  /-- BOOT_CFG_WRITE (R553). -/
  | bootCfgWrite (p : Path) (v : Word) (x : RegIn)
  /-- AGL_DETECT_QUIET_END (R139). -/
  | aglDetectQuietEnd (l found : Nat)
  /-- AGL_TRAINING_TIMEOUT (R139). -/
  | aglTrainingTimeout (l : Nat)
  /-- TS1 (R139). -/
  | ts1 (l : Nat) (sets : List (Nat × TsSet))
  /-- TS2 (R139). -/
  | ts2 (l : Nat) (sets : List (Nat × TsSet))
  /-- SKP (R138). -/
  | skp (l : Nat)
  /-- ALN (R138). -/
  | aln (l : Nat)
  /-- EIOS (R160). -/
  | eios (l : Nat)
  /-- EIEOS (R161). -/
  | eieos (l : Nat)
  /-- SKP_ALN_INTERVAL (R138). -/
  | skpAlnInterval (l : Nat)
  /-- EQUALISATION (R141). -/
  | equalisation (l : Nat) (asks asked : List Nat) (ok : Bool)
  /-- LINK_DOWN (R143). -/
  | linkDown (l : Nat)
  /-- FRAMING_ERROR (R144). -/
  | framingError (l : Nat)
  /-- FRAME_CRC_FAIL (R148). -/
  | frameCrcFail (l : Nat)
  /-- MALFORMED_FRAME (R147). -/
  | malformedFrame (l typ : Nat) (seq : Option Nat)
  /-- ACK (R149). -/
  | aglAck (l seq : Nat)
  /-- NAK (R149). -/
  | aglNak (l seq : Nat)
  /-- CREDIT (R152). -/
  | aglCredit (l cls limit : Nat)
  /-- ENTER_L1 (R160). -/
  | enterL1 (l : Nat)
  /-- ENTER_L2 (R160). -/
  | enterL2 (l : Nat)
  /-- LINK_CTL_RESET (R159). -/
  | linkCtlReset
  /-- LINK_CTL_RETRAIN (R159). -/
  | linkCtlRetrain (l : Nat)
  /-- REG_WR (R155). -/
  | regWr (seq addr : Nat) (data : List Word) (mm : Bool)
  /-- REG_RD (R155). -/
  | regRd (seq addr rtag rlen : Nat)
  /-- WDATA (R157). -/
  | wdata (seq sq tag off pad : Nat) (data : List Byte)
  /-- ACK_TIMER (R149). -/
  | ackTimer (l : Nat)
  /-- REPLAY_TIMER (R150). -/
  | replayTimer (l : Nat)
  /-- CREDIT_REFRESH (R152). -/
  | creditRefresh (l : Nat)
  /-- DREQ_DATA_TIMEOUT (R157). -/
  | dreqDataTimeout (k : Nat)
  /-- DATA_TRANSMIT (R156). -/
  | dataTransmit (k : Nat)
  /-- DREQ (R157). -/
  | dreq (k : Nat)
  /-- CONFIG_REQUEST (R174). -/
  | configRequest (write : Bool) (addr be : Nat) (v : Word)
  /-- MEMORY_WRITE_WINDOW (R166). -/
  | memoryWriteWindow (off : Nat) (dws : List (Nat × Word)) (poison mm : Bool)
  /-- MEMORY_READ_WINDOW (R166). -/
  | memoryReadWindow (off n : Nat)
  /-- EVT_POP (R167). -/
  | evtPop
  /-- WRITE_DATA_COMPLETION (R170). -/
  | writeDataCompletion (tag status : Nat) (poison : Bool) (data : List Byte)
  /-- COMPLETION_TIMEOUT (R170). -/
  | completionTimeout (tag : Nat)
  /-- HOT_RESET (R175). -/
  | hotReset
  /-- LINK_DISABLE (R175). -/
  | linkDisable
  /-- PERST_N_ASSERT (R173). -/
  | perstNAssert
  /-- PERST_N_RISE (R173). -/
  | perstNRise
  /-- D3HOT_ENTRY (R177). -/
  | d3hotEntry
  /-- D0_RETURN (R177). -/
  | d0Return
  /-- ASPM_L1_IDLE (R178). -/
  | aspmL1Idle
  /-- MSIX_UNMASK (R172). -/
  | msixUnmask (v : Nat)
  /-- SUBMISSION_PORT_WRITE (R185). -/
  | submissionPortWrite (q off : Nat) (data : List Byte) (mm : Bool)
  /-- SQ_DOORBELL (R186). -/
  | sqDoorbell (q : Nat) (w : Word) (mm : Bool)
  /-- CQ_HEAD_DOORBELL (R190). -/
  | cqHeadDoorbell (q : Nat) (w : Word) (mm : Bool)
  /-- COMMAND_TAKE (R203). -/
  | commandTake (mm : Bool)
  /-- COMPLETION_POST (R189). -/
  | completionPost (a : QpAccess)
  /-- MAILBOX_TIMEOUT (R25). -/
  | mailboxTimeout (k : Nat)
  /-- QP_CREATE (R182). -/
  | qpCreate (p : Path) (v : Word) (x : RegIn)
  /-- QP_DELETE (R183). -/
  | qpDelete (p : Path) (v : Word) (x : RegIn)
  /-- SET_PRIO (R205). -/
  | qpSetPrio (p : Path) (v : Word) (x : RegIn)
  /-- BIND (R182). -/
  | qpBind (p : Path) (v : Word) (x : RegIn)
  /-- READ_ALB (R22). -/
  | readAlb (k : Nat)
  /-- READ_RAW (R195). -/
  | readRaw (k : Nat)
  /-- STREAM_OPEN (R405). -/
  | streamOpen (k : Nat)
  /-- STREAM_CREDIT (R407). -/
  | streamCredit (k : Nat)
  /-- STREAM_CLOSE (R410). -/
  | streamClose (k : Nat)
  /-- PROGRAM_RAW (R307). -/
  | programRaw (k : Nat)
  /-- ERASE_RAW (R306). -/
  | eraseRaw (k : Nat)
  /-- MAP_WRITE (R401). -/
  | mapWrite (k : Nat)
  /-- MAP_FLUSH (R403). -/
  | mapFlush (k : Nat)
  /-- AUTH_BEGIN (R420). -/
  | authBegin (k : Nat) (ok : Bool)
  /-- AUTH_FINISH (R421). -/
  | authFinish (k : Nat) (ok : Bool)
  /-- KEY_LOAD (R423). -/
  | keyLoad (k : Nat)
  /-- IMPRINT_CHECK (R434). -/
  | imprintCheck (k : Nat)
  /-- IMPRINT_ENROL (R432). -/
  | imprintEnrol (k : Nat) (o : List PsOutcome)
  /-- COUNTER_INC (R428). -/
  | counterInc (k : Nat) (o : List PsOutcome)
  /-- REG_ACCESS (R119). -/
  | regAccess (k : Nat) (x : RegIn)
  /-- LOGBOOK_READ (R214). -/
  | logbookRead (k : Nat)
  /-- LOGBOOK_MARK (R215). -/
  | logbookMark (k : Nat)
  /-- NOR_READ (R446). -/
  | norRead (k : Nat)
  /-- NOR_PROGRAM (R443). -/
  | norProgram (k : Nat)
  /-- NOR_ERASE (R445). -/
  | norErase (k : Nat)
  /-- IMAGE_ACTIVATE (R91). -/
  | imageActivate (k : Nat) (badReads : List Nat) (o : List PsOutcome)
  /-- SEQ_EXCHANGE (R354). -/
  | seqExchange (k : Nat)
  /-- TEST_PATTERN (R524). -/
  | testPattern (k : Nat) (rx : List (List Bool))
  /-- NOP (R193). -/
  | cmdNop (k : Nat)
  /-- LOGBOOK_WRITE (R206). -/
  | logbookWrite (k : Nat) (o : List PsOutcome)
  /-- IDL_CLR (R219). -/
  | idlClr (p : Path) (v : Word) (x : RegIn)
  /-- LOG_INJECT (R220). -/
  | logInject (p : Path) (v : Word) (x : RegIn)
  /-- PRODUCER_WRITE (R226). -/
  | producerWrite (q prod : Nat) (data : List Byte) (user : Nat) (flight : Option Nat) (bufs : List Nat) (mm : Bool)
  /-- PRODUCER_FLUSH (R226). -/
  | producerFlush (q prod : Nat)
  /-- PACK_TIMEOUT (R226). -/
  | packTimeout (q prod : Nat)
  /-- CONSUMER_READ (R227). -/
  | consumerRead (q : Nat) (mm : Bool)
  /-- COMMIT (R229). -/
  | fqCommit (q : Nat) (mm : Bool)
  /-- REWIND (R230). -/
  | fqRewind (q : Nat) (mm : Bool)
  /-- OPEN (R232). -/
  | fqOpen (q : Nat) (mm : Bool)
  /-- CLOSE (R232). -/
  | fqClose (q len : Nat) (mm : Bool)
  /-- SPILL_REQUEST (R235). -/
  | spillRequest (q : Nat)
  /-- FC_HOLD_EXPIRY (R242). -/
  | fcHoldExpiry (k : Nat)
  /-- FQ_INJECT (R238). -/
  | fqInject (p : Path) (v : Word) (x : RegIn)
  /-- FQ_WM_WRITE (R240). -/
  | fqWmWrite (p : Path) (v : Word) (x : RegIn)
  /-- ALLOC_REQUEST (R251). -/
  | allocRequest (owner n : Nat) (chain wait : Bool)
  /-- WAIT_WITHDRAW (R252). -/
  | waitWithdraw (id : Nat)
  /-- REFERENCE_RELEASE (R257). -/
  | referenceRelease (r who ecc : Nat)
  /-- RETAIN (R258). -/
  | hmpRetain (r who : Nat)
  /-- NAMED_OWNER_RELEASE (R259). -/
  | namedOwnerRelease (owner : Nat) (buf : Option Nat) (k : Nat)
  /-- HANDOVER (R260). -/
  | hmpHandover (r frm dst : Nat)
  /-- AUDIT_SCAN (R263). -/
  | auditScan (corr : Nat) (bad : List Nat)
  /-- HMP_THR_WRITE (R255). -/
  | hmpThrWrite (p : Path) (v : Word) (x : RegIn)
  /-- OWN_LIMIT_WRITE (R252). -/
  | ownLimitWrite (p : Path) (k : Nat) (v : Word) (x : RegIn)
  /-- HMP_RELEASE_OWNER (R259). -/
  | hmpReleaseOwner (p : Path) (v : Word) (x : RegIn)
  /-- HMP_SCAN_NOW (R263). -/
  | hmpScanNow (p : Path) (v : Word) (x : RegIn)
  /-- HMP_FREE_ORPHANS (R265). -/
  | hmpFreeOrphans (p : Path) (v : Word) (x : RegIn)
  /-- LEDGER_UPDATE (R276). -/
  | ledgerUpdate (vT : Nat) (diff : Int) (onDie : Nat)
  /-- ADMISSION_DECISION (R278). -/
  | admissionDecision
  /-- STARVE (R278). -/
  | starve (i : Nat)
  /-- HU_WAIT_TIMEOUT (R283). -/
  | huWaitTimeout (i : Nat)
  /-- RATION_SAVE (R273). -/
  | rationSave (p : Path) (v : Word) (x : RegIn)
  /-- RATION_DEFAULTS (R272). -/
  | rationDefaults (p : Path) (v : Word) (x : RegIn)
  /-- CALIBRATE (R275). -/
  | rationCalibrate (p : Path) (v : Word) (x : RegIn)
  /-- SCHEDULING_DECISION (R296). -/
  | schedulingDecision (n : Nat)
  /-- SUSPEND_DECISION (R302). -/
  | suspendDecision (n : Nat)
  /-- DIE_TIMEOUT (R304). -/
  | dieTimeout (i : Nat)
  /-- TRACKING_MEASUREMENT (R475): `dqs` as `Eye` holds it, none where the delays were not found; `wins` the windows at reads, then at writes. -/
  | trackingMeasurement (n ce : Nat) (dqs : Option Word) (wins : List (Nat × Nat)) (boundary : Bool)
  /-- STALE_TIMEOUT (R477). -/
  | staleTimeout (n : Nat)
  /-- TRAINING_END (R469). -/
  | trainingEnd (n : Nat) (res : List Eye)
  /-- LANE_ADAPTATION (R471). -/
  | laneAdaptation (k : Nat) (v : Word)
  /-- AUTO_SAVE (R479). -/
  | autoSave (o : List PsOutcome)
  /-- CAL_SAVE (R479). -/
  | calSave (p : Path) (v : Word) (x : RegIn)
  /-- CAL_RETRAIN (R469). -/
  | calRetrain (p : Path) (v : Word) (x : RegIn)
  /-- CAL_IMPORT (R480). -/
  | calImport (p : Path) (v : Word) (x : RegIn)
  /-- CLEAR_HOST (R476). -/
  | clearHost (p : Path) (v : Word) (x : RegIn)
  /-- SEQ_NOP (R315). -/
  | seqNop (n : Nat) (x : SeqIn)
  /-- ADD (R317). -/
  | seqAdd (n : Nat) (x : SeqIn)
  /-- ADC (R317). -/
  | seqAdc (n : Nat) (x : SeqIn)
  /-- SUB (R317). -/
  | seqSub (n : Nat) (x : SeqIn)
  /-- SBC (R317). -/
  | seqSbc (n : Nat) (x : SeqIn)
  /-- AND (R315). -/
  | seqAnd (n : Nat) (x : SeqIn)
  /-- OR (R315). -/
  | seqOr (n : Nat) (x : SeqIn)
  /-- XOR (R315). -/
  | seqXor (n : Nat) (x : SeqIn)
  /-- SHL (R318). -/
  | seqShl (n : Nat) (x : SeqIn)
  /-- SHR (R318). -/
  | seqShr (n : Nat) (x : SeqIn)
  /-- SAR (R318). -/
  | seqSar (n : Nat) (x : SeqIn)
  /-- ROL (R318). -/
  | seqRol (n : Nat) (x : SeqIn)
  /-- ROR (R318). -/
  | seqRor (n : Nat) (x : SeqIn)
  /-- MUL (R319). -/
  | seqMul (n : Nat) (x : SeqIn)
  /-- DIVS (R320). -/
  | seqDivs (n : Nat) (x : SeqIn)
  /-- DIVU (R320). -/
  | seqDivu (n : Nat) (x : SeqIn)
  /-- CMP (R317). -/
  | seqCmp (n : Nat) (x : SeqIn)
  /-- TST (R316). -/
  | seqTst (n : Nat) (x : SeqIn)
  /-- NEG (R317). -/
  | seqNeg (n : Nat) (x : SeqIn)
  /-- NOT (R315). -/
  | seqNot (n : Nat) (x : SeqIn)
  /-- MOV (R315). -/
  | seqMov (n : Nat) (x : SeqIn)
  /-- ADDI (R317). -/
  | seqAddi (n : Nat) (x : SeqIn)
  /-- ANDI (R315). -/
  | seqAndi (n : Nat) (x : SeqIn)
  /-- ORI (R315). -/
  | seqOri (n : Nat) (x : SeqIn)
  /-- XORI (R315). -/
  | seqXori (n : Nat) (x : SeqIn)
  /-- SHI (R318). -/
  | seqShi (n : Nat) (x : SeqIn)
  /-- CMPI (R317). -/
  | seqCmpi (n : Nat) (x : SeqIn)
  /-- MOVI (R315). -/
  | seqMovi (n : Nat) (x : SeqIn)
  /-- MOVHI (R315). -/
  | seqMovhi (n : Nat) (x : SeqIn)
  /-- MOVS (R315). -/
  | seqMovs (n : Nat) (x : SeqIn)
  /-- MFS (R327). -/
  | seqMfs (n : Nat) (x : SeqIn)
  /-- MTS (R327). -/
  | seqMts (n : Nat) (x : SeqIn)
  /-- PSET (R322). -/
  | seqPset (n : Nat) (x : SeqIn)
  /-- PGET (R322). -/
  | seqPget (n : Nat) (x : SeqIn)
  /-- PADD (R323). -/
  | seqPadd (n : Nat) (x : SeqIn)
  /-- PTST (R324). -/
  | seqPtst (n : Nat) (x : SeqIn)
  /-- LDW (R322). -/
  | seqLdw (n : Nat) (x : SeqIn)
  /-- LDH (R322). -/
  | seqLdh (n : Nat) (x : SeqIn)
  /-- LDB (R322). -/
  | seqLdb (n : Nat) (x : SeqIn)
  /-- STW (R325). -/
  | seqStw (n : Nat) (x : SeqIn)
  /-- STH (R325). -/
  | seqSth (n : Nat) (x : SeqIn)
  /-- STB (R325). -/
  | seqStb (n : Nat) (x : SeqIn)
  /-- LDL (R326). -/
  | seqLdl (n : Nat) (x : SeqIn)
  /-- STL (R326). -/
  | seqStl (n : Nat) (x : SeqIn)
  /-- B (R321). -/
  | seqB (n : Nat) (x : SeqIn)
  /-- BR (R321). -/
  | seqBr (n : Nat) (x : SeqIn)
  /-- CALL (R321). -/
  | seqCall (n : Nat) (x : SeqIn)
  /-- CALLR (R321). -/
  | seqCallr (n : Nat) (x : SeqIn)
  /-- RET (R321). -/
  | seqRet (n : Nat) (x : SeqIn)
  /-- RETE (R330). -/
  | seqRete (n : Nat) (x : SeqIn)
  /-- RETF (R332). -/
  | seqRetf (n : Nat) (x : SeqIn)
  /-- DJNZ (R321). -/
  | seqDjnz (n : Nat) (x : SeqIn)
  /-- POST (R328). -/
  | seqPost (n : Nat) (x : SeqIn)
  /-- EVM (R330). -/
  | seqEvm (n : Nat) (x : SeqIn)
  /-- WAIT (R331). -/
  | seqWait (n : Nat) (x : SeqIn)
  /-- KICK (R334). -/
  | seqKick (n : Nat) (x : SeqIn)
  /-- TSET (R348). -/
  | seqTset (n : Nat) (x : SeqIn)
  /-- TSTOP (R348). -/
  | seqTstop (n : Nat) (x : SeqIn)
  /-- TGET (R349). -/
  | seqTget (n : Nat) (x : SeqIn)
  /-- EARM (R350). -/
  | seqEarm (n : Nat) (x : SeqIn)
  /-- EDIS (R350). -/
  | seqEdis (n : Nat) (x : SeqIn)
  /-- EGET (R350). -/
  | seqEget (n : Nat) (x : SeqIn)
  /-- BRK (R337). -/
  | seqBrk (n : Nat) (x : SeqIn)
  /-- BCMD (R343). -/
  | seqBcmd (n : Nat) (x : SeqIn)
  /-- BADR (R343). -/
  | seqBadr (n : Nat) (x : SeqIn)
  /-- BDO (R346). -/
  | seqBdo (n : Nat) (x : SeqIn)
  /-- BDI (R346). -/
  | seqBdi (n : Nat) (x : SeqIn)
  /-- BSTS (R343). -/
  | seqBsts (n : Nat) (x : SeqIn)
  /-- BSEL (R343). -/
  | seqBsel (n : Nat) (x : SeqIn)
  /-- BSETF (R343). -/
  | seqBsetf (n : Nat) (x : SeqIn)
  /-- BGETF (R343). -/
  | seqBgetf (n : Nat) (x : SeqIn)
  /-- BIDLE (R343). -/
  | seqBidle (n : Nat) (x : SeqIn)
  /-- TAKE (R351). -/
  | srTake (n x : Nat) (o : List PsOutcome)
  /-- CONFIRM (R351). -/
  | srConfirm (n x : Nat)
  /-- OPEND (R351). -/
  | srOpend (n x oc : Nat)
  /-- SR_ACK (R358). -/
  | srAck (n x : Nat)
  /-- SUSPACK (R352). -/
  | srSuspack (n x : Nat) (susp : Bool)
  /-- ENTRY_OK (R358). -/
  | srEntryOk (n : Nat)
  /-- EVENT_DELIVERY (R329). -/
  | eventDelivery (n : Nat)
  /-- BREAKPOINT_HALT (R337). -/
  | breakpointHalt (n : Nat)
  /-- TIMER_EXPIRY (R348). -/
  | timerExpiry (n t : Nat)
  /-- EDGE_LATCH (R350). -/
  | edgeLatch (n e : Nat) (level : Bool)
  /-- SEQ_DBG_HALT (R335). -/
  | seqDbgHalt (p : Path) (n : Nat) (v : Word) (x : RegIn)
  /-- SEQ_DBG_RESUME (R335). -/
  | seqDbgResume (p : Path) (n : Nat) (v : Word) (x : RegIn)
  /-- SEQ_DBG_STEP (R335). -/
  | seqDbgStep (p : Path) (n : Nat) (v : Word) (x : RegIn)
  /-- SEQ_DBG_RDATA_WRITE (R336). -/
  | seqDbgRdataWrite (p : Path) (n : Nat) (v : Word) (x : RegIn)
  /-- QUIET_POINT (R355). -/
  | quietPoint (n : Nat)
  /-- QUIET_TIMEOUT (R355). -/
  | quietTimeout (n : Nat)
  /-- ENTRY_TIMEOUT (R358). -/
  | entryTimeout (n : Nat)
  /-- CODEWORD_TAKE (R372). -/
  | codewordTake (n : Nat)
  /-- DECODE_END (R373). -/
  | decodeEnd (e iter unsat : Nat) (word : Option (List Byte))
  /-- ENCODE (R368). -/
  | codecEncode (k i : Nat)
  /-- CODEC_SAVE (R383). -/
  | codecSave (p : Path) (v : Word) (x : RegIn)
  /-- CODEC_DEFAULTS (R383). -/
  | codecDefaults (p : Path) (v : Word) (x : RegIn)
  /-- CLEAR_LEARN (R384). -/
  | clearLearn (p : Path) (v : Word) (x : RegIn)
  /-- TRANSLATE (R393). -/
  | mapTranslate (k i : Nat)
  /-- MAP_FAULT_DONE (R395). -/
  | mapFaultDone
  /-- XTS_DECRYPT (R426). -/
  | xtsDecrypt
  /-- FRAME_DECOMPRESS (R397). -/
  | frameDecompress (j : Nat)
  /-- PREFETCH_ISSUE (R406). -/
  | prefetchIssue (t : Nat)
  /-- STREAM_RESIDENT (R406). -/
  | streamResident
  /-- PUSH (R407). -/
  | streamPush (t : Nat)
  /-- MAP_SAVE (R387). -/
  | mapSave (p : Path) (v : Word) (x : RegIn)
  /-- INVALIDATE (R393). -/
  | mapInvalidate (p : Path) (v : Word) (x : RegIn)
  /-- REBUILD (R403). -/
  | mapRebuild (p : Path) (v : Word) (x : RegIn)
  /-- STR_CLOSE_ONE (R410). -/
  | strCloseOne (p : Path) (v : Word) (x : RegIn)
  /-- STR_CLOSE_ALL (R410). -/
  | strCloseAll (p : Path) (v : Word) (x : RegIn)
  /-- INF_LOAD (R400). -/
  | infLoad (p : Path) (v : Word) (x : RegIn)
  /-- PROVISION (R416). -/
  | protProvision (p : Path) (v : Word) (x : RegIn)
  /-- WRAP (R425). -/
  | protWrap (p : Path) (v : Word) (x : RegIn)
  /-- SEAL (R437). -/
  | protSeal (p : Path) (v : Word) (x : RegIn)
  /-- KEY_CLEAR (R424). -/
  | keyClear (p : Path) (v : Word) (x : RegIn)
  /-- SES_CLOSE (R419). -/
  | sesClose (p : Path) (v : Word) (x : RegIn)
  /-- ENOR_WORD_PROGRAM_END (R444). -/
  | enorWordProgramEnd (ok : Bool)
  /-- ENOR_ERASE_END (R445). -/
  | enorEraseEnd (ok : Bool)
  /-- ERASE_RESUME (R446). -/
  | eraseResume
  /-- NOR_RDATA_READ (R448). -/
  | norRdataRead (p : Path)
  /-- NOR_CTL_PROGRAM (R443). -/
  | norCtlProgram (p : Path) (v : Word) (x : RegIn)
  /-- NOR_CTL_PROGRAM_CLEAR (R443). -/
  | norCtlProgramClear (p : Path) (v : Word) (x : RegIn)
  /-- NOR_CTL_ERASE (R445). -/
  | norCtlErase (p : Path) (v : Word) (x : RegIn)
  /-- NOR_CTL_WP (R453). -/
  | norCtlWp (p : Path) (v : Word) (x : RegIn)
  /-- NOR_CTL_PROTECT (R452). -/
  | norCtlProtect (p : Path) (v : Word) (x : RegIn)
  /-- PW_CHANGE (R452). -/
  | norCtlPwChange (p : Path) (v : Word) (x : RegIn)
  /-- RETIRE (R452). -/
  | norCtlRetire (p : Path) (v : Word) (x : RegIn)
  /-- JOURNAL_APPEND (R456). -/
  | journalAppend (ok : Bool)
  /-- OTP_PROGRAM (R458). -/
  | otpProgram (p : Path) (v : Word) (x : RegIn)
  /-- OTP_LOCK (R458). -/
  | otpLock (p : Path) (v : Word) (x : RegIn)
  /-- PS_WRITE (R463). -/
  | psWrite (u : Nat) (data : List Byte) (o : List PsOutcome)
  /-- PS_DATA_WRITE (R465). -/
  | psDataWrite (p : Path) (v : Word) (x : RegIn)
  /-- EVENT_POST (R482). -/
  | eventPost (n data : Nat)
  /-- EVR_POST (R483). -/
  | evrPost (p : Path) (v : Word) (x : RegIn)
  /-- EVR_PEND_CLEAR (R483). -/
  | evrPendClear (p : Path) (k : Nat) (v : Word) (x : RegIn)
  /-- EVR_CFG_WRITE (R488). -/
  | evrCfgWrite (p : Path) (n : Nat) (v : Word) (x : RegIn)
  /-- ARBITRATION_ROUND (R484). -/
  | arbitrationRound (svc : Bool)
  /-- SVC_END_SERVICE (R487). -/
  | svcEndService (n : Nat)
  /-- HF_EVT_SEND (R489). -/
  | hfEvtSend
  /-- WD0_SERVICE (R492). -/
  | wd0Service
  /-- WD_LATE (R491). -/
  | wdLate (k : Nat)
  /-- WD_WARN (R495). -/
  | wdWarn (k : Nat)
  /-- WD_CTL_WRITE (R494). -/
  | wdCtlWrite (p : Path) (v : Word) (x : RegIn)
  /-- SENSOR_SAMPLE (R497). -/
  | sensorSample (raw : List (Option Int)) (mv : List Nat) (low : Nat)
  /-- GRACE_END (R501). -/
  | graceEnd
  /-- DIE_OP_END (R287). -/
  | dieOpEnd (n x : Nat) (passed : Bool) (data : List (List Byte))
  /-- JOIN (R511). -/
  | cascJoin (h : CHead) (uid : List Byte) (sviVer state form epoch : Nat)
  /-- JOIN_REPEAT (R511). -/
  | cascJoinRepeat
  /-- JOIN_ACK (R511). -/
  | cascJoinAck (h : CHead) (epoch : Nat) (accepted : Bool) (reason : Nat)
  /-- CASCADE_RESET_ORDER (R512). -/
  | cascadeResetOrder (h : CHead)
  /-- REMOVE (R519). -/
  | cascRemove (h : CHead) (src reason : Nat)
  /-- PING_TIMER (R520). -/
  | cascPingTimer
  /-- PING (R520). -/
  | cascPing (h : CHead)
  /-- PONG (R520). -/
  | cascPong (h : CHead)
  /-- MEMBER_LOST (R520). -/
  | memberLost (m : Nat) (down : Bool) (beyond : List Nat)
  /-- SHARE (R517). -/
  | cascShare (h : CHead) (refill burst hu : Nat)
  /-- C_REQ_VOL_READ (R514). -/
  | cReqVolRead (h : CHead) (xid prio vol alb count : Nat)
  /-- C_REQ_CMD (R515). -/
  | cReqCmd (h : CHead) (xid prio : Nat) (cmd : List Byte)
  /-- C_DATA (R514). -/
  | cData (h : CHead) (xid off : Nat) (last : Bool) (data : List Byte)
  /-- C_CPL (R514). -/
  | cCpl (h : CHead) (xid : Nat) (entry : List Byte)
  /-- C_EVT (R518). -/
  | cEvt (h : CHead) (source prio : Nat) (data : List Byte)
  /-- C_DREQ (R515). -/
  | cDreq (h : CHead) (xid off len : Nat)
  /-- RESET_MEMBER (R521). -/
  | resetMember (p : Path) (v : Word) (x : RegIn)
  /-- RESET_ALL (R521). -/
  | resetAll (p : Path) (v : Word) (x : RegIn)
  /-- TP_START (R524). -/
  | tpStart (p : Path) (v : Word) (x : RegIn)
  /-- TP_STOP (R527). -/
  | tpStop (p : Path) (v : Word) (x : RegIn)
  /-- TP_RUN_END (R527). -/
  | tpRunEnd (t : Nat) (rx : List (List Bool))
  /-- BIST_CTL_RUN (R529). -/
  | bistCtlRun (p : Path) (v : Word) (x : RegIn)
  /-- BIST_END (R529). -/
  | bistEnd (fails : Byte)
  /-- TAP_RESET (R531). -/
  | tapReset
  /-- IDCODE (R531). -/
  | tapIdcode
  /-- SAMPLE_PRELOAD (R532). -/
  | tapSamplePreload (cap preload : Nat)
  /-- EXTEST (R532). -/
  | tapExtest (scan : Option (Nat × Nat))
  /-- EXTEST_PULSE (R532). -/
  | tapExtestPulse (scan : Option (Nat × Nat))
  /-- EXTEST_TRAIN (R532). -/
  | tapExtestTrain (scan : Option (Nat × Nat))
  /-- CLAMP (R531). -/
  | tapClamp
  /-- HIGHZ (R531). -/
  | tapHighz
  /-- TP_ACCESS (R533). -/
  | tpAccess (dr : Nat) (x : RegIn)
  /-- BIST_RUN (R529). -/
  | bistRun (mask : Byte)
  /-- BYPASS (R531). -/
  | tapBypass (code : Byte)
  /-- ILLEGAL_INSTRUCTION (R314). -/
  | illegalInstruction (n : Nat) (x : SeqIn)
  /-- ERASE_SUSPENDED (R446). -/
  | eraseSuspended
  /-- IDL_BYTES_RECEIVED (R139). -/
  | idlBytesReceived (l : Nat)
  /-- ELECTRICAL_IDLE_EXIT (R139). -/
  | electricalIdleExit (l : Nat)
  /-- DL_UP (R162). -/
  | dlUp (speed width : Nat)
  /-- PLL_FAIL (R48). -/
  | pllFail
  /-- SVC_DEBUG_HALT (R493). -/
  | svcDebugHalt
  /-- SVC_DEBUG_RESUME (R25). -/
  | svcDebugResume
  deriving DecidableEq, Repr

end Sys2Proof
end

