-- ==== Sys2Proof/WellFormed.lean ====
section
/-!
DEFINITION. The commands whose operands name something the block has: a channel, a lane, a queue, a register, a frame of the right
length. `exec` is total: what it does with an operand out of range is in the command's own meaning.
-/

namespace Sys2Proof

/-- One of the five monitored rails, or the crystal (Table 21-5). -/
def Supply.wf : Supply → Bool
  | .rail r => decide (r < 5)
  | .xtal => true

/-- A target on one of the 8 channels, behind one of its 8 chip enables, with 1, 2 or 4 planes. -/
def FoundTarget.wf (t : FoundTarget) : Bool :=
  decide (t.ch < 8) && decide (t.ce < 8) && (t.planes == 1 || t.planes == 2 || t.planes == 4)

/-- A target behind one of 8 chip enables, windows of deskew steps 0 to 255, and a value of `CAL_DQS` that is not reserved. -/
def Eye.wf (e : Eye) : Bool :=
  decide (e.ce < 8) && (e.rd ++ e.wr).all (fun w => decide (w.2 < 256)) && decide (e.rd.length ≤ 8 ∧ e.wr.length ≤ 8)
    && decide (e.dqs.toNat / 2 ^ 24 ≤ 0x50)

/-- The head of a frame on one of the two cascade links, between members 0 to 3 or the master's broadcast. -/
def CHead.wf (h : CHead) : Bool := (h.l == 1 || h.l == 2) && decide (h.seq < 4096) && decide (h.dst < 16) && decide (h.src < 16)

/-- A scan of the 544 cells (R532). -/
def scanWf : Option (Nat × Nat) → Bool
  | none => true
  | some (cap, bits) => decide (cap < 2 ^ 544) && decide (bits < 2 ^ 544)

/-- Is the command well formed? -/
def Instr.wf : Instr → Bool
  | .supplyRailValid r => r.wf
  | .porRelease => true
  | .brownout rail => decide (rail < 9)
  | .vddKeepLoss => true
  | .resetNLow => true
  | .resetNRise => true
  | .orderlyReset _ => true
  | .orderlyResetLimit => true
  | .presenceArmed => true
  | .presenceInputChange _ _ => true
  | .removal _ _ => true
  | .loggingPhase => true
  | .park => true
  | .rejoinReset => true
  | .holdupOkChange _ => true
  | .trailheadStart straps vccq _ => decide (straps < 256) && vccq.length == 4
  | .keepBusUp _ => true
  | .sviSelection _ => true
  | .spbSelection _ _ => true
  | .logbookRecovery _ => true
  | .dieReadyWaitEnd => true
  | .dieDiscovery found => found.all FoundTarget.wf
  | .calRestoreOrTrain verify => decide (verify < 256)
  | .trailheadFinish _ _ => true
  | .laneTrainingStart => true
  | .keepBusTransfer _ _ _ => true
  | .rstCtlSoft _ _ _ => true
  | .rstCtlSaveRmv _ _ _ => true
  | .faultStatClear _ _ _ => true
  | .spRead _ _ => true
  | .spWrite _ _ _ _ => true
  | .spBurstRead _ _ _ => true
  | .spBurstWrite _ _ _ _ _ => true
  | .spSetPage _ _ => true
  | .spGetStatus _ _ => true
  | .spUnlock _ _ _ => true
  | .spBadOpcode _ => true
  | .spFrameAbort _ => true
  | .spReadTransfer => true
  | .spFrameErr _ => true
  | .unlReq _ _ _ => true
  | .unlKey _ _ _ => true
  | .accLockSet _ _ _ => true
  | .registerWrite _ addr _ _ => decide (addr < 0x4000)
  | .cmtCommit _ _ _ => true
  | .cmtDiscard _ _ _ => true
  | .commitApply g _ _ => decide (g < 32)
  | .commitHold g => decide (g < 32)
  | .imgCtlActivate _ _ _ => true
  | .epochSet _ _ _ => true
  | .bootCfgWrite _ _ _ => true
  | .aglDetectQuietEnd l found => decide (l < 3) && decide (found < 16)
  | .aglTrainingTimeout l => decide (l < 3)
  | .ts1 l sets => decide (l < 3) && sets.all (fun p => decide (p.1 < 4))
  | .ts2 l sets => decide (l < 3) && sets.all (fun p => decide (p.1 < 4))
  | .skp l => decide (l < 3)
  | .aln l => decide (l < 3)
  | .eios l => decide (l < 3)
  | .eieos l => decide (l < 3)
  | .skpAlnInterval l => decide (l < 3)
  | .equalisation l _ _ _ => decide (l < 3)
  | .linkDown l => decide (l < 3)
  | .framingError l => decide (l < 3)
  | .frameCrcFail l => decide (l < 3)
  | .malformedFrame l typ _ => decide (l < 3) && decide (typ < 256)
  | .aglAck l seq => decide (l < 3) && decide (seq < 4096)
  | .aglNak l seq => decide (l < 3) && decide (seq < 4096)
  | .aglCredit l _ limit => decide (l < 3) && decide (limit < 65536)
  | .enterL1 l => decide (l < 3)
  | .enterL2 l => decide (l < 3)
  | .linkCtlReset => true
  | .linkCtlRetrain l => decide (l < 3)
  | .regWr seq _ _ _ => decide (seq < 4096)
  | .regRd seq _ _ _ => decide (seq < 4096)
  | .wdata seq _ _ _ _ _ => decide (seq < 4096)
  | .ackTimer l => decide (l < 3)
  | .replayTimer l => decide (l < 3)
  | .creditRefresh l => decide (l < 3)
  | .dreqDataTimeout _ => true
  | .dataTransmit _ => true
  | .dreq _ => true
  | .configRequest _ addr be _ => decide (addr < 0x1000) && decide (be < 16)
  | .memoryWriteWindow off dws _ _ => decide (off < 0x4000) && dws.all (fun p => decide (p.1 < 16))
  | .memoryReadWindow off _ => decide (off < 0x4000)
  | .evtPop => true
  | .writeDataCompletion _ status _ _ => decide (status < 8)
  | .completionTimeout _ => true
  | .hotReset => true
  | .linkDisable => true
  | .perstNAssert => true
  | .perstNRise => true
  | .d3hotEntry => true
  | .d0Return => true
  | .aspmL1Idle => true
  | .msixUnmask v => decide (v < 32)
  | .submissionPortWrite q off data _ => decide (q < 64) && decide (off + data.length ≤ 64)
  | .sqDoorbell q _ _ => decide (q < 64)
  | .cqHeadDoorbell q _ _ => decide (q < 64)
  | .commandTake _ => true
  | .completionPost a => decide (a.q < 64)
  | .mailboxTimeout _ => true
  | .qpCreate _ _ _ => true
  | .qpDelete _ _ _ => true
  | .qpSetPrio _ _ _ => true
  | .qpBind _ _ _ => true
  | .readAlb _ => true
  | .readRaw _ => true
  | .streamOpen _ => true
  | .streamCredit _ => true
  | .streamClose _ => true
  | .programRaw _ => true
  | .eraseRaw _ => true
  | .mapWrite _ => true
  | .mapFlush _ => true
  | .authBegin _ _ => true
  | .authFinish _ _ => true
  | .keyLoad _ => true
  | .imprintCheck _ => true
  | .imprintEnrol _ _ => true
  | .counterInc _ _ => true
  | .regAccess _ _ => true
  | .logbookRead _ => true
  | .logbookMark _ => true
  | .norRead _ => true
  | .norProgram _ => true
  | .norErase _ => true
  | .imageActivate _ _ _ => true
  | .seqExchange _ => true
  | .testPattern _ _ => true
  | .cmdNop _ => true
  | .logbookWrite _ _ => true
  | .idlClr _ _ _ => true
  | .logInject _ _ _ => true
  | .producerWrite q prod _ _ _ _ _ => decide (q < 48) && decide (prod < 8)
  | .producerFlush q prod => decide (q < 48) && decide (prod < 8)
  | .packTimeout q prod => decide (q < 48) && decide (prod < 8)
  | .consumerRead q _ => decide (q < 48)
  | .fqCommit q _ => decide (q < 48)
  | .fqRewind q _ => decide (q < 48)
  | .fqOpen q _ => decide (q < 48)
  | .fqClose q _ _ => decide (q < 48)
  | .spillRequest q => decide (q < 48)
  | .fcHoldExpiry k => decide (k < 2)
  | .fqInject _ _ _ => true
  | .fqWmWrite _ _ _ => true
  | .allocRequest owner _ _ _ => decide (owner < 16)
  | .waitWithdraw _ => true
  | .referenceRelease _ who ecc => decide (who < 16 ∧ ecc < 3)
  | .hmpRetain _ who => decide (who < 16)
  | .namedOwnerRelease owner _ _ => decide (owner < 16)
  | .hmpHandover _ frm dst => decide (frm < 16) && decide (dst < 16)
  | .auditScan _ _ => true
  | .hmpThrWrite _ _ _ => true
  | .ownLimitWrite _ k _ _ => decide (k < 16)
  | .hmpReleaseOwner _ _ _ => true
  | .hmpScanNow _ _ _ => true
  | .hmpFreeOrphans _ _ _ => true
  | .ledgerUpdate _ _ _ => true
  | .admissionDecision => true
  | .starve _ => true
  | .huWaitTimeout _ => true
  | .rationSave _ _ _ => true
  | .rationDefaults _ _ _ => true
  | .rationCalibrate _ _ _ => true
  | .schedulingDecision n => decide (n < 8)
  | .suspendDecision n => decide (n < 8)
  | .dieTimeout _ => true
  | .trackingMeasurement n ce dqs wins _ => decide (n < 8) && decide (ce < 8) && (Eye.of ce dqs wins).wf
  | .staleTimeout n => decide (n < 8)
  | .trainingEnd n res => decide (n < 8) && res.all Eye.wf
  | .laneAdaptation k _ => decide (k < 6)
  | .autoSave _ => true
  | .calSave _ _ _ => true
  | .calRetrain _ _ _ => true
  | .calImport _ _ _ => true
  | .clearHost _ _ _ => true
  | .seqNop n _ => decide (n < 8)
  | .seqAdd n _ => decide (n < 8)
  | .seqAdc n _ => decide (n < 8)
  | .seqSub n _ => decide (n < 8)
  | .seqSbc n _ => decide (n < 8)
  | .seqAnd n _ => decide (n < 8)
  | .seqOr n _ => decide (n < 8)
  | .seqXor n _ => decide (n < 8)
  | .seqShl n _ => decide (n < 8)
  | .seqShr n _ => decide (n < 8)
  | .seqSar n _ => decide (n < 8)
  | .seqRol n _ => decide (n < 8)
  | .seqRor n _ => decide (n < 8)
  | .seqMul n _ => decide (n < 8)
  | .seqDivs n _ => decide (n < 8)
  | .seqDivu n _ => decide (n < 8)
  | .seqCmp n _ => decide (n < 8)
  | .seqTst n _ => decide (n < 8)
  | .seqNeg n _ => decide (n < 8)
  | .seqNot n _ => decide (n < 8)
  | .seqMov n _ => decide (n < 8)
  | .seqAddi n _ => decide (n < 8)
  | .seqAndi n _ => decide (n < 8)
  | .seqOri n _ => decide (n < 8)
  | .seqXori n _ => decide (n < 8)
  | .seqShi n _ => decide (n < 8)
  | .seqCmpi n _ => decide (n < 8)
  | .seqMovi n _ => decide (n < 8)
  | .seqMovhi n _ => decide (n < 8)
  | .seqMovs n _ => decide (n < 8)
  | .seqMfs n _ => decide (n < 8)
  | .seqMts n _ => decide (n < 8)
  | .seqPset n _ => decide (n < 8)
  | .seqPget n _ => decide (n < 8)
  | .seqPadd n _ => decide (n < 8)
  | .seqPtst n _ => decide (n < 8)
  | .seqLdw n _ => decide (n < 8)
  | .seqLdh n _ => decide (n < 8)
  | .seqLdb n _ => decide (n < 8)
  | .seqStw n _ => decide (n < 8)
  | .seqSth n _ => decide (n < 8)
  | .seqStb n _ => decide (n < 8)
  | .seqLdl n _ => decide (n < 8)
  | .seqStl n _ => decide (n < 8)
  | .seqB n _ => decide (n < 8)
  | .seqBr n _ => decide (n < 8)
  | .seqCall n _ => decide (n < 8)
  | .seqCallr n _ => decide (n < 8)
  | .seqRet n _ => decide (n < 8)
  | .seqRete n _ => decide (n < 8)
  | .seqRetf n _ => decide (n < 8)
  | .seqDjnz n _ => decide (n < 8)
  | .seqPost n _ => decide (n < 8)
  | .seqEvm n _ => decide (n < 8)
  | .seqWait n _ => decide (n < 8)
  | .seqKick n _ => decide (n < 8)
  | .seqTset n _ => decide (n < 8)
  | .seqTstop n _ => decide (n < 8)
  | .seqTget n _ => decide (n < 8)
  | .seqEarm n _ => decide (n < 8)
  | .seqEdis n _ => decide (n < 8)
  | .seqEget n _ => decide (n < 8)
  | .seqBrk n _ => decide (n < 8)
  | .seqBcmd n _ => decide (n < 8)
  | .seqBadr n _ => decide (n < 8)
  | .seqBdo n _ => decide (n < 8)
  | .seqBdi n _ => decide (n < 8)
  | .seqBsts n _ => decide (n < 8)
  | .seqBsel n _ => decide (n < 8)
  | .seqBsetf n _ => decide (n < 8)
  | .seqBgetf n _ => decide (n < 8)
  | .seqBidle n _ => decide (n < 8)
  | .srTake n x _ => decide (n < 8) && decide (x < 8)
  | .srConfirm n x => decide (n < 8) && decide (x < 8)
  | .srOpend n x oc => decide (n < 8) && decide (x < 8) && decide (oc < 4)
  | .srAck n x => decide (n < 8) && decide (x < 256)
  | .srSuspack n x _ => decide (n < 8) && decide (x < 8)
  | .srEntryOk n => decide (n < 8)
  | .eventDelivery n => decide (n < 8)
  | .breakpointHalt n => decide (n < 8)
  | .timerExpiry n t => decide (n < 8) && decide (t < 8)
  | .edgeLatch n e _ => decide (n < 8) && decide (e < 8)
  | .seqDbgHalt _ n _ _ => decide (n < 8)
  | .seqDbgResume _ n _ _ => decide (n < 8)
  | .seqDbgStep _ n _ _ => decide (n < 8)
  | .seqDbgRdataWrite _ n _ _ => decide (n < 8)
  | .quietPoint n => decide (n < 8)
  | .quietTimeout n => decide (n < 8)
  | .entryTimeout n => decide (n < 8)
  | .codewordTake n => decide (n < 8)
  | .decodeEnd _ _ _ _ => true
  | .codecEncode _ _ => true
  | .codecSave _ _ _ => true
  | .codecDefaults _ _ _ => true
  | .clearLearn _ _ _ => true
  | .mapTranslate _ _ => true
  | .mapFaultDone => true
  | .xtsDecrypt => true
  | .frameDecompress _ => true
  | .prefetchIssue _ => true
  | .streamResident => true
  | .streamPush _ => true
  | .mapSave _ _ _ => true
  | .mapInvalidate _ _ _ => true
  | .mapRebuild _ _ _ => true
  | .strCloseOne _ _ _ => true
  | .strCloseAll _ _ _ => true
  | .infLoad _ _ _ => true
  | .protProvision _ _ _ => true
  | .protWrap _ _ _ => true
  | .protSeal _ _ _ => true
  | .keyClear _ _ _ => true
  | .sesClose _ _ _ => true
  | .enorWordProgramEnd _ => true
  | .enorEraseEnd _ => true
  | .eraseResume => true
  | .norRdataRead _ => true
  | .norCtlProgram _ _ _ => true
  | .norCtlProgramClear _ _ _ => true
  | .norCtlErase _ _ _ => true
  | .norCtlWp _ _ _ => true
  | .norCtlProtect _ _ _ => true
  | .norCtlPwChange _ _ _ => true
  | .norCtlRetire _ _ _ => true
  | .journalAppend _ => true
  | .otpProgram _ _ _ => true
  | .otpLock _ _ _ => true
  | .psWrite u data _ => decide (u < 0x8000) && data.length == 32
  | .psDataWrite _ _ _ => true
  | .eventPost n _ => decide (n < 384)
  | .evrPost _ _ _ => true
  | .evrPendClear _ k _ _ => decide (k < 12)
  | .evrCfgWrite _ n _ _ => decide (n < 384)
  | .arbitrationRound _ => true
  | .svcEndService n => decide (n < 384)
  | .hfEvtSend => true
  | .wd0Service => true
  | .wdLate k => decide (k < 9)
  | .wdWarn k => decide (k < 9)
  | .wdCtlWrite _ _ _ => true
  | .sensorSample raw mv _ => raw.length == 10 && mv.length == 9
  | .graceEnd => true
  | .dieOpEnd n x _ _ => decide (n < 8) && decide (x < 8)
  | .cascJoin h uid _ _ _ _ => h.wf && uid.length == 8
  | .cascJoinRepeat => true
  | .cascJoinAck h _ _ _ => h.wf
  | .cascadeResetOrder h => h.wf
  | .cascRemove h _ _ => h.wf
  | .cascPingTimer => true
  | .cascPing h => h.wf
  | .cascPong h => h.wf
  | .memberLost m _ _ => decide (1 ≤ m) && decide (m < 4)
  | .cascShare h _ _ _ => h.wf
  | .cReqVolRead h _ _ _ _ _ => h.wf
  | .cReqCmd h _ _ cmd => h.wf && cmd.length == 64
  | .cData h _ _ _ _ => h.wf
  | .cCpl h _ entry => h.wf && entry.length == 16
  | .cEvt h _ _ _ => h.wf
  | .cDreq h _ _ _ => h.wf
  | .resetMember _ _ _ => true
  | .resetAll _ _ _ => true
  | .tpStart _ _ _ => true
  | .tpStop _ _ _ => true
  | .tpRunEnd t _ => decide (t < 256)
  | .bistCtlRun _ _ _ => true
  | .bistEnd _ => true
  | .tapReset => true
  | .tapIdcode => true
  | .tapSamplePreload cap preload => decide (cap < 2 ^ 544) && decide (preload < 2 ^ 544)
  | .tapExtest scan => scanWf scan
  | .tapExtestPulse scan => scanWf scan
  | .tapExtestTrain scan => scanWf scan
  | .tapClamp => true
  | .tapHighz => true
  | .tpAccess dr _ => decide (dr < 2 ^ 48)
  | .bistRun _ => true
  | .tapBypass _ => true
  | .illegalInstruction n _ => decide (n < 8)
  | .eraseSuspended => true
  | .idlBytesReceived l => decide (l < 3)
  | .electricalIdleExit l => decide (l < 3)
  | .dlUp speed _ => decide (speed < 8)
  | .pllFail => true
  | .svcDebugHalt => true
  | .svcDebugResume => true

end Sys2Proof
end

