-- ==== Sys2Proof/Decode.lean ====
section
/-!
DEFINITION. Commands as words. spec/opcode_table.json gives no row any bits: the block has no instruction encoding, so no word
spells a command.
-/

namespace Sys2Proof

/-- The command that `nbits` bits `w` spell by the table's bits: none, for no row has bits. -/
def decodeTableWord (_nbits _w : Nat) : Option Instr := none

end Sys2Proof
end

