-- ==== Sys2Proof/Machine/Bits.lean ====
section
/-!
DEFINITION. Bit fields of numbers, little-endian bytes (R5), sorted tables of (key, value) pairs in one canonical form,
and the cyclic redundancy checks the chapters name (CRC-8 of R105, CRC-16 of R208, CRC-32 of R146).
-/

namespace Sys2Proof.Machine

/-- Bits [lo + w - 1 : lo] of `v` (R4). -/
def bits (v lo w : Nat) : Nat := (v >>> lo) % 2 ^ w

/-- Bit `i` of `v`. -/
def bit (v i : Nat) : Bool := (v >>> i) % 2 == 1

/-- `v` with bits [lo + w - 1 : lo] set to `x` (taken modulo `2 ^ w`). -/
def putBits (v lo w x : Nat) : Nat :=
  v - bits v lo w * 2 ^ lo + x % 2 ^ w * 2 ^ lo

/-- 1 for true, 0 for false. -/
def b2n (b : Bool) : Nat := if b then 1 else 0

/-- The set bits of `v` among the lowest `n`, ascending. -/
def setBits (v n : Nat) : List Nat := (List.range n).filter (fun i => bit v i)

/-- How many of the lowest `n` bits of `v` are 1. -/
def countBits (v n : Nat) : Nat := (setBits v n).length

/-- The word whose set bits are listed. -/
def maskOf (l : List Nat) : Nat := l.foldl (fun v i => v ||| (1 <<< i)) 0

/-- `a + b`, not above `m`. -/
def satAdd (m a b : Nat) : Nat := min m (a + b)

/-- `v` of `w` bits read as a two's complement number. -/
def toSigned (w v : Nat) : Int := if v % 2 ^ w < 2 ^ (w - 1) then (v % 2 ^ w : Nat) else (v % 2 ^ w : Nat) - (2 ^ w : Nat)

/-- The two's complement pattern of `x` in `w` bits. -/
def ofSigned (w : Nat) (x : Int) : Nat := (x % (2 ^ w : Nat)).toNat

/-- The number that bytes spell, the first least significant (R5). -/
def leNat : List Byte → Nat
  | [] => 0
  | b :: l => b.toNat + 256 * leNat l

/-- The lowest `n` bytes of `v`, the least significant first (R5). -/
def natLE : Nat → Nat → List Byte
  | 0, _ => []
  | n + 1, v => BitVec.ofNat 8 v :: natLE n (v / 256)

/-- The number that bytes spell, the first most significant (R6). -/
def beNat (l : List Byte) : Nat := leNat l.reverse

/-- The lowest `n` bytes of `v`, the most significant first (R6). -/
def natBE (n v : Nat) : List Byte := (natLE n v).reverse

/-- Bytes `off` to `off + n - 1`; bytes past the end read 0. -/
def sliceB (l : List Byte) (off n : Nat) : List Byte :=
  (List.range n).map (fun i => (l.drop (off + i)).headD 0)

/-- The little-endian number at bytes `off` to `off + n - 1`. -/
def leAt (l : List Byte) (off n : Nat) : Nat := leNat (sliceB l off n)

/-- `l` with element `i` replaced by `v` (unchanged where there is none). -/
def listSet {α : Type} : List α → Nat → α → List α
  | [], _, _ => []
  | _ :: l, 0, v => v :: l
  | a :: l, i + 1, v => a :: listSet l i v

/-- Element `i`, or `d` where there is none. -/
def listGet {α : Type} (d : α) : List α → Nat → α
  | [], _ => d
  | a :: _, 0 => a
  | _ :: l, i + 1 => listGet d l i

/-- The elements of a list with their index. -/
def withIdx {α : Type} (l : List α) : List (Nat × α) := (List.range l.length).zip l

/-! ### Tables: lists of (key, value), keys strictly rising, no entry equal to what an unlisted key reads as -/

/-- The value under key `k`; `d` where the key is not listed. -/
def tget {α : Type} (d : α) : List (Nat × α) → Nat → α
  | [], _ => d
  | (k', v) :: l, k => if k' = k then v else tget d l k

/-- The table without key `k`. -/
def tdel {α : Type} : List (Nat × α) → Nat → List (Nat × α)
  | [], _ => []
  | (k', v) :: l, k => if k' = k then tdel l k else (k', v) :: tdel l k

/-- The table with `v` under key `k`, keys kept rising. -/
def tput {α : Type} : List (Nat × α) → Nat → α → List (Nat × α)
  | [], k, v => [(k, v)]
  | (k', v') :: l, k, v =>
    if k < k' then (k, v) :: (k', v') :: l
    else if k' = k then (k, v) :: l
    else (k', v') :: tput l k v

/-- Write `v` under key `k` where an unlisted key reads as `d`: writing `d` removes the entry. -/
def tset {α : Type} [DecidableEq α] (d : α) (l : List (Nat × α)) (k : Nat) (v : α) : List (Nat × α) :=
  if v = d then tdel l k else tput l k v

/-- Keys strictly rising from `lo`, and no entry equal to `d` of its key. -/
def twfFrom {α : Type} [DecidableEq α] (d : Nat → α) : Nat → List (Nat × α) → Bool
  | _, [] => true
  | lo, (k, v) :: l => Nat.ble lo k && decide (v ≠ d k) && twfFrom d (k + 1) l

/-- The canonical form of a table whose unlisted key `k` reads as `d k`. -/
def twf {α : Type} [DecidableEq α] (d : Nat → α) (l : List (Nat × α)) : Bool := twfFrom d 0 l

/-- The table that holds `f i` under each key `i` below `n`. -/
def tab {α : Type} [DecidableEq α] (d : α) (n : Nat) (f : Nat → α) : List (Nat × α) :=
  (List.range n).foldl (fun m i => tset d m i (f i)) []

/-! ### Stores of bytes -/

/-- Read `n` bytes from `a` of a store whose unlisted bytes read `d`. -/
def readBytes (d : Byte) (m : List (Nat × Byte)) (a n : Nat) : List Byte :=
  (List.range n).map (fun i => tget d m (a + i))

/-- Write bytes from `a` on. -/
def writeBytes (d : Byte) : List (Nat × Byte) → Nat → List Byte → List (Nat × Byte)
  | m, _, [] => m
  | m, a, b :: l => writeBytes d (tset d m a b) (a + 1) l

/-- The little-endian number of `n` bytes at `a`. -/
def readLE (d : Byte) (m : List (Nat × Byte)) (a n : Nat) : Nat := leNat (readBytes d m a n)

/-! ### Cyclic redundancy checks -/

/-- One bit of a most-significant-bit-first CRC of width `w`. -/
def crcStep (w poly c : Nat) (b : Bool) : Nat :=
  let fb := bit c (w - 1) != b
  let c' := (c <<< 1) % 2 ^ w
  if fb then c' ^^^ poly else c'

/-- The bits of a byte, most significant first. -/
def byteBitsMsb (b : Byte) : List Bool := [7, 6, 5, 4, 3, 2, 1, 0].map (fun i => bit b.toNat i)

/-- A CRC over bytes, most significant bit first, no reflection. -/
def crcMsb (w poly init : Nat) (l : List Byte) : Nat :=
  l.foldl (fun c b => (byteBitsMsb b).foldl (crcStep w poly) c) init

/-- CRC-8, polynomial 0x07, initial value 0x00 (R105). -/
def crc8 (l : List Byte) : Nat := crcMsb 8 0x07 0 l

/-- CRC-16, polynomial 0x1021, initial value 0xFFFF (R208). -/
def crc16 (l : List Byte) : Nat := crcMsb 16 0x1021 0xFFFF l

/-- One bit of the reflected CRC-32. -/
def crc32Step (c : Nat) : Nat := if bit c 0 then (c >>> 1) ^^^ 0xEDB88320 else c >>> 1

/-- CRC-32, polynomial 0x04C1_1DB7, initial value 0xFFFF_FFFF, reflected, final complement (R146). -/
def crc32 (l : List Byte) : Nat :=
  (l.foldl (fun c b => crc32Step (crc32Step (crc32Step (crc32Step (crc32Step (crc32Step (crc32Step (crc32Step
    (c ^^^ b.toNat))))))))) 0xFFFFFFFF) ^^^ 0xFFFFFFFF

end Sys2Proof.Machine
end

