-- ==== Sys2Proof/Machine/CodecMath.lean ====
section
/-!
DEFINITION. The arithmetic of the codec (ch. 16): the randomiser (R369), the quasi-cyclic code (R367, R368), metadata and
whole codewords (R363, R364).
-/

namespace Sys2Proof.Machine

/-! ### Randomiser (R369) -/

/-- One step of the shift register: its output bit and its next state. -/
def lfsrStep (s : Nat) : Nat × Nat :=
  let o := (bits s 30 1 + bits s 27 1) % 2
  (o, (s * 2 + o) % 2 ^ 31)

/-- The next mask byte (bit 0 first) and the state after it. -/
def lfsrByte (s : Nat) : Nat × Nat :=
  (List.range 8).foldl (fun (p : Nat × Nat) i =>
    let (o, s') := lfsrStep p.2
    (p.1 + o * 2 ^ i, s')) (0, s)

/-- XOR bytes with the mask that starts in a state. -/
def maskBytes : Nat → List Byte → List Byte
  | _, [] => []
  | s, b :: l => (b ^^^ BitVec.ofNat 8 (lfsrByte s).1) :: maskBytes (lfsrByte s).2 l

/-- Randomise or de-randomise bytes from a seed; seed 0 leaves them as they are (R370). -/
def randomise (seed : Nat) (l : List Byte) : List Byte := if seed = 0 then l else maskBytes seed l

/-! ### The code (R367, R368) -/

/-- The three row blocks in which information column block `j` is non-zero, for `m` parity circulants. -/
def cwRows (m j : Nat) : List Nat :=
  let r0 := j % m
  let r1 := (r0 + 1 + j / m % (m - 1)) % m
  let r2 := (r1 + 1 + 7 * j % (m - 2)) % m
  [r0, r1, if r2 = r0 then (r2 + 1) % m else r2]

/-- The product of the circulant *C*(s) and a 128-bit block: row t has its 1 in column (t + s) mod 128. -/
def circulant (s v : Nat) : Nat := ((v >>> s) ||| (v <<< (128 - s))) % 2 ^ 128

/-- Column block `j` of a codeword. -/
def colBlock (l : List Byte) (j : Nat) : Nat := leNat (sliceB l (16 * j) 16)

/-- The sums of the information contributions, by row block. -/
def infoSums (m : Nat) (info : List Byte) : List Nat :=
  (List.range 257).foldl (fun acc j =>
    let v := colBlock info j
    (cwRows m j).foldl (fun acc r => listSet acc r (listGet 0 acc r ^^^ circulant ((37 * r + 11 * j + r * j) % 128) v)) acc)
    (List.replicate m 0)

/-- The parity blocks: each sum XORed with the parity block before it. -/
def parityBlocks : Nat → List Nat → List Nat
  | _, [] => []
  | p, x :: l => (x ^^^ p) :: parityBlocks (x ^^^ p) l

/-- The parity bytes of 4,112 information bytes. -/
def parityBytes (m : Nat) (info : List Byte) : List Byte := (parityBlocks 0 (infoSums m info)).flatMap (natLE 16)

/-- Is the syndrome of a codeword zero? -/
def syndromeZero (m : Nat) (w : List Byte) : Bool := decide (w.drop 4112 = parityBytes m (w.take 4112))

/-- Metadata (Table 16-2). -/
def cwMeta (tag kind : Nat) (payload : List Byte) : List Byte :=
  let h := natLE 4 tag ++ natLE 1 kind ++ natLE 3 0
  h ++ natLE 4 (crc32 (payload ++ h)) ++ natLE 4 0

/-- A codeword before randomising, for `m` parity circulants. -/
def cwBuild (m tag kind : Nat) (payload : List Byte) : List Byte :=
  let p := sliceB payload 0 4096
  let info := p ++ cwMeta tag kind p
  info ++ parityBytes m info

/-- Does `DCRC` match? -/
def dcrcOk (w : List Byte) : Bool := leAt w 4104 4 == crc32 (w.take 4104)

/-- Bits in which two byte strings differ. -/
def bitsDiffer : List Byte → List Byte → Nat
  | a :: l, b :: m => countBits (a ^^^ b).toNat 8 + bitsDiffer l m
  | _, _ => 0

/-- The 0 bits of a byte string. -/
def zeroBits (l : List Byte) : Nat := l.foldl (fun n b => n + (8 - countBits b.toNat 8)) 0

end Sys2Proof.Machine
end

