-- ==== Sys2Proof/Config.lean ====
section
/-!
DEFINITION. The constants of the model that have no body: values the manual leaves open, and the outputs of algorithms that
other standards define (the manual names them and does not restate them). Nothing in Lean can evaluate one.
-/

namespace Sys2Proof.Config

/-- A free value: the `n`-th open value the machine meets, of `w` bits (taken modulo 2 ^ w by its user). -/
opaque freeBits : Nat → Nat → Nat

/-- A free byte: the byte at `a` of the `n`-th open region. -/
opaque freeByte : Nat → Nat → Nat

/-- SHA-256 of a byte string (FIPS 180-4), most significant byte first (R6). -/
opaque sha256 : List Byte → List Byte

/-- SHA-384 of a byte string (FIPS 180-4). -/
opaque sha384 : List Byte → List Byte

/-- HMAC-SHA-256: key, message. -/
opaque hmacSha256 : List Byte → List Byte → List Byte

/-- ECDSA verification on P-384: public key X then Y, hash, signature r then s. -/
opaque ecdsaP384 : List Byte → List Byte → List Byte → Bool

/-- ECDSA verification on P-256: public key X then Y, hash, signature r then s. -/
opaque ecdsaP256 : List Byte → List Byte → List Byte → Bool

/-- An ECDSA P-256 signature: private key, hash, entropy. -/
opaque ecdsaP256Sign : List Byte → List Byte → Nat → List Byte

/-- The P-256 public key of a private key, X then Y. -/
opaque p256Public : List Byte → List Byte

/-- ECDH on P-256: private key, public key X then Y; the X coordinate of the product. -/
opaque ecdhP256 : List Byte → List Byte → List Byte

/-- Is the point on P-256? -/
opaque p256OnCurve : List Byte → Bool

/-- RFC 3394 key wrap: key-encryption key, plaintext. -/
opaque aesWrap : List Byte → List Byte → List Byte

/-- RFC 3394 key unwrap: none when the integrity check fails. -/
opaque aesUnwrap : List Byte → List Byte → Option (List Byte)

/-- AES-256-XTS decryption of one data unit (IEEE 1619, R426): key, the 16 bytes of the tweak, ciphertext. -/
opaque xtsDecrypt : List Byte → List Byte → List Byte → List Byte

/-- The fixed pseudo-random pattern that a ledger calibration programs (R275): its byte at a position of page `i`. -/
opaque calPattern : Nat → Nat → Byte

/-- The two hashes of Gaevety's image-signing keys in the boot ROM (R77), 48 bytes each. -/
opaque romKeyHash : Nat → List Byte

/-- Zstandard decompression (RFC 8878): dictionary, frame; the output, none when a block is corrupt. -/
opaque zstd : List Byte → List Byte → Option (List Byte)

/-- LZ4 block decompression; none when the block is corrupt. -/
opaque lz4 : List Byte → Option (List Byte)

/-- The content checksum of RFC 8878: the low 32 bits of XXH64 of the output. -/
opaque xxh64 : List Byte → Nat

/-- Is the point on P-384? -/
opaque p384OnCurve : List Byte → Bool

/-- What the receiver of a PCI Express lane answers to a margining command (R164): values that the specification leaves to it. -/
opaque marginAnswer : Nat → Nat → Nat

/-- Bytes of the entropy source at the `n`-th draw, `len` of them. -/
opaque entropy : Nat → Nat → List Byte

/-- Word `a` of the ROM baseline program, which the manual does not print (R83, R342). -/
opaque baselineWord : Nat → BitVec 32

/-- Entry address of the ROM baseline program. -/
opaque baselineEntry : Nat

/-- Fault vector of the ROM baseline program. -/
opaque baselineFaultVec : Nat

/-- Router vector base of the ROM baseline program. -/
opaque baselineVecBase : Nat

/-- Configuration of timer `t` in the ROM baseline program. -/
opaque baselineTimer : Nat → Nat

/-- The vector base that the running SVI sets for SVC (R486). -/
opaque sviVecBase : Nat

end Sys2Proof.Config
end

