-- ==== Sys2Proof/Machine/RegDefs.lean ====
section
/-!
DEFINITION. The register table of parameter space, written from the register tables of every chapter of spec/ (R4, R7):
for each register its address (page times 64 plus offset), level, commit group, window and fields with type, reset value
and the encodings that are not reserved (R9).
-/

namespace Sys2Proof.Machine

/-- The field types of Table 0-5 (R7). -/
inductive FieldType where
  | rw | ro | w1c | wo | rs | rx
  deriving DecidableEq, Repr

/-- What selects the copy of a register that an access reaches: one copy, one per path, or one per index of a select
register (queue pair, fabric queue, cost entry, volume, calibration target, lane setting, pattern target). -/
inductive Win where
  | flat | path | qp | fq | cost | vol | cal | ln | tp
  deriving DecidableEq, Repr

/-- One field: bits [lo + width - 1 : lo], its type, its reset value, and the range of encodings that are not reserved. -/
structure FieldDef where
  lo : Nat
  width : Nat
  ty : FieldType
  rst : Nat := 0
  vmin : Nat := 0
  vmax : Nat := 0xFFFFFFFF
  deriving DecidableEq, Repr

/-- A run of `count` registers `stride` apart from address `base`. `group` is the commit group of its RS fields (2 stands
for 2 + n on a channel page). -/
structure RegDef where
  base : Nat
  count : Nat := 1
  stride : Nat := 1
  expert : Bool := false
  group : Option Nat := none
  win : Win := .flat
  fields : List FieldDef
  deriving DecidableEq, Repr

/-- A field of a register by address, for the engines. -/
structure Fld where
  addr : Nat
  lo : Nat
  width : Nat
  deriving DecidableEq, Repr

/-- Page 0x00. -/
def regsPage00 : List RegDef :=
  [
  { base := 0x0000,  -- ID_PART
    fields := [{ lo := 16, width := 16, ty := .ro, rst := 0x6A7E },
      { lo := 0, width := 16, ty := .ro, rst := 0x4816 }] },
  { base := 0x0001,  -- ID_REV
    fields := [{ lo := 8, width := 4, ty := .ro },
      { lo := 0, width := 8, ty := .ro, rst := 0xB0 }] },
  { base := 0x0002,  -- ID_UID_LO
    fields := [{ lo := 0, width := 32, ty := .ro }] },
  { base := 0x0003,  -- ID_UID_HI
    fields := [{ lo := 0, width := 32, ty := .ro }] },
  { base := 0x0004,  -- ID_CAPS
    fields := [{ lo := 14, width := 2, ty := .ro, rst := 0x3 },
      { lo := 12, width := 2, ty := .ro, rst := 0x2 },
      { lo := 10, width := 2, ty := .ro, rst := 0x3 },
      { lo := 9, width := 1, ty := .ro, rst := 0x1 },
      { lo := 8, width := 1, ty := .ro },
      { lo := 0, width := 8, ty := .ro, rst := 0xFF }] },
  { base := 0x0005,  -- FW_SVI
    fields := [{ lo := 17, width := 1, ty := .ro },
      { lo := 16, width := 1, ty := .ro },
      { lo := 0, width := 16, ty := .ro }] },
  { base := 0x0006,  -- FW_SPB
    fields := [{ lo := 24, width := 1, ty := .ro },
      { lo := 16, width := 8, ty := .ro },
      { lo := 0, width := 16, ty := .ro }] },
  { base := 0x0007,  -- FW_ROM
    fields := [{ lo := 0, width := 16, ty := .ro, rst := 0x100 }] },
  { base := 0x0008,  -- GLB_STAT
    fields := [{ lo := 19, width := 2, ty := .ro },
      { lo := 17, width := 2, ty := .ro },
      { lo := 15, width := 2, ty := .ro },
      { lo := 14, width := 1, ty := .ro },
      { lo := 13, width := 1, ty := .ro },
      { lo := 12, width := 1, ty := .ro },
      { lo := 11, width := 1, ty := .ro },
      { lo := 10, width := 1, ty := .ro },
      { lo := 8, width := 2, ty := .ro },
      { lo := 7, width := 1, ty := .ro },
      { lo := 6, width := 1, ty := .ro },
      { lo := 4, width := 2, ty := .ro },
      { lo := 0, width := 4, ty := .ro, rst := 0x1 }] },
  { base := 0x0009,  -- GLB_EVT
    fields := [{ lo := 3, width := 1, ty := .w1c },
      { lo := 2, width := 1, ty := .w1c },
      { lo := 1, width := 1, ty := .w1c },
      { lo := 0, width := 1, ty := .w1c }] },
  { base := 0x000A,  -- GLB_QUAL
    fields := [{ lo := 0, width := 8, ty := .ro }] },
  { base := 0x000B,  -- UPTIME_LO
    fields := [{ lo := 0, width := 32, ty := .ro }] },
  { base := 0x000C,  -- UPTIME_HI
    fields := [{ lo := 0, width := 32, ty := .ro }] },
  { base := 0x000D,  -- SCRATCH
    fields := [{ lo := 0, width := 32, ty := .rw }] } ]

/-- Page 0x01. -/
def regsPage01 : List RegDef :=
  [
  { base := 0x0040,  -- SP_CFG
    fields := [{ lo := 8, width := 1, ty := .ro },
      { lo := 0, width := 7, ty := .ro, rst := 0x2C }] },
  { base := 0x0041,  -- SP_PAGE
    fields := [{ lo := 0, width := 8, ty := .ro }] },
  { base := 0x0042,  -- SP_ERR
    fields := [{ lo := 16, width := 16, ty := .rx },
      { lo := 0, width := 16, ty := .rx }] },
  { base := 0x0043,  -- ACC_CTL
    fields := [{ lo := 1, width := 1, ty := .rw, rst := 0x1 },
      { lo := 0, width := 1, ty := .rw, rst := 0x1 }] },
  { base := 0x0044,  -- UNL_STAT
    fields := [{ lo := 16, width := 14, ty := .ro },
      { lo := 0, width := 14, ty := .ro }] },
  { base := 0x0045,  -- UNL_FAIL
    fields := [{ lo := 12, width := 1, ty := .ro },
      { lo := 8, width := 4, ty := .ro },
      { lo := 4, width := 1, ty := .ro },
      { lo := 0, width := 4, ty := .ro }] },
  { base := 0x0046, win := .path,  -- UNL_KEY
    fields := [{ lo := 0, width := 32, ty := .wo }] },
  { base := 0x0047,  -- UNL_REQ
    fields := [{ lo := 7, width := 1, ty := .wo },
      { lo := 0, width := 7, ty := .wo }] },
  { base := 0x0048,  -- ACC_LOCK
    fields := [{ lo := 0, width := 14, ty := .ro }] },
  { base := 0x0049,  -- ACC_LOCK_SET
    fields := [{ lo := 24, width := 8, ty := .wo },
      { lo := 0, width := 14, ty := .wo }] },
  { base := 0x004A,  -- ACC_LOCK_OTP
    fields := [{ lo := 0, width := 14, ty := .ro }] } ]

/-- Page 0x02. -/
def regsPage02 : List RegDef :=
  [
  { base := 0x0080,  -- CMT_CTL
    fields := [{ lo := 24, width := 8, ty := .wo },
      { lo := 8, width := 2, ty := .wo },
      { lo := 0, width := 5, ty := .wo }] },
  { base := 0x0081,  -- CMT_STAT
    fields := [{ lo := 24, width := 8, ty := .ro },
      { lo := 16, width := 8, ty := .ro },
      { lo := 8, width := 5, ty := .ro },
      { lo := 0, width := 4, ty := .ro }] },
  { base := 0x0082,  -- CMT_PEND
    fields := [{ lo := 0, width := 15, ty := .ro }] },
  { base := 0x0083,  -- CMT_DIRTY
    fields := [{ lo := 0, width := 15, ty := .ro }] },
  { base := 0x0084,  -- CMT_CFG
    fields := [{ lo := 0, width := 8, ty := .rw, rst := 0xA }] },
  { base := 0x0085, count := 2,  -- CMT_RES_0 and on
    fields := [{ lo := 0, width := 32, ty := .ro }] } ]

/-- Page 0x03. -/
def regsPage03 : List RegDef :=
  [
  { base := 0x00C0,  -- RST_CAUSE
    fields := [{ lo := 16, width := 9, ty := .w1c },
      { lo := 12, width := 4, ty := .ro },
      { lo := 8, width := 1, ty := .w1c },
      { lo := 7, width := 1, ty := .w1c },
      { lo := 6, width := 1, ty := .w1c },
      { lo := 5, width := 1, ty := .w1c },
      { lo := 4, width := 1, ty := .w1c },
      { lo := 3, width := 1, ty := .w1c },
      { lo := 2, width := 1, ty := .w1c },
      { lo := 1, width := 1, ty := .w1c },
      { lo := 0, width := 1, ty := .w1c, rst := 0x1 }] },
  { base := 0x00C1,  -- RST_COUNT
    fields := [{ lo := 16, width := 16, ty := .ro },
      { lo := 0, width := 16, ty := .ro }] },
  { base := 0x00C2,  -- RST_TIME_LO
    fields := [{ lo := 0, width := 32, ty := .ro }] },
  { base := 0x00C3,  -- RST_TIME_HI
    fields := [{ lo := 0, width := 32, ty := .ro }] },
  { base := 0x00C4,  -- WD0_PC
    fields := [{ lo := 0, width := 32, ty := .ro }] },
  { base := 0x00C5,  -- WD0_GOOD_LO
    fields := [{ lo := 0, width := 32, ty := .ro }] },
  { base := 0x00C6,  -- WD0_GOOD_HI
    fields := [{ lo := 0, width := 32, ty := .ro }] },
  { base := 0x00C7,  -- WD0_FAIL_LO
    fields := [{ lo := 0, width := 32, ty := .ro }] },
  { base := 0x00C8,  -- WD0_FAIL_HI
    fields := [{ lo := 0, width := 32, ty := .ro }] },
  { base := 0x00C9,  -- WD_SEQ_EVID
    fields := [{ lo := 16, width := 4, ty := .ro },
      { lo := 0, width := 12, ty := .ro }] },
  { base := 0x00CA,  -- STRAP_RAW
    fields := [{ lo := 7, width := 1, ty := .ro },
      { lo := 6, width := 1, ty := .ro },
      { lo := 5, width := 1, ty := .ro },
      { lo := 3, width := 2, ty := .ro },
      { lo := 2, width := 1, ty := .ro },
      { lo := 0, width := 2, ty := .ro }] },
  { base := 0x00CB,  -- RMV_STAT
    fields := [{ lo := 31, width := 1, ty := .ro },
      { lo := 30, width := 1, ty := .ro },
      { lo := 28, width := 2, ty := .ro },
      { lo := 24, width := 4, ty := .ro },
      { lo := 8, width := 8, ty := .ro },
      { lo := 0, width := 8, ty := .ro }] },
  { base := 0x00CC,  -- RMV_CFG
    fields := [{ lo := 8, width := 1, ty := .rw },
      { lo := 0, width := 8, ty := .rw, rst := 0x64, vmin := 0xA, vmax := 0xC8 }] },
  { base := 0x00CD,  -- RST_CTL
    fields := [{ lo := 24, width := 8, ty := .wo },
      { lo := 1, width := 1, ty := .wo },
      { lo := 0, width := 1, ty := .wo }] },
  { base := 0x00CE,  -- FAULT_STAT
    fields := [{ lo := 8, width := 8, ty := .ro },
      { lo := 0, width := 1, ty := .w1c }] },
  { base := 0x00D0, count := 8,  -- FAULT_LATCH_0 and on
    fields := [{ lo := 0, width := 32, ty := .ro }] } ]

/-- Page 0x04. -/
def regsPage04 : List RegDef :=
  [
  { base := 0x0100,  -- BOOT_CFG
    fields := [{ lo := 3, width := 1, ty := .rw },
      { lo := 2, width := 1, ty := .rw },
      { lo := 1, width := 1, ty := .ro },
      { lo := 0, width := 1, ty := .ro }] },
  { base := 0x0101,  -- BOOT_RES
    fields := [{ lo := 16, width := 16, ty := .ro },
      { lo := 4, width := 2, ty := .ro },
      { lo := 2, width := 1, ty := .ro },
      { lo := 0, width := 1, ty := .ro }] },
  { base := 0x0102,  -- IMG_STAT_A
    fields := [{ lo := 16, width := 16, ty := .ro },
      { lo := 0, width := 4, ty := .ro }] },
  { base := 0x0103,  -- IMG_STAT_B
    fields := [{ lo := 16, width := 16, ty := .ro },
      { lo := 0, width := 4, ty := .ro }] },
  { base := 0x0104, count := 2,  -- SPB_STAT_0 and on
    fields := [{ lo := 16, width := 16, ty := .ro },
      { lo := 0, width := 4, ty := .ro }] },
  { base := 0x0106,  -- EPOCH_CNT
    fields := [{ lo := 16, width := 16, ty := .ro },
      { lo := 0, width := 16, ty := .ro }] },
  { base := 0x0107,  -- IMG_CTL
    fields := [{ lo := 24, width := 8, ty := .wo },
      { lo := 0, width := 2, ty := .wo }] },
  { base := 0x0108,  -- IMG_CTL_STAT
    fields := [{ lo := 8, width := 1, ty := .ro },
      { lo := 0, width := 4, ty := .ro }] },
  { base := 0x0109,  -- BOOT_PROG
    fields := [{ lo := 8, width := 4, ty := .ro },
      { lo := 4, width := 4, ty := .ro },
      { lo := 0, width := 4, ty := .ro }] },
  { base := 0x010A,  -- SVI_MAN_0
    fields := [{ lo := 24, width := 8, ty := .ro },
      { lo := 16, width := 8, ty := .ro },
      { lo := 8, width := 8, ty := .ro },
      { lo := 0, width := 4, ty := .ro }] },
  { base := 0x010B,  -- SVI_MAN_1
    fields := [{ lo := 16, width := 16, ty := .ro },
      { lo := 0, width := 16, ty := .ro }] },
  { base := 0x010C, count := 4,  -- SVI_TESTED_0 and on
    fields := [{ lo := 16, width := 16, ty := .ro },
      { lo := 0, width := 16, ty := .ro }] } ]

/-- Page 0x05. -/
def regsPage05 : List RegDef :=
  [
  { base := 0x0140, expert := true,  -- EPOCH_SET
    fields := [{ lo := 24, width := 8, ty := .wo },
      { lo := 16, width := 1, ty := .wo },
      { lo := 0, width := 16, ty := .wo }] },
  { base := 0x0141, count := 24, expert := true,  -- ROM_KH_0 and on
    fields := [{ lo := 0, width := 32, ty := .ro }] } ]

/-- Page 0x06. -/
def regsPage06 : List RegDef :=
  [
  { base := 0x0180,  -- ISL_STAT
    fields := [{ lo := 8, width := 8, ty := .ro, rst := 0xFF },
      { lo := 0, width := 8, ty := .ro, rst := 0xFF }] } ]

/-- Page 0x08. -/
def regsPage08 : List RegDef :=
  [
  { base := 0x0200,  -- EVR_STAT
    fields := [{ lo := 24, width := 5, ty := .ro },
      { lo := 16, width := 5, ty := .ro },
      { lo := 0, width := 9, ty := .ro }] },
  { base := 0x0201,  -- EVR_COUNT
    fields := [{ lo := 16, width := 16, ty := .rx },
      { lo := 0, width := 16, ty := .rx }] },
  { base := 0x0202,  -- EVR_SVC_VEC
    fields := [{ lo := 0, width := 32, ty := .ro }] },
  { base := 0x0203, win := .path,  -- EVR_SEL
    fields := [{ lo := 0, width := 9, ty := .rw, vmax := 0x17F }] },
  { base := 0x0204,  -- EVR_INFO
    fields := [{ lo := 31, width := 1, ty := .ro },
      { lo := 30, width := 1, ty := .ro },
      { lo := 29, width := 1, ty := .rx },
      { lo := 28, width := 1, ty := .ro },
      { lo := 24, width := 4, ty := .ro, rst := 0xF },
      { lo := 16, width := 4, ty := .ro }] },
  { base := 0x0205,  -- EVR_DATA_LO
    fields := [{ lo := 0, width := 32, ty := .ro }] },
  { base := 0x0206,  -- EVR_DATA_HI
    fields := [{ lo := 0, width := 32, ty := .ro }] } ]

/-- Page 0x09. -/
def regsPage09 : List RegDef :=
  [
  { base := 0x0240, count := 12,  -- EVR_PEND_0 and on
    fields := [{ lo := 0, width := 32, ty := .w1c }] },
  { base := 0x024C, count := 12,  -- EVR_INSVC_0 and on
    fields := [{ lo := 0, width := 32, ty := .ro }] } ]

/-- Page 0x0A. -/
def regsPage0A : List RegDef :=
  [
  { base := 0x0280, count := 384, expert := true,  -- EVR_CFG
    fields := [{ lo := 31, width := 1, ty := .rw },
      { lo := 16, width := 4, ty := .rw },
      { lo := 0, width := 10, ty := .rw }] } ]

/-- Page 0x10. -/
def regsPage10 : List RegDef :=
  [
  { base := 0x0400, expert := true,  -- EVR_POST
    fields := [{ lo := 24, width := 8, ty := .wo },
      { lo := 0, width := 9, ty := .wo }] },
  { base := 0x0401, expert := true, win := .path,  -- EVR_POST_DATA_LO
    fields := [{ lo := 0, width := 32, ty := .wo }] },
  { base := 0x0402, expert := true, win := .path,  -- EVR_POST_DATA_HI
    fields := [{ lo := 0, width := 32, ty := .wo }] } ]

/-- Page 0x14. -/
def regsPage14 : List RegDef :=
  [
  { base := 0x0500,  -- WD_STAT
    fields := [{ lo := 16, width := 9, ty := .ro },
      { lo := 0, width := 9, ty := .ro }] },
  { base := 0x0501, win := .path,  -- WD_SEL
    fields := [{ lo := 0, width := 4, ty := .rw, vmax := 0x8 }] },
  { base := 0x0502,  -- WD_INFO
    fields := [{ lo := 16, width := 16, ty := .ro },
      { lo := 15, width := 1, ty := .ro },
      { lo := 14, width := 1, ty := .ro }] } ]

/-- Page 0x15. -/
def regsPage15 : List RegDef :=
  [
  { base := 0x0540, count := 9, expert := true,  -- WD_CFG_0 and on
    fields := [{ lo := 16, width := 16, ty := .rw, rst := 0x64 },
      { lo := 0, width := 16, ty := .rw }] },
  { base := 0x0549, expert := true,  -- WD_CTL
    fields := [{ lo := 24, width := 8, ty := .wo },
      { lo := 16, width := 8, ty := .rw },
      { lo := 0, width := 9, ty := .rw, rst := 0x1FE }] } ]

/-- Page 0x16. -/
def regsPage16 : List RegDef :=
  [
  { base := 0x0580,  -- THERM_STAT
    fields := [{ lo := 16, width := 16, ty := .ro },
      { lo := 12, width := 4, ty := .ro },
      { lo := 0, width := 10, ty := .ro }] },
  { base := 0x0581, group := some 14,  -- THERM_CFG
    fields := [{ lo := 24, width := 8, ty := .rs, rst := 0x78, vmin := 0x5A, vmax := 0x7C },
      { lo := 16, width := 8, ty := .rs, rst := 0x69, vmin := 0x46, vmax := 0x78 },
      { lo := 8, width := 4, ty := .rs, rst := 0x3, vmin := 0x1, vmax := 0xF }] },
  { base := 0x0582,  -- THERM_CTL
    fields := [{ lo := 8, width := 1, ty := .rw },
      { lo := 0, width := 4, ty := .rw, rst := 0x3, vmin := 0x1, vmax := 0xA }] },
  { base := 0x0583,  -- THERM_HIST
    fields := [{ lo := 16, width := 16, ty := .rx },
      { lo := 8, width := 8, ty := .ro },
      { lo := 0, width := 8, ty := .rx }] },
  { base := 0x0584, win := .path,  -- THERM_SENS_SEL
    fields := [{ lo := 0, width := 4, ty := .rw, vmax := 0x9 }] },
  { base := 0x0585,  -- THERM_SENS
    fields := [{ lo := 31, width := 1, ty := .ro },
      { lo := 0, width := 16, ty := .ro }] },
  { base := 0x0586,  -- SUP_STAT
    fields := [{ lo := 16, width := 9, ty := .ro },
      { lo := 0, width := 8, ty := .ro }] },
  { base := 0x0587, win := .path,  -- SUP_V_SEL
    fields := [{ lo := 0, width := 4, ty := .rw, vmax := 0x8 }] },
  { base := 0x0588,  -- SUP_V
    fields := [{ lo := 0, width := 16, ty := .ro }] } ]

/-- Page 0x18. -/
def regsPage18 : List RegDef :=
  [
  { base := 0x0600,  -- AGL_STAT
    fields := [{ lo := 20, width := 4, ty := .ro },
      { lo := 16, width := 4, ty := .ro },
      { lo := 10, width := 1, ty := .ro },
      { lo := 9, width := 1, ty := .ro },
      { lo := 8, width := 1, ty := .ro },
      { lo := 6, width := 2, ty := .ro },
      { lo := 4, width := 2, ty := .ro },
      { lo := 0, width := 4, ty := .ro }] },
  { base := 0x0601, group := some 0,  -- AGL_CFG
    fields := [{ lo := 4, width := 1, ty := .rs, rst := 0x1 },
      { lo := 2, width := 2, ty := .rs, rst := 0x2, vmax := 0x2 },
      { lo := 0, width := 2, ty := .rs, rst := 0x3, vmin := 0x1, vmax := 0x3 }] },
  { base := 0x0602, group := some 0,  -- AGL_LANE
    fields := [{ lo := 0, width := 4, ty := .rs, rst := 0xF, vmin := 0x1, vmax := 0xF }] },
  { base := 0x0603,  -- AGL_ERR_0
    fields := [{ lo := 16, width := 16, ty := .rx },
      { lo := 0, width := 16, ty := .rx }] },
  { base := 0x0604,  -- AGL_ERR_1
    fields := [{ lo := 24, width := 8, ty := .rx },
      { lo := 16, width := 8, ty := .rx },
      { lo := 8, width := 8, ty := .rx },
      { lo := 0, width := 8, ty := .rx }] },
  { base := 0x0605,  -- AGL_EVT
    fields := [{ lo := 7, width := 1, ty := .w1c },
      { lo := 6, width := 1, ty := .w1c },
      { lo := 5, width := 1, ty := .w1c },
      { lo := 4, width := 1, ty := .w1c },
      { lo := 3, width := 1, ty := .w1c },
      { lo := 2, width := 1, ty := .w1c },
      { lo := 1, width := 1, ty := .w1c },
      { lo := 0, width := 1, ty := .w1c }] },
  { base := 0x0606,  -- AGL_PM
    fields := [{ lo := 1, width := 1, ty := .rw, rst := 0x1 },
      { lo := 0, width := 1, ty := .rw, rst := 0x1 }] } ]

/-- Page 0x19. -/
def regsPage19 : List RegDef :=
  [
  { base := 0x0640,  -- AGL_CRED
    fields := [{ lo := 20, width := 6, ty := .ro },
      { lo := 12, width := 8, ty := .ro },
      { lo := 0, width := 12, ty := .ro }] },
  { base := 0x0641,  -- AGL_EQ_RES
    fields := [{ lo := 16, width := 3, ty := .ro },
      { lo := 0, width := 16, ty := .ro }] } ]

/-- Page 0x1A. -/
def regsPage1A : List RegDef :=
  [
  { base := 0x0680, expert := true, group := some 0,  -- AGL_EQ
    fields := [{ lo := 8, width := 1, ty := .rs },
      { lo := 4, width := 4, ty := .rs, rst := 0x7, vmax := 0x7 },
      { lo := 0, width := 4, ty := .rs, rst := 0x1, vmax := 0x7 }] },
  { base := 0x0681, expert := true, group := some 0,  -- AGL_CRED_CFG
    fields := [{ lo := 0, width := 6, ty := .rs, rst := 0x20, vmin := 0x1, vmax := 0x20 }] },
  { base := 0x0682, expert := true, group := some 0,  -- AGL_REPLAY
    fields := [{ lo := 8, width := 5, ty := .rs, rst := 0x10, vmin := 0x1, vmax := 0x10 },
      { lo := 0, width := 3, ty := .rs, rst := 0x4, vmin := 0x1, vmax := 0x7 }] } ]

/-- Page 0x20. -/
def regsPage20 : List RegDef :=
  [
  { base := 0x0800,  -- PCIE_STAT
    fields := [{ lo := 16, width := 1, ty := .ro },
      { lo := 10, width := 4, ty := .ro },
      { lo := 8, width := 2, ty := .ro },
      { lo := 7, width := 1, ty := .ro },
      { lo := 4, width := 3, ty := .ro },
      { lo := 2, width := 2, ty := .ro },
      { lo := 0, width := 2, ty := .ro }] },
  { base := 0x0801,  -- PCIE_EVT
    fields := [{ lo := 6, width := 1, ty := .w1c },
      { lo := 5, width := 1, ty := .w1c },
      { lo := 4, width := 1, ty := .w1c },
      { lo := 3, width := 1, ty := .w1c },
      { lo := 2, width := 1, ty := .w1c },
      { lo := 1, width := 1, ty := .w1c },
      { lo := 0, width := 1, ty := .w1c }] },
  { base := 0x0802,  -- PCIE_ERR
    fields := [{ lo := 16, width := 16, ty := .rx },
      { lo := 8, width := 8, ty := .rx },
      { lo := 0, width := 8, ty := .rx }] },
  { base := 0x0803,  -- PCIE_PM
    fields := [{ lo := 0, width := 8, ty := .rw, rst := 0x20, vmin := 0x1, vmax := 0xFF }] } ]

/-- Page 0x21. -/
def regsPage21 : List RegDef :=
  [
  { base := 0x0840, expert := true,  -- PCIE_LINK_CFG
    fields := [{ lo := 8, width := 1, ty := .rw, rst := 0x1 },
      { lo := 7, width := 1, ty := .rw, rst := 0x1 },
      { lo := 4, width := 2, ty := .rw, rst := 0x2, vmax := 0x2 },
      { lo := 0, width := 3, ty := .rw, rst := 0x4, vmin := 0x1, vmax := 0x4 }] } ]

/-- Page 0x24. -/
def regsPage24 : List RegDef :=
  [
  { base := 0x0900,  -- HQ_STAT
    fields := [{ lo := 16, width := 13, ty := .ro, rst := 0x1000 },
      { lo := 0, width := 11, ty := .ro }] },
  { base := 0x0901,  -- HQ_EVT
    fields := [{ lo := 3, width := 1, ty := .w1c },
      { lo := 2, width := 1, ty := .w1c },
      { lo := 1, width := 1, ty := .w1c },
      { lo := 0, width := 1, ty := .w1c }] },
  { base := 0x0902, win := .path,  -- QP_SEL
    fields := [{ lo := 0, width := 6, ty := .rw }] },
  { base := 0x0903, win := .qp,  -- QP_SQ_CFG
    fields := [{ lo := 16, width := 8, ty := .rw },
      { lo := 8, width := 3, ty := .rw },
      { lo := 0, width := 4, ty := .rw, rst := 0x5, vmin := 0x1, vmax := 0x8 }] },
  { base := 0x0904, win := .qp,  -- QP_CQ_CFG
    fields := [{ lo := 9, width := 1, ty := .rw, rst := 0x1 },
      { lo := 4, width := 5, ty := .rw, rst := 0x1, vmin := 0x1, vmax := 0x1F },
      { lo := 0, width := 4, ty := .rw, rst := 0x5, vmin := 0x1, vmax := 0xC }] },
  { base := 0x0905, win := .qp,  -- QP_CQ_BASE_LO
    fields := [{ lo := 6, width := 26, ty := .rw }] },
  { base := 0x0906, win := .qp,  -- QP_CQ_BASE_HI
    fields := [{ lo := 0, width := 32, ty := .rw }] },
  { base := 0x0907,  -- QP_CTL
    fields := [{ lo := 24, width := 8, ty := .wo },
      { lo := 0, width := 3, ty := .wo }] },
  { base := 0x0908, win := .path,  -- QP_RESULT
    fields := [{ lo := 0, width := 4, ty := .ro }] },
  { base := 0x0909, win := .qp,  -- QP_STATE
    fields := [{ lo := 24, width := 8, ty := .ro },
      { lo := 16, width := 8, ty := .ro },
      { lo := 8, width := 8, ty := .ro },
      { lo := 2, width := 1, ty := .ro },
      { lo := 0, width := 2, ty := .ro }] },
  { base := 0x090A, win := .qp,  -- QP_CQ_STATE
    fields := [{ lo := 28, width := 1, ty := .ro, rst := 0x1 },
      { lo := 16, width := 12, ty := .ro },
      { lo := 0, width := 12, ty := .ro }] },
  { base := 0x090B, win := .qp,  -- QP_ERR
    fields := [{ lo := 3, width := 1, ty := .w1c },
      { lo := 2, width := 1, ty := .w1c },
      { lo := 1, width := 1, ty := .w1c },
      { lo := 0, width := 1, ty := .w1c }] },
  { base := 0x090C, win := .qp,  -- QP_COUNT
    fields := [{ lo := 16, width := 11, ty := .ro },
      { lo := 0, width := 11, ty := .ro }] } ]

/-- Page 0x25. -/
def regsPage25 : List RegDef :=
  [
  { base := 0x0940,  -- QP_ACTIVE_LO
    fields := [{ lo := 0, width := 32, ty := .ro }] },
  { base := 0x0941,  -- QP_ACTIVE_HI
    fields := [{ lo := 0, width := 32, ty := .ro }] },
  { base := 0x0942,  -- HQ_AGE
    fields := [{ lo := 8, width := 4, ty := .rw, rst := 0x7, vmax := 0x7 },
      { lo := 0, width := 8, ty := .rw, rst := 0x32 }] },
  { base := 0x0943,  -- HQ_DUP
    fields := [{ lo := 16, width := 16, ty := .rx },
      { lo := 0, width := 16, ty := .rx }] } ]

/-- Page 0x2C. -/
def regsPage2C : List RegDef :=
  [
  { base := 0x0B00,  -- LOG_STAT
    fields := [{ lo := 17, width := 1, ty := .ro },
      { lo := 16, width := 1, ty := .ro },
      { lo := 0, width := 14, ty := .ro }] },
  { base := 0x0B01,  -- LOG_SEQ
    fields := [{ lo := 0, width := 32, ty := .ro }] },
  { base := 0x0B02,  -- LOG_COUNT
    fields := [{ lo := 16, width := 13, ty := .ro },
      { lo := 0, width := 11, ty := .ro }] },
  { base := 0x0B03,  -- LOG_ERR
    fields := [{ lo := 24, width := 8, ty := .ro },
      { lo := 0, width := 16, ty := .rx }] },
  { base := 0x0B04,  -- IDL_STAT
    fields := [{ lo := 17, width := 1, ty := .w1c },
      { lo := 16, width := 1, ty := .w1c },
      { lo := 0, width := 9, ty := .ro }] },
  { base := 0x0B05, win := .path,  -- IDL_SEL
    fields := [{ lo := 0, width := 8, ty := .rw }] },
  { base := 0x0B06, count := 4,  -- IDL_DATA_0 and on
    fields := [{ lo := 0, width := 32, ty := .ro }] },
  { base := 0x0B0A,  -- IDL_CLR
    fields := [{ lo := 24, width := 8, ty := .wo },
      { lo := 8, width := 1, ty := .wo },
      { lo := 0, width := 8, ty := .wo }] } ]

/-- Page 0x2D. -/
def regsPage2D : List RegDef :=
  [
  { base := 0x0B40, expert := true,  -- LOG_INJECT
    fields := [{ lo := 24, width := 8, ty := .wo },
      { lo := 0, width := 1, ty := .wo }] },
  { base := 0x0B41, expert := true,  -- LOG_SHADOW
    fields := [{ lo := 0, width := 11, ty := .ro }] } ]

/-- Page 0x30. -/
def regsPage30 : List RegDef :=
  [
  { base := 0x0C00,  -- HMP_STAT
    fields := [{ lo := 24, width := 8, ty := .ro },
      { lo := 16, width := 8, ty := .ro },
      { lo := 12, width := 2, ty := .ro },
      { lo := 0, width := 12, ty := .ro, rst := 0x800 }] },
  { base := 0x0C01,  -- HMP_EVT
    fields := [{ lo := 0, width := 11, ty := .w1c }] },
  { base := 0x0C02,  -- HMP_THR
    fields := [{ lo := 24, width := 8, ty := .rw, rst := 0x10 },
      { lo := 12, width := 11, ty := .rw, rst := 0x100 },
      { lo := 0, width := 11, ty := .rw, rst := 0x40 }] },
  { base := 0x0C03, win := .path,  -- OWN_SEL
    fields := [{ lo := 0, width := 5, ty := .rw }] },
  { base := 0x0C04,  -- OWN_STAT
    fields := [{ lo := 16, width := 12, ty := .rx },
      { lo := 0, width := 12, ty := .ro }] },
  { base := 0x0C05,  -- OWN_AGE
    fields := [{ lo := 31, width := 1, ty := .ro },
      { lo := 16, width := 11, ty := .ro },
      { lo := 0, width := 16, ty := .ro }] },
  { base := 0x0C06,  -- AUDIT_CFG
    fields := [{ lo := 16, width := 1, ty := .rw },
      { lo := 8, width := 8, ty := .rw, rst := 0x32 },
      { lo := 0, width := 8, ty := .rw, rst := 0x64 }] },
  { base := 0x0C07,  -- AUDIT_RES
    fields := [{ lo := 24, width := 1, ty := .ro },
      { lo := 16, width := 8, ty := .ro },
      { lo := 0, width := 12, ty := .ro }] },
  { base := 0x0C08,  -- AUDIT_MASK
    fields := [{ lo := 0, width := 32, ty := .rw, rst := 0xFFFFFFBE }] },
  { base := 0x0C09,  -- HMP_ERR
    fields := [{ lo := 24, width := 8, ty := .rx },
      { lo := 16, width := 8, ty := .rx },
      { lo := 0, width := 16, ty := .rx }] } ]

/-- Page 0x31. -/
def regsPage31 : List RegDef :=
  [
  { base := 0x0C40, count := 16, expert := true,  -- OWN_LIMIT_0 and on
    fields := [{ lo := 16, width := 12, ty := .rw, vmax := 0x800 },
      { lo := 0, width := 12, ty := .rw, vmax := 0x800 }] },
  { base := 0x0C50, expert := true,  -- HMP_CTL
    fields := [{ lo := 24, width := 8, ty := .wo },
      { lo := 8, width := 2, ty := .wo },
      { lo := 0, width := 5, ty := .wo }] } ]

/-- Page 0x38. -/
def regsPage38 : List RegDef :=
  [
  { base := 0x0E00,  -- FAB_STAT
    fields := [{ lo := 16, width := 8, ty := .ro },
      { lo := 1, width := 1, ty := .ro },
      { lo := 0, width := 1, ty := .ro }] },
  { base := 0x0E01,  -- FAB_EVT
    fields := [{ lo := 5, width := 1, ty := .w1c },
      { lo := 4, width := 1, ty := .w1c },
      { lo := 3, width := 1, ty := .w1c },
      { lo := 2, width := 1, ty := .w1c },
      { lo := 1, width := 1, ty := .w1c },
      { lo := 0, width := 1, ty := .w1c }] },
  { base := 0x0E02, win := .path,  -- FQ_SEL
    fields := [{ lo := 0, width := 6, ty := .rw, vmax := 0x2F }] },
  { base := 0x0E03, win := .fq,  -- FQ_INFO
    fields := [{ lo := 28, width := 1, ty := .ro },
      { lo := 26, width := 2, ty := .ro },
      { lo := 24, width := 2, ty := .ro },
      { lo := 20, width := 3, ty := .ro },
      { lo := 0, width := 9, ty := .ro }] },
  { base := 0x0E04, win := .fq,  -- FQ_PTR
    fields := [{ lo := 16, width := 8, ty := .ro },
      { lo := 8, width := 8, ty := .ro },
      { lo := 0, width := 8, ty := .ro }] },
  { base := 0x0E05, win := .fq,  -- FQ_FILL
    fields := [{ lo := 16, width := 16, ty := .ro },
      { lo := 8, width := 8, ty := .ro },
      { lo := 0, width := 8, ty := .ro }] },
  { base := 0x0E06, win := .fq,  -- FQ_WM
    fields := [{ lo := 16, width := 12, ty := .rw },
      { lo := 0, width := 12, ty := .rw }] },
  { base := 0x0E07, win := .fq,  -- FQ_COUNT
    fields := [{ lo := 24, width := 8, ty := .rx },
      { lo := 16, width := 8, ty := .rx },
      { lo := 8, width := 8, ty := .rx },
      { lo := 0, width := 8, ty := .rx }] },
  { base := 0x0E08,  -- FQ_QERR_LO
    fields := [{ lo := 0, width := 32, ty := .w1c }] },
  { base := 0x0E09,  -- FQ_QERR_HI
    fields := [{ lo := 0, width := 32, ty := .w1c }] },
  { base := 0x0E0A,  -- FQ_WMSTATE_LO
    fields := [{ lo := 0, width := 32, ty := .ro }] },
  { base := 0x0E0B,  -- FQ_WMSTATE_HI
    fields := [{ lo := 0, width := 32, ty := .ro }] },
  { base := 0x0E0C,  -- FC_CFG
    fields := [{ lo := 8, width := 8, ty := .rw, rst := 0x5 },
      { lo := 1, width := 1, ty := .rw, rst := 0x1 },
      { lo := 0, width := 1, ty := .rw, rst := 0x1 }] },
  { base := 0x0E0D,  -- FC0_SEL_LO
    fields := [{ lo := 0, width := 32, ty := .rw, rst := 0x1 }] },
  { base := 0x0E0E,  -- FC0_SEL_HI
    fields := [{ lo := 0, width := 32, ty := .rw }] },
  { base := 0x0E0F,  -- FC1_SEL_LO
    fields := [{ lo := 0, width := 32, ty := .rw, rst := 0x400000 }] },
  { base := 0x0E10,  -- FC1_SEL_HI
    fields := [{ lo := 0, width := 32, ty := .rw }] } ]

/-- Page 0x39. -/
def regsPage39 : List RegDef :=
  [
  { base := 0x0E40, expert := true,  -- PACK_CFG
    fields := [{ lo := 0, width := 8, ty := .rw, rst := 0x8 }] },
  { base := 0x0E41, expert := true,  -- SPILL_CFG
    fields := [{ lo := 16, width := 4, ty := .rw, rst := 0x4, vmax := 0x8 },
      { lo := 12, width := 4, ty := .rw, rst := 0x4, vmax := 0x8 },
      { lo := 8, width := 4, ty := .rw, rst := 0x4, vmax := 0x8 },
      { lo := 4, width := 4, ty := .rw, rst := 0x4, vmax := 0x8 },
      { lo := 0, width := 4, ty := .rw, rst := 0x4, vmax := 0x8 }] },
  { base := 0x0E42, expert := true,  -- FQ_INJECT
    fields := [{ lo := 24, width := 8, ty := .wo },
      { lo := 0, width := 6, ty := .wo }] } ]

/-- Page 0x40 (and the same page of the other channels). -/
def regsPage40 : List RegDef :=
  [
  { base := 0x1000, count := 8, stride := 512,  -- CH_STAT
    fields := [{ lo := 24, width := 4, ty := .ro },
      { lo := 16, width := 6, ty := .ro },
      { lo := 14, width := 2, ty := .ro },
      { lo := 8, width := 4, ty := .ro },
      { lo := 6, width := 2, ty := .ro },
      { lo := 0, width := 3, ty := .ro }] },
  { base := 0x1001, count := 8, stride := 512,  -- CH_LIMIT
    fields := [{ lo := 9, width := 1, ty := .rw, rst := 0x1 },
      { lo := 8, width := 1, ty := .rw, rst := 0x1 },
      { lo := 0, width := 4, ty := .rw, rst := 0xD, vmax := 0xD }] },
  { base := 0x1002, count := 8, stride := 512,  -- CH_SCHED
    fields := [{ lo := 28, width := 3, ty := .rw, rst := 0x7 },
      { lo := 24, width := 4, ty := .rw, rst := 0x4, vmin := 0x1, vmax := 0x8 },
      { lo := 20, width := 3, ty := .rw, rst := 0x7 },
      { lo := 16, width := 3, ty := .rw, rst := 0x3 },
      { lo := 9, width := 1, ty := .rw, rst := 0x1 },
      { lo := 8, width := 1, ty := .rw, rst := 0x1 },
      { lo := 0, width := 8, ty := .rw, rst := 0x32 }] },
  { base := 0x1003, count := 8, stride := 512,  -- CH_SUSP
    fields := [{ lo := 31, width := 1, ty := .rw, rst := 0x1 },
      { lo := 28, width := 3, ty := .rw, rst := 0x5 },
      { lo := 24, width := 4, ty := .rw, rst := 0x4, vmin := 0x1, vmax := 0xF },
      { lo := 20, width := 4, ty := .rw, rst := 0x4, vmin := 0x1, vmax := 0xF },
      { lo := 8, width := 8, ty := .rw, rst := 0x32, vmin := 0x1, vmax := 0xFF },
      { lo := 0, width := 8, ty := .rw, rst := 0xA, vmin := 0x1, vmax := 0xFF }] },
  { base := 0x1004, count := 8, stride := 512,  -- CH_EVT
    fields := [{ lo := 0, width := 6, ty := .w1c }] },
  { base := 0x1005, count := 8, stride := 512,  -- CH_CE_MAP
    fields := [{ lo := 16, width := 16, ty := .ro },
      { lo := 0, width := 8, ty := .ro }] },
  { base := 0x1006, count := 8, stride := 512, win := .path,  -- CH_DIE_SEL
    fields := [{ lo := 0, width := 5, ty := .rw }] },
  { base := 0x1007, count := 8, stride := 512,  -- CH_DIE_INFO
    fields := [{ lo := 28, width := 4, ty := .ro },
      { lo := 24, width := 4, ty := .ro },
      { lo := 20, width := 2, ty := .ro },
      { lo := 16, width := 2, ty := .ro },
      { lo := 15, width := 1, ty := .ro },
      { lo := 14, width := 1, ty := .ro },
      { lo := 0, width := 2, ty := .ro }] },
  { base := 0x1008, count := 8, stride := 512,  -- CH_DIE_ID_LO
    fields := [{ lo := 0, width := 32, ty := .ro }] },
  { base := 0x1009, count := 8, stride := 512,  -- CH_DIE_ID_HI
    fields := [{ lo := 0, width := 32, ty := .ro }] },
  { base := 0x100A, count := 8, stride := 512,  -- CH_COUNT
    fields := [{ lo := 24, width := 8, ty := .rx },
      { lo := 16, width := 8, ty := .rx },
      { lo := 8, width := 8, ty := .rx },
      { lo := 0, width := 8, ty := .rx }] },
  { base := 0x100B, count := 8, stride := 512,  -- GUARD_STAT
    fields := [{ lo := 16, width := 11, ty := .ro },
      { lo := 11, width := 5, ty := .rx },
      { lo := 0, width := 11, ty := .ro }] } ]

/-- Page 0x41 (and the same page of the other channels). -/
def regsPage41 : List RegDef :=
  [
  { base := 0x1040, count := 8, stride := 512, expert := true, group := some 2,  -- CH_IF
    fields := [{ lo := 4, width := 2, ty := .rs },
      { lo := 0, width := 4, ty := .rs, vmax := 0xD }] },
  { base := 0x1041, count := 8, stride := 512, expert := true, group := some 2,  -- CH_DRV
    fields := [{ lo := 4, width := 3, ty := .rs, rst := 0x2, vmax := 0x4 },
      { lo := 0, width := 3, ty := .rs, rst := 0x1, vmax := 0x2 }] } ]

/-- Page 0x80 (and the same page of the other channels). -/
def regsPage80 : List RegDef :=
  [
  { base := 0x2000, count := 8, stride := 128,  -- SEQ_STAT
    fields := [{ lo := 16, width := 12, ty := .ro },
      { lo := 8, width := 4, ty := .ro },
      { lo := 6, width := 1, ty := .ro },
      { lo := 5, width := 1, ty := .ro },
      { lo := 4, width := 1, ty := .ro },
      { lo := 0, width := 3, ty := .ro }] },
  { base := 0x2001, count := 8, stride := 128,  -- SEQ_CTL
    fields := [{ lo := 0, width := 1, ty := .rw }] },
  { base := 0x2002, count := 8, stride := 128,  -- SEQ_EVT
    fields := [{ lo := 0, width := 8, ty := .w1c }] },
  { base := 0x2003, count := 8, stride := 128,  -- SEQ_FAULT
    fields := [{ lo := 31, width := 1, ty := .w1c },
      { lo := 16, width := 12, ty := .ro },
      { lo := 0, width := 4, ty := .ro }] },
  { base := 0x2004, count := 8, stride := 128,  -- SEQ_COUNT
    fields := [{ lo := 24, width := 8, ty := .rx },
      { lo := 16, width := 8, ty := .rx },
      { lo := 8, width := 8, ty := .rx },
      { lo := 0, width := 8, ty := .rx }] } ]

/-- Page 0x81 (and the same page of the other channels). -/
def regsPage81 : List RegDef :=
  [
  { base := 0x2040, count := 8, stride := 128, expert := true,  -- SEQ_VEC
    fields := [{ lo := 0, width := 12, ty := .rw }] },
  { base := 0x2041, count := 8, stride := 128, expert := true,  -- SEQ_DBG_CTL
    fields := [{ lo := 24, width := 8, ty := .wo },
      { lo := 0, width := 2, ty := .wo }] },
  { base := 0x2042, count := 8, stride := 128, expert := true,  -- SEQ_DBG_CFG
    fields := [{ lo := 3, width := 1, ty := .rw },
      { lo := 2, width := 1, ty := .rw },
      { lo := 1, width := 1, ty := .rw },
      { lo := 0, width := 1, ty := .rw }] },
  { base := 0x2043, count := 8, stride := 128, expert := true,  -- SEQ_BKPT
    fields := [{ lo := 16, width := 12, ty := .rw },
      { lo := 0, width := 12, ty := .rw }] },
  { base := 0x2044, count := 8, stride := 128, expert := true, win := .path,  -- SEQ_DBG_RSEL
    fields := [{ lo := 0, width := 5, ty := .rw, vmax := 0x15 }] },
  { base := 0x2045, count := 8, stride := 128, expert := true,  -- SEQ_DBG_RDATA
    fields := [{ lo := 0, width := 32, ty := .rw }] },
  { base := 0x2046, count := 8, stride := 128, expert := true, win := .path,  -- SEQ_PMEM_SEL
    fields := [{ lo := 0, width := 12, ty := .rw }] },
  { base := 0x2047, count := 8, stride := 128, expert := true,  -- SEQ_PMEM_DATA
    fields := [{ lo := 0, width := 32, ty := .ro }] } ]

/-- Page 0x90. -/
def regsPage90 : List RegDef :=
  [
  { base := 0x2400,  -- CODEC_STAT
    fields := [{ lo := 24, width := 8, ty := .ro },
      { lo := 8, width := 4, ty := .ro },
      { lo := 0, width := 4, ty := .ro }] },
  { base := 0x2401,  -- CODEC_EVT
    fields := [{ lo := 0, width := 4, ty := .w1c }] },
  { base := 0x2402,  -- CODEC_CFG
    fields := [{ lo := 24, width := 8, ty := .rw, rst := 0x40 },
      { lo := 16, width := 5, ty := .rw, rst := 0x18, vmin := 0x1, vmax := 0x1F },
      { lo := 8, width := 5, ty := .rw, rst := 0x14, vmin := 0x1, vmax := 0x1F }] },
  { base := 0x2403,  -- DEC_CNT_0
    fields := [{ lo := 16, width := 16, ty := .rx },
      { lo := 0, width := 16, ty := .rx }] },
  { base := 0x2404,  -- DEC_CNT_1
    fields := [{ lo := 16, width := 16, ty := .rx },
      { lo := 0, width := 16, ty := .rx }] },
  { base := 0x2405,  -- DEC_CNT_2
    fields := [{ lo := 16, width := 16, ty := .rx },
      { lo := 8, width := 8, ty := .rx },
      { lo := 0, width := 8, ty := .rx }] },
  { base := 0x2406,  -- DEC_PEAK
    fields := [{ lo := 16, width := 5, ty := .rx },
      { lo := 0, width := 16, ty := .rx }] },
  { base := 0x2407,  -- LAST_FAIL
    fields := [{ lo := 0, width := 32, ty := .ro }] },
  { base := 0x2408,  -- LAST_FAIL_CW
    fields := [{ lo := 4, width := 4, ty := .ro },
      { lo := 0, width := 3, ty := .ro }] } ]

/-- Page 0x92. -/
def regsPage92 : List RegDef :=
  [
  { base := 0x2480, count := 16, expert := true, group := some 10,  -- CW_LAYOUT_0 and on
    fields := [{ lo := 16, width := 16, ty := .ro },
      { lo := 2, width := 3, ty := .rs },
      { lo := 0, width := 2, ty := .rs, rst := 0x2 }] },
  { base := 0x2490, expert := true,  -- CODEC_CTL
    fields := [{ lo := 24, width := 8, ty := .wo },
      { lo := 0, width := 2, ty := .wo }] },
  { base := 0x2491, expert := true,  -- CODEC_TBL
    fields := [{ lo := 0, width := 2, ty := .ro }] } ]

/-- Page 0x98. -/
def regsPage98 : List RegDef :=
  [
  { base := 0x2600,  -- RTY_CFG
    fields := [{ lo := 16, width := 8, ty := .rw, rst := 0x2, vmin := 0x1, vmax := 0x40 },
      { lo := 8, width := 4, ty := .rw, rst := 0xF, vmin := 0x1, vmax := 0xF },
      { lo := 3, width := 1, ty := .rw },
      { lo := 2, width := 1, ty := .rw, rst := 0x1 },
      { lo := 1, width := 1, ty := .rw, rst := 0x1 },
      { lo := 0, width := 1, ty := .rw, rst := 0x1 }] },
  { base := 0x2601, win := .path,  -- RTY_LEARN_SEL
    fields := [{ lo := 5, width := 3, ty := .rw },
      { lo := 0, width := 5, ty := .rw }] },
  { base := 0x2602,  -- RTY_LEARN
    fields := [{ lo := 0, width := 4, ty := .ro }] },
  { base := 0x2603,  -- RTY_COUNT
    fields := [{ lo := 16, width := 16, ty := .rx },
      { lo := 0, width := 16, ty := .rx }] } ]

/-- Page 0x99. -/
def regsPage99 : List RegDef :=
  [
  { base := 0x2640, expert := true, group := some 10,  -- RND_CFG
    fields := [{ lo := 31, width := 1, ty := .rs, rst := 0x1 },
      { lo := 0, width := 31, ty := .rs, rst := 0x2545F491 }] },
  { base := 0x2650, count := 16, expert := true, group := some 10,  -- RTY_CLASS_0 and on
    fields := [{ lo := 16, width := 8, ty := .rs, rst := 0x89 },
      { lo := 8, width := 4, ty := .rs, rst := 0xF, vmin := 0x1, vmax := 0xF },
      { lo := 0, width := 6, ty := .rs }] } ]

/-- Page 0x9A. -/
def regsPage9A : List RegDef :=
  [
  { base := 0x2680, count := 64, expert := true, group := some 10,  -- RTY_ENTRY_0 and on
    fields := [{ lo := 24, width := 8, ty := .rs },
      { lo := 16, width := 8, ty := .rs },
      { lo := 8, width := 8, ty := .rs },
      { lo := 0, width := 8, ty := .rs }] } ]

/-- Page 0x9B. -/
def regsPage9B : List RegDef :=
  [
  { base := 0x26C0, expert := true, group := some 10,  -- SOFT_LLR_3
    fields := [{ lo := 0, width := 20, ty := .rs, rst := 0x8ECAF }] },
  { base := 0x26C1, expert := true, group := some 10,  -- SOFT_LLR_5
    fields := [{ lo := 0, width := 30, ty := .rs, rst := 0x237E8D2F }] } ]

/-- Page 0x9C. -/
def regsPage9C : List RegDef :=
  [
  { base := 0x2700,  -- MAP_STAT
    fields := [{ lo := 28, width := 4, ty := .ro },
      { lo := 16, width := 10, ty := .ro },
      { lo := 0, width := 9, ty := .ro }] },
  { base := 0x2701,  -- MAP_EVT
    fields := [{ lo := 0, width := 3, ty := .w1c }] },
  { base := 0x2702,  -- MAP_COUNT
    fields := [{ lo := 16, width := 16, ty := .rx },
      { lo := 0, width := 16, ty := .rx }] },
  { base := 0x2703,  -- MAP_FAULT_US
    fields := [{ lo := 16, width := 16, ty := .rx },
      { lo := 0, width := 16, ty := .ro }] },
  { base := 0x2704,  -- MAP_CTL
    fields := [{ lo := 24, width := 8, ty := .wo },
      { lo := 8, width := 3, ty := .wo },
      { lo := 7, width := 1, ty := .wo },
      { lo := 0, width := 4, ty := .wo }] },
  { base := 0x2705,  -- MAP_TBL
    fields := [{ lo := 0, width := 2, ty := .ro }] } ]

/-- Page 0x9D. -/
def regsPage9D : List RegDef :=
  [
  { base := 0x2740, count := 16,  -- VOL_STAT_0 and on
    fields := [{ lo := 27, width := 1, ty := .ro },
      { lo := 26, width := 1, ty := .ro },
      { lo := 17, width := 9, ty := .ro },
      { lo := 0, width := 17, ty := .ro }] } ]

/-- Page 0x9E. -/
def regsPage9E : List RegDef :=
  [
  { base := 0x2780, expert := true, win := .path,  -- VOL_SEL
    fields := [{ lo := 0, width := 4, ty := .rw }] },
  { base := 0x2781, expert := true, group := some 11, win := .vol,  -- VOL_CFG
    fields := [{ lo := 6, width := 2, ty := .rs, vmax := 0x2 },
      { lo := 5, width := 1, ty := .rs },
      { lo := 4, width := 1, ty := .rs },
      { lo := 0, width := 2, ty := .rs, vmax := 0x2 }] },
  { base := 0x2782, expert := true, group := some 11, win := .vol,  -- VOL_LEN
    fields := [{ lo := 0, width := 26, ty := .rs, vmax := 0x2000000 }] },
  { base := 0x2783, expert := true, group := some 11, win := .vol,  -- VOL_MAP
    fields := [{ lo := 29, width := 3, ty := .rs },
      { lo := 24, width := 5, ty := .rs },
      { lo := 0, width := 24, ty := .rs }] },
  { base := 0x2784, expert := true, group := some 11, win := .vol,  -- VOL_SAVE
    fields := [{ lo := 24, width := 8, ty := .rs },
      { lo := 12, width := 12, ty := .rs },
      { lo := 0, width := 12, ty := .rs }] } ]

/-- Page 0xA4. -/
def regsPageA4 : List RegDef :=
  [
  { base := 0x2900,  -- STR_STAT
    fields := [{ lo := 0, width := 32, ty := .ro }] },
  { base := 0x2901,  -- STR_EVT
    fields := [{ lo := 0, width := 2, ty := .w1c }] },
  { base := 0x2902,  -- STR_CFG
    fields := [{ lo := 16, width := 9, ty := .rw, rst := 0x80 },
      { lo := 0, width := 8, ty := .rw, rst := 0x40, vmin := 0x1, vmax := 0xFF }] },
  { base := 0x2903, win := .path,  -- STR_SEL
    fields := [{ lo := 0, width := 5, ty := .rw }] },
  { base := 0x2904,  -- STR_INFO_0
    fields := [{ lo := 30, width := 2, ty := .ro },
      { lo := 24, width := 4, ty := .ro },
      { lo := 16, width := 6, ty := .ro },
      { lo := 0, width := 16, ty := .ro }] },
  { base := 0x2905,  -- STR_INFO_1
    fields := [{ lo := 0, width := 32, ty := .ro }] },
  { base := 0x2906,  -- STR_INFO_2
    fields := [{ lo := 16, width := 16, ty := .ro },
      { lo := 0, width := 10, ty := .ro }] },
  { base := 0x2907,  -- STR_INFO_3
    fields := [{ lo := 0, width := 32, ty := .ro }] },
  { base := 0x2908,  -- STR_CTL
    fields := [{ lo := 24, width := 8, ty := .wo },
      { lo := 8, width := 2, ty := .wo }] } ]

/-- Page 0xA8. -/
def regsPageA8 : List RegDef :=
  [
  { base := 0x2A00,  -- INF_STAT
    fields := [{ lo := 16, width := 4, ty := .ro },
      { lo := 0, width := 14, ty := .ro }] },
  { base := 0x2A01,  -- INF_EVT
    fields := [{ lo := 0, width := 2, ty := .w1c }] },
  { base := 0x2A02, group := some 12,  -- INF_CFG
    fields := [{ lo := 2, width := 1, ty := .rs },
      { lo := 1, width := 1, ty := .rs, rst := 0x1 },
      { lo := 0, width := 1, ty := .rs, rst := 0x1 }] },
  { base := 0x2A03, count := 4, group := some 12,  -- INF_DICT_ALB_0 and on
    fields := [{ lo := 0, width := 32, ty := .rs }] },
  { base := 0x2A07, count := 4, group := some 12,  -- INF_DICT_LEN_0 and on
    fields := [{ lo := 28, width := 4, ty := .rs },
      { lo := 0, width := 17, ty := .rs, vmax := 0x10000 }] },
  { base := 0x2A0B,  -- INF_CTL
    fields := [{ lo := 24, width := 8, ty := .wo },
      { lo := 8, width := 2, ty := .wo },
      { lo := 0, width := 4, ty := .wo }] },
  { base := 0x2A0C,  -- INF_DICT_STAT
    fields := [{ lo := 0, width := 16, ty := .ro }] },
  { base := 0x2A0D,  -- INF_COUNT
    fields := [{ lo := 16, width := 16, ty := .rx },
      { lo := 0, width := 16, ty := .rx }] } ]

/-- Page 0xAC. -/
def regsPageAC : List RegDef :=
  [
  { base := 0x2B00,  -- PROT_STAT
    fields := [{ lo := 20, width := 4, ty := .ro },
      { lo := 16, width := 4, ty := .ro },
      { lo := 12, width := 4, ty := .ro },
      { lo := 8, width := 4, ty := .ro },
      { lo := 4, width := 1, ty := .ro },
      { lo := 3, width := 1, ty := .ro },
      { lo := 0, width := 2, ty := .ro }] },
  { base := 0x2B01,  -- PROT_EVT
    fields := [{ lo := 0, width := 8, ty := .w1c }] },
  { base := 0x2B02,  -- PROT_CTL
    fields := [{ lo := 24, width := 8, ty := .wo },
      { lo := 0, width := 3, ty := .wo }] },
  { base := 0x2B03,  -- PROT_RES
    fields := [{ lo := 8, width := 1, ty := .ro },
      { lo := 0, width := 4, ty := .ro }] },
  { base := 0x2B04,  -- KEY_STAT
    fields := [{ lo := 0, width := 16, ty := .ro }] },
  { base := 0x2B05,  -- KEY_BIND_LO
    fields := [{ lo := 0, width := 32, ty := .ro }] },
  { base := 0x2B06,  -- KEY_BIND_HI
    fields := [{ lo := 0, width := 32, ty := .ro }] },
  { base := 0x2B07,  -- IMP_STAT
    fields := [{ lo := 16, width := 16, ty := .ro },
      { lo := 8, width := 8, ty := .ro },
      { lo := 0, width := 8, ty := .ro }] },
  { base := 0x2B08,  -- IMP_REC
    fields := [{ lo := 16, width := 1, ty := .ro },
      { lo := 0, width := 7, ty := .ro }] },
  { base := 0x2B09, win := .path,  -- CTR_SEL
    fields := [{ lo := 0, width := 4, ty := .rw }] },
  { base := 0x2B0A,  -- CTR_LO
    fields := [{ lo := 0, width := 32, ty := .ro }] },
  { base := 0x2B0B,  -- CTR_HI
    fields := [{ lo := 0, width := 32, ty := .ro }] },
  { base := 0x2B0C, count := 8,  -- IMP_HASH_0 and on
    fields := [{ lo := 0, width := 32, ty := .ro }] },
  { base := 0x2B14, count := 16,  -- DEVPUB_0 and on
    fields := [{ lo := 0, width := 32, ty := .ro }] } ]

/-- Page 0xAE. -/
def regsPageAE : List RegDef :=
  [
  { base := 0x2B80, expert := true,  -- IMP_CFG
    fields := [{ lo := 24, width := 8, ty := .rw, rst := 0x28 },
      { lo := 16, width := 8, ty := .rw },
      { lo := 0, width := 12, ty := .rw, rst := 0x1 }] },
  { base := 0x2B81, expert := true,  -- AUTH_CFG
    fields := [{ lo := 0, width := 16, ty := .rw, rst := 0x3E8 }] },
  { base := 0x2B82, count := 16, expert := true,  -- WRAP_KEY_0 and on
    fields := [{ lo := 0, width := 32, ty := .wo }] },
  { base := 0x2B92, expert := true,  -- WRAP_TITLE_LO
    fields := [{ lo := 0, width := 32, ty := .wo }] },
  { base := 0x2B93, expert := true,  -- WRAP_TITLE_HI
    fields := [{ lo := 0, width := 32, ty := .wo }] },
  { base := 0x2B94, count := 18, expert := true,  -- WRAP_OUT_0 and on
    fields := [{ lo := 0, width := 32, ty := .ro }] } ]

/-- Page 0xB4. -/
def regsPageB4 : List RegDef :=
  [
  { base := 0x2D00,  -- NOR_STAT
    fields := [{ lo := 24, width := 8, ty := .ro },
      { lo := 16, width := 8, ty := .ro, rst := 0xFF },
      { lo := 10, width := 1, ty := .rx },
      { lo := 9, width := 1, ty := .ro },
      { lo := 8, width := 1, ty := .ro },
      { lo := 0, width := 2, ty := .ro }] },
  { base := 0x2D01,  -- NOR_EVT
    fields := [{ lo := 0, width := 7, ty := .w1c }] },
  { base := 0x2D02,  -- NOR_CFG
    fields := [{ lo := 8, width := 1, ty := .rw, rst := 0x1 },
      { lo := 0, width := 8, ty := .rw, rst := 0xA, vmin := 0x1, vmax := 0xFF }] },
  { base := 0x2D03, win := .path,  -- NOR_WEAR_SEL
    fields := [{ lo := 0, width := 8, ty := .rw }] },
  { base := 0x2D04,  -- NOR_WEAR
    fields := [{ lo := 31, width := 1, ty := .ro },
      { lo := 0, width := 31, ty := .ro }] },
  { base := 0x2D05,  -- JNL_STAT
    fields := [{ lo := 24, width := 8, ty := .ro },
      { lo := 16, width := 8, ty := .rx },
      { lo := 0, width := 10, ty := .ro }] },
  { base := 0x2D06,  -- NOR_PW_STAT
    fields := [{ lo := 12, width := 1, ty := .ro },
      { lo := 8, width := 4, ty := .ro },
      { lo := 0, width := 3, ty := .ro }] },
  { base := 0x2D07,  -- NOR_PROT_0
    fields := [{ lo := 0, width := 8, ty := .ro }] },
  { base := 0x2D08,  -- NOR_PROT_1
    fields := [{ lo := 0, width := 32, ty := .ro }] },
  { base := 0x2D09,  -- NOR_PROT_2
    fields := [{ lo := 0, width := 31, ty := .ro }] },
  { base := 0x2D0A,  -- NOR_WP_0
    fields := [{ lo := 0, width := 8, ty := .ro }] },
  { base := 0x2D0B,  -- NOR_WP_1
    fields := [{ lo := 0, width := 32, ty := .ro }] },
  { base := 0x2D0C,  -- NOR_WP_2
    fields := [{ lo := 0, width := 31, ty := .ro }] } ]

/-- Page 0xB5. -/
def regsPageB5 : List RegDef :=
  [
  { base := 0x2D40, expert := true, win := .path,  -- NOR_ADDR
    fields := [{ lo := 3, width := 20, ty := .rw }] },
  { base := 0x2D41, expert := true, win := .path,  -- NOR_WDATA_LO
    fields := [{ lo := 0, width := 32, ty := .wo }] },
  { base := 0x2D42, expert := true, win := .path,  -- NOR_WDATA_HI
    fields := [{ lo := 0, width := 32, ty := .wo }] },
  { base := 0x2D43, expert := true,  -- NOR_RDATA_LO
    fields := [{ lo := 0, width := 32, ty := .ro }] },
  { base := 0x2D44, expert := true,  -- NOR_RDATA_HI
    fields := [{ lo := 0, width := 32, ty := .ro }] },
  { base := 0x2D45, count := 4, expert := true, win := .path,  -- NOR_PASS_0 and on
    fields := [{ lo := 0, width := 32, ty := .wo }] },
  { base := 0x2D4B, count := 4, expert := true, win := .path,  -- NOR_PW_NEW_0 and on
    fields := [{ lo := 0, width := 32, ty := .wo }] },
  { base := 0x2D49, expert := true,  -- NOR_CTL
    fields := [{ lo := 24, width := 8, ty := .wo },
      { lo := 16, width := 8, ty := .wo },
      { lo := 0, width := 4, ty := .wo }] },
  { base := 0x2D4A, expert := true, win := .path,  -- NOR_RES
    fields := [{ lo := 16, width := 1, ty := .ro },
      { lo := 8, width := 8, ty := .ro },
      { lo := 0, width := 8, ty := .ro }] } ]

/-- Page 0xB6. -/
def regsPageB6 : List RegDef :=
  [
  { base := 0x2D80, expert := true, win := .path,  -- OTP_SEL
    fields := [{ lo := 8, width := 4, ty := .rw },
      { lo := 0, width := 5, ty := .rw }] },
  { base := 0x2D81, expert := true,  -- OTP_DATA
    fields := [{ lo := 0, width := 32, ty := .ro }] },
  { base := 0x2D82, expert := true, win := .path,  -- OTP_WDATA
    fields := [{ lo := 0, width := 32, ty := .wo }] },
  { base := 0x2D83, expert := true,  -- OTP_CTL
    fields := [{ lo := 24, width := 8, ty := .wo },
      { lo := 0, width := 2, ty := .wo }] },
  { base := 0x2D84, expert := true, win := .path,  -- OTP_RES
    fields := [{ lo := 8, width := 1, ty := .ro },
      { lo := 0, width := 4, ty := .ro }] },
  { base := 0x2D85, expert := true,  -- OTP_LOCKS
    fields := [{ lo := 0, width := 32, ty := .ro }] } ]

/-- Page 0xB8. -/
def regsPageB8 : List RegDef :=
  [
  { base := 0x2E00,  -- PS_STAT
    fields := [{ lo := 31, width := 1, ty := .w1c },
      { lo := 16, width := 12, ty := .ro },
      { lo := 0, width := 12, ty := .ro }] },
  { base := 0x2E01,  -- PS_ERR
    fields := [{ lo := 16, width := 16, ty := .rx },
      { lo := 0, width := 16, ty := .rx }] },
  { base := 0x2E02, win := .path,  -- PS_ADDR
    fields := [{ lo := 31, width := 1, ty := .rw },
      { lo := 2, width := 18, ty := .rw }] },
  { base := 0x2E03,  -- PS_DATA
    fields := [{ lo := 0, width := 32, ty := .rw }] } ]

/-- Page 0xBC. -/
def regsPageBC : List RegDef :=
  [
  { base := 0x2F00,  -- CAL_STAT
    fields := [{ lo := 24, width := 8, ty := .ro },
      { lo := 16, width := 8, ty := .ro },
      { lo := 12, width := 4, ty := .ro },
      { lo := 10, width := 2, ty := .ro },
      { lo := 9, width := 1, ty := .ro },
      { lo := 8, width := 1, ty := .ro },
      { lo := 0, width := 8, ty := .ro }] },
  { base := 0x2F01,  -- CAL_EVT
    fields := [{ lo := 4, width := 1, ty := .w1c },
      { lo := 3, width := 1, ty := .w1c },
      { lo := 2, width := 1, ty := .w1c },
      { lo := 1, width := 1, ty := .w1c },
      { lo := 0, width := 1, ty := .w1c }] },
  { base := 0x2F02,  -- CAL_CFG
    fields := [{ lo := 31, width := 1, ty := .rw, rst := 0x1 },
      { lo := 30, width := 1, ty := .rw, rst := 0x1 },
      { lo := 16, width := 8, ty := .rw, rst := 0x28, vmin := 0x8, vmax := 0x80 },
      { lo := 8, width := 8, ty := .rw, rst := 0xA, vmin := 0x1, vmax := 0x40 }] },
  { base := 0x2F03,  -- CAL_TRACK
    fields := [{ lo := 16, width := 16, ty := .rw, rst := 0x32, vmin := 0x1, vmax := 0xFFFF },
      { lo := 0, width := 16, ty := .rw, rst := 0x64 }] },
  { base := 0x2F04,  -- CAL_CTL
    fields := [{ lo := 24, width := 8, ty := .wo },
      { lo := 16, width := 8, ty := .wo },
      { lo := 8, width := 1, ty := .wo },
      { lo := 0, width := 3, ty := .wo }] },
  { base := 0x2F05, win := .path,  -- CAL_RES
    fields := [{ lo := 8, width := 1, ty := .ro },
      { lo := 0, width := 4, ty := .ro }] },
  { base := 0x2F06, count := 2,  -- CAL_SNAP_0 and on
    fields := [{ lo := 31, width := 1, ty := .ro },
      { lo := 16, width := 8, ty := .ro },
      { lo := 0, width := 16, ty := .ro }] },
  { base := 0x2F08,  -- CAL_IMPORT
    fields := [{ lo := 6, width := 11, ty := .rw }] },
  { base := 0x2F09,  -- TRIM_STAT
    fields := [{ lo := 16, width := 16, ty := .ro },
      { lo := 8, width := 6, ty := .ro },
      { lo := 0, width := 7, ty := .ro }] } ]

/-- Page 0xBD. -/
def regsPageBD : List RegDef :=
  [
  { base := 0x2F48,  -- CAL_LN
    fields := [{ lo := 24, width := 8, ty := .ro },
      { lo := 16, width := 4, ty := .ro },
      { lo := 12, width := 4, ty := .ro }] },
  { base := 0x2F40, count := 8,  -- CAL_CH_0 and on
    fields := [{ lo := 24, width := 8, ty := .ro },
      { lo := 16, width := 8, ty := .ro },
      { lo := 12, width := 4, ty := .ro },
      { lo := 11, width := 1, ty := .ro },
      { lo := 10, width := 1, ty := .ro },
      { lo := 8, width := 2, ty := .ro },
      { lo := 0, width := 8, ty := .rx }] } ]

/-- Page 0xBE. -/
def regsPageBE : List RegDef :=
  [
  { base := 0x2F80, expert := true, win := .path,  -- CAL_SEL
    fields := [{ lo := 4, width := 3, ty := .rw },
      { lo := 0, width := 3, ty := .rw }] },
  { base := 0x2F81, count := 2, expert := true, group := some 2, win := .cal,  -- CAL_RDQ_0 and on
    fields := [{ lo := 0, width := 32, ty := .rs }] },
  { base := 0x2F83, count := 2, expert := true, group := some 2, win := .cal,  -- CAL_WDQ_0 and on
    fields := [{ lo := 0, width := 32, ty := .rs }] },
  { base := 0x2F85, expert := true, group := some 2, win := .cal,  -- CAL_DQS
    fields := [{ lo := 24, width := 7, ty := .rs, vmax := 0x50 },
      { lo := 16, width := 8, ty := .rs },
      { lo := 8, width := 8, ty := .rs },
      { lo := 0, width := 8, ty := .rs }] },
  { base := 0x2F86, expert := true, group := some 2, win := .cal,  -- CAL_DOFS
    fields := [{ lo := 0, width := 32, ty := .rs }] } ]

/-- Page 0xBF. -/
def regsPageBF : List RegDef :=
  [
  { base := 0x2FC0, expert := true, win := .path,  -- CAL_LN_SEL
    fields := [{ lo := 4, width := 2, ty := .rw, rst := 0x3, vmin := 0x2, vmax := 0x3 },
      { lo := 0, width := 2, ty := .rw }] },
  { base := 0x2FC1, expert := true, group := some 0, win := .ln,  -- CAL_LN_EQ
    fields := [{ lo := 24, width := 8, ty := .rs },
      { lo := 16, width := 8, ty := .rs },
      { lo := 8, width := 8, ty := .rs },
      { lo := 0, width := 5, ty := .rs }] } ]

/-- Page 0xC4. -/
def regsPageC4 : List RegDef :=
  [
  { base := 0x3100,  -- RATION_STAT
    fields := [{ lo := 31, width := 1, ty := .ro },
      { lo := 30, width := 1, ty := .ro },
      { lo := 29, width := 1, ty := .ro },
      { lo := 28, width := 1, ty := .ro },
      { lo := 0, width := 8, ty := .ro }] },
  { base := 0x3101,  -- RATION_BAL
    fields := [{ lo := 0, width := 32, ty := .ro }] },
  { base := 0x3102, group := some 13,  -- RATION_CFG
    fields := [{ lo := 16, width := 16, ty := .rs, rst := 0xFA0, vmin := 0x1F4, vmax := 0x2710 },
      { lo := 8, width := 4, ty := .rs, rst := 0x8 },
      { lo := 0, width := 8, ty := .rs, rst := 0x3C, vmin := 0x1, vmax := 0xFF }] },
  { base := 0x3103, group := some 13,  -- RATION_HU
    fields := [{ lo := 28, width := 4, ty := .rs, rst := 0x4 },
      { lo := 16, width := 12, ty := .rs, rst := 0xFA },
      { lo := 0, width := 16, ty := .rs, rst := 0x5DC }] },
  { base := 0x3104,  -- RATION_HU_STAT
    fields := [{ lo := 24, width := 8, ty := .ro },
      { lo := 0, width := 24, ty := .ro }] },
  { base := 0x3105,  -- RATION_EVT
    fields := [{ lo := 3, width := 1, ty := .w1c },
      { lo := 2, width := 1, ty := .w1c },
      { lo := 1, width := 1, ty := .w1c },
      { lo := 0, width := 1, ty := .w1c }] },
  { base := 0x3106,  -- RATION_WAIT
    fields := [{ lo := 16, width := 16, ty := .rw, rst := 0x1F4 },
      { lo := 0, width := 16, ty := .rw, rst := 0xC8 }] },
  { base := 0x3107,  -- RATION_ISNS
    fields := [{ lo := 16, width := 8, ty := .rw, rst := 0x55, vmin := 0x32, vmax := 0x64 },
      { lo := 0, width := 10, ty := .rw, rst := 0x64, vmin := 0x1, vmax := 0x3E8 }] },
  { base := 0x3108,  -- RATION_MEAS
    fields := [{ lo := 16, width := 16, ty := .ro },
      { lo := 0, width := 16, ty := .ro }] },
  { base := 0x3109,  -- RATION_STATS
    fields := [{ lo := 16, width := 16, ty := .rx },
      { lo := 0, width := 16, ty := .rx }] } ]

/-- Page 0xC5. -/
def regsPageC5 : List RegDef :=
  [
  { base := 0x3140, expert := true, win := .path,  -- COST_SEL
    fields := [{ lo := 0, width := 7, ty := .rw, vmax := 0x42 }] },
  { base := 0x3141, expert := true, win := .cost,  -- COST_E
    fields := [{ lo := 0, width := 24, ty := .rw }] },
  { base := 0x3142, expert := true, win := .cost,  -- COST_D
    fields := [{ lo := 0, width := 16, ty := .rw, rst := 0x1, vmin := 0x1, vmax := 0xFFFF }] },
  { base := 0x3143, expert := true,  -- RATION_CTL
    fields := [{ lo := 24, width := 8, ty := .wo },
      { lo := 12, width := 4, ty := .wo },
      { lo := 0, width := 2, ty := .wo }] },
  { base := 0x3144, expert := true,  -- RATION_CAL_STAT
    fields := [{ lo := 8, width := 1, ty := .ro },
      { lo := 0, width := 4, ty := .ro }] },
  { base := 0x3145, expert := true,  -- RATION_TBL
    fields := [{ lo := 0, width := 2, ty := .ro }] },
  { base := 0x3146, expert := true,  -- RATION_CAL_ADDR
    fields := [{ lo := 0, width := 32, ty := .rw }] } ]

/-- Page 0xC8. -/
def regsPageC8 : List RegDef :=
  [
  { base := 0x3200,  -- CASC_STAT
    fields := [{ lo := 16, width := 16, ty := .ro },
      { lo := 9, width := 1, ty := .ro },
      { lo := 8, width := 1, ty := .ro },
      { lo := 0, width := 4, ty := .ro }] },
  { base := 0x3201,  -- CASC_EVT
    fields := [{ lo := 0, width := 5, ty := .w1c }] },
  { base := 0x3202, win := .path,  -- CASC_MSEL
    fields := [{ lo := 0, width := 2, ty := .rw, rst := 0x1, vmin := 0x1, vmax := 0x3 }] },
  { base := 0x3203,  -- CASC_MINFO
    fields := [{ lo := 16, width := 16, ty := .ro },
      { lo := 12, width := 4, ty := .ro },
      { lo := 8, width := 4, ty := .ro },
      { lo := 1, width := 1, ty := .ro },
      { lo := 0, width := 1, ty := .ro }] },
  { base := 0x3204,  -- CASC_CTL
    fields := [{ lo := 24, width := 8, ty := .wo },
      { lo := 8, width := 2, ty := .wo },
      { lo := 0, width := 2, ty := .wo }] },
  { base := 0x3205,  -- CASC_COUNT
    fields := [{ lo := 16, width := 16, ty := .rx },
      { lo := 8, width := 8, ty := .rx },
      { lo := 0, width := 8, ty := .rx }] } ]

/-- Page 0xC9. -/
def regsPageC9 : List RegDef :=
  [
  { base := 0x3240, expert := true, group := some 1,  -- CASC_CFG
    fields := [{ lo := 4, width := 1, ty := .rs },
      { lo := 0, width := 2, ty := .rs, rst := 0x3, vmin := 0x1, vmax := 0x3 }] },
  { base := 0x3241, expert := true, group := some 1,  -- CASC_RATION
    fields := [{ lo := 31, width := 1, ty := .rs },
      { lo := 0, width := 16, ty := .rs, rst := 0x1111 }] },
  { base := 0x3242, count := 16, expert := true, group := some 1,  -- CASC_VOL_0 and on
    fields := [{ lo := 4, width := 4, ty := .rs, vmax := 0x8 },
      { lo := 0, width := 4, ty := .rs, rst := 0x1, vmin := 0x1, vmax := 0xF }] },
  { base := 0x3252, count := 4, expert := true,  -- CASC_QBIND_0 and on
    fields := [{ lo := 0, width := 32, ty := .rw }] } ]

/-- Page 0xCC. -/
def regsPageCC : List RegDef :=
  [
  { base := 0x3300, win := .path,  -- TP_SEL
    fields := [{ lo := 0, width := 8, ty := .rw }] },
  { base := 0x3301, win := .tp,  -- TP_STAT
    fields := [{ lo := 8, width := 1, ty := .ro },
      { lo := 4, width := 1, ty := .ro },
      { lo := 0, width := 4, ty := .ro }] },
  { base := 0x3302, win := .tp,  -- TP_ERRS
    fields := [{ lo := 0, width := 32, ty := .ro }] },
  { base := 0x3303, win := .tp,  -- TP_BITS_LO
    fields := [{ lo := 0, width := 32, ty := .ro }] },
  { base := 0x3304, win := .tp,  -- TP_BITS_HI
    fields := [{ lo := 0, width := 16, ty := .ro }] },
  { base := 0x3305, win := .tp,  -- TP_SYNC
    fields := [{ lo := 0, width := 16, ty := .ro }] },
  { base := 0x3306,  -- TP_RUNNING
    fields := [{ lo := 16, width := 2, ty := .ro },
      { lo := 8, width := 8, ty := .ro },
      { lo := 0, width := 4, ty := .ro }] },
  { base := 0x3307,  -- TP_EVT
    fields := [{ lo := 0, width := 2, ty := .w1c }] } ]

/-- Page 0xCD. -/
def regsPageCD : List RegDef :=
  [
  { base := 0x3340, expert := true, win := .tp,  -- TP_CFG
    fields := [{ lo := 16, width := 16, ty := .rw },
      { lo := 0, width := 8, ty := .rw, rst := 0x4 }] },
  { base := 0x3341, expert := true,  -- TP_CTL
    fields := [{ lo := 24, width := 8, ty := .wo },
      { lo := 16, width := 8, ty := .wo },
      { lo := 0, width := 2, ty := .wo }] },
  { base := 0x3342, expert := true,  -- BIST_CTL
    fields := [{ lo := 24, width := 8, ty := .wo },
      { lo := 8, width := 1, ty := .wo },
      { lo := 0, width := 8, ty := .wo }] },
  { base := 0x3343, expert := true,  -- BIST_STAT
    fields := [{ lo := 8, width := 8, ty := .ro },
      { lo := 4, width := 4, ty := .ro },
      { lo := 0, width := 4, ty := .ro }] } ]

/-- Every page that holds registers, by the number of its first register's page (the pages of channels and sequencers
1 to 7 are those of channel and sequencer 0). -/
def regPages : List (Nat × List RegDef) :=
  [(0x00, regsPage00), (0x01, regsPage01), (0x02, regsPage02), (0x03, regsPage03), (0x04, regsPage04), (0x05, regsPage05), (0x06, regsPage06), (0x08, regsPage08), (0x09, regsPage09), (0x0A, regsPage0A), (0x10, regsPage10), (0x14, regsPage14), (0x15, regsPage15), (0x16, regsPage16), (0x18, regsPage18), (0x19, regsPage19), (0x1A, regsPage1A), (0x20, regsPage20), (0x21, regsPage21), (0x24, regsPage24), (0x25, regsPage25), (0x2C, regsPage2C), (0x2D, regsPage2D), (0x30, regsPage30), (0x31, regsPage31), (0x38, regsPage38), (0x39, regsPage39), (0x40, regsPage40), (0x41, regsPage41), (0x80, regsPage80), (0x81, regsPage81), (0x90, regsPage90), (0x92, regsPage92), (0x98, regsPage98), (0x99, regsPage99), (0x9A, regsPage9A), (0x9B, regsPage9B), (0x9C, regsPage9C), (0x9D, regsPage9D), (0x9E, regsPage9E), (0xA4, regsPageA4), (0xA8, regsPageA8), (0xAC, regsPageAC), (0xAE, regsPageAE), (0xB4, regsPageB4), (0xB5, regsPageB5), (0xB6, regsPageB6), (0xB8, regsPageB8), (0xBC, regsPageBC), (0xBD, regsPageBD), (0xBE, regsPageBE), (0xBF, regsPageBF), (0xC4, regsPageC4), (0xC5, regsPageC5), (0xC8, regsPageC8), (0xC9, regsPageC9), (0xCC, regsPageCC), (0xCD, regsPageCD)]

/-- The page under which the table keeps the registers of page `p`. -/
def tablePage (p : Nat) : Nat :=
  if 0x40 ≤ p ∧ p < 0x80 then 0x40 + p % 8
  else if 0x80 ≤ p ∧ p < 0x90 then 0x80 + p % 2
  else if 0x0A ≤ p ∧ p < 0x10 then 0x0A
  else p

/-- Does the run `d` cover address `a`? -/
def RegDef.covers (d : RegDef) (a : Nat) : Bool :=
  Nat.ble d.base a && Nat.beq ((a - d.base) % d.stride) 0 && Nat.blt ((a - d.base) / d.stride) d.count

/-- The register at address `a`; none for a reserved register (R8). -/
def regDef? (a : Nat) : Option RegDef :=
  match regPages.find? (fun p => Nat.beq p.1 (tablePage (a / 64))) with
  | some p => p.2.find? (fun d => d.covers a)
  | none => none

end Sys2Proof.Machine
end

