-- ==== Sys2Proof/Machine/Fields.lean ====
section
/-!
DEFINITION. The names of the register fields, as the register tables of spec/ name them (REGISTER_FIELD), for the engines
that read and write them. A register kept once per channel or in a numbered run takes its number.
-/

namespace Sys2Proof.Machine.F

def ID_PART_VENDOR_ID : Fld := ⟨0x0000, 16, 16⟩
def ID_PART_PART_NUM : Fld := ⟨0x0000, 0, 16⟩
def ID_REV_FORM : Fld := ⟨0x0001, 8, 4⟩
def ID_REV_STEPPING : Fld := ⟨0x0001, 0, 8⟩
def ID_UID_LO_UID : Fld := ⟨0x0002, 0, 32⟩
def ID_UID_HI_UID : Fld := ⟨0x0003, 0, 32⟩
def ID_CAPS_CASC_MAX : Fld := ⟨0x0004, 14, 2⟩
def ID_CAPS_MAX_WIDTH : Fld := ⟨0x0004, 12, 2⟩
def ID_CAPS_AGL_MAX_GEN : Fld := ⟨0x0004, 10, 2⟩
def ID_CAPS_EXT_BUS : Fld := ⟨0x0004, 9, 1⟩
def ID_CAPS_PCIE : Fld := ⟨0x0004, 8, 1⟩
def ID_CAPS_CH_PRESENT : Fld := ⟨0x0004, 0, 8⟩
def FW_SVI_VALID : Fld := ⟨0x0005, 17, 1⟩
def FW_SVI_SLOT : Fld := ⟨0x0005, 16, 1⟩
def FW_SVI_SVI_VER : Fld := ⟨0x0005, 0, 16⟩
def FW_SPB_LOADED : Fld := ⟨0x0006, 24, 1⟩
def FW_SPB_SPB_LEVEL : Fld := ⟨0x0006, 16, 8⟩
def FW_SPB_SPB_VER : Fld := ⟨0x0006, 0, 16⟩
def FW_ROM_ROM_VER : Fld := ⟨0x0007, 0, 16⟩
def GLB_STAT_CASC_ID : Fld := ⟨0x0008, 19, 2⟩
def GLB_STAT_CASC_ROLE : Fld := ⟨0x0008, 17, 2⟩
def GLB_STAT_HOST_MODE : Fld := ⟨0x0008, 15, 2⟩
def GLB_STAT_SVC_HALT : Fld := ⟨0x0008, 14, 1⟩
def GLB_STAT_ERASE_INCOMPLETE : Fld := ⟨0x0008, 13, 1⟩
def GLB_STAT_IN_DOUBT : Fld := ⟨0x0008, 12, 1⟩
def GLB_STAT_PRSNT : Fld := ⟨0x0008, 11, 1⟩
def GLB_STAT_HOLDUP_OK : Fld := ⟨0x0008, 10, 1⟩
def GLB_STAT_THERM : Fld := ⟨0x0008, 8, 2⟩
def GLB_STAT_STALE_CAL : Fld := ⟨0x0008, 7, 1⟩
def GLB_STAT_LOG_DEGRADED : Fld := ⟨0x0008, 6, 1⟩
def GLB_STAT_COMPAT : Fld := ⟨0x0008, 4, 2⟩
def GLB_STAT_STATE : Fld := ⟨0x0008, 0, 4⟩
def GLB_EVT_IN_DOUBT_ADD : Fld := ⟨0x0009, 3, 1⟩
def GLB_EVT_THERM_CHG : Fld := ⟨0x0009, 2, 1⟩
def GLB_EVT_LOG_DEG : Fld := ⟨0x0009, 1, 1⟩
def GLB_EVT_STATE_CHG : Fld := ⟨0x0009, 0, 1⟩
def GLB_QUAL_REASON : Fld := ⟨0x000A, 0, 8⟩
def UPTIME_LO_UPTIME : Fld := ⟨0x000B, 0, 32⟩
def UPTIME_HI_UPTIME : Fld := ⟨0x000C, 0, 32⟩
def SCRATCH_VALUE : Fld := ⟨0x000D, 0, 32⟩
def RST_CAUSE_WD_CH : Fld := ⟨0x00C0, 16, 9⟩
def RST_CAUSE_LAST : Fld := ⟨0x00C0, 12, 4⟩
def RST_CAUSE_BROWNOUT : Fld := ⟨0x00C0, 8, 1⟩
def RST_CAUSE_CASCADE : Fld := ⟨0x00C0, 7, 1⟩
def RST_CAUSE_HOST : Fld := ⟨0x00C0, 6, 1⟩
def RST_CAUSE_SOFT : Fld := ⟨0x00C0, 5, 1⟩
def RST_CAUSE_THERMAL : Fld := ⟨0x00C0, 4, 1⟩
def RST_CAUSE_WD_EARLY : Fld := ⟨0x00C0, 3, 1⟩
def RST_CAUSE_WD_LATE : Fld := ⟨0x00C0, 2, 1⟩
def RST_CAUSE_PIN : Fld := ⟨0x00C0, 1, 1⟩
def RST_CAUSE_POR : Fld := ⟨0x00C0, 0, 1⟩
def RST_COUNT_WD_RESETS : Fld := ⟨0x00C1, 16, 16⟩
def RST_COUNT_RESETS : Fld := ⟨0x00C1, 0, 16⟩
def RST_TIME_LO_TIME : Fld := ⟨0x00C2, 0, 32⟩
def RST_TIME_HI_TIME : Fld := ⟨0x00C3, 0, 32⟩
def WD0_PC_PC : Fld := ⟨0x00C4, 0, 32⟩
def WD0_GOOD_LO_TIME : Fld := ⟨0x00C5, 0, 32⟩
def WD0_GOOD_HI_TIME : Fld := ⟨0x00C6, 0, 32⟩
def WD0_FAIL_LO_TIME : Fld := ⟨0x00C7, 0, 32⟩
def WD0_FAIL_HI_TIME : Fld := ⟨0x00C8, 0, 32⟩
def WD_SEQ_EVID_WD : Fld := ⟨0x00C9, 16, 4⟩
def WD_SEQ_EVID_PC : Fld := ⟨0x00C9, 0, 12⟩
def STRAP_RAW_TMODE : Fld := ⟨0x00CA, 7, 1⟩
def STRAP_RAW_REFCK_EN : Fld := ⟨0x00CA, 6, 1⟩
def STRAP_RAW_SP_MODE : Fld := ⟨0x00CA, 5, 1⟩
def STRAP_RAW_CASC_ID : Fld := ⟨0x00CA, 3, 2⟩
def STRAP_RAW_CASC_EN : Fld := ⟨0x00CA, 2, 1⟩
def STRAP_RAW_HMODE : Fld := ⟨0x00CA, 0, 2⟩
def RMV_STAT_PREV_CLEAN : Fld := ⟨0x00CB, 31, 1⟩
def RMV_STAT_ARMED : Fld := ⟨0x00CB, 30, 1⟩
def RMV_STAT_SRC : Fld := ⟨0x00CB, 28, 2⟩
def RMV_STAT_PHASE : Fld := ⟨0x00CB, 24, 4⟩
def RMV_STAT_INFLIGHT : Fld := ⟨0x00CB, 8, 8⟩
def RMV_STAT_RESET_OPS : Fld := ⟨0x00CB, 0, 8⟩
def RMV_CFG_PARK_ALERT : Fld := ⟨0x00CC, 8, 1⟩
def RMV_CFG_HOLD_TIME : Fld := ⟨0x00CC, 0, 8⟩
def RST_CTL_KEY : Fld := ⟨0x00CD, 24, 8⟩
def RST_CTL_SAVE_RMV : Fld := ⟨0x00CD, 1, 1⟩
def RST_CTL_SOFT : Fld := ⟨0x00CD, 0, 1⟩
def FAULT_STAT_DROPPED : Fld := ⟨0x00CE, 8, 8⟩
def FAULT_STAT_VALID : Fld := ⟨0x00CE, 0, 1⟩
def FAULT_LATCH_DATA (k : Nat) : Fld := ⟨0x00D0 + k, 0, 32⟩
def BOOT_CFG_FORCE_TRAIN : Fld := ⟨0x0100, 3, 1⟩
def BOOT_CFG_STRICT_PAIR : Fld := ⟨0x0100, 2, 1⟩
def BOOT_CFG_PREF_SPB : Fld := ⟨0x0100, 1, 1⟩
def BOOT_CFG_PREF_SVI : Fld := ⟨0x0100, 0, 1⟩
def BOOT_RES_TRAIL_US : Fld := ⟨0x0101, 16, 16⟩
def BOOT_RES_CAL_PATH : Fld := ⟨0x0101, 4, 2⟩
def BOOT_RES_SPB_SLOT : Fld := ⟨0x0101, 2, 1⟩
def BOOT_RES_SVI_SLOT : Fld := ⟨0x0101, 0, 1⟩
def IMG_STAT_A_VER : Fld := ⟨0x0102, 16, 16⟩
def IMG_STAT_A_CODE : Fld := ⟨0x0102, 0, 4⟩
def IMG_STAT_B_VER : Fld := ⟨0x0103, 16, 16⟩
def IMG_STAT_B_CODE : Fld := ⟨0x0103, 0, 4⟩
def SPB_STAT_VER (k : Nat) : Fld := ⟨0x0104 + k, 16, 16⟩
def SPB_STAT_CODE (k : Nat) : Fld := ⟨0x0104 + k, 0, 4⟩
def EPOCH_CNT_SPB_EPOCH : Fld := ⟨0x0106, 16, 16⟩
def EPOCH_CNT_SVI_EPOCH : Fld := ⟨0x0106, 0, 16⟩
def IMG_CTL_KEY : Fld := ⟨0x0107, 24, 8⟩
def IMG_CTL_ACTION : Fld := ⟨0x0107, 0, 2⟩
def IMG_CTL_STAT_BUSY : Fld := ⟨0x0108, 8, 1⟩
def IMG_CTL_STAT_CODE : Fld := ⟨0x0108, 0, 4⟩
def BOOT_PROG_ATT_B : Fld := ⟨0x0109, 8, 4⟩
def BOOT_PROG_ATT_A : Fld := ⟨0x0109, 4, 4⟩
def BOOT_PROG_STEP : Fld := ⟨0x0109, 0, 4⟩
def SVI_MAN_0_CAL_LEVEL : Fld := ⟨0x010A, 24, 8⟩
def SVI_MAN_0_LEVEL_MAX : Fld := ⟨0x010A, 16, 8⟩
def SVI_MAN_0_LEVEL_MIN : Fld := ⟨0x010A, 8, 8⟩
def SVI_MAN_0_TESTED_COUNT : Fld := ⟨0x010A, 0, 4⟩
def SVI_MAN_1_STEP_MASK : Fld := ⟨0x010B, 16, 16⟩
def SVI_MAN_1_EPOCH : Fld := ⟨0x010B, 0, 16⟩
def SVI_TESTED_ODD (k : Nat) : Fld := ⟨0x010C + k, 16, 16⟩
def SVI_TESTED_EVEN (k : Nat) : Fld := ⟨0x010C + k, 0, 16⟩
def EPOCH_SET_KEY : Fld := ⟨0x0140, 24, 8⟩
def EPOCH_SET_WHICH : Fld := ⟨0x0140, 16, 1⟩
def EPOCH_SET_VALUE : Fld := ⟨0x0140, 0, 16⟩
def ROM_KH_DATA (k : Nat) : Fld := ⟨0x0141 + k, 0, 32⟩
def SP_CFG_MODE : Fld := ⟨0x0040, 8, 1⟩
def SP_CFG_I2C_ADDR : Fld := ⟨0x0040, 0, 7⟩
def SP_PAGE_PAGE : Fld := ⟨0x0041, 0, 8⟩
def SP_ERR_FRAME_ERRS : Fld := ⟨0x0042, 16, 16⟩
def SP_ERR_CRC_ERRS : Fld := ⟨0x0042, 0, 16⟩
def ACC_CTL_HOST_EXPERT : Fld := ⟨0x0043, 1, 1⟩
def ACC_CTL_HOST_WR : Fld := ⟨0x0043, 0, 1⟩
def UNL_STAT_HOST_OPEN : Fld := ⟨0x0044, 16, 14⟩
def UNL_STAT_SP_OPEN : Fld := ⟨0x0044, 0, 14⟩
def UNL_FAIL_HOST_BARRED : Fld := ⟨0x0045, 12, 1⟩
def UNL_FAIL_HOST_FAILS : Fld := ⟨0x0045, 8, 4⟩
def UNL_FAIL_SP_BARRED : Fld := ⟨0x0045, 4, 1⟩
def UNL_FAIL_SP_FAILS : Fld := ⟨0x0045, 0, 4⟩
def UNL_KEY_KEY : Fld := ⟨0x0046, 0, 32⟩
def UNL_REQ_LOCK : Fld := ⟨0x0047, 7, 1⟩
def UNL_REQ_GROUP : Fld := ⟨0x0047, 0, 7⟩
def ACC_LOCK_LOCKED : Fld := ⟨0x0048, 0, 14⟩
def ACC_LOCK_SET_KEY : Fld := ⟨0x0049, 24, 8⟩
def ACC_LOCK_SET_GROUPS : Fld := ⟨0x0049, 0, 14⟩
def ACC_LOCK_OTP_GROUPS : Fld := ⟨0x004A, 0, 14⟩
def CMT_CTL_KEY : Fld := ⟨0x0080, 24, 8⟩
def CMT_CTL_ACTION : Fld := ⟨0x0080, 8, 2⟩
def CMT_CTL_GROUP : Fld := ⟨0x0080, 0, 5⟩
def CMT_STAT_SEQ : Fld := ⟨0x0081, 24, 8⟩
def CMT_STAT_FIRST_PAIR : Fld := ⟨0x0081, 16, 8⟩
def CMT_STAT_GROUP : Fld := ⟨0x0081, 8, 5⟩
def CMT_STAT_RESULT : Fld := ⟨0x0081, 0, 4⟩
def CMT_PEND_GROUPS : Fld := ⟨0x0082, 0, 15⟩
def CMT_DIRTY_GROUPS : Fld := ⟨0x0083, 0, 15⟩
def CMT_CFG_HOLD_AFTER : Fld := ⟨0x0084, 0, 8⟩
def CMT_RES_G (k : Nat) : Fld := ⟨0x0085 + k, 0, 32⟩
def AGL_STAT_POL_INV : Fld := ⟨0x0600, 20, 4⟩
def AGL_STAT_ACTIVE : Fld := ⟨0x0600, 16, 4⟩
def AGL_STAT_CMD_OPEN : Fld := ⟨0x0600, 10, 1⟩
def AGL_STAT_REVERSED : Fld := ⟨0x0600, 9, 1⟩
def AGL_STAT_UP : Fld := ⟨0x0600, 8, 1⟩
def AGL_STAT_WIDTH : Fld := ⟨0x0600, 6, 2⟩
def AGL_STAT_GEN : Fld := ⟨0x0600, 4, 2⟩
def AGL_STAT_STATE : Fld := ⟨0x0600, 0, 4⟩
def AGL_CFG_REV_EN : Fld := ⟨0x0601, 4, 1⟩
def AGL_CFG_WIDTH_MAX : Fld := ⟨0x0601, 2, 2⟩
def AGL_CFG_GEN_MAX : Fld := ⟨0x0601, 0, 2⟩
def AGL_LANE_LANE_EN : Fld := ⟨0x0602, 0, 4⟩
def AGL_ERR_0_REPLAYS : Fld := ⟨0x0603, 16, 16⟩
def AGL_ERR_0_CRC_ERRS : Fld := ⟨0x0603, 0, 16⟩
def AGL_ERR_1_CREDIT_VIOL : Fld := ⟨0x0604, 24, 8⟩
def AGL_ERR_1_MALFORMED : Fld := ⟨0x0604, 16, 8⟩
def AGL_ERR_1_LINK_DOWNS : Fld := ⟨0x0604, 8, 8⟩
def AGL_ERR_1_RECOVERIES : Fld := ⟨0x0604, 0, 8⟩
def AGL_EVT_EQ_FAIL : Fld := ⟨0x0605, 7, 1⟩
def AGL_EVT_CREDIT_VIOL : Fld := ⟨0x0605, 6, 1⟩
def AGL_EVT_MALFORMED : Fld := ⟨0x0605, 5, 1⟩
def AGL_EVT_RECOVERY : Fld := ⟨0x0605, 4, 1⟩
def AGL_EVT_WIDTH_DOWN : Fld := ⟨0x0605, 3, 1⟩
def AGL_EVT_RATE_CHG : Fld := ⟨0x0605, 2, 1⟩
def AGL_EVT_LINK_DOWN : Fld := ⟨0x0605, 1, 1⟩
def AGL_EVT_LINK_UP : Fld := ⟨0x0605, 0, 1⟩
def AGL_PM_L2_EN : Fld := ⟨0x0606, 1, 1⟩
def AGL_PM_L1_EN : Fld := ⟨0x0606, 0, 1⟩
def AGL_CRED_CMD_OUT : Fld := ⟨0x0640, 20, 6⟩
def AGL_CRED_CTL_AVAIL : Fld := ⟨0x0640, 12, 8⟩
def AGL_CRED_RDAT_AVAIL : Fld := ⟨0x0640, 0, 12⟩
def AGL_EQ_RES_GEN_FAILED : Fld := ⟨0x0641, 16, 3⟩
def AGL_EQ_RES_PRESET : Fld := ⟨0x0641, 0, 16⟩
def AGL_EQ_FIXED : Fld := ⟨0x0680, 8, 1⟩
def AGL_EQ_START3 : Fld := ⟨0x0680, 4, 4⟩
def AGL_EQ_START2 : Fld := ⟨0x0680, 0, 4⟩
def AGL_CRED_CFG_CMD_LIMIT : Fld := ⟨0x0681, 0, 6⟩
def AGL_REPLAY_COALESCE : Fld := ⟨0x0682, 8, 5⟩
def AGL_REPLAY_REPLAY_MAX : Fld := ⟨0x0682, 0, 3⟩
def PCIE_STAT_PLL_FAIL : Fld := ⟨0x0800, 16, 1⟩
def PCIE_STAT_LTSSM : Fld := ⟨0x0800, 10, 4⟩
def PCIE_STAT_L1SS : Fld := ⟨0x0800, 8, 2⟩
def PCIE_STAT_DL_UP : Fld := ⟨0x0800, 7, 1⟩
def PCIE_STAT_SPEED : Fld := ⟨0x0800, 4, 3⟩
def PCIE_STAT_WIDTH : Fld := ⟨0x0800, 2, 2⟩
def PCIE_STAT_DSTATE : Fld := ⟨0x0800, 0, 2⟩
def PCIE_EVT_EVT_LOST : Fld := ⟨0x0801, 6, 1⟩
def PCIE_EVT_AER_UNCOR : Fld := ⟨0x0801, 5, 1⟩
def PCIE_EVT_AER_COR : Fld := ⟨0x0801, 4, 1⟩
def PCIE_EVT_HOT_RESET : Fld := ⟨0x0801, 3, 1⟩
def PCIE_EVT_RATE_CHG : Fld := ⟨0x0801, 2, 1⟩
def PCIE_EVT_LINK_DOWN : Fld := ⟨0x0801, 1, 1⟩
def PCIE_EVT_LINK_UP : Fld := ⟨0x0801, 0, 1⟩
def PCIE_ERR_RX_ERRS : Fld := ⟨0x0802, 16, 16⟩
def PCIE_ERR_REPLAYS : Fld := ⟨0x0802, 8, 8⟩
def PCIE_ERR_RECOVERIES : Fld := ⟨0x0802, 0, 8⟩
def PCIE_PM_L1_IDLE : Fld := ⟨0x0803, 0, 8⟩
def PCIE_LINK_CFG_L1SS_ADV : Fld := ⟨0x0840, 8, 1⟩
def PCIE_LINK_CFG_L1_ADV : Fld := ⟨0x0840, 7, 1⟩
def PCIE_LINK_CFG_WIDTH_MAX : Fld := ⟨0x0840, 4, 2⟩
def PCIE_LINK_CFG_SPEED_MAX : Fld := ⟨0x0840, 0, 3⟩
def HQ_STAT_SLOTS_FREE : Fld := ⟨0x0900, 16, 13⟩
def HQ_STAT_INFLIGHT : Fld := ⟨0x0900, 0, 11⟩
def HQ_EVT_TAG_CONFLICT : Fld := ⟨0x0901, 3, 1⟩
def HQ_EVT_QERR : Fld := ⟨0x0901, 2, 1⟩
def HQ_EVT_PORT_ERR : Fld := ⟨0x0901, 1, 1⟩
def HQ_EVT_DB_ERR : Fld := ⟨0x0901, 0, 1⟩
def QP_SEL_QID : Fld := ⟨0x0902, 0, 6⟩
def QP_SQ_CFG_GEN : Fld := ⟨0x0903, 16, 8⟩
def QP_SQ_CFG_PRIO : Fld := ⟨0x0903, 8, 3⟩
def QP_SQ_CFG_SQ_LOG2 : Fld := ⟨0x0903, 0, 4⟩
def QP_CQ_CFG_IRQ_EN : Fld := ⟨0x0904, 9, 1⟩
def QP_CQ_CFG_VEC : Fld := ⟨0x0904, 4, 5⟩
def QP_CQ_CFG_CQ_LOG2 : Fld := ⟨0x0904, 0, 4⟩
def QP_CQ_BASE_LO_ADDR : Fld := ⟨0x0905, 6, 26⟩
def QP_CQ_BASE_HI_ADDR : Fld := ⟨0x0906, 0, 32⟩
def QP_CTL_KEY : Fld := ⟨0x0907, 24, 8⟩
def QP_CTL_ACTION : Fld := ⟨0x0907, 0, 3⟩
def QP_RESULT_CODE : Fld := ⟨0x0908, 0, 4⟩
def QP_STATE_SQ_FILL : Fld := ⟨0x0909, 24, 8⟩
def QP_STATE_SQ_TAIL : Fld := ⟨0x0909, 16, 8⟩
def QP_STATE_SQ_HEAD : Fld := ⟨0x0909, 8, 8⟩
def QP_STATE_BOUND : Fld := ⟨0x0909, 2, 1⟩
def QP_STATE_STATE : Fld := ⟨0x0909, 0, 2⟩
def QP_CQ_STATE_PHASE : Fld := ⟨0x090A, 28, 1⟩
def QP_CQ_STATE_CQ_HEAD : Fld := ⟨0x090A, 16, 12⟩
def QP_CQ_STATE_CQ_TAIL : Fld := ⟨0x090A, 0, 12⟩
def QP_ERR_TAG_CONFLICT : Fld := ⟨0x090B, 3, 1⟩
def QP_ERR_QERR : Fld := ⟨0x090B, 2, 1⟩
def QP_ERR_PORT_ERR : Fld := ⟨0x090B, 1, 1⟩
def QP_ERR_DB_ERR : Fld := ⟨0x090B, 0, 1⟩
def QP_COUNT_HELD : Fld := ⟨0x090C, 16, 11⟩
def QP_COUNT_INFLIGHT : Fld := ⟨0x090C, 0, 11⟩
def QP_ACTIVE_LO_ACTIVE : Fld := ⟨0x0940, 0, 32⟩
def QP_ACTIVE_HI_ACTIVE : Fld := ⟨0x0941, 0, 32⟩
def HQ_AGE_BOOST_MAX : Fld := ⟨0x0942, 8, 4⟩
def HQ_AGE_STEP_US : Fld := ⟨0x0942, 0, 8⟩
def HQ_DUP_CONFLICTS : Fld := ⟨0x0943, 16, 16⟩
def HQ_DUP_DUPS : Fld := ⟨0x0943, 0, 16⟩
def LOG_STAT_PREV_DEGRADED : Fld := ⟨0x0B00, 17, 1⟩
def LOG_STAT_DEGRADED : Fld := ⟨0x0B00, 16, 1⟩
def LOG_STAT_NEWEST : Fld := ⟨0x0B00, 0, 14⟩
def LOG_SEQ_SEQ : Fld := ⟨0x0B01, 0, 32⟩
def LOG_COUNT_HORIZON : Fld := ⟨0x0B02, 16, 13⟩
def LOG_COUNT_OPEN : Fld := ⟨0x0B02, 0, 11⟩
def LOG_ERR_TORN : Fld := ⟨0x0B03, 24, 8⟩
def LOG_ERR_RETRIES : Fld := ⟨0x0B03, 0, 16⟩
def IDL_STAT_LOST : Fld := ⟨0x0B04, 17, 1⟩
def IDL_STAT_OVERFLOW : Fld := ⟨0x0B04, 16, 1⟩
def IDL_STAT_COUNT : Fld := ⟨0x0B04, 0, 9⟩
def IDL_SEL_INDEX : Fld := ⟨0x0B05, 0, 8⟩
def IDL_DATA_DATA (k : Nat) : Fld := ⟨0x0B06 + k, 0, 32⟩
def IDL_CLR_KEY : Fld := ⟨0x0B0A, 24, 8⟩
def IDL_CLR_ALL : Fld := ⟨0x0B0A, 8, 1⟩
def IDL_CLR_INDEX : Fld := ⟨0x0B0A, 0, 8⟩
def LOG_INJECT_KEY : Fld := ⟨0x0B40, 24, 8⟩
def LOG_INJECT_FAIL_NEXT : Fld := ⟨0x0B40, 0, 1⟩
def LOG_SHADOW_FILL : Fld := ⟨0x0B41, 0, 11⟩
def FAB_STAT_SPILL_BUFS : Fld := ⟨0x0E00, 16, 8⟩
def FAB_STAT_FC1 : Fld := ⟨0x0E00, 1, 1⟩
def FAB_STAT_FC0 : Fld := ⟨0x0E00, 0, 1⟩
def FAB_EVT_PACK_ERR : Fld := ⟨0x0E01, 5, 1⟩
def FAB_EVT_PKT_OVF : Fld := ⟨0x0E01, 4, 1⟩
def FAB_EVT_SPILL_DENIED : Fld := ⟨0x0E01, 3, 1⟩
def FAB_EVT_FC_CHG : Fld := ⟨0x0E01, 2, 1⟩
def FAB_EVT_WM_HI : Fld := ⟨0x0E01, 1, 1⟩
def FAB_EVT_QERR : Fld := ⟨0x0E01, 0, 1⟩
def FQ_SEL_QID : Fld := ⟨0x0E02, 0, 6⟩
def FQ_INFO_SPILL : Fld := ⟨0x0E03, 28, 1⟩
def FQ_INFO_MODE : Fld := ⟨0x0E03, 26, 2⟩
def FQ_INFO_WIDTH : Fld := ⟨0x0E03, 24, 2⟩
def FQ_INFO_PWIDTH : Fld := ⟨0x0E03, 20, 3⟩
def FQ_INFO_DEPTH : Fld := ⟨0x0E03, 0, 9⟩
def FQ_PTR_WR : Fld := ⟨0x0E04, 16, 8⟩
def FQ_PTR_VIS : Fld := ⟨0x0E04, 8, 8⟩
def FQ_PTR_RD : Fld := ⟨0x0E04, 0, 8⟩
def FQ_FILL_SPILLED : Fld := ⟨0x0E05, 16, 16⟩
def FQ_FILL_PENDING : Fld := ⟨0x0E05, 8, 8⟩
def FQ_FILL_READY : Fld := ⟨0x0E05, 0, 8⟩
def FQ_WM_HI : Fld := ⟨0x0E06, 16, 12⟩
def FQ_WM_LO : Fld := ⟨0x0E06, 0, 12⟩
def FQ_COUNT_RESETS : Fld := ⟨0x0E07, 24, 8⟩
def FQ_COUNT_REWINDS : Fld := ⟨0x0E07, 16, 8⟩
def FQ_COUNT_PKT_OVF : Fld := ⟨0x0E07, 8, 8⟩
def FQ_COUNT_SPILL_DENIED : Fld := ⟨0x0E07, 0, 8⟩
def FQ_QERR_LO_QERR : Fld := ⟨0x0E08, 0, 32⟩
def FQ_QERR_HI_QERR : Fld := ⟨0x0E09, 0, 32⟩
def FQ_WMSTATE_LO_STATE : Fld := ⟨0x0E0A, 0, 32⟩
def FQ_WMSTATE_HI_STATE : Fld := ⟨0x0E0B, 0, 32⟩
def FC_CFG_HOLD : Fld := ⟨0x0E0C, 8, 8⟩
def FC_CFG_FC1_EN : Fld := ⟨0x0E0C, 1, 1⟩
def FC_CFG_FC0_EN : Fld := ⟨0x0E0C, 0, 1⟩
def FC0_SEL_LO_SEL : Fld := ⟨0x0E0D, 0, 32⟩
def FC0_SEL_HI_SEL : Fld := ⟨0x0E0E, 0, 32⟩
def FC1_SEL_LO_SEL : Fld := ⟨0x0E0F, 0, 32⟩
def FC1_SEL_HI_SEL : Fld := ⟨0x0E10, 0, 32⟩
def PACK_CFG_TIMEOUT : Fld := ⟨0x0E40, 0, 8⟩
def SPILL_CFG_Q47 : Fld := ⟨0x0E41, 16, 4⟩
def SPILL_CFG_Q44 : Fld := ⟨0x0E41, 12, 4⟩
def SPILL_CFG_Q43 : Fld := ⟨0x0E41, 8, 4⟩
def SPILL_CFG_Q39 : Fld := ⟨0x0E41, 4, 4⟩
def SPILL_CFG_Q37 : Fld := ⟨0x0E41, 0, 4⟩
def FQ_INJECT_KEY : Fld := ⟨0x0E42, 24, 8⟩
def FQ_INJECT_QID : Fld := ⟨0x0E42, 0, 6⟩
def HMP_STAT_RETIRED : Fld := ⟨0x0C00, 24, 8⟩
def HMP_STAT_WAITERS : Fld := ⟨0x0C00, 16, 8⟩
def HMP_STAT_STATE : Fld := ⟨0x0C00, 12, 2⟩
def HMP_STAT_FREE : Fld := ⟨0x0C00, 0, 12⟩
def HMP_EVT_SRC : Fld := ⟨0x0C01, 0, 11⟩
def HMP_THR_HYST : Fld := ⟨0x0C02, 24, 8⟩
def HMP_THR_LOW : Fld := ⟨0x0C02, 12, 11⟩
def HMP_THR_CRIT : Fld := ⟨0x0C02, 0, 11⟩
def OWN_SEL_OWNER : Fld := ⟨0x0C03, 0, 5⟩
def OWN_STAT_PEAK : Fld := ⟨0x0C04, 16, 12⟩
def OWN_STAT_HELD : Fld := ⟨0x0C04, 0, 12⟩
def OWN_AGE_VALID : Fld := ⟨0x0C05, 31, 1⟩
def OWN_AGE_OLDEST : Fld := ⟨0x0C05, 16, 11⟩
def OWN_AGE_AGE : Fld := ⟨0x0C05, 0, 16⟩
def AUDIT_CFG_RECLAIM : Fld := ⟨0x0C06, 16, 1⟩
def AUDIT_CFG_AGE_LIMIT : Fld := ⟨0x0C06, 8, 8⟩
def AUDIT_CFG_PERIOD : Fld := ⟨0x0C06, 0, 8⟩
def AUDIT_RES_MISMATCH : Fld := ⟨0x0C07, 24, 1⟩
def AUDIT_RES_SUSPECTS : Fld := ⟨0x0C07, 16, 8⟩
def AUDIT_RES_ORPHANS : Fld := ⟨0x0C07, 0, 12⟩
def AUDIT_MASK_MASK : Fld := ⟨0x0C08, 0, 32⟩
def HMP_ERR_NAMED_REFUSED : Fld := ⟨0x0C09, 24, 8⟩
def HMP_ERR_STALE_REFS : Fld := ⟨0x0C09, 16, 8⟩
def HMP_ERR_ECC_CORR : Fld := ⟨0x0C09, 0, 16⟩
def OWN_LIMIT_ODD (k : Nat) : Fld := ⟨0x0C40 + k, 16, 12⟩
def OWN_LIMIT_EVEN (k : Nat) : Fld := ⟨0x0C40 + k, 0, 12⟩
def HMP_CTL_KEY : Fld := ⟨0x0C50, 24, 8⟩
def HMP_CTL_ACTION : Fld := ⟨0x0C50, 8, 2⟩
def HMP_CTL_OWNER : Fld := ⟨0x0C50, 0, 5⟩
def RATION_STAT_ENABLED : Fld := ⟨0x3100, 31, 1⟩
def RATION_STAT_ISNS_OK : Fld := ⟨0x3100, 30, 1⟩
def RATION_STAT_DERATED : Fld := ⟨0x3100, 29, 1⟩
def RATION_STAT_HU_READY : Fld := ⟨0x3100, 28, 1⟩
def RATION_STAT_BLOCKING : Fld := ⟨0x3100, 0, 8⟩
def RATION_BAL_BALANCE : Fld := ⟨0x3101, 0, 32⟩
def RATION_CFG_REFILL_MW : Fld := ⟨0x3102, 16, 16⟩
def RATION_CFG_DERATE : Fld := ⟨0x3102, 8, 4⟩
def RATION_CFG_BURST_MJ : Fld := ⟨0x3102, 0, 8⟩
def RATION_HU_HU_MARGIN : Fld := ⟨0x3103, 28, 4⟩
def RATION_HU_HU_ENERGY : Fld := ⟨0x3103, 16, 12⟩
def RATION_HU_HU_BASE_MW : Fld := ⟨0x3103, 0, 16⟩
def RATION_HU_STAT_HU_OPS : Fld := ⟨0x3104, 24, 8⟩
def RATION_HU_STAT_HU_OUT : Fld := ⟨0x3104, 0, 24⟩
def RATION_EVT_DERATE : Fld := ⟨0x3105, 3, 1⟩
def RATION_EVT_ISNS_FAULT : Fld := ⟨0x3105, 2, 1⟩
def RATION_EVT_HU_WAIT : Fld := ⟨0x3105, 1, 1⟩
def RATION_EVT_STARVE : Fld := ⟨0x3105, 0, 1⟩
def RATION_WAIT_HU_WAIT_MS : Fld := ⟨0x3106, 16, 16⟩
def RATION_WAIT_STARVE_US : Fld := ⟨0x3106, 0, 16⟩
def RATION_ISNS_REG_EFF : Fld := ⟨0x3107, 16, 8⟩
def RATION_ISNS_SHUNT : Fld := ⟨0x3107, 0, 10⟩
def RATION_MEAS_P_ADMIT_MW : Fld := ⟨0x3108, 16, 16⟩
def RATION_MEAS_P_IN_MW : Fld := ⟨0x3108, 0, 16⟩
def RATION_STATS_HU_WAITS : Fld := ⟨0x3109, 16, 16⟩
def RATION_STATS_STALLS : Fld := ⟨0x3109, 0, 16⟩
def COST_SEL_INDEX : Fld := ⟨0x3140, 0, 7⟩
def COST_E_ENERGY : Fld := ⟨0x3141, 0, 24⟩
def COST_D_DUR_US : Fld := ⟨0x3142, 0, 16⟩
def RATION_CTL_KEY : Fld := ⟨0x3143, 24, 8⟩
def RATION_CTL_CLASS : Fld := ⟨0x3143, 12, 4⟩
def RATION_CTL_ACTION : Fld := ⟨0x3143, 0, 2⟩
def RATION_CAL_STAT_BUSY : Fld := ⟨0x3144, 8, 1⟩
def RATION_CAL_STAT_CODE : Fld := ⟨0x3144, 0, 4⟩
def RATION_TBL_SRC : Fld := ⟨0x3145, 0, 2⟩
def RATION_CAL_ADDR_ADDR : Fld := ⟨0x3146, 0, 32⟩
def CH_STAT_STARTED (n : Nat) : Fld := ⟨0x1000 + 512 * n, 24, 4⟩
def CH_STAT_DIES (n : Nat) : Fld := ⟨0x1000 + 512 * n, 16, 6⟩
def CH_STAT_CLASS_V (n : Nat) : Fld := ⟨0x1000 + 512 * n, 14, 2⟩
def CH_STAT_RATE (n : Nat) : Fld := ⟨0x1000 + 512 * n, 8, 4⟩
def CH_STAT_PROTO (n : Nat) : Fld := ⟨0x1000 + 512 * n, 6, 2⟩
def CH_STAT_STATE (n : Nat) : Fld := ⟨0x1000 + 512 * n, 0, 3⟩
def CH_LIMIT_RB_USE (n : Nat) : Fld := ⟨0x1001 + 512 * n, 9, 1⟩
def CH_LIMIT_EXT_EN (n : Nat) : Fld := ⟨0x1001 + 512 * n, 8, 1⟩
def CH_LIMIT_RATE_MAX (n : Nat) : Fld := ⟨0x1001 + 512 * n, 0, 4⟩
def CH_SCHED_BOOST_MAX (n : Nat) : Fld := ⟨0x1002 + 512 * n, 28, 3⟩
def CH_SCHED_READ_AHEAD (n : Nat) : Fld := ⟨0x1002 + 512 * n, 24, 4⟩
def CH_SCHED_FAULT_PRIO (n : Nat) : Fld := ⟨0x1002 + 512 * n, 20, 3⟩
def CH_SCHED_PREFETCH_PRIO (n : Nat) : Fld := ⟨0x1002 + 512 * n, 16, 3⟩
def CH_SCHED_CACHE_EN (n : Nat) : Fld := ⟨0x1002 + 512 * n, 9, 1⟩
def CH_SCHED_MP_EN (n : Nat) : Fld := ⟨0x1002 + 512 * n, 8, 1⟩
def CH_SCHED_AGE_STEP_US (n : Nat) : Fld := ⟨0x1002 + 512 * n, 0, 8⟩
def CH_SUSP_SUSP_EN (n : Nat) : Fld := ⟨0x1003 + 512 * n, 31, 1⟩
def CH_SUSP_SUSP_PRIO (n : Nat) : Fld := ⟨0x1003 + 512 * n, 28, 3⟩
def CH_SUSP_SUSP_MAX (n : Nat) : Fld := ⟨0x1003 + 512 * n, 24, 4⟩
def CH_SUSP_SUSP_READS (n : Nat) : Fld := ⟨0x1003 + 512 * n, 20, 4⟩
def CH_SUSP_MIN_RUN_E (n : Nat) : Fld := ⟨0x1003 + 512 * n, 8, 8⟩
def CH_SUSP_MIN_RUN_P (n : Nat) : Fld := ⟨0x1003 + 512 * n, 0, 8⟩
def CH_EVT_SRC (n : Nat) : Fld := ⟨0x1004 + 512 * n, 0, 6⟩
def CH_CE_MAP_LUNS (n : Nat) : Fld := ⟨0x1005 + 512 * n, 16, 16⟩
def CH_CE_MAP_PRESENT (n : Nat) : Fld := ⟨0x1005 + 512 * n, 0, 8⟩
def CH_DIE_SEL_DIE (n : Nat) : Fld := ⟨0x1006 + 512 * n, 0, 5⟩
def CH_DIE_INFO_STATE (n : Nat) : Fld := ⟨0x1007 + 512 * n, 28, 4⟩
def CH_DIE_INFO_CLASS (n : Nat) : Fld := ⟨0x1007 + 512 * n, 24, 4⟩
def CH_DIE_INFO_PLANES (n : Nat) : Fld := ⟨0x1007 + 512 * n, 20, 2⟩
def CH_DIE_INFO_EXT (n : Nat) : Fld := ⟨0x1007 + 512 * n, 16, 2⟩
def CH_DIE_INFO_JEDEC (n : Nat) : Fld := ⟨0x1007 + 512 * n, 15, 1⟩
def CH_DIE_INFO_SUSP (n : Nat) : Fld := ⟨0x1007 + 512 * n, 14, 1⟩
def CH_DIE_INFO_TMO (n : Nat) : Fld := ⟨0x1007 + 512 * n, 0, 2⟩
def CH_DIE_ID_LO_ID (n : Nat) : Fld := ⟨0x1008 + 512 * n, 0, 32⟩
def CH_DIE_ID_HI_ID (n : Nat) : Fld := ⟨0x1009 + 512 * n, 0, 32⟩
def CH_COUNT_SUSPENDS (n : Nat) : Fld := ⟨0x100A + 512 * n, 24, 8⟩
def CH_COUNT_MERGES (n : Nat) : Fld := ⟨0x100A + 512 * n, 16, 8⟩
def CH_COUNT_TIMEOUTS (n : Nat) : Fld := ⟨0x100A + 512 * n, 8, 8⟩
def CH_COUNT_GUARD_REFUSED (n : Nat) : Fld := ⟨0x100A + 512 * n, 0, 8⟩
def GUARD_STAT_TOTAL (n : Nat) : Fld := ⟨0x100B + 512 * n, 16, 11⟩
def GUARD_STAT_EVICTS (n : Nat) : Fld := ⟨0x100B + 512 * n, 11, 5⟩
def GUARD_STAT_OPEN (n : Nat) : Fld := ⟨0x100B + 512 * n, 0, 11⟩
def CH_IF_PROTO (n : Nat) : Fld := ⟨0x1040 + 512 * n, 4, 2⟩
def CH_IF_RATE (n : Nat) : Fld := ⟨0x1040 + 512 * n, 0, 4⟩
def CH_DRV_ODT (n : Nat) : Fld := ⟨0x1041 + 512 * n, 4, 3⟩
def CH_DRV_DRV (n : Nat) : Fld := ⟨0x1041 + 512 * n, 0, 3⟩
def SEQ_STAT_PC (n : Nat) : Fld := ⟨0x2000 + 128 * n, 16, 12⟩
def SEQ_STAT_RSTK (n : Nat) : Fld := ⟨0x2000 + 128 * n, 8, 4⟩
def SEQ_STAT_INFLT (n : Nat) : Fld := ⟨0x2000 + 128 * n, 6, 1⟩
def SEQ_STAT_INSVC (n : Nat) : Fld := ⟨0x2000 + 128 * n, 5, 1⟩
def SEQ_STAT_EN (n : Nat) : Fld := ⟨0x2000 + 128 * n, 4, 1⟩
def SEQ_STAT_STATE (n : Nat) : Fld := ⟨0x2000 + 128 * n, 0, 3⟩
def SEQ_CTL_DZ_EVENT (n : Nat) : Fld := ⟨0x2001 + 128 * n, 0, 1⟩
def SEQ_EVT_SRC (n : Nat) : Fld := ⟨0x2002 + 128 * n, 0, 8⟩
def SEQ_FAULT_VALID (n : Nat) : Fld := ⟨0x2003 + 128 * n, 31, 1⟩
def SEQ_FAULT_PC (n : Nat) : Fld := ⟨0x2003 + 128 * n, 16, 12⟩
def SEQ_FAULT_CAUSE (n : Nat) : Fld := ⟨0x2003 + 128 * n, 0, 4⟩
def SEQ_COUNT_FAULTS (n : Nat) : Fld := ⟨0x2004 + 128 * n, 24, 8⟩
def SEQ_COUNT_SPURIOUS (n : Nat) : Fld := ⟨0x2004 + 128 * n, 16, 8⟩
def SEQ_COUNT_ECC_CORR (n : Nat) : Fld := ⟨0x2004 + 128 * n, 8, 8⟩
def SEQ_COUNT_LOST (n : Nat) : Fld := ⟨0x2004 + 128 * n, 0, 8⟩
def SEQ_VEC_FAULT_VEC (n : Nat) : Fld := ⟨0x2040 + 128 * n, 0, 12⟩
def SEQ_DBG_CTL_KEY (n : Nat) : Fld := ⟨0x2041 + 128 * n, 24, 8⟩
def SEQ_DBG_CTL_ACTION (n : Nat) : Fld := ⟨0x2041 + 128 * n, 0, 2⟩
def SEQ_DBG_CFG_FREEZE_T (n : Nat) : Fld := ⟨0x2042 + 128 * n, 3, 1⟩
def SEQ_DBG_CFG_BRK_EN (n : Nat) : Fld := ⟨0x2042 + 128 * n, 2, 1⟩
def SEQ_DBG_CFG_BP1_EN (n : Nat) : Fld := ⟨0x2042 + 128 * n, 1, 1⟩
def SEQ_DBG_CFG_BP0_EN (n : Nat) : Fld := ⟨0x2042 + 128 * n, 0, 1⟩
def SEQ_BKPT_BP1 (n : Nat) : Fld := ⟨0x2043 + 128 * n, 16, 12⟩
def SEQ_BKPT_BP0 (n : Nat) : Fld := ⟨0x2043 + 128 * n, 0, 12⟩
def SEQ_DBG_RSEL_REG (n : Nat) : Fld := ⟨0x2044 + 128 * n, 0, 5⟩
def SEQ_DBG_RDATA_DATA (n : Nat) : Fld := ⟨0x2045 + 128 * n, 0, 32⟩
def SEQ_PMEM_SEL_ADDR (n : Nat) : Fld := ⟨0x2046 + 128 * n, 0, 12⟩
def SEQ_PMEM_DATA_WORD (n : Nat) : Fld := ⟨0x2047 + 128 * n, 0, 32⟩
def CODEC_STAT_RETRYING : Fld := ⟨0x2400, 24, 8⟩
def CODEC_STAT_SOFT_WAIT : Fld := ⟨0x2400, 8, 4⟩
def CODEC_STAT_BUSY : Fld := ⟨0x2400, 0, 4⟩
def CODEC_EVT_SRC : Fld := ⟨0x2401, 0, 4⟩
def CODEC_CFG_ERASED_ZEROS : Fld := ⟨0x2402, 24, 8⟩
def CODEC_CFG_SOFT_ITER : Fld := ⟨0x2402, 16, 5⟩
def CODEC_CFG_HARD_ITER : Fld := ⟨0x2402, 8, 5⟩
def DEC_CNT_0_RETRY : Fld := ⟨0x2403, 16, 16⟩
def DEC_CNT_0_HARD : Fld := ⟨0x2403, 0, 16⟩
def DEC_CNT_1_UNCORR : Fld := ⟨0x2404, 16, 16⟩
def DEC_CNT_1_SOFT : Fld := ⟨0x2404, 0, 16⟩
def DEC_CNT_2_ERASED : Fld := ⟨0x2405, 16, 16⟩
def DEC_CNT_2_MISPLACED : Fld := ⟨0x2405, 8, 8⟩
def DEC_CNT_2_MISCORR : Fld := ⟨0x2405, 0, 8⟩
def DEC_PEAK_ITER_MAX : Fld := ⟨0x2406, 16, 5⟩
def DEC_PEAK_BITS_MAX : Fld := ⟨0x2406, 0, 16⟩
def LAST_FAIL_ADDR : Fld := ⟨0x2407, 0, 32⟩
def LAST_FAIL_CW_OUTCOME : Fld := ⟨0x2408, 4, 4⟩
def LAST_FAIL_CW_CW : Fld := ⟨0x2408, 0, 3⟩
def CW_LAYOUT_PAGE_BYTES (k : Nat) : Fld := ⟨0x2480 + k, 16, 16⟩
def CW_LAYOUT_CPP_M1 (k : Nat) : Fld := ⟨0x2480 + k, 2, 3⟩
def CW_LAYOUT_RATE (k : Nat) : Fld := ⟨0x2480 + k, 0, 2⟩
def CODEC_CTL_KEY : Fld := ⟨0x2490, 24, 8⟩
def CODEC_CTL_ACTION : Fld := ⟨0x2490, 0, 2⟩
def CODEC_TBL_SRC : Fld := ⟨0x2491, 0, 2⟩
def RTY_CFG_SOFT_DELTA : Fld := ⟨0x2600, 16, 8⟩
def RTY_CFG_RTY_MAX : Fld := ⟨0x2600, 8, 4⟩
def RTY_CFG_SOFT5 : Fld := ⟨0x2600, 3, 1⟩
def RTY_CFG_SOFT_EN : Fld := ⟨0x2600, 2, 1⟩
def RTY_CFG_LEARN : Fld := ⟨0x2600, 1, 1⟩
def RTY_CFG_RTY_EN : Fld := ⟨0x2600, 0, 1⟩
def RTY_LEARN_SEL_CH : Fld := ⟨0x2601, 5, 3⟩
def RTY_LEARN_SEL_DIE : Fld := ⟨0x2601, 0, 5⟩
def RTY_LEARN_STEP : Fld := ⟨0x2602, 0, 4⟩
def RTY_COUNT_RETRY_READS : Fld := ⟨0x2603, 16, 16⟩
def RTY_COUNT_SOFT_READS : Fld := ⟨0x2603, 0, 16⟩
def RND_CFG_RND_EN : Fld := ⟨0x2640, 31, 1⟩
def RND_CFG_SALT : Fld := ⟨0x2640, 0, 31⟩
def RTY_CLASS_FA (k : Nat) : Fld := ⟨0x2650 + k, 16, 8⟩
def RTY_CLASS_COUNT (k : Nat) : Fld := ⟨0x2650 + k, 8, 4⟩
def RTY_CLASS_BASE (k : Nat) : Fld := ⟨0x2650 + k, 0, 6⟩
def RTY_ENTRY_P4 (k : Nat) : Fld := ⟨0x2680 + k, 24, 8⟩
def RTY_ENTRY_P3 (k : Nat) : Fld := ⟨0x2680 + k, 16, 8⟩
def RTY_ENTRY_P2 (k : Nat) : Fld := ⟨0x2680 + k, 8, 8⟩
def RTY_ENTRY_P1 (k : Nat) : Fld := ⟨0x2680 + k, 0, 8⟩
def SOFT_LLR_3_LLR : Fld := ⟨0x26C0, 0, 20⟩
def SOFT_LLR_5_LLR : Fld := ⟨0x26C1, 0, 30⟩
def MAP_STAT_FAULTS : Fld := ⟨0x2700, 28, 4⟩
def MAP_STAT_DIRTY : Fld := ⟨0x2700, 16, 10⟩
def MAP_STAT_CACHED : Fld := ⟨0x2700, 0, 9⟩
def MAP_EVT_SRC : Fld := ⟨0x2701, 0, 3⟩
def MAP_COUNT_FAULTS : Fld := ⟨0x2702, 16, 16⟩
def MAP_COUNT_FAULT_ERRS : Fld := ⟨0x2702, 0, 16⟩
def MAP_FAULT_US_MAX : Fld := ⟨0x2703, 16, 16⟩
def MAP_FAULT_US_LAST : Fld := ⟨0x2703, 0, 16⟩
def MAP_CTL_KEY : Fld := ⟨0x2704, 24, 8⟩
def MAP_CTL_ACTION : Fld := ⟨0x2704, 8, 3⟩
def MAP_CTL_ALL : Fld := ⟨0x2704, 7, 1⟩
def MAP_CTL_VOL : Fld := ⟨0x2704, 0, 4⟩
def MAP_TBL_SRC : Fld := ⟨0x2705, 0, 2⟩
def VOL_STAT_BUILD (k : Nat) : Fld := ⟨0x2740 + k, 27, 1⟩
def VOL_STAT_KEYED (k : Nat) : Fld := ⟨0x2740 + k, 26, 1⟩
def VOL_STAT_CACHED (k : Nat) : Fld := ⟨0x2740 + k, 17, 9⟩
def VOL_STAT_NEXT_GRP (k : Nat) : Fld := ⟨0x2740 + k, 0, 17⟩
def VOL_SEL_VOL : Fld := ⟨0x2780, 0, 4⟩
def VOL_CFG_COMP : Fld := ⟨0x2781, 6, 2⟩
def VOL_CFG_ENC : Fld := ⟨0x2781, 5, 1⟩
def VOL_CFG_MODE : Fld := ⟨0x2781, 4, 1⟩
def VOL_CFG_KIND : Fld := ⟨0x2781, 0, 2⟩
def VOL_LEN_LEN : Fld := ⟨0x2782, 0, 26⟩
def VOL_MAP_CH : Fld := ⟨0x2783, 29, 3⟩
def VOL_MAP_DIE : Fld := ⟨0x2783, 24, 5⟩
def VOL_MAP_ROW : Fld := ⟨0x2783, 0, 24⟩
def VOL_SAVE_CH_MASK : Fld := ⟨0x2784, 24, 8⟩
def VOL_SAVE_FIRST_BLK : Fld := ⟨0x2784, 12, 12⟩
def VOL_SAVE_BLK_COUNT : Fld := ⟨0x2784, 0, 12⟩
def STR_STAT_OPEN : Fld := ⟨0x2900, 0, 32⟩
def STR_EVT_SRC : Fld := ⟨0x2901, 0, 2⟩
def STR_CFG_MAP_AHEAD : Fld := ⟨0x2902, 16, 9⟩
def STR_CFG_PF_MAX : Fld := ⟨0x2902, 0, 8⟩
def STR_SEL_STREAM : Fld := ⟨0x2903, 0, 5⟩
def STR_INFO_0_STATE : Fld := ⟨0x2904, 30, 2⟩
def STR_INFO_0_VOL : Fld := ⟨0x2904, 24, 4⟩
def STR_INFO_0_QID : Fld := ⟨0x2904, 16, 6⟩
def STR_INFO_0_TAG : Fld := ⟨0x2904, 0, 16⟩
def STR_INFO_1_W : Fld := ⟨0x2905, 0, 32⟩
def STR_INFO_2_CREDIT : Fld := ⟨0x2906, 16, 16⟩
def STR_INFO_2_RESIDENT : Fld := ⟨0x2906, 0, 10⟩
def STR_INFO_3_END : Fld := ⟨0x2907, 0, 32⟩
def STR_CTL_KEY : Fld := ⟨0x2908, 24, 8⟩
def STR_CTL_ACTION : Fld := ⟨0x2908, 8, 2⟩
def INF_STAT_DICT : Fld := ⟨0x2A00, 16, 4⟩
def INF_STAT_BUSY : Fld := ⟨0x2A00, 0, 14⟩
def INF_EVT_SRC : Fld := ⟨0x2A01, 0, 2⟩
def INF_CFG_XSUM_REQ : Fld := ⟨0x2A02, 2, 1⟩
def INF_CFG_LZ4_EN : Fld := ⟨0x2A02, 1, 1⟩
def INF_CFG_ZSTD_EN : Fld := ⟨0x2A02, 0, 1⟩
def INF_DICT_ALB_ALB (k : Nat) : Fld := ⟨0x2A03 + k, 0, 32⟩
def INF_DICT_LEN_VOL (k : Nat) : Fld := ⟨0x2A07 + k, 28, 4⟩
def INF_DICT_LEN_LEN (k : Nat) : Fld := ⟨0x2A07 + k, 0, 17⟩
def INF_CTL_KEY : Fld := ⟨0x2A0B, 24, 8⟩
def INF_CTL_ACTION : Fld := ⟨0x2A0B, 8, 2⟩
def INF_CTL_MASK : Fld := ⟨0x2A0B, 0, 4⟩
def INF_DICT_STAT_CODES : Fld := ⟨0x2A0C, 0, 16⟩
def INF_COUNT_FRAMES : Fld := ⟨0x2A0D, 16, 16⟩
def INF_COUNT_FRAME_ERRS : Fld := ⟨0x2A0D, 0, 16⟩
def PROT_STAT_SES_BEGUN : Fld := ⟨0x2B00, 20, 4⟩
def PROT_STAT_SES_AUTH : Fld := ⟨0x2B00, 16, 4⟩
def PROT_STAT_REENROLS : Fld := ⟨0x2B00, 12, 4⟩
def PROT_STAT_AUTH_FAILS : Fld := ⟨0x2B00, 8, 4⟩
def PROT_STAT_BARRED : Fld := ⟨0x2B00, 4, 1⟩
def PROT_STAT_VERIFIED : Fld := ⟨0x2B00, 3, 1⟩
def PROT_STAT_LIFECYCLE : Fld := ⟨0x2B00, 0, 2⟩
def PROT_EVT_SRC : Fld := ⟨0x2B01, 0, 8⟩
def PROT_CTL_KEY : Fld := ⟨0x2B02, 24, 8⟩
def PROT_CTL_ACTION : Fld := ⟨0x2B02, 0, 3⟩
def PROT_RES_BUSY : Fld := ⟨0x2B03, 8, 1⟩
def PROT_RES_CODE : Fld := ⟨0x2B03, 0, 4⟩
def KEY_STAT_LOADED : Fld := ⟨0x2B04, 0, 16⟩
def KEY_BIND_LO_VOLS : Fld := ⟨0x2B05, 0, 32⟩
def KEY_BIND_HI_VOLS : Fld := ⟨0x2B06, 0, 32⟩
def IMP_STAT_MAX_DIST : Fld := ⟨0x2B07, 16, 16⟩
def IMP_STAT_OUTSIDE : Fld := ⟨0x2B07, 8, 8⟩
def IMP_STAT_MEASURED : Fld := ⟨0x2B07, 0, 8⟩
def IMP_REC_REC_OK : Fld := ⟨0x2B08, 16, 1⟩
def IMP_REC_DIES : Fld := ⟨0x2B08, 0, 7⟩
def CTR_SEL_INDEX : Fld := ⟨0x2B09, 0, 4⟩
def CTR_LO_VALUE : Fld := ⟨0x2B0A, 0, 32⟩
def CTR_HI_VALUE : Fld := ⟨0x2B0B, 0, 32⟩
def IMP_HASH_DATA (k : Nat) : Fld := ⟨0x2B0C + k, 0, 32⟩
def DEVPUB_DATA (k : Nat) : Fld := ⟨0x2B14 + k, 0, 32⟩
def IMP_CFG_TOL : Fld := ⟨0x2B80, 24, 8⟩
def IMP_CFG_MAX_OUT : Fld := ⟨0x2B80, 16, 8⟩
def IMP_CFG_BLK : Fld := ⟨0x2B80, 0, 12⟩
def AUTH_CFG_AUTH_TMO : Fld := ⟨0x2B81, 0, 16⟩
def WRAP_KEY_DATA (k : Nat) : Fld := ⟨0x2B82 + k, 0, 32⟩
def WRAP_TITLE_LO_DATA : Fld := ⟨0x2B92, 0, 32⟩
def WRAP_TITLE_HI_DATA : Fld := ⟨0x2B93, 0, 32⟩
def WRAP_OUT_DATA (k : Nat) : Fld := ⟨0x2B94 + k, 0, 32⟩
def NOR_STAT_PEND : Fld := ⟨0x2D00, 24, 8⟩
def NOR_STAT_OP_SECTOR : Fld := ⟨0x2D00, 16, 8⟩
def NOR_STAT_RD_BUSY : Fld := ⟨0x2D00, 10, 1⟩
def NOR_STAT_SUSPENDED : Fld := ⟨0x2D00, 9, 1⟩
def NOR_STAT_BUSY : Fld := ⟨0x2D00, 8, 1⟩
def NOR_STAT_OP : Fld := ⟨0x2D00, 0, 2⟩
def NOR_EVT_SRC : Fld := ⟨0x2D01, 0, 7⟩
def NOR_CFG_BUSY_MODE : Fld := ⟨0x2D02, 8, 1⟩
def NOR_CFG_MIN_RUN : Fld := ⟨0x2D02, 0, 8⟩
def NOR_WEAR_SEL_SECTOR : Fld := ⟨0x2D03, 0, 8⟩
def NOR_WEAR_OVER : Fld := ⟨0x2D04, 31, 1⟩
def NOR_WEAR_COUNT : Fld := ⟨0x2D04, 0, 31⟩
def JNL_STAT_TORN : Fld := ⟨0x2D05, 24, 8⟩
def JNL_STAT_DROPPED : Fld := ⟨0x2D05, 16, 8⟩
def JNL_STAT_NEXT : Fld := ⟨0x2D05, 0, 10⟩
def NOR_PW_STAT_BARRED : Fld := ⟨0x2D06, 12, 1⟩
def NOR_PW_STAT_FAILS : Fld := ⟨0x2D06, 8, 4⟩
def NOR_PW_STAT_STATE : Fld := ⟨0x2D06, 0, 3⟩
def NOR_PROT_0_PSEC : Fld := ⟨0x2D07, 0, 8⟩
def NOR_PROT_1_MSEC_LO : Fld := ⟨0x2D08, 0, 32⟩
def NOR_PROT_2_MSEC_HI : Fld := ⟨0x2D09, 0, 31⟩
def NOR_WP_0_PSEC : Fld := ⟨0x2D0A, 0, 8⟩
def NOR_WP_1_MSEC_LO : Fld := ⟨0x2D0B, 0, 32⟩
def NOR_WP_2_MSEC_HI : Fld := ⟨0x2D0C, 0, 31⟩
def NOR_ADDR_ADDR : Fld := ⟨0x2D40, 3, 20⟩
def NOR_WDATA_LO_DATA : Fld := ⟨0x2D41, 0, 32⟩
def NOR_WDATA_HI_DATA : Fld := ⟨0x2D42, 0, 32⟩
def NOR_RDATA_LO_DATA : Fld := ⟨0x2D43, 0, 32⟩
def NOR_RDATA_HI_DATA : Fld := ⟨0x2D44, 0, 32⟩
def NOR_PASS_DATA (k : Nat) : Fld := ⟨0x2D45 + k, 0, 32⟩
def NOR_PW_NEW_DATA (k : Nat) : Fld := ⟨0x2D4B + k, 0, 32⟩
def NOR_CTL_KEY : Fld := ⟨0x2D49, 24, 8⟩
def NOR_CTL_SECTOR : Fld := ⟨0x2D49, 16, 8⟩
def NOR_CTL_ACTION : Fld := ⟨0x2D49, 0, 4⟩
def NOR_RES_BUSY : Fld := ⟨0x2D4A, 16, 1⟩
def NOR_RES_STATUS : Fld := ⟨0x2D4A, 8, 8⟩
def NOR_RES_QUAL : Fld := ⟨0x2D4A, 0, 8⟩
def OTP_SEL_WORD : Fld := ⟨0x2D80, 8, 4⟩
def OTP_SEL_SLOT : Fld := ⟨0x2D80, 0, 5⟩
def OTP_DATA_DATA : Fld := ⟨0x2D81, 0, 32⟩
def OTP_WDATA_DATA : Fld := ⟨0x2D82, 0, 32⟩
def OTP_CTL_KEY : Fld := ⟨0x2D83, 24, 8⟩
def OTP_CTL_ACTION : Fld := ⟨0x2D83, 0, 2⟩
def OTP_RES_BUSY : Fld := ⟨0x2D84, 8, 1⟩
def OTP_RES_CODE : Fld := ⟨0x2D84, 0, 4⟩
def OTP_LOCKS_LOCKED : Fld := ⟨0x2D85, 0, 32⟩
def PS_STAT_FAULT : Fld := ⟨0x2E00, 31, 1⟩
def PS_STAT_BOTH_BAD : Fld := ⟨0x2E00, 16, 12⟩
def PS_STAT_ONE_BAD : Fld := ⟨0x2E00, 0, 12⟩
def PS_ERR_FAILED : Fld := ⟨0x2E01, 16, 16⟩
def PS_ERR_RETRIES : Fld := ⟨0x2E01, 0, 16⟩
def PS_ADDR_INC : Fld := ⟨0x2E02, 31, 1⟩
def PS_ADDR_ADDR : Fld := ⟨0x2E02, 2, 18⟩
def PS_DATA_DATA : Fld := ⟨0x2E03, 0, 32⟩
def CAL_STAT_TRAINING : Fld := ⟨0x2F00, 24, 8⟩
def CAL_STAT_STALE_CH : Fld := ⟨0x2F00, 16, 8⟩
def CAL_STAT_STALE_LN : Fld := ⟨0x2F00, 12, 4⟩
def CAL_STAT_TRIM_SRC : Fld := ⟨0x2F00, 10, 2⟩
def CAL_STAT_SNAP1_OK : Fld := ⟨0x2F00, 9, 1⟩
def CAL_STAT_SNAP0_OK : Fld := ⟨0x2F00, 8, 1⟩
def CAL_STAT_RESTORED : Fld := ⟨0x2F00, 0, 8⟩
def CAL_EVT_TRIM_DEFAULT : Fld := ⟨0x2F01, 4, 1⟩
def CAL_EVT_LANE_STALE : Fld := ⟨0x2F01, 3, 1⟩
def CAL_EVT_IMPORT_REJECT : Fld := ⟨0x2F01, 2, 1⟩
def CAL_EVT_SAVE_FAIL : Fld := ⟨0x2F01, 1, 1⟩
def CAL_EVT_SAVED : Fld := ⟨0x2F01, 0, 1⟩
def CAL_CFG_AUTO_SAVE : Fld := ⟨0x2F02, 31, 1⟩
def CAL_CFG_TRACK_EN : Fld := ⟨0x2F02, 30, 1⟩
def CAL_CFG_MIN_EYE : Fld := ⟨0x2F02, 16, 8⟩
def CAL_CFG_DT : Fld := ⟨0x2F02, 8, 8⟩
def CAL_TRACK_STALE_MS : Fld := ⟨0x2F03, 16, 16⟩
def CAL_TRACK_PERIOD_MS : Fld := ⟨0x2F03, 0, 16⟩
def CAL_CTL_KEY : Fld := ⟨0x2F04, 24, 8⟩
def CAL_CTL_CH_MASK : Fld := ⟨0x2F04, 16, 8⟩
def CAL_CTL_LANES : Fld := ⟨0x2F04, 8, 1⟩
def CAL_CTL_ACTION : Fld := ⟨0x2F04, 0, 3⟩
def CAL_RES_BUSY : Fld := ⟨0x2F05, 8, 1⟩
def CAL_RES_CODE : Fld := ⟨0x2F05, 0, 4⟩
def CAL_SNAP_VALID (k : Nat) : Fld := ⟨0x2F06 + k, 31, 1⟩
def CAL_SNAP_LEVEL (k : Nat) : Fld := ⟨0x2F06 + k, 16, 8⟩
def CAL_SNAP_GEN (k : Nat) : Fld := ⟨0x2F06 + k, 0, 16⟩
def CAL_IMPORT_OFFSET : Fld := ⟨0x2F08, 6, 11⟩
def TRIM_STAT_VERSION : Fld := ⟨0x2F09, 16, 16⟩
def TRIM_STAT_SLOT : Fld := ⟨0x2F09, 8, 6⟩
def TRIM_STAT_FREE : Fld := ⟨0x2F09, 0, 7⟩
def CAL_LN_TEMP : Fld := ⟨0x2F48, 24, 8⟩
def CAL_LN_STALE : Fld := ⟨0x2F48, 16, 4⟩
def CAL_LN_RESTORED : Fld := ⟨0x2F48, 12, 4⟩
def CAL_SEL_CH : Fld := ⟨0x2F80, 4, 3⟩
def CAL_SEL_CE : Fld := ⟨0x2F80, 0, 3⟩
def CAL_RDQ_DQ (k : Nat) : Fld := ⟨0x2F81 + k, 0, 32⟩
def CAL_WDQ_DQ (k : Nat) : Fld := ⟨0x2F83 + k, 0, 32⟩
def CAL_DQS_VREF : Fld := ⟨0x2F85, 24, 7⟩
def CAL_DQS_GATE : Fld := ⟨0x2F85, 16, 8⟩
def CAL_DQS_WDQS : Fld := ⟨0x2F85, 8, 8⟩
def CAL_DQS_RDQS : Fld := ⟨0x2F85, 0, 8⟩
def CAL_DOFS_LUN : Fld := ⟨0x2F86, 0, 32⟩
def CAL_LN_SEL_GEN : Fld := ⟨0x2FC0, 4, 2⟩
def CAL_LN_SEL_LANE : Fld := ⟨0x2FC0, 0, 2⟩
def CAL_LN_EQ_CDR : Fld := ⟨0x2FC1, 24, 8⟩
def CAL_LN_EQ_DFE2 : Fld := ⟨0x2FC1, 16, 8⟩
def CAL_LN_EQ_DFE1 : Fld := ⟨0x2FC1, 8, 8⟩
def CAL_LN_EQ_CTLE : Fld := ⟨0x2FC1, 0, 5⟩
def ISL_STAT_CH : Fld := ⟨0x0180, 8, 8⟩
def ISL_STAT_ISL : Fld := ⟨0x0180, 0, 8⟩
def EVR_STAT_SVC_NEST : Fld := ⟨0x0200, 24, 5⟩
def EVR_STAT_HF_FILL : Fld := ⟨0x0200, 16, 5⟩
def EVR_STAT_PENDING : Fld := ⟨0x0200, 0, 9⟩
def EVR_COUNT_COALESCED : Fld := ⟨0x0201, 16, 16⟩
def EVR_COUNT_SPURIOUS : Fld := ⟨0x0201, 0, 16⟩
def EVR_SVC_VEC_VEC_BASE : Fld := ⟨0x0202, 0, 32⟩
def EVR_SEL_SRC : Fld := ⟨0x0203, 0, 9⟩
def EVR_INFO_PEND : Fld := ⟨0x0204, 31, 1⟩
def EVR_INFO_INSVC : Fld := ⟨0x0204, 30, 1⟩
def EVR_INFO_OVR : Fld := ⟨0x0204, 29, 1⟩
def EVR_INFO_HF_COPY : Fld := ⟨0x0204, 28, 1⟩
def EVR_INFO_HOLDER : Fld := ⟨0x0204, 24, 4⟩
def EVR_INFO_LPRIO : Fld := ⟨0x0204, 16, 4⟩
def EVR_DATA_LO_DATA : Fld := ⟨0x0205, 0, 32⟩
def EVR_DATA_HI_DATA : Fld := ⟨0x0206, 0, 32⟩
def EVR_PEND_BITS (k : Nat) : Fld := ⟨0x0240 + k, 0, 32⟩
def EVR_INSVC_BITS (k : Nat) : Fld := ⟨0x024C + k, 0, 32⟩
def EVR_CFG_EN (k : Nat) : Fld := ⟨0x0280 + k, 31, 1⟩
def EVR_CFG_PRIO (k : Nat) : Fld := ⟨0x0280 + k, 16, 4⟩
def EVR_CFG_TMASK (k : Nat) : Fld := ⟨0x0280 + k, 0, 10⟩
def EVR_POST_KEY : Fld := ⟨0x0400, 24, 8⟩
def EVR_POST_SRC : Fld := ⟨0x0400, 0, 9⟩
def EVR_POST_DATA_LO_DATA : Fld := ⟨0x0401, 0, 32⟩
def EVR_POST_DATA_HI_DATA : Fld := ⟨0x0402, 0, 32⟩
def WD_STAT_FROZEN : Fld := ⟨0x0500, 16, 9⟩
def WD_STAT_RUN : Fld := ⟨0x0500, 0, 9⟩
def WD_SEL_WD : Fld := ⟨0x0501, 0, 4⟩
def WD_INFO_ELAPSED : Fld := ⟨0x0502, 16, 16⟩
def WD_INFO_OPEN : Fld := ⟨0x0502, 15, 1⟩
def WD_INFO_FIRST : Fld := ⟨0x0502, 14, 1⟩
def WD_CFG_MAX (k : Nat) : Fld := ⟨0x0540 + k, 16, 16⟩
def WD_CFG_MIN (k : Nat) : Fld := ⟨0x0540 + k, 0, 16⟩
def WD_CTL_KEY : Fld := ⟨0x0549, 24, 8⟩
def WD_CTL_WARN : Fld := ⟨0x0549, 16, 8⟩
def WD_CTL_EN : Fld := ⟨0x0549, 0, 9⟩
def THERM_STAT_TJ : Fld := ⟨0x0580, 16, 16⟩
def THERM_STAT_HOT : Fld := ⟨0x0580, 12, 4⟩
def THERM_STAT_SENS_FAIL : Fld := ⟨0x0580, 0, 10⟩
def THERM_CFG_TRIP : Fld := ⟨0x0581, 24, 8⟩
def THERM_CFG_WARN : Fld := ⟨0x0581, 16, 8⟩
def THERM_CFG_HYST : Fld := ⟨0x0581, 8, 4⟩
def THERM_CTL_ALERT_EN : Fld := ⟨0x0582, 8, 1⟩
def THERM_CTL_GRACE : Fld := ⟨0x0582, 0, 4⟩
def THERM_HIST_PEAK : Fld := ⟨0x0583, 16, 16⟩
def THERM_HIST_RESETS : Fld := ⟨0x0583, 8, 8⟩
def THERM_HIST_TRIPS : Fld := ⟨0x0583, 0, 8⟩
def THERM_SENS_SEL_SENSOR : Fld := ⟨0x0584, 0, 4⟩
def THERM_SENS_FAIL : Fld := ⟨0x0585, 31, 1⟩
def THERM_SENS_READING : Fld := ⟨0x0585, 0, 16⟩
def SUP_STAT_WARN : Fld := ⟨0x0586, 16, 9⟩
def SUP_STAT_CLASS : Fld := ⟨0x0586, 0, 8⟩
def SUP_V_SEL_RAIL : Fld := ⟨0x0587, 0, 4⟩
def SUP_V_MV : Fld := ⟨0x0588, 0, 16⟩
def CASC_STAT_EPOCH : Fld := ⟨0x3200, 16, 16⟩
def CASC_STAT_CL1_UP : Fld := ⟨0x3200, 9, 1⟩
def CASC_STAT_CL0_UP : Fld := ⟨0x3200, 8, 1⟩
def CASC_STAT_JOINED : Fld := ⟨0x3200, 0, 4⟩
def CASC_EVT_SRC : Fld := ⟨0x3201, 0, 5⟩
def CASC_MSEL_MEMBER : Fld := ⟨0x3202, 0, 2⟩
def CASC_MINFO_SVI_VER : Fld := ⟨0x3203, 16, 16⟩
def CASC_MINFO_REASON : Fld := ⟨0x3203, 12, 4⟩
def CASC_MINFO_STATE : Fld := ⟨0x3203, 8, 4⟩
def CASC_MINFO_FORM : Fld := ⟨0x3203, 1, 1⟩
def CASC_MINFO_JOINED : Fld := ⟨0x3203, 0, 1⟩
def CASC_CTL_KEY : Fld := ⟨0x3204, 24, 8⟩
def CASC_CTL_ACTION : Fld := ⟨0x3204, 8, 2⟩
def CASC_CTL_MEMBER : Fld := ⟨0x3204, 0, 2⟩
def CASC_COUNT_RUNS : Fld := ⟨0x3205, 16, 16⟩
def CASC_COUNT_LOSSES : Fld := ⟨0x3205, 8, 8⟩
def CASC_COUNT_REFUSED : Fld := ⟨0x3205, 0, 8⟩
def CASC_CFG_TOPO : Fld := ⟨0x3240, 4, 1⟩
def CASC_CFG_GEN_MAX : Fld := ⟨0x3240, 0, 2⟩
def CASC_RATION_SHARE : Fld := ⟨0x3241, 31, 1⟩
def CASC_RATION_W : Fld := ⟨0x3241, 0, 16⟩
def CASC_VOL_STRIPE (k : Nat) : Fld := ⟨0x3242 + k, 4, 4⟩
def CASC_VOL_DEV_MASK (k : Nat) : Fld := ⟨0x3242 + k, 0, 4⟩
def CASC_QBIND_BIND (k : Nat) : Fld := ⟨0x3252 + k, 0, 32⟩
def TP_SEL_TARGET : Fld := ⟨0x3300, 0, 8⟩
def TP_STAT_NOSYNC : Fld := ⟨0x3301, 8, 1⟩
def TP_STAT_SYNC : Fld := ⟨0x3301, 4, 1⟩
def TP_STAT_CODE : Fld := ⟨0x3301, 0, 4⟩
def TP_ERRS_ERRS : Fld := ⟨0x3302, 0, 32⟩
def TP_BITS_LO_BITS : Fld := ⟨0x3303, 0, 32⟩
def TP_BITS_HI_BITS : Fld := ⟨0x3304, 0, 16⟩
def TP_SYNC_LOSSES : Fld := ⟨0x3305, 0, 16⟩
def TP_RUNNING_CL : Fld := ⟨0x3306, 16, 2⟩
def TP_RUNNING_CH : Fld := ⟨0x3306, 8, 8⟩
def TP_RUNNING_LN : Fld := ⟨0x3306, 0, 4⟩
def TP_EVT_SRC : Fld := ⟨0x3307, 0, 2⟩
def TP_CFG_DUR_MS : Fld := ⟨0x3340, 16, 16⟩
def TP_CFG_PATTERN : Fld := ⟨0x3340, 0, 8⟩
def TP_CTL_KEY : Fld := ⟨0x3341, 24, 8⟩
def TP_CTL_TARGET : Fld := ⟨0x3341, 16, 8⟩
def TP_CTL_ACTION : Fld := ⟨0x3341, 0, 2⟩
def BIST_CTL_KEY : Fld := ⟨0x3342, 24, 8⟩
def BIST_CTL_RUN : Fld := ⟨0x3342, 8, 1⟩
def BIST_CTL_MASK : Fld := ⟨0x3342, 0, 8⟩
def BIST_STAT_FAILED : Fld := ⟨0x3343, 8, 8⟩
def BIST_STAT_DONE : Fld := ⟨0x3343, 4, 4⟩
def BIST_STAT_CODE : Fld := ⟨0x3343, 0, 4⟩
def CAL_CH_TEMP (k : Nat) : Fld := ⟨0x2F40 + k, 24, 8⟩
def CAL_CH_AGE (k : Nat) : Fld := ⟨0x2F40 + k, 16, 8⟩
def CAL_CH_RATE (k : Nat) : Fld := ⟨0x2F40 + k, 12, 4⟩
def CAL_CH_HOST_SET (k : Nat) : Fld := ⟨0x2F40 + k, 11, 1⟩
def CAL_CH_STALE (k : Nat) : Fld := ⟨0x2F40 + k, 10, 1⟩
def CAL_CH_PATH (k : Nat) : Fld := ⟨0x2F40 + k, 8, 2⟩
def CAL_CH_UPDATES (k : Nat) : Fld := ⟨0x2F40 + k, 0, 8⟩

end Sys2Proof.Machine.F
end

