-- ==== Sys2Proof/Machine/QueueTable.lean ====
section
/-!
DEFINITION. The fixed properties of the 48 internal queues (Table 10-1, R223) and the reset values of registers that differ
within a run (Table 21-2, FQ_WM, OWN_LIMIT_3, WD_CFG_0, QP_SQ_CFG of pair 0).
-/

namespace Sys2Proof.Machine

/-- Depth of an internal queue in entries. -/
def fqDepth (q : Nat) : Nat :=
  if q = 1 ∨ q = 20 then 128
  else if 10 ≤ q ∧ q ≤ 17 ∨ 26 ≤ q ∧ q ≤ 33 ∨ q = 35 ∨ q = 41 ∨ q = 42 ∨ q = 45 then 16
  else if q = 22 ∨ q = 25 ∨ 37 ≤ q ∧ q ≤ 40 ∨ q = 43 ∨ q = 44 ∨ 46 ≤ q then 32
  else 64

/-- Entry width W in bytes. -/
def fqW (q : Nat) : Nat :=
  if q = 1 ∨ q = 21 ∨ q = 38 ∨ q = 47 then 32
  else if q = 0 ∨ q = 22 ∨ q = 37 ∨ 39 ≤ q ∧ q ≤ 45 then 64
  else 16

/-- Producer port width in bytes. -/
def fqPW (q : Nat) : Nat :=
  if q = 1 ∨ q = 21 ∨ q = 37 ∨ q = 38 then 32
  else if q = 22 ∨ q = 40 ∨ q = 41 ∨ q = 45 then 64
  else 16

/-- Mode: 0 plain, 1 commit, 2 length slot. -/
def fqMode (q : Nat) : Nat :=
  if 10 ≤ q ∧ q ≤ 17 ∨ 26 ≤ q ∧ q ≤ 33 ∨ q = 37 ∨ q = 39 ∨ q = 43 then 1
  else if q = 42 ∨ q = 44 then 2
  else 0

/-- Is the queue a spill queue? -/
def fqSpill (q : Nat) : Bool := q = 37 ∨ q = 39 ∨ q = 43 ∨ q = 44 ∨ q = 47

/-- How many producers share the depth (R224). -/
def fqProducers (q : Nat) : Nat := if q = 34 ∨ q = 45 then 8 else 1

/-- Table 21-2: the reset value of EVR_CFG of source `s` (R490). -/
def evrReset (s : Nat) : Nat :=
  if s = 0 ∨ s = 4 then 0x800E0201
  else if s = 1 ∨ s = 2 then 0x800F0201
  else if s = 3 then 0x800A0201
  else if s = 5 ∨ s = 12 then 0x800F0001
  else if s = 6 ∨ 8 ≤ s ∧ s ≤ 11 then 0x80080001
  else if s = 7 then 0x80060001
  else if s = 13 ∨ s = 14 then 0x800C0201
  else if s = 15 then 0x80060201
  else if s ≤ 31 then 0x80000001
  else if s ≤ 95 then 0x800A0201
  else if s ≤ 159 then 0x80070001
  else if s ≤ 223 then (if (s - 160) % 8 = 4 then 0x800D0001 else 0x80050001)
  else if s = 240 then 0x800C0201
  else if s ≤ 255 then 0x80060001
  else if s = 272 ∨ s = 273 then 0x80090201
  else if s ≤ 319 then 0x80040001
  else if s ≤ 351 then 0x80090001
  else 0x80040001

end Sys2Proof.Machine
end

