-- ==== Sys2Proof/Machine/State.lean ====
section
/-!
DEFINITION. The state of the block as plain data: the register store of parameter space, the stores of the keep die, and
one structure for each engine whose state no register shows. Tables are lists of (key, value), keys rising, an unlisted
key reading as the default its docstring names.
-/

namespace Sys2Proof.Machine

/-- Why the machine stops. -/
inductive Fault where
  /-- A command that acts on a unit the block does not have. No command of the table is one: every command has an effect, or leaves the
  state as it is where its trigger does not hold, so nothing raises this fault. Safe: it could only stop a run. -/
  | noSuchUnit (what : String)
  deriving DecidableEq, Repr

/-- Why a command has no meaning here. -/
inductive Refusal where
  /-- The command has no meaning in the model yet. Raised by the arms of exec only. Safe: nothing is claimed about it. -/
  | notModelled (mnemonic : String)
  deriving DecidableEq, Repr

/-! ### Event Router, watchdogs, thermal and supply monitors (ch. 21) -/

/-- One source of the Event Router (R482 to R488, R554). -/
structure EvSrc where
  pend : Bool := false
  data : Nat := 0
  insvc : Option Nat := none
  lprio : Nat := 0
  sdata : Nat := 0
  hf : Bool := false
  hfData : Nat := 0
  ovr : Bool := false
  deriving DecidableEq, Repr

/-- One entry of the host-forward queue (R489). -/
structure HfEntry where
  src : Nat
  prio : Nat
  data : Nat
  deriving DecidableEq, Repr

/-- The Event Router. `src` maps a source number to its state (unlisted: idle). `offer` holds, by target
(0 SVC, n + 1 sequencer n), the source offered. -/
structure Router where
  src : List (Nat × EvSrc) := []
  hfq : List HfEntry := []
  offer : List (Nat × Nat) := []
  deriving DecidableEq, Repr

/-- One watchdog (R491 to R495). Times are microseconds. `min` and `max` are the window in force. -/
structure Watchdog where
  run : Bool := false
  frozen : Bool := false
  elapsed : Nat := 0
  first : Bool := true
  warned : Bool := false
  min : Nat := 0
  max : Nat := 1000
  good : Nat := 0
  deriving DecidableEq, Repr

/-- One temperature sensor (R497). `reading` is the corrected reading in 1/16 °C as 16 bits. -/
structure Sensor where
  bad : Nat := 0
  good : Nat := 0
  failed : Bool := false
  reading : Nat := 0
  deriving DecidableEq, Repr

/-- Thermal protection (R497 to R503). `rails` are the readings of Table 21-5 in mV; `cool` counts samples below 95 °C; `stop` is
set from TJ_TRIP until the junction is below 95 °C; `grace` says that thermal grace runs, since `graceFrom` for `graceMs`. -/
structure Thermal where
  sensors : List (Nat × Sensor) := []
  rails : List (Nat × Nat) := []
  cool : Nat := 0
  stop : Bool := false
  grace : Bool := false
  graceFrom : Nat := 0
  graceMs : Nat := 0
  deriving DecidableEq, Repr

/-! ### Always-on island, balls and straps (ch. 02, 03) -/

/-- The always-on island: what survives resets other than POR (R65), with the supply and presence inputs. `rails` and `xtal` say
which supplies are good, `validFrom` when the last became so; `por` that power-on reset is released; `resetN` and the presence
pins are levels, `presFrom` is when the presence pins last changed. `straps` are the levels held, `sampled` that they need not be
sampled at the next Trailhead; `logDegraded` the copy of the DEGRADED flag (R220), `prevDegraded` that copy as the last reset found it;
`causes` those of the AON cycle of the last reset, which was at `causesAt` (R69). The input levels before the first rail is valid are the
model's (log entry 120). -/
structure Aon where
  rails : List Nat := []
  xtal : Bool := false
  validFrom : Nat := 0
  por : Bool := false
  resetN : Bool := true
  prsntN : Bool := true
  pwrFailN : Bool := true
  presFrom : Nat := 0
  holdupOk : Bool := true
  straps : Nat := 0
  sampled : Bool := false
  logDegraded : Bool := false
  prevDegraded : Bool := false
  causes : List Nat := []
  causesAt : Option Nat := none
  deriving DecidableEq, Repr

/-- The level of an output: driven low, driven high, or high impedance (an open-drain output that is released, too). -/
inductive Level where
  | low | high | hiZ
  deriving DecidableEq, Repr

/-- An output ball (Table 2-9): those of channel `n`, and those of domain IO18. -/
inductive Ball where
  | ce (n k : Nat) | cle (n : Nat) | ale (n : Nat) | weN (n : Nat) | wpN (n : Nat) | reT (n : Nat) | reC (n : Nat)
  | dq (n k : Nat) | dqsT (n : Nat) | dqsC (n : Nat) | alertN | fcN (k : Nat) | clkreqN | spDi | spDo | tdo
  deriving DecidableEq, Repr

/-- The balls the rules drive: the defaults are the levels of Table 2-9 while the logic die is in reset (R34, R61, R63, R67, R242, R498).
`ceHigh`, `wpLow`, `cleAle`, `weReT`, `reC` and `dq` are those of every channel at rest (a bus cycle begins and ends inside one step);
`lanesIdle` says that the host lanes are in electrical idle; `vccqLow` lists the groups whose VCCQ_F rail is below 85 % of nominal
(R46). What a ball shows is `State.ball`. -/
structure Balls where
  ceHigh : Bool := true
  wpLow : Bool := true
  cleAle : Level := .low
  weReT : Level := .high
  reC : Level := .low
  dq : Level := .hiZ
  alert : Bool := false
  lanesIdle : Bool := true
  clocksGated : Bool := false
  fc0 : Bool := false
  fc1 : Bool := false
  clkreq : Level := .hiZ
  spDo : Level := .hiZ
  tdo : Level := .hiZ
  vccqLow : List Nat := []
  deriving DecidableEq, Repr

/-- Removal and reset in hand (R55 to R66). `parked` is set once the device is parked, `parkedFrom` when; `orderly` holds the
cause of an orderly reset that is settling, since `orderlyFrom`. `lanesStarted` says that lane training has been started. -/
structure Removal where
  parked : Bool := false
  parkedFrom : Nat := 0
  orderly : Option Cause := none
  orderlyFrom : Nat := 0
  lanesStarted : Bool := false
  deriving DecidableEq, Repr

/-- The Trailhead in hand (R84): `step` is `BOOT_PROG.STEP` (0 while the logic die is in reset), `done` the steps of Table 4-5 that
are done, `start` the moment it began; `waited` that the wait of R72 has ended, `found` that an SVI was accepted, `classified` that
the dies have their classes; `abandoned` that a removal ended it (Table 4-7); `trims` the trims in use, by number: 0 to 9 sensors,
10 and 11 ISNS offset and gain, 12 to 16 the monitors, 17 ZQ. -/
structure Trail where
  step : Nat := 0
  done : List Nat := []
  start : Nat := 0
  waited : Bool := false
  found : Bool := false
  classified : Bool := false
  abandoned : Bool := false
  trims : List (Nat × Int) := []
  deriving DecidableEq, Repr

/-! ### Stores of the keep die (ch. 19) -/

/-- Who asked for work on the keep die: a register action of a path, or the host command in flight at an index. -/
inductive Origin where
  | path (p : Path)
  | cmd (k : Nat)
  | boot
  deriving DecidableEq, Repr

/-- A program or an erase of the eNOR waiting for, or holding, the array (R441 to R446). A program keeps the words it has
still to write, as (address, data), and whether it may only clear bits; `pass` is the password given. `after` counts the journal records that
arrived before it and still wait. `since` is the moment an erase started, was suspended or was resumed. -/
structure NorOp where
  origin : Origin
  erase : Bool
  sector : Nat := 0
  words : List (Nat × Nat) := []
  clear : Bool := false
  pass : List Byte := []
  after : Nat := 0
  suspended : Bool := false
  since : Nat := 0
  deriving DecidableEq, Repr

/-- A NOR_READ that waits for the array (R446). -/
structure NorRead where
  flight : Nat
  addr : Nat
  len : Nat
  deriving DecidableEq, Repr

/-- The keep die's stores and the engine of KMEM. Unlisted bytes read 0xFF in the eNOR, 0x00 in OTP and PS. `psNext` is how
the PS writes that the command in hand makes will end, in their order (those beyond it pass at once), an input of the physical store that
the command sets; `otpNext` the same for its OTP programs, `logNext` how the Logbook's next writes
will end, which LOGBOOK_WRITE sets for commands to come. `psFault`, `norFault` and `otpFault` say that the next access to that store
meets a link fault of the keep bus (R13). `psTorn` lists the PS offsets at which the last write failed, so that what begins there fails its check (R464). `norDoubt` lists sectors whose erase
failed, with the number of their free value; `norWp` the session-protected sector codes; `norStopped` that an erase was left
suspended or stopped (R449); `jnlHeld` fault records waiting (bytes 4 to 29); `xchSlots` SPB slots in use under R360. -/
structure Keep where
  ps : List (Nat × Byte) := []
  nor : List (Nat × Byte) := []
  otp : List (Nat × Byte) := []
  psNext : List PsOutcome := []
  norOp : Option NorOp := none
  norQueue : List NorOp := []
  norReads : List NorRead := []
  norStopped : Bool := false
  norWp : List Nat := []
  jnlHeld : List (List Byte) := []
  jnlFullPosted : Bool := false
  norDoubt : List (Nat × Nat) := []
  otpLocks : Nat := 0
  psTorn : List Nat := []
  otpNext : List PsOutcome := []
  logNext : List PsOutcome := []
  psFault : Bool := false
  norFault : Bool := false
  otpFault : Bool := false
  xchSlots : Nat := 0
  deriving DecidableEq, Repr

/-! ### Host queues, commands in flight and the Logbook (ch. 08, 09) -/

inductive QpState where
  | absent | active | deleting
  deriving DecidableEq, Repr

/-- A completion waiting to be posted (Table 8-1). `lim` says that a member was LIMITED (R514); `raw` is the completion entry of the
member that ran a bound command (R515); `silent` that an orderly reset closed the command, so that it is not posted (R66). -/
structure Cpl where
  flight : Nat
  tag : Nat
  status : Nat
  qual : Nat
  result : Nat
  dup : Bool := false
  stale : Bool := false
  logIdx : Option Nat := none
  noIrq : Bool := false
  gen : Nat := 0
  lim : Bool := false
  raw : List Byte := []
  silent : Bool := false
  deriving DecidableEq, Repr

/-- One queue pair (R179 to R190). `slots` holds the 64-byte commands by slot number; `ready` the completions held in
order; `ageFrom` the moment of R204; `delPaths` the paths that wait for its DELETE; `dev` the member it is bound to (R515). -/
structure Qp where
  st : QpState := .absent
  gen : Nat := 0
  prio : Nat := 0
  sqLog2 : Nat := 5
  cqLog2 : Nat := 5
  vec : Nat := 1
  irqEn : Bool := true
  base : Nat := 0
  slots : List (Nat × List Byte) := []
  fill : Nat := 0
  tail : Nat := 0
  head : Nat := 0
  cqHead : Nat := 0
  cqTail : Nat := 0
  phase : Bool := true
  bound : Bool := false
  ready : List Cpl := []
  ageFrom : Nat := 0
  delPaths : List Path := []
  dev : Nat := 0
  deriving DecidableEq, Repr

/-- Where a command in flight stands (R209, R201). -/
inductive FPhase where
  | accepted | started | ready | parked (orig : Nat)
  deriving DecidableEq, Repr

/-- A command in flight: its identity, its 64 bytes, its Logbook entry, and what its execution has gathered. `data` is
the host data received; `out` the data to deliver; `logOpen` says that its Logbook entry is open, `inShadow` that it lies
in the shadow ring; `mailbox` says that it waits for the supervisor since `since`; `units` the
state of each part of a read, `xadm` the moves of 4,096 bytes that the ledger has admitted, `asked` the host data asked for so far, `bufs` the Hamper buffers it
holds; `place` the device and local ALB of each ALB of a
READ_ALB that lies not wholly here, `rdev` the status and qualifier of each device's part of it, `lim` and `raw` as for `Cpl`;
`step3` says that it waits for its output buffers (R256), and `hwait` is the number of its request that waits. -/
structure Flight where
  qid : Nat
  tag : Nat
  gen : Nat
  bytes : List Byte
  mutates : Bool
  fprint : Nat
  phase : FPhase := .accepted
  dup : Bool := false
  run : Bool := false
  journalled : Bool := true
  logIdx : Nat := 0
  inShadow : Bool := false
  logOpen : Bool := false
  seq : Nat := 0
  opsDone : Nat := 0
  opsTotal : Nat := 0
  addr : Nat := 0
  status : Nat := 0
  qual : Nat := 0
  result : Nat := 0
  stale : Bool := false
  soft : Bool := false
  fails : Nat := 0
  arr : Nat := 0
  mailbox : Bool := false
  since : Nat := 0
  data : List (Nat × Byte) := []
  got : Nat := 0
  want : Nat := 0
  out : List Byte := []
  sent : Nat := 0
  units : List (Nat × Nat) := []
  xadm : Nat := 0
  asked : Nat := 0
  place : List (Nat × Nat) := []
  rdev : List (Nat × (Nat × Nat)) := []
  lim : Bool := false
  raw : List Byte := []
  bufs : List Nat := []
  step3 : Bool := false
  hwait : Option Nat := none
  deriving DecidableEq, Repr

/-- HOST: 64 pairs (unlisted: absent), commands in flight by index (unlisted: none), the queue served last. -/
structure HostQ where
  qps : List (Nat × Qp) := []
  flights : List (Nat × Flight) := []
  last : Nat := 63
  takes : Nat := 0
  deriving DecidableEq, Repr

/-- A mutating entry of the deduplication horizon (R212). -/
structure HEntry where
  seq : Nat
  idx : Nat
  qid : Nat
  tag : Nat
  gen : Nat
  fprint : Nat
  status : Nat
  qual : Nat
  result : Nat
  deriving DecidableEq, Repr

/-- The Logbook engine. `horizon` holds the class M entries, newest first; `shadow`
the ring in SRAM used in DEGRADED, by index;
`injected` that the next write to PS fails (LOG_INJECT); `newest` and `newestSeq` are those of the entry with the highest `SEQ`,
`prevNewest` the index of the one before it. -/
structure Log where
  nextSeq : Nat := 1
  lastAlloc : Nat := 0x3FFF
  horizon : List HEntry := []
  degraded : Bool := false
  injected : Bool := false
  shadow : List (Nat × List Byte) := []
  shadowLast : Nat := 0x3FF
  shadowFill : Nat := 0
  newest : Nat := 0
  newestSeq : Nat := 0
  prevNewest : Nat := 0
  deriving DecidableEq, Repr

/-! ### Service port, lock groups, staging (ch. 05) -/

/-- The lock groups and key latch of one path (R114 to R119). -/
structure LockPath where
  openGroups : Nat := 0
  fails : Nat := 0
  key : Nat := 0
  deriving DecidableEq, Repr

/-- The service port, the access paths and the commit engine. `held` is the 2-wire response held (R101); `reply` the last
response sent; `pend` the groups with a commit pending, each with the clock of its request; `hold` those in hold. -/
structure Port where
  held : Option (List Byte) := none
  reply : List Byte := []
  lockSp : LockPath := {}
  lockHost : LockPath := {}
  session : Nat := 0
  pend : List (Nat × Nat) := []
  hold : List Nat := []
  latchHi : List (Nat × Nat) := []
  fieldErr : Bool := false
  deriving DecidableEq, Repr

/-! ### Queue fabric (ch. 10) -/

/-- Who an entry without an in-flight index belongs to (R225). -/
inductive FqOrigin where
  | host | map | stream
  deriving DecidableEq, Repr

/-- A prefetched ALB on its way to the stream engine: its stream, ALB, the status it arrived with, its data, and the buffer that INFLATE
allocated for it, where it had none (R260). -/
structure Arrival where
  t : Nat
  a : Nat
  st : Nat
  data : List Byte := []
  buf : Option Nat := none
  deriving DecidableEq, Repr

/-- The work of an engine that an entry names: the memory window write of a REG_WR frame at an address (`mm` that HOST finds pointers to
differ, R188); the translations of the READ_ALB in flight `k`; die operation `i`; codeword `c`; a prefetched ALB; the mailbox command in
flight `k`. None for an entry whose bytes alone a PRODUCER_WRITE gave. -/
inductive QWork where
  | none
  | reg (addr : Nat) (mm : Bool)
  | alb (k : Nat)
  | op (i : Nat)
  | cw (c : Nat)
  | arrival (x : Arrival)
  | mailbox (k : Nat)
  deriving DecidableEq, Repr

/-- One entry of an internal queue with its side tag (Table 10-2). `prod` is the producer whose credit it holds, `flight`
the in-flight index it carries and `orig` the originator of one without (R225), `bufs` the Hamper buffers it names, `work` the engine work
it stands for; `done` says that its read has passed (R351). -/
structure FqEntry where
  data : List Byte := []
  user : Nat := 0
  vb : Nat := 0
  pos : Nat := 0
  lslot : Bool := false
  prod : Nat := 0
  flight : Option Nat := none
  orig : FqOrigin := .host
  bufs : List Nat := []
  work : QWork := .none
  done : Bool := false
  deriving DecidableEq, Repr

/-- A copy of a queue's pointers: RD, VIS and WR, and the spill chain's head and tail counts (R237). -/
structure FqPtrs where
  rd : Nat := 0
  vis : Nat := 0
  wr : Nat := 0
  head : Nat := 0
  tail : Nat := 0
  deriving DecidableEq, Repr

/-- One internal queue. `ring` holds the entries on chip from RD to WR, `spill` those in the spill chain after them, `vis`
how many of both, from the front, are visible; `parts` the partial entries, one per producer; `slotOpen` that a length slot is open
(it is then the first pending entry); `spillOff` entries already moved out of the first spill buffer; `bufs` the spill buffers held; `held`
the writes of stalled producers that still have bytes to place (R226), as entries; `inv` the second copy of the pointers, stored inverted
in 12 bits (R237); `inject` that the next access finds a pointer mismatch. -/
structure Fq where
  rd : Nat := 0
  ring : List FqEntry := []
  spill : List FqEntry := []
  vis : Nat := 0
  parts : List FqEntry := []
  slotOpen : Bool := false
  bufs : List Nat := []
  spillOff : Nat := 0
  held : List FqEntry := []
  wm : Bool := false
  inv : FqPtrs := ⟨4095, 4095, 4095, 4095, 4095⟩
  inject : Bool := false
  deriving DecidableEq, Repr

/-! ### Hamper (ch. 11) -/

/-- One Hamper buffer with its tag (Table 11-1). `ref` 0 is free; `next` the reference that `NEXT` holds when `LINKED`;
`cmd` the in-flight index when `CMD_VALID`, `cmdLow` the index bits while it is not; `born` `ALLOC_TIME`; `poison` that a double-bit data error is to retire it when
its count reaches 0; `data` the 4,096 data bytes and `stage` tag bytes 16 to 63 (unlisted bytes read 0). -/
structure HBuf where
  ref : Nat := 0
  owner : Nat := 0
  gen : Nat := 0
  next : Option Nat := none
  len : Nat := 0
  cmd : Option Nat := none
  cmdLow : Nat := 0
  born : Nat := 0
  retired : Bool := false
  poison : Bool := false
  orphanOnce : Bool := false
  orphan : Bool := false
  data : List (Nat × Byte) := []
  stage : List (Nat × Byte) := []
  deriving DecidableEq, Repr

/-- A request on the wait list (R252). `id` numbers the requests. -/
structure HWait where
  id : Nat
  owner : Nat
  n : Nat
  chain : Bool
  deriving DecidableEq, Repr

/-- The Hamper. Free buffers in first-in, first-out order are `fresh` to 2,047 and then `freed` (R253). `granted` holds the
references of granted requests by request number until their requesters have taken them. -/
structure Hamper where
  bufs : List (Nat × HBuf) := []
  fresh : Nat := 0
  freed : List Nat := []
  waits : List HWait := []
  nextId : Nat := 0
  low : Bool := false
  crit : Bool := false
  peak : List (Nat × Nat) := []
  oldest : List (Nat × (Nat × Nat)) := []
  lastGrant : Option (List Nat) := none
  granted : List (Nat × List Nat) := []
  deriving DecidableEq, Repr

/-! ### Output record -/

/-- What the block has sent on an output: a service-port response, an AGL or cascade frame as its bytes, a PCI Express
write or completion, an MSI-X message (its vector, address and data), a TAP register, a link frame or ordered set (lane 0
the host link, 1 and 2 the cascade lanes), the bits that one logical lane of a link carries for it (R135), the pattern a run sends, an error
message of PCI Express (0 ERR_COR, 1 ERR_NONFATAL, 2 ERR_FATAL), flow-control credits advertised (R169: InitFC or UpdateFC; 0 posted,
1 non-posted, 2 completion; header and data credits, 0 in InitFC standing for infinite), an act on a flash bus (0 chip enables, 1 command,
2 address, 3 data in, 4 data out, 5 status read, 6 and 7 set and get features). The record is the model's own. -/
inductive Msg where
  | spReply (bytes : List Byte)
  | agl (typ seq : Nat) (frame : List Byte)
  | casc (lane typ seq : Nat) (frame : List Byte)
  | tlpWrite (addr : Nat) (bytes : List Byte)
  | tlpRead (addr len : Nat)
  | tlpCpl (status : Nat) (bytes : List Byte)
  | msix (vec addr data : Nat)
  | tdo (bits value : Nat)
  | bus (ch act : Nat) (bytes : List Byte)
  | link (lane typ : Nat) (fields : List Byte)
  | line (link lane : Nat) (bits : List Bool)
  | fc (init : Bool) (cls hdr data : Nat)
  | pattern (target pattern gen preset : Nat) (states : List (List Bool))
  | err (kind : Nat)
  deriving DecidableEq, Repr

/-! ### Host link and PCI Express (ch. 06, 07) -/

/-- A frame or request queued to leave: AGL frame type (0x23 to 0x27), 0x30 for an MSI-X message (whose vector is `addr`);
header bytes 4 to 15, payload; `addr` the host address under PCI Express; `flight` the command it belongs to and `last`
that it ends that command's data. -/
structure TxItem where
  typ : Nat
  hdr : List Byte := []
  payload : List Byte := []
  addr : Nat := 0
  flight : Option Nat := none
  last : Bool := false
  deriving DecidableEq, Repr

/-- A range of host data asked for and not complete (R157, R170). `tag` is the PCI Express tag, `since` the moment it was
sent, `sq` and `ctag` the pair and TAG of its command; `dead` says that the command has ended, and that what comes for it is dropped. -/
structure Dreq where
  flight : Nat
  off : Nat
  len : Nat
  got : Nat := 0
  tag : Nat := 0
  since : Nat := 0
  sq : Nat := 0
  ctag : Nat := 0
  dead : Bool := false
  deriving DecidableEq, Repr

/-- The transmitters of a link's lanes, by logical lane (R135, R136): the LFSR that scrambles at AGL1 or AGL3, the last 58 bits sent at AGL2
(latest first), and whether the running disparity of 8b/10b is positive. -/
structure Phy where
  lfsr : List Nat := [0xFFFF, 0xFFFF, 0xFFFF, 0xFFFF]
  past : List Nat := [0, 0, 0, 0]
  rd : List Bool := [false, false, false, false]
  deriving DecidableEq, Repr

/-- One Agilnu Link receiver and transmitter (the host link, or a cascade link under R509). `state` is the code of Table
6-7; `rx` the next SEQ expected and `unacked` the frames accepted since the last ACK; `next` the next SEQ to send and
`retry` the frames sent and not acknowledged; limits and units consumed of the three credit classes; `tries` replays and
`recov` RECOVERY entries without progress; `tx` frames waiting; `pm` the state (1 L1, 2 L2) accepted;
`ts` sets counted in the present state, `cnt` those received in a row by lane; `trained` the lanes that trained;
`chgTo` the generation of a rate change that awaits EIOS, `newRate` that the present rate is one; `ctlAt` when LINK_CTL last came;
`failed` generations marked failed, `eqDone` generations equalised, `prevGen` the generation before a rate change; `alnTurn` that the next set sent is an ALN, `alnCnt` its number; `partner` the generations that
the other end advertises; `datLimit` the CDAT units granted on a cascade link; `echo` the numbers and widths that the host last proposed, by
physical lane (R139); `phy` the transmitters of the lanes. -/
structure Link where
  state : Nat := 0
  gen : Nat := 0
  width : Nat := 0
  active : Nat := 0
  pol : Nat := 0
  reversed : Bool := false
  rx : Nat := 0
  unacked : Nat := 0
  next : Nat := 0
  retry : List (Nat × TxItem) := []
  cmdLimit : Nat := 0
  cmdUsed : Nat := 0
  ctlLimit : Nat := 0
  ctlUsed : Nat := 0
  rdatLimit : Nat := 0
  rdatUsed : Nat := 0
  tries : Nat := 0
  recov : Nat := 0
  tx : List TxItem := []
  dreqs : List Dreq := []
  pm : Nat := 0
  ts : Nat := 0
  cnt : List (Nat × Nat) := []
  trained : Nat := 0
  chgTo : Nat := 0
  newRate : Bool := false
  ctlAt : Option Nat := none
  failed : Nat := 0
  eqDone : Nat := 0
  prevGen : Nat := 0
  presets : Nat := 0
  alnTurn : Bool := false
  alnCnt : Nat := 0
  partner : Nat := 1
  datLimit : Nat := 0
  echo : List (Nat × (Nat × Nat)) := []
  phy : Phy := {}
  deriving DecidableEq, Repr

/-- The PCI Express endpoint. `cfg` are configuration bytes that software has written (unlisted: as Tables 7-2 and 7-3),
`msix` the bytes of the MSI-X table, `pba` its pending bits, `fifo` the event FIFO, `popped` the data of the last event
popped, `perst` the level of PERST_N low; `disabled` that the root port keeps the link disabled; `aerUncor`, `aerCor`, `devSta` and
`pciSta` the error bits of the AER capability, Device Status and Status; `firstErr` the First Error Pointer and `hdrLog` the four DWs of the
header log; `adv` PCIE_LINK_CFG as the last Detect.Quiet took it up; `tlpNext` the number of the next TLP, `tlpRetry` those sent and not
acknowledged, `replays` how often they were sent again without progress; `lastReq` when the device last had a request to issue (R178); the
credits granted in all: headers and data, posted and non-posted (R169). -/
structure Pcie where
  ltssm : Nat := 0
  l1ss : Nat := 0
  dlUp : Bool := false
  speed : Nat := 0
  width : Nat := 0
  d3 : Bool := false
  cfg : List (Nat × Byte) := []
  msix : List (Nat × Byte) := []
  pba : Nat := 0
  fifo : List HfEntry := []
  popped : Nat := 0
  lost : Nat := 0
  perst : Bool := false
  aerUncor : Nat := 0
  aerCor : Nat := 0
  pllFail : Bool := false
  disabled : Bool := false
  devSta : Nat := 0
  pciSta : Nat := 0
  adv : Nat := 0x1A4
  firstErr : Nat := 0
  hdrLog : List Nat := [0, 0, 0, 0]
  tlpNext : Nat := 0
  tlpRetry : List (Nat × Msg) := []
  replays : Nat := 0
  lastReq : Nat := 0
  fcPh : Nat := 0
  fcPd : Nat := 0
  fcNh : Nat := 0
  fcNd : Nat := 0
  deriving DecidableEq, Repr


/-! ### Energy ledger (ch. 12) -/

/-- What a charge was admitted for: a die operation, the decode attempt of a codeword, a move of 4,096 bytes of a command or of a stream's
push. -/
inductive Payer where
  | op (i : Nat)
  | dec (c : Nat)
  | xfer (k : Nat)
  | push (t : Nat)
  deriving DecidableEq, Repr

/-- One charge whose nominal duration has not run out (R276): `payer` is what it belongs to, `done` the updates its shares have been returned
for. -/
structure Charge where
  payer : Payer
  charge : Nat
  dur : Nat
  done : Nat := 0
  deriving DecidableEq, Repr

/-- A calibration (R275): the class, and the die and row of the block it works on; the means of the class-free kinds that it will measure,
by entry less 0x3C (4 to 6), as (energy, duration); the updates and the energy of the idle measurement; the operations still to make, as
(kind, page), the one in hand with its kind; and for each kind the energy above idle, in units of 1/25,600 µJ, the time and the count of
the operations made. -/
structure RationCal where
  cls : Nat
  ch : Nat
  die : Nat
  row : Nat
  means : List (Nat × (Nat × Nat)) := []
  idleN : Nat := 0
  idle : Int := 0
  left : List (Nat × Nat) := []
  cur : Option (Nat × Nat) := none
  sums : List (Nat × (Int × (Nat × Nat))) := []
  deriving DecidableEq, Repr

/-- A decode or transfer request presented to the ledger, oldest first (R278): `xfer k n` asks for `n` moves of 4,096 bytes
or part for the command in flight `k`, `push t` for one of stream `t`. -/
inductive LReq where
  | dec (c : Nat)
  | xfer (k n : Nat)
  | push (t : Nat)
  deriving DecidableEq, Repr

/-- The Ration ledger: balance *B* in units of 1/256 µJ, the carried fraction of the refill in 1/1000 unit, unreturned
shares due at the next update, consecutive ISNS readings out of range, energy sums of the running
millisecond; `cap` and `avail` (*A*) as of the last update; `share` the share of refill, burst and bank energy (R517). -/
structure Ration where
  on : Bool := false
  isns : Bool := false
  bal : Int := 0
  frac : Nat := 0
  charges : List Charge := []
  back : Nat := 0
  isnsBad : Nat := 0
  derated : Bool := false
  sumIn : Int := 0
  sumAdm : Nat := 0
  upd : Nat := 0
  cal : Option RationCal := none
  share : Option (Nat × (Nat × Nat)) := none
  cap : Nat := 0
  avail : Int := 0
  reqs : List LReq := []
  deriving DecidableEq, Repr

/-! ### Dies, die operations, channels (ch. 13) -/

/-- One die (R286): its state of Table 13-4, class, planes code, extended rates, what its parameter page declares (rates as
a mask of codes, page, block and LUN sizes, a LUN reset), consecutive timeouts, READ ID bytes, learned retry step. -/
structure Die where
  state : Nat := 0
  cls : Nat := 0
  planes : Nat := 0
  ext : Nat := 0
  jedec : Bool := false
  lunReset : Bool := false
  tmo : Nat := 0
  ident : List Byte := []
  rates : Nat := 0
  pageBytes : Nat := 0
  pages : Nat := 0
  blocks : Nat := 0
  learn : Nat := 0
  deriving DecidableEq, Repr

/-- What a plane part of a die operation serves: codeword read `c`; page `i` of the PROGRAM_RAW in flight `k`; its ERASE_RAW;
the `i`-th group written back for flight `k`; page `i` − 1 of a ledger calibration (0: nobody); operation `i` of the imprint
sweep or enrolment of flight `k`. -/
inductive OpUse where
  | cw (c : Nat)
  | page (k i : Nat)
  | erase (k : Nat)
  | wback (k i : Nat)
  | cal (i : Nat)
  | imp (k i : Nat)
  deriving DecidableEq, Repr

/-- A plane part: its row, what it serves, the reference of its Hamper chain, the request number that chain waits under.
-/
structure OpPart where
  row : Nat
  use : OpUse
  buf : Option Nat := none
  hwait : Option Nat := none
  deriving DecidableEq, Repr

/-- Where a die operation stands (R295 to R298, R351): `queued` until the die scheduler has taken it from its queue. -/
inductive OpSt where
  | queued | waiting | granted | admitted | ready | handed | open (slot : Nat)
  deriving DecidableEq, Repr

/-- A die operation. `kind` is `KIND` of Table 15-9; `prio` the queue pair whose `PRIO` it carries, or a fixed priority;
`arr` its arrival; `waitFrom` the start of its wait on the supply account; `huFrom` the start of its wait for HOLDUP_OK;
`started` its confirm time, `runFrom` the start or last resumption of its run, `susTime` the time spent suspended; `res` its
hold-up reservation; `mates` the priorities (pair, fixed, arrival) of operations merged into it; `seqOf` the operation that
began its cache sequence. -/
structure DieOp where
  ch : Nat
  kind : Nat
  die : Nat
  parts : List OpPart
  col : Nat := 0
  len : Nat := 0
  step : Nat := 0
  cache : Bool := false
  prioQ : Option Nat := none
  prioFix : Nat := 0
  arr : Nat := 0
  st : OpSt := .waiting
  waitFrom : Option Nat := none
  blocking : Bool := false
  huFrom : Option Nat := none
  huWaited : Bool := false
  started : Option Nat := none
  runFrom : Nat := 0
  suspended : Bool := false
  suspFrom : Nat := 0
  suspCount : Nat := 0
  suspReads : Nat := 0
  susTime : Nat := 0
  res : Nat := 0
  dur : Nat := 0
  mates : List (Option Nat × (Nat × Nat)) := []
  seqOf : Option Nat := none
  deriving DecidableEq, Repr

/-- One channel: dies by index, VCCQ class code, state code of CH_STAT, the SPB slot its class parameters come from (none:
the ROM baseline), whether a training runs, with the rates still to be tried in the Trailhead (the first is being tried);
`stale` says that its calibration is stale. -/
structure Chan where
  dies : List (Nat × Die) := []
  vclass : Nat := 0
  state : Nat := 0
  bundle : Option Nat := none
  training : Bool := false
  tries : List Nat := []
  stale : Bool := false
  deriving DecidableEq, Repr

/-! ### Sequencers (ch. 14, 15) -/

/-- A sequence program as a bundle holds it (Table 15-3). `base` stands for the ROM baseline program. -/
structure Prog where
  base : Bool := true
  cls : Nat := 0
  slot : Nat := 0
  code : List Word := []
  entry : Nat := 0
  faultVec : Nat := 0
  carryT : Nat := 0
  armE : Nat := 0
  vecBase : Nat := 0
  tcfg : List Nat := []
  ecfg : List Nat := []
  deriving DecidableEq, Repr

/-- A timer (R348, R349). `left` is the count left for a timer in microseconds; `pcfg` the configuration that the pending
expiry was made under. -/
structure Timer where
  cfg : Nat := 0
  pcfg : Nat := 0
  running : Bool := false
  start : Nat := 0
  inUs : Bool := false
  left : Nat := 0
  pend : Bool := false
  carried : Bool := false
  deriving DecidableEq, Repr

/-- An edge detector (R350, R357). `kept` marks a latch kept on a detector that an exchange left disarmed. -/
structure Edge where
  cfg : Nat := 0
  armed : Bool := false
  latched : Bool := false
  carried : Bool := false
  overrun : Bool := false
  kept : Bool := false
  level : Bool := false
  deriving DecidableEq, Repr

/-- An outstanding slot (Table 15-9, OUT). -/
structure OutSlot where
  op : Nat
  started : Option Nat := none
  suspended : Bool := false
  poll : Bool := false
  carried : Bool := false
  kind : Nat := 0
  die : Nat := 0
  suspReq : Bool := false
  resReq : Bool := false
  deriving DecidableEq, Repr

/-- A Hamper store in the write buffer (R325): pointer, position, bytes. -/
structure HStore where
  p : Nat
  ptr : Nat
  off : Nat
  bytes : List Byte
  deriving DecidableEq, Repr

/-- An exchange on one channel (R355 to R359). `entry` says that the new program runs in its entry window; `rolled` that the
old program runs again after a rollback; `load` that this is the load of R361; `bundle` the slot of the new program, `back` and
`backProg` what ran before; `age` counts the microseconds of the present phase in which the sequencer was not halted. -/
structure Xch where
  flight : Option Nat := none
  prog : Prog := {}
  bundle : Option Nat := none
  back : Option Nat := none
  backProg : Prog := {}
  entry : Bool := false
  rolled : Bool := false
  load : Bool := false
  age : Nat := 0
  cancelled : Nat := 0
  carried : Nat := 0
  deriving DecidableEq, Repr

/-- One sequencer (Table 14-1). `v`, `p`, `timers` and `edges` hold V0 to V15, P0 to P3, the eight timers and the eight detectors by
number (unlisted: 0, idle); `st` is SEQ_STAT.STATE; `progs` the programs loaded, newest first, each lying over the
older ones in program memory; `lram` local RAM by word index over the free bytes numbered `lramN`; `bad` the
program-memory words found with a double-bit error; `noBreak` that the next instruction runs without breaking (R335); `issued` that a
primitive waits at issue under a commit hold (R347), and `haltReq` that a HALT waits for its retirement (R335). -/
structure Seq where
  st : Nat := 0
  halted : Bool := false
  v : List (Nat × Word) := []
  p : List (Nat × Word) := []
  flags : Nat := 0
  pc : Nat := 0
  stack : List Nat := []
  progs : List Prog := []
  lram : List (Nat × Word) := []
  lramN : Nat := 0
  timers : List (Nat × Timer) := []
  edges : List (Nat × Edge) := []
  en : Bool := false
  insvc : Bool := false
  inflt : Bool := false
  claim : Nat := 0
  edata : Nat := 0
  epc : Nat := 0
  eflags : Nat := 0
  fltCause : Nat := 0
  fltPc : Nat := 0
  fltRet : Nat := 0
  fflags : Nat := 0
  since : Nat := 0
  wbuf : List HStore := []
  slots : List (Nat × OutSlot) := []
  hand : Option Nat := none
  xhold : Bool := false
  xinfo : Nat := 0
  clsSel : Nat := 0
  dieSel : Nat := 0
  ce : Option Nat := none
  xch : Option Xch := none
  noBreak : Bool := false
  issued : Bool := false
  haltReq : Bool := false
  bad : List Nat := []
  deriving DecidableEq, Repr

/-! ### Codec (ch. 16) -/

/-- Where a decoded codeword goes: bytes `off` of the output of flight `k`; codeword `j` of frame job `f`; map page `m` of
volume `v`; ALB `a` of stream `t` (opened at `o`); ALB `i` of dictionary slot `d`; a calibration read. -/
inductive CwUse where
  | host (k off : Nat)
  | frame (f j : Nat)
  | mapPage (v m : Nat)
  | stream (t a : Nat)
  | dict (d i : Nat)
  | cal
  deriving DecidableEq, Repr

/-- Where a codeword stands (R372 to R382). `reading` waits for a die read; `landed` lies in Q_10 + n; `asked` waits for the
ledger to admit the decode on engine `e`; `busy` decodes; `softWait` waits for a soft engine; `done` has its outcome;
`plain` has left SECURE. -/
inductive CwPhase where
  | reading | landed | asked (e : Nat) | busy (e : Nat) | softWait | done | plain
  deriving DecidableEq, Repr

/-- One codeword on its way (R366, R378 to R382). `step` is the retry step of the read in hand, `soft` its place among the
soft reads (0: none); `kept` the chain, step and unsatisfied checks of the best attempt; `softRefs` the chains of the soft
reads, landed ones first; `buf` the chain in hand (0x10000: none); `vol` and `tweak` what SECURE decrypts with; `pass` the bytes of a raw read, which is not decoded
(R371; 0: a codeword). -/
structure Cw where
  use : CwUse
  ch : Nat
  die : Nat
  row : Nat
  k : Nat
  rate : Nat
  cpp : Nat
  seed : Nat
  xtag : Nat
  fa : Nat := 0
  pBase : Nat := 0
  cls : Nat := 0
  flight : Option Nat := none
  prioQ : Option Nat := none
  prioFix : Nat := 0
  vol : Nat := 0
  tweak : Nat := 0
  enc : Bool := false
  phase : CwPhase := .reading
  buf : Nat := 0x10000
  step : Nat := 0
  soft : Nat := 0
  left : List Nat := []
  kept : Option (Nat × (Nat × Nat)) := none
  softRefs : List Nat := []
  softLeft : Nat := 0
  outcome : Nat := 0
  bitsFixed : Nat := 0
  data : List Byte := []
  pass : Nat := 0
  learnOn : Bool := false
  deriving DecidableEq, Repr

/-! ### Asset map, streams, INFLATE (ch. 17) -/

/-- A cached map page: the 512 entries as bytes, dirty, and its place in the order of use. -/
structure MapPage where
  vol : Nat
  page : Nat
  bytes : List Byte
  dirty : Bool := false
  used : Nat := 0
  deriving DecidableEq, Repr

/-- Who waits on a map fault: unit `i` of flight `k`; ALB `a` of stream `t`, which is ALB `b` here; ALB `i` of dictionary slot `d`; nobody
(lookahead). -/
inductive MapWait where
  | host (k i : Nat)
  | stream (t a b : Nat)
  | dict (d i : Nat)
  | ahead
  deriving DecidableEq, Repr

/-- A map fault in progress (R394). `cw` is its codeword read, `since` its start. -/
structure MapFault where
  vol : Nat
  page : Nat
  cw : Nat
  since : Nat
  waits : List MapWait := []
  deriving DecidableEq, Repr

/-- A frame being read (R390, R397): its volume, first ALB, codeword count, the place of its first codeword, the payloads so far, and the ALBs wanted from it
as (position, use). `bad` holds the status and 256 times the qualifier of the worst codeword that failed; `soft` says that a
codeword needed read-retry or soft decoding. -/
structure FrameJob where
  vol : Nat
  alb : Nat
  n : Nat
  place : Nat × Nat × Nat × Nat := (0, 0, 0, 0)
  got : List (Nat × List Byte) := []
  wants : List (Nat × CwUse) := []
  bad : Option Nat := none
  soft : Bool := false
  flight : Option Nat := none
  deriving DecidableEq, Repr

/-- One stream (R405 to R410). `state` 1 open, 2 ended, 3 stopped; `resident` ALBs with their data; `flying` ALBs on their
way; `next` the prefetch point; `stopAt` the ALB at which it stopped and the status; `xadm` that the ledger has admitted the next push. -/
structure Stream where
  state : Nat := 0
  vol : Nat := 0
  qid : Nat := 0
  tag : Nat := 0
  gen : Nat := 0
  dptr : Nat := 0
  ring : Nat := 0
  first : Nat := 0
  w : Nat := 0
  stop : Nat := 0
  depth : Nat := 0
  credit : Nat := 0
  resident : List (Nat × List Byte) := []
  bufs : List (Nat × Nat) := []
  flying : List Nat := []
  next : Nat := 0
  stopAt : Option (Nat × Nat) := none
  pushed : Nat := 0
  xadm : Bool := false
  closing : Option Nat := none
  deriving DecidableEq, Repr

/-- MAP, the stream engine and INFLATE; `held` the frames that had a context when a commit of group INFLATE entered hold. -/
structure MapSt where
  pages : List MapPage := []
  clockUse : Nat := 0
  faults : List MapFault := []
  streams : List (Nat × Stream) := []
  frames : List (Nat × FrameJob) := []
  nextFrame : Nat := 0
  dicts : List (Nat × List Byte) := []
  dictRead : List (Nat × List (Nat × List Byte)) := []
  dictWant : List (Nat × Nat) := []
  held : List Nat := []
  deriving DecidableEq, Repr

/-! ### Content protection (ch. 18) -/

/-- One session (R419): 0 IDLE, 1 BEGUN, 2 AUTHENTICATED; the ephemeral private key, the console's keys, what TH hashes, the
MAC key, the certificate's flags, and when AUTH_BEGIN completed. -/
structure Session where
  st : Nat := 0
  eph : List Byte := []
  cpub : List Byte := []
  qc : List Byte := []
  script : List Byte := []
  kmac : List Byte := []
  flags : Nat := 0
  since : Nat := 0
  deriving DecidableEq, Repr

/-- An imprint check or enrolment in hand (R430 to R434): the dies as (channel, index). `done` holds the sweep reads that have
ended, as (2 × place of the die + sweep, (offset index, mask of the groups with at least 128 ones)); `bad` the places of dies that
could not be read; `failed` that an erase or a program failed. -/
structure ImpJob where
  flight : Nat
  enrol : Bool
  dies : List (Nat × Nat)
  leftOut : Nat := 0
  done : List (Nat × (Nat × Nat)) := []
  bad : List Nat := []
  failed : Bool := false
  deriving DecidableEq, Repr

/-- SECURE. `slots` holds (volume, key bytes) by key slot. -/
structure Prot where
  sessions : List (Nat × Session) := []
  slots : List (Nat × (Nat × List Byte)) := []
  job : Option ImpJob := none
  deriving DecidableEq, Repr


/-! ### Calibration (ch. 20) -/

/-- A training that waits for its channel's boundary (R469, R480): the path whose action asked for it; the image's values, for an
IMPORT whose identity matches. -/
structure CalJob where
  path : Path
  image : Option (List Byte) := none
  imp : Bool := false
  deriving DecidableEq, Repr

/-- A calibration action that runs (Table 20, CAL_RES): channels it still waits for, and whether some failed to match (code 0x7). -/
structure CalAct where
  left : List Nat
  imp : Bool := false
  trained : Bool := false
  deriving DecidableEq, Repr

/-- A tracking result that waits for its boundary (R475): the target, its five registers (RDQ 0 and 1, WDQ 0 and 1, DQS), and the
moment it was found. -/
structure CalTrack where
  ce : Nat
  vals : List Word
  since : Nat
  deriving DecidableEq, Repr

/-- Calibration in hand: jobs by channel in arrival order, actions by path number, waiting tracking results by channel, the last
tracking by channel and its failed eye, when each channel's values were set, the moment an automatic save has been due since. -/
structure CalSt where
  jobs : List (Nat × CalJob) := []
  acts : List (Nat × CalAct) := []
  tracks : List (Nat × CalTrack) := []
  trackAt : List (Nat × Nat) := []
  badEye : List Nat := []
  since : List (Nat × Nat) := []
  autoFrom : Option Nat := none
  deriving DecidableEq, Repr

/-! ### Cascade (ch. 22) -/

/-- What the master records of a member (CASC_MINFO), its UID, and when it last answered. -/
structure Member where
  joined : Bool := false
  sviVer : Nat := 0
  reason : Nat := 0
  state : Nat := 0
  form : Bool := false
  pongAt : Nat := 0
  uid : List Byte := []
  deriving DecidableEq, Repr

/-- What an exchange of the master with a member is for: ALBs of a READ_ALB in flight (the offset in its output of each, in the
order of the run), ALBs of a stream, or a bound command in flight. -/
inductive CUse where
  | host (k : Nat) (offs : List Nat)
  | stream (t : Nat) (albs : List Nat)
  | cmd (k : Nat)
  deriving DecidableEq, Repr

/-- An open exchange of the master: its number, the member, what it is for, and the data received so far. -/
structure CRun where
  xid : Nat
  dev : Nat
  use : CUse
  data : List (Nat × Byte) := []
  got : Nat := 0
  deriving DecidableEq, Repr

/-- The cascade. `cl0` and `cl1` are the two links (in pair topology `cl0` stands for both lanes); `epoch` is the master's epoch or
the member's joined epoch; `xids` gives the exchange number of each flight that a member runs for the master; `joinAt` when JOIN
was last sent; `accepted` that a JOIN_ACK accepted the member. -/
structure Casc where
  cl0 : Link := {}
  cl1 : Link := {}
  epoch : Nat := 0
  accepted : Bool := false
  joinAt : Option Nat := none
  pingAt : Nat := 0
  members : List (Nat × Member) := []
  runs : List CRun := []
  nextXid : Nat := 0
  xids : List (Nat × Nat) := []
  removeOwed : List Nat := []
  deriving DecidableEq, Repr

/-! ### Pattern runs, self-test, JTAG (ch. 23) -/

/-- The checker of one line or die pass (R526): the bits it has loaded or predicted from, the run of bits without error, the bits
compared, and the numbers of the last bits in error, latest first. -/
structure Checker where
  reg : List Bool := []
  good : Nat := 0
  sync : Bool := false
  pos : Nat := 0
  errs : List Nat := []
  deriving DecidableEq, Repr

/-- A pattern run on a target (R524 to R528): its pattern byte, its start and duration (µs, 0 until STOP), the TEST_PATTERN in
flight, whether a channel run still waits for started operations, and its checkers; of a run over die cache registers the passes made, the
bits sent so far, and the operation that presents the next pass to the ledger. `bufs` are its Hamper buffers, under owner TEST (R248),
`bufWait` the request for them that waits. -/
structure TpRun where
  pattern : Nat
  start : Nat
  dur : Nat
  flight : Option Nat := none
  waits : Bool := false
  synced : Bool := false
  chk : List Checker := []
  passes : Nat := 0
  bits : Nat := 0
  op : Option Nat := none
  bufs : List Nat := []
  bufWait : Option Nat := none
  deriving DecidableEq, Repr

/-- A self-test that runs (R529): its mask and when it began. -/
structure Bist where
  mask : Nat
  start : Nat
  deriving DecidableEq, Repr

/-- The TAP: its instruction, the boundary-scan update register (cell 0 in bit 0), what drives the outputs (0 functional, 1 EXTEST,
2 EXTEST_PULSE, 3 EXTEST_TRAIN, 4 CLAMP, 5 HIGHZ), and the last TP_ACCESS: its code and the word read. -/
structure Tap where
  ir : Nat := 1
  chain : Nat := 0
  drive : Nat := 0
  code : Nat := 0
  word : Nat := 0
  deriving DecidableEq, Repr

/-- Pattern runs by target code, a self-test in hand, the TAP. -/
structure Test where
  runs : List (Nat × TpRun) := []
  bist : Option Bist := none
  tap : Tap := {}
  deriving DecidableEq, Repr

/-- The machine. `clock` is the AON time base in microseconds (UPTIME), `freeN` numbers free values (the model's own),
`formB` says whether the part is a UZ4816-B. `regs` holds the active values of parameter space by key (window times 0x4000
plus page times 64 plus offset), `staged` the staged values of staged registers; an unlisted key reads its reset value. `cwOut` are
codewords with an outcome for which the codec has no credit yet (R15), oldest first; `codecTurn` the channel whose turn at the codec is next (R372);
`svcPc` is the supervisor's program counter (R70), whose program is not in the manual (log entry 35). -/
structure State where
  pending : List Instr := []
  clock : Nat := 0
  freeN : Nat := 0
  formB : Bool := true
  regs : List (Nat × Word) := []
  staged : List (Nat × Word) := []
  aon : Aon := {}
  balls : Balls := {}
  rmv : Removal := {}
  trail : Trail := {}
  keep : Keep := {}
  host : HostQ := {}
  log : Log := {}
  port : Port := {}
  router : Router := {}
  svcNest : List (Nat × Nat) := []
  svcPc : Word := 0
  wds : List (Nat × Watchdog) := []
  therm : Thermal := {}
  fqs : List (Nat × Fq) := []
  hmp : Hamper := {}
  agl : Link := {}
  pcie : Pcie := {}
  rt : Ration := {}
  chans : List (Nat × Chan) := []
  dops : List (Nat × DieOp) := []
  nextOp : Nat := 0
  seqs : List (Nat × Seq) := []
  cws : List (Nat × Cw) := []
  cwOut : List Nat := []
  codecTurn : Nat := 0
  nextCw : Nat := 0
  map : MapSt := {}
  prot : Prot := {}
  cal : CalSt := {}
  casc : Casc := {}
  test : Test := {}
  sent : List Msg := []
  deriving DecidableEq, Repr

/-- The boot record and the epoch counters as Gaevety writes both copies at production test (R92): the defaults, generation
1 (the generation is a DESIGN CHOICE), and the CRC-32 of each body. -/
def factoryPs : List (Nat × Byte) :=
  [(0x82000, 1), (0x82004, 0x49), (0x82005, 0xA5), (0x82006, 0xC8), (0x82007, 0xD3),
   (0x82040, 1), (0x82044, 0x49), (0x82045, 0xA5), (0x82046, 0xC8), (0x82047, 0xD3),
   (0x82080, 1), (0x82084, 0x20), (0x82085, 0xCA), (0x82086, 0xC1), (0x82087, 0xA3),
   (0x820A0, 1), (0x820A4, 0x20), (0x820A5, 0xCA), (0x820A6, 0xC1), (0x820A7, 0xA3)]

/-- The machine right after reset. Every register at its reset value (nothing listed in the store), every engine idle, and
PS as the part is delivered (R92). -/
def State.reset : State := { keep := { ps := factoryPs } }

end Sys2Proof.Machine
end

