-- ==== Sys2Proof/Machine/Ops.lean ====
section
/-!
DEFINITION. The operations every engine shares: reading and writing register fields by name, the windows of registers that
a select register chooses, posting events (R482, R554), changing the device state (R27), and reading and writing the keep
die's stores (R460, R463, R464).
-/

namespace Sys2Proof.Machine

/-! ### The register store -/

/-- The default cost of entry `i` of Table 12-1 (R272): energy in 1/256 µJ and duration in µs. -/
def costDefault (i : Nat) : Nat × Nat :=
  if i = 0x40 then (39, 2) else if i = 0x41 then (256, 8) else if i ≥ 0x42 then (52, 1)
  else if i % 4 = 1 then (15360, 800) else if i % 4 = 2 then (76800, 4000) else (640, 60)

/-- The default of retry entry `e` (ch. 16, RTY_ENTRY): entry 0 and entries from 16 on are 0; entry s repeats one signed
byte, −4 × ⌈s ÷ 2⌉ for odd s and +4 × (s ÷ 2) for even s. -/
def rtyEntryDefault (e : Nat) : Nat :=
  if e = 0 ∨ 16 ≤ e then 0
  else (if e % 2 = 1 then 256 - 4 * ((e + 1) / 2) else 4 * (e / 2)) * 0x01010101

/-- The reset value a register's fields spell. -/
def RegDef.resetWord (d : RegDef) : Nat :=
  d.fields.foldl (fun v f => v + f.rst % 2 ^ f.width * 2 ^ f.lo) 0

/-- What the register under key `k` (window times 0x4000 plus address) holds at reset. -/
def regReset (k : Nat) : Word :=
  let a := k % 0x4000
  let w := k / 0x4000
  BitVec.ofNat 32 <|
    if 0x280 ≤ a ∧ a < 0x400 then evrReset (a - 0x280)
    else if a = 0x540 then 0x07D00000
    else if a = 0x903 ∧ w = 0 then 0x705
    else if a = 0xE06 then (3 * fqDepth w / 4) * 0x10000 + fqDepth w / 4
    else if a = 0xC43 then 0x00280400
    else if a = 0x3141 then (costDefault w).1
    else if a = 0x3142 then (costDefault w).2
    else if 0x2680 ≤ a ∧ a < 0x26C0 then rtyEntryDefault (a - 0x2680)
    else match regDef? a with
      | some d => d.resetWord
      | none => 0

/-- The key of address `a` in window `w`. -/
def regKey (a w : Nat) : Nat := w * 0x4000 + a

/-- The active value of register `a` in window `w`. -/
def State.reg (s : State) (a : Nat) (w : Nat := 0) : Word := tget (regReset (regKey a w)) s.regs (regKey a w)

/-- The staged value of register `a` in window `w`. -/
def State.stagedReg (s : State) (a : Nat) (w : Nat := 0) : Word := tget (regReset (regKey a w)) s.staged (regKey a w)

/-- Set the active value of a register. -/
def State.setReg (s : State) (a : Nat) (v : Word) (w : Nat := 0) : State :=
  { s with regs := tset (regReset (regKey a w)) s.regs (regKey a w) v }

/-- Set the staged value of a register. -/
def State.setStaged (s : State) (a : Nat) (v : Word) (w : Nat := 0) : State :=
  { s with staged := tset (regReset (regKey a w)) s.staged (regKey a w) v }

/-- The active value of a field. -/
def State.get (s : State) (f : Fld) (w : Nat := 0) : Nat := bits (s.reg f.addr w).toNat f.lo f.width

/-- Set a field's active value (taken modulo its width). -/
def State.set (s : State) (f : Fld) (v : Nat) (w : Nat := 0) : State :=
  s.setReg f.addr (BitVec.ofNat 32 (putBits (s.reg f.addr w).toNat f.lo f.width v)) w

/-- The staged value of a field. -/
def State.getStaged (s : State) (f : Fld) (w : Nat := 0) : Nat := bits (s.stagedReg f.addr w).toNat f.lo f.width

/-- Set a field's staged value. -/
def State.setStagedF (s : State) (f : Fld) (v : Nat) (w : Nat := 0) : State :=
  s.setStaged f.addr (BitVec.ofNat 32 (putBits (s.stagedReg f.addr w).toNat f.lo f.width v)) w

/-- Set both values of a staged field, as the Trailhead does when it loads it. -/
def State.setBoth (s : State) (f : Fld) (v : Nat) (w : Nat := 0) : State := (s.set f v w).setStagedF f v w

/-- Set bits of a field that are 1 in `v`. -/
def State.orF (s : State) (f : Fld) (v : Nat) (w : Nat := 0) : State := s.set f (s.get f w ||| v) w

/-- Clear bits of a field that are 1 in `v`. -/
def State.clearF (s : State) (f : Fld) (v : Nat) (w : Nat := 0) : State :=
  s.set f (s.get f w &&& ((2 ^ f.width - 1) ^^^ (v % 2 ^ f.width))) w

/-- Raise a counter field by `n`, saturating at the field's largest value. -/
def State.addF (s : State) (f : Fld) (n : Nat) (w : Nat := 0) : State :=
  s.set f (min (2 ^ f.width - 1) (s.get f w + n)) w

/-- The number of a path, which is its window among registers kept once per path. -/
def pathNum : Path → Nat
  | .sp => 0
  | .host => 1
  | .svc => 2
  | .tap => 3

/-- The window of a register for an access by `p`, from the path's select register. -/
def State.winOf (s : State) (win : Win) (p : Path) : Nat :=
  match win with
  | .flat => 0
  | .path => pathNum p
  | .qp => s.get F.QP_SEL_QID (pathNum p)
  | .fq => s.get F.FQ_SEL_QID (pathNum p)
  | .cost => s.get F.COST_SEL_INDEX (pathNum p)
  | .vol => s.get F.VOL_SEL_VOL (pathNum p)
  | .cal => s.get F.CAL_SEL_CH (pathNum p) * 8 + s.get F.CAL_SEL_CE (pathNum p)
  | .ln => s.get F.CAL_LN_SEL_GEN (pathNum p) * 4 + s.get F.CAL_LN_SEL_LANE (pathNum p)
  | .tp => s.get F.TP_SEL_TARGET (pathNum p)

/-! ### Events -/

/-- The state of event source `n`. -/
def State.ev (s : State) (n : Nat) : EvSrc := tget {} s.router.src n

/-- Set the state of event source `n`. -/
def State.setEv (s : State) (n : Nat) (e : EvSrc) : State :=
  { s with router := { s.router with src := tset {} s.router.src n e } }

/-- Source `n` posts an occurrence with 64 bits of data: pending and host copy are set, or the post is coalesced on each
that is already set (R482, R554). -/
def State.post (s : State) (n : Nat) (data : Nat := 0) : State :=
  let e := s.ev n
  let routed := bit (s.get (F.EVR_CFG_TMASK n)) 9
  let co := e.pend || (routed && e.hf)
  let d := data % 2 ^ 64
  let e1 := if e.pend then { e with ovr := true } else { e with pend := true, data := d }
  let e2 := if routed then (if e1.hf then { e1 with ovr := true } else { e1 with hf := true, hfData := d }) else e1
  let s1 := s.setEv n e2
  if co then s1.addF F.EVR_COUNT_COALESCED 1 else s1

/-- Post source `base + k` and set bit `k` of the block's event register. -/
def State.postBit (s : State) (f : Fld) (base k : Nat) (data : Nat := 0) : State :=
  (s.orF f (1 <<< k)).post (base + k) data

/-! ### The device state (R26, R27) -/

/-- Codes of GLB_STAT.STATE (Table 1-8). -/
abbrev stTrailhead : Nat := 1
abbrev stReady : Nat := 2
abbrev stLimited : Nat := 3
abbrev stServiceOnly : Nat := 4
abbrev stThermalHold : Nat := 5
abbrev stRemoving : Nat := 6

/-- The device state. -/
def State.st (s : State) : Nat := s.get F.GLB_STAT_STATE

/-- READY or LIMITED, with no orderly reset settling (R66): the states in which host work runs. -/
def State.works (s : State) : Bool := (s.st == stReady || s.st == stLimited) && s.rmv.orderly.isNone

/-- Change the device state, with its reason (R27). Source 0 carries the new state and the reason. WP_N follows the state (R305). -/
def State.setState (s : State) (st reason : Nat) : State :=
  let s := { s with balls := { s.balls with wpLow := !(st == stReady || st == stLimited || st == stRemoving) } }
  (((s.set F.GLB_STAT_STATE st).set F.GLB_EVT_STATE_CHG 1).set F.GLB_QUAL_REASON reason).post 0 (st + reason * 256)

/-- Record an output. -/
def State.send (s : State) (m : Msg) : State := { s with sent := m :: s.sent }

/-- Take the next number for a free value (the model's own counter). -/
def State.takeFree (s : State) : Nat × State := (s.freeN, { s with freeN := s.freeN + 1 })

/-- A free value of `w` bits, and the state that has used it up. -/
def State.freeBits (s : State) (w : Nat) : Nat × State :=
  ((Config.freeBits s.freeN w) % 2 ^ w, { s with freeN := s.freeN + 1 })

/-! ### The keep die's stores -/

/-- Bytes of PS (unlisted bytes read 0). -/
def State.psRead (s : State) (a n : Nat) : List Byte := readBytes 0 s.keep.ps a n

/-- The little-endian number at a PS offset. -/
def State.psLE (s : State) (a n : Nat) : Nat := leNat (s.psRead a n)

/-- Place bytes in PS. -/
def State.psPut (s : State) (a : Nat) (l : List Byte) : State :=
  { s with keep := { s.keep with ps := writeBytes 0 s.keep.ps a l, psTorn := s.keep.psTorn.filter (· != a) } }

/-- What begins at PS offset `a` fails its check (R464). -/
def State.psMark (s : State) (a : Nat) : State := { s with keep := { s.keep with psTorn := a :: s.keep.psTorn.filter (· != a) } }

/-- A write of `n` bytes at PS offset `a` has failed its verify: what they hold is open. -/
def State.psTear (s : State) (a n : Nat) : State :=
  let (k, s1) := s.takeFree
  (s1.psPut a ((List.range n).map (fun i => BitVec.ofNat 8 (Config.freeByte k i)))).psMark a

/-- Did the last write at PS offset `a` pass? -/
def State.psWhole (s : State) (a : Nat) : Bool := !s.keep.psTorn.contains a

/-- The sector code of an eNOR address (Table 19-1). -/
def sectorOf (a : Nat) : Nat := if a < 0x20000 then a / 0x4000 else 0x40 + a / 0x20000

/-- What an unlisted eNOR byte reads: 0xFF (R440), but a free value in a sector whose erase failed (R445). -/
def norDefault (doubt : List (Nat × Nat)) (a : Nat) : Byte :=
  match doubt.find? (fun p => p.1 == sectorOf a) with
  | some (_, n) => BitVec.ofNat 8 (Config.freeByte n a)
  | none => 0xFF

/-- One byte of the eNOR. -/
def State.norByte (s : State) (a : Nat) : Byte := tget (norDefault s.keep.norDoubt a) s.keep.nor a

/-- Bytes of the eNOR. -/
def State.norBytes (s : State) (a n : Nat) : List Byte := (List.range n).map (fun i => s.norByte (a + i))

/-- The little-endian number at an eNOR address. -/
def State.norLE (s : State) (a n : Nat) : Nat := leNat (s.norBytes a n)

/-- Write bytes of the eNOR from `a` on. -/
def norWrite (doubt : List (Nat × Nat)) : List (Nat × Byte) → Nat → List Byte → List (Nat × Byte)
  | m, _, [] => m
  | m, a, b :: l => norWrite doubt (tset (norDefault doubt a) m a b) (a + 1) l

/-- Place bytes in the eNOR. -/
def State.norPut (s : State) (a : Nat) (l : List Byte) : State :=
  { s with keep := { s.keep with nor := norWrite s.keep.norDoubt s.keep.nor a l } }

/-- Bytes `off` to `off + n - 1` of an OTP slot (unprogrammed bits read 0, R457). -/
def State.otpBytes (s : State) (slot off n : Nat) : List Byte := readBytes 0 s.keep.otp (64 * slot + off) n

/-- The little-endian number at bytes of an OTP slot. -/
def State.otpLE (s : State) (slot off n : Nat) : Nat := leNat (s.otpBytes slot off n)

/-- Program OTP bits: programming only sets bits to 1 (R457). -/
def State.otpOr (s : State) (slot off : Nat) (l : List Byte) : State :=
  let old := s.otpBytes slot off l.length
  { s with keep := { s.keep with otp := writeBytes 0 s.keep.otp (64 * slot + off) (List.zipWith (· ||| ·) old l) } }

/-- The UID: 8 bytes of the identity slot, 0 while it is unprogrammed. -/
def State.uid (s : State) : List Byte := s.otpBytes 0 0 8

/-! ### Fault records (R71, R455, R456) -/

/-- Take one 32-byte record into FAULT_LATCH, or count it as dropped (R71). -/
def State.faultLatch (s : State) (r : List Byte) : State :=
  if s.get F.FAULT_STAT_VALID = 1 then s.addF F.FAULT_STAT_DROPPED 1
  else
    ((List.range 8).foldl (fun s k => s.set (F.FAULT_LATCH_DATA k) (leAt r (4 * k) 4)) s).set F.FAULT_STAT_VALID 1

/-- The sequence number of the last of the first `n` journal slots that passes its CRC; 0 when there is none. -/
def State.jnlLast (s : State) : Nat → Nat
  | 0 => 0
  | n + 1 =>
    let e := s.norBytes (0x1C000 + 32 * n) 32
    if leAt e 30 2 = crc16 (e.take 30) then leAt e 0 4 else s.jnlLast n

/-- Bytes 4 to 29 of a fault record (Table 19-5). -/
def State.faultBody (s : State) (src code : Nat) (data : List Byte) : List Byte :=
  natLE 1 src ++ natLE 1 code ++ natLE 2 (s.get F.RST_COUNT_RESETS) ++ natLE 8 s.clock ++ sliceB data 0 12 ++ natLE 2 0

/-- A fault record from its bytes 4 to 29: `SEQ` is one higher than the previous record's, and its CRC follows. -/
def State.faultRecord (s : State) (body : List Byte) : List Byte :=
  let l := natLE 4 (s.jnlLast (s.get F.JNL_STAT_NEXT) + 1) ++ body
  l ++ natLE 2 (crc16 l)

/-- A journal record that cannot be appended: counted and offered to FAULT_LATCH (R456). -/
def State.jnlDrop (s : State) (body : List Byte) : State :=
  (s.addF F.JNL_STAT_DROPPED 1).faultLatch (s.faultRecord body)

/-- Is PSEC_7 being erased? -/
def State.jnlErasing (s : State) : Bool := match s.keep.norOp with | some op => op.erase && op.sector == 7 | none => false

/-- A fault record falls due: it waits in arrival order for the array (up to 16 while PSEC_7 is erased), or goes to
FAULT_LATCH when an erase was stopped (R456). -/
def State.faultDue (s : State) (src code : Nat) (data : List Byte) : State :=
  let r := s.faultBody src code data
  if s.keep.norStopped ∨ (s.jnlErasing ∧ 16 ≤ s.keep.jnlHeld.length) then s.jnlDrop r
  else { s with keep := { s.keep with jnlHeld := s.keep.jnlHeld ++ [r] } }

/-- Report a field error of the access in hand (R8). -/
def State.fieldError (s : State) : State := { s with port := { s.port with fieldErr := true } }

/-! ### PS writes other than the Logbook's, and paired records (R460, R464) -/

/-- How the PS write that is made now ends: with a link fault when the keep bus has reported one for it (R13), else as the command in hand
says. -/
def State.psAnswer (s : State) : PsOutcome × State :=
  if s.keep.psFault then (.linkFault, { s with keep := { s.keep with psFault := false } })
  else (s.keep.psNext.headD (.ok 0), { s with keep := { s.keep with psNext := s.keep.psNext.tail } })

/-- The same for an OTP program. -/
def State.otpAnswer (s : State) : PsOutcome × State :=
  if s.keep.otpFault then (.linkFault, { s with keep := { s.keep with otpFault := false } })
  else (s.keep.otpNext.headD (.ok 0), { s with keep := { s.keep with otpNext := s.keep.otpNext.tail } })

/-- The PS writes of what follows end as `o` says. -/
def State.withPs (s : State) (o : List PsOutcome) : State := { s with keep := { s.keep with psNext := o } }

/-- What R464 does when a PS write at `off` fails. -/
def State.psFailed (s : State) (off : Nat) (link : Bool) : State :=
  let s1 := (((s.set F.PS_STAT_FAULT 1).addF F.PS_ERR_FAILED 1).postBit F.NOR_EVT_SRC 336 5 off)
  if link then s1.faultDue 0x0A 0x1 (natLE 4 off) else s1.faultDue 0x07 0 (natLE 4 off)

/-- Write bytes to PS on behalf of a step, ending as the store's next outcome says: true when they are in PS (R463, R464). A write of
one 32-byte unit that meets a link fault has not reached PS. -/
def State.psWrite (s : State) (off : Nat) (l : List Byte) : Bool × State :=
  let (o, s0) := s.psAnswer
  match o with
  | .ok n =>
    let s1 := s0.psPut off l
    (true, if 0 < n then s1.addF F.PS_ERR_RETRIES 1 else s1)
  | .verifyFail => (false, (s0.psTear off l.length).psFailed off false)
  | .linkFault => (false, (if l.length ≤ 32 then s0 else s0.psTear off l.length).psFailed off true)

/-- A paired record (Table 19-8): offset of copy 0, bytes per copy. -/
structure PairRec where
  off : Nat
  size : Nat
  deriving DecidableEq, Repr

/-- The copy `c` of a paired record. -/
def State.copyBytes (s : State) (r : PairRec) (c : Nat) : List Byte := s.psRead (r.off + c * r.size) r.size

/-- Does a copy pass its CRC (R460)? -/
def copyOk (l : List Byte) : Bool := leAt l 4 4 == crc32 (l.drop 8)

/-- Is generation `a` higher than `b`, modulo 2³² (R211)? -/
def genAbove (a b : Nat) : Bool := let d := (a + 2 ^ 32 - b) % 2 ^ 32; decide (0 < d ∧ d < 2 ^ 31)

/-- Does copy `c` pass its check `ok`? One whose last write failed does not (R464). -/
def State.copyPass (s : State) (r : PairRec) (ok : List Byte → Bool) (c : Nat) : Bool :=
  s.psWhole (r.off + c * r.size) && ok (s.copyBytes r c)

/-- The copy in use: the one that passes `ok` and has the higher generation (R460). -/
def State.copyInUse (s : State) (r : PairRec) (ok : List Byte → Bool) : Option (List Byte) :=
  let a := s.copyBytes r 0
  let b := s.copyBytes r 1
  match s.copyPass r ok 0, s.copyPass r ok 1 with
  | true, true => if genAbove (leAt b 0 4) (leAt a 0 4) then some b else some a
  | true, false => some a
  | false, true => some b
  | false, false => none

/-- The number of the copy a writer chooses and the generation it gives it (R460). -/
def State.copyToWrite (s : State) (r : PairRec) (ok : List Byte → Bool) : Nat × Nat :=
  let a := s.copyBytes r 0
  let b := s.copyBytes r 1
  let ga := leAt a 0 4
  let gb := leAt b 0 4
  match s.copyPass r ok 0, s.copyPass r ok 1 with
  | true, true => if genAbove ga gb then (1, (ga + 1) % 2 ^ 32) else (0, (gb + 1) % 2 ^ 32)
  | true, false => (1, (ga + 1) % 2 ^ 32)
  | false, true => (0, (gb + 1) % 2 ^ 32)
  | false, false => (0, 1)

/-- Write a paired record whose bytes from 8 on are `body` (padded with 0 to the copy's size); true when written, else the copy fails
its check (R464). -/
def State.writePair (s : State) (r : PairRec) (ok : List Byte → Bool) (body : List Byte) : Bool × State :=
  let (c, g) := s.copyToWrite r ok
  let full := sliceB body 0 (r.size - 8)
  let (done, s1) := s.psWrite (r.off + c * r.size) (natLE 4 g ++ natLE 4 (crc32 full) ++ full)
  (done, if done then s1 else s1.psMark (r.off + c * r.size))

/-- How many copies of a paired record fail their check. -/
def State.badCopies (s : State) (r : PairRec) (ok : List Byte → Bool) : Nat :=
  b2n (!s.copyPass r ok 0) + b2n (!s.copyPass r ok 1)

/-! ### Dies (ch. 13) -/

/-- Sequencer `n`. -/
def State.sq (s : State) (n : Nat) : Seq := tget {} s.seqs n

/-- Set sequencer `n`. -/
def State.setSq (s : State) (n : Nat) (q : Seq) : State := { s with seqs := tset {} s.seqs n q }

/-- Channel `n`. -/
def State.chan (s : State) (n : Nat) : Chan := tget {} s.chans n

/-- Set channel `n`. -/
def State.setChan (s : State) (n : Nat) (c : Chan) : State := { s with chans := tset {} s.chans n c }

/-- Die `d` of channel `n`. -/
def State.die (s : State) (n d : Nat) : Die := tget {} (s.chan n).dies d

/-- Set die `d` of channel `n`. -/
def State.setDie (s : State) (n d : Nat) (v : Die) : State :=
  let c := s.chan n
  s.setChan n { c with dies := tset {} c.dies d v }

/-- The channel, die and row that a raw command names (Table 8-3). -/
def rawAddr (c : List Byte) : Nat × (Nat × Nat) :=
  (leAt c 16 1 % 8, (leAt c 17 1 % 8 * 4 + leAt c 17 1 / 16 % 4, leAt c 20 3))

/-- A function of the state applied `n` times. -/
def iterate {α : Type} (f : α → α) : Nat → α → α
  | 0, a => a
  | n + 1, a => iterate f n (f a)

end Sys2Proof.Machine
end

