-- ==== Sys2Proof/Machine/Logbook.lean ====
section
/-!
DEFINITION. The Logbook (ch. 09): verified writes to PS with their fallback to DEGRADED, entries and their slots, the
horizon of the deduplication index, the header, the in-doubt list, and the rows that act on them.
-/

namespace Sys2Proof.Machine

/-! ### Entries (R208, Table 9-2) -/

/-- An entry of 32 bytes: the first 30 followed by their CRC-16. -/
def withCrc16 (l : List Byte) : List Byte := l ++ natLE 2 (crc16 l)

/-- Does an entry pass its CRC? -/
def crc16Ok (l : List Byte) : Bool := leAt l (l.length - 2) 2 == crc16 (l.take (l.length - 2))

/-- `UPTIME` bits [25:10]. -/
def State.logTime (s : State) : Nat := bits s.clock 10 16

/-- An entry of a kind other than COMMAND: `info` fills bytes 16 to 19 (Table 9-3), bytes 20 to 27 the full `UPTIME`. -/
def State.kindEntry (s : State) (seq kind code info : Nat) : List Byte :=
  withCrc16 (natLE 4 seq ++ natLE 1 kind ++ natLE 1 code ++ natLE 10 0 ++ natLE 4 info ++ natLE 8 s.clock
    ++ natLE 2 s.logTime)

/-- `RESULT` of a command: that of LOGBOOK_MARK is the index of its own entry, wherever that lies (R215). -/
def Flight.resultOf (f : Flight) : Nat := if leAt f.bytes 0 1 = 0x32 ∧ f.status = 0 then f.logIdx else f.result

/-- The entry of a command in flight, in Logbook state `st` (Table 9-2). -/
def State.flightEntry (s : State) (f : Flight) (st : Nat) : List Byte :=
  withCrc16 (natLE 4 f.seq ++ natLE 1 (1 + 16 * st) ++ natLE 1 (leAt f.bytes 0 1)
    ++ natLE 1 (f.qid % 64 + 128 * b2n f.mutates) ++ natLE 1 f.gen ++ natLE 2 f.tag ++ natLE 4 f.fprint
    ++ natLE 1 (if st = 3 then f.status else 0) ++ natLE 1 (if st = 3 then f.qual else 0)
    ++ natLE 2 f.opsDone ++ natLE 2 f.opsTotal ++ natLE 4 f.addr ++ natLE 4 (if st = 3 then f.resultOf else 0)
    ++ natLE 2 s.logTime)

/-! ### The header (R207) and DEGRADED (R220, R221) -/

/-- The two header copies, as a pair of 64-byte copies. -/
def logHeader : PairRec := ⟨0x80000, 64⟩

/-- The marker (bit 0) and the DEGRADED flag (bit 1) that the header holds: both set when both copies fail (R207). -/
def State.headerBits (s : State) : Nat :=
  match s.copyInUse logHeader copyOk with
  | some l => leAt l 8 1 % 4
  | none => 3

/-- Record `i` of the shadow ring. -/
def State.shadowPut (s : State) (i : Nat) (l : List Byte) : State :=
  { s with log := { s.log with shadow := tset [] s.log.shadow i l, shadowFill := min 1024 (s.log.shadowFill + 1) } }

/-- One attempt to write the 32-byte unit at PS offset `off`, without a repeat: true when it passed its verify. A unit that a link fault
kept back is as it was. -/
def State.psTry (s : State) (off : Nat) (l : List Byte) : Bool × State :=
  let (o, s0) := s.psAnswer
  match o with
  | .ok 0 => (true, s0.psPut off l)
  | .linkFault => (false, s0)
  | _ => (false, s0.psTear off l.length)

/-- The 64 bytes of a header copy with generation `g` and value `v`. -/
def headerBytes (g v : Nat) : List Byte :=
  let full := sliceB (natLE 1 v) 0 56
  natLE 4 g ++ natLE 4 (crc32 full) ++ full

/-- The one attempt that R221 makes on header copy `c`: its two units, the first unit, with the generation, last. -/
def State.headerTry (s : State) (c g v : Nat) : State :=
  let l := headerBytes g v
  let (ok, s1) := s.psTry (0x80020 + 64 * c) (l.drop 32)
  let (ok', s2) := if ok then s1.psTry (0x80000 + 64 * c) (l.take 32) else (false, s1)
  if ok' then s2 else s2.psMark (0x80000 + 64 * c)

/-- Enter DEGRADED because the write at PS offset `off` failed: shadow entry 0, the flags, LOG_FAIL, the fault record and
one attempt on each header copy (R220, R221). -/
def State.enterDegraded (s : State) (off : Nat) : State :=
  let seq := s.log.nextSeq
  let s1 := { s with log := { s.log with
    degraded := true, injected := false, shadow := [], shadowLast := 0, shadowFill := 0, horizon := [],
    nextSeq := (seq + 1) % 2 ^ 32, newest := 0, newestSeq := seq, prevNewest := 0 } }
  let s2 := s1.shadowPut 0 (s1.kindEntry seq 5 0 off)
  let s3 := ((s2.set F.GLB_STAT_LOG_DEGRADED 1).set F.GLB_EVT_LOG_DEG 1).post 4 off
  let s4 := { s3 with aon := { s3.aon with logDegraded := true } }
  let v := s.headerBits ||| 2
  let (c, g) := s4.copyToWrite logHeader copyOk
  let s5 := (s4.headerTry c g v).headerTry (1 - c) ((g + 1) % 2 ^ 32) v
  s5.faultDue 0x03 0 (natLE 4 off)

/-- How the Logbook write that is made now ends: with a link fault that the keep bus has reported, as the row in hand says, or as a
LOGBOOK_WRITE before it said. -/
def State.logAnswer (s : State) : PsOutcome × State :=
  if s.keep.psFault ∨ s.keep.psNext ≠ [] ∨ s.keep.logNext = [] then s.psAnswer
  else (s.keep.logNext.headD (.ok 0), { s with keep := { s.keep with logNext := s.keep.logNext.tail } })

/-- One Logbook write of a 32-byte unit to PS outside DEGRADED: true when it is verified in PS. A third failed attempt and a link fault
enter DEGRADED (R206). -/
def State.logPsWrite (s : State) (off : Nat) (l : List Byte) : Bool × State :=
  if s.log.injected then (false, s.enterDegraded off)
  else
    let (o, s0) := s.logAnswer
    match o with
    | .ok n => (true, let s1 := s0.psPut off l; if 0 < n then s1.addF F.LOG_ERR_RETRIES 1 else s1)
    | .verifyFail => (false, (s0.psTear off l.length).enterDegraded off)
    | .linkFault => (false, s0.enterDegraded off)

/-- Write the header with the marker or the flag changed (not in DEGRADED, R220): two writes, the unit with the generation last. A copy
whose second unit alone was written fails its check. -/
def State.writeHeader (s : State) (v : Nat) : State :=
  if s.log.degraded then s
  else
    let (c, g) := s.copyToWrite logHeader copyOk
    let l := headerBytes g v
    let (ok, s1) := s.logPsWrite (0x80020 + 64 * c) (l.drop 32)
    if ok then (s1.logPsWrite (0x80000 + 64 * c) (l.take 32)).2 else s1

/-! ### Slots (R211) -/

/-- From `i` upward, wrapping at `n`, the first index that is not busy, looking at `fuel` of them. -/
def firstFree (busy : Nat → Bool) (n : Nat) : Nat → Nat → Option Nat
  | 0, _ => none
  | fuel + 1, i => if busy i then firstFree busy n fuel ((i + 1) % n) else some i

/-- Does an open entry, or one of the horizon, hold slot `i`? -/
def State.logBusy (s : State) (i : Nat) : Bool :=
  s.host.flights.any (fun p => p.2.logOpen && p.2.inShadow == s.log.degraded && p.2.logIdx == i)
    || s.log.horizon.any (fun h => h.idx == i)

/-- The slot R211 gives the next new entry. -/
def State.logSlot (s : State) : Option Nat :=
  if s.log.degraded then firstFree s.logBusy 1024 1024 ((s.log.shadowLast + 1) % 1024)
  else firstFree s.logBusy 16384 16384 ((s.log.lastAlloc + 1) % 16384)

/-- A record placed in the next free slot of the shadow ring (R211, R220): its slot, none when there is none (R222). -/
def State.shadowNew (s : State) (l : List Byte) : Option Nat × State :=
  match firstFree s.logBusy 1024 1024 ((s.log.shadowLast + 1) % 1024) with
  | none => (none, s)
  | some i =>
    let s1 := s.shadowPut i l
    (some i, { s1 with log := { s1.log with shadowLast := i } })

/-- Write a new entry made from its sequence number; its slot, or none when no shadow slot is free (R222). A record whose write fails
follows LOG_FAIL in the shadow ring (R220); LOG_FAIL, made after it, then has the highest `SEQ`. -/
def State.logNew (s : State) (mk : Nat → List Byte) : Option Nat × State :=
  match s.logSlot with
  | none => (none, s)
  | some i =>
    let seq := s.log.nextSeq
    let l := mk seq
    let s1 := { s with log := { s.log with
      nextSeq := (seq + 1) % 2 ^ 32, newest := i, newestSeq := seq, prevNewest := s.log.newest } }
    if s.log.degraded then s1.shadowNew l
    else
      let (ok, s2) := ({ s1 with log := { s1.log with lastAlloc := i } }).logPsWrite (32 * i) l
      if ok then (some i, s2) else s2.shadowNew l

/-- Is `a` a higher sequence number than `b`, modulo 2³² (R211)? -/
def seqAbove (a b : Nat) : Bool := genAbove a b

/-- An entry in its place among entries ordered by `SEQ`, newest first; one with the same `SEQ` is replaced. -/
def insertHEntry (h : HEntry) : List HEntry → List HEntry
  | [] => [h]
  | e :: l => if e.seq = h.seq then h :: l else if seqAbove h.seq e.seq then h :: e :: l else e :: insertHEntry h l

/-- Put a class M entry into the horizon, or replace what it says of that entry: the 4,096 most recent by `SEQ` stay (R212). -/
def State.horizonPut (s : State) (h : HEntry) : State :=
  { s with log := { s.log with horizon := (insertHEntry h s.log.horizon).take 4096 } }

/-- Command in flight `k`. -/
def State.flight? (s : State) (k : Nat) : Option Flight := (s.host.flights.find? (fun p => p.1 == k)).map (·.2)

/-- Set a command in flight. -/
def State.setFlight (s : State) (k : Nat) (f : Flight) : State :=
  { s with host := { s.host with flights := tput s.host.flights k f } }

/-- The horizon's view of a flight. -/
def Flight.hEntry (f : Flight) : HEntry :=
  { seq := f.seq, idx := f.logIdx, qid := f.qid, tag := f.tag, gen := f.gen, fprint := f.fprint,
    status := f.status, qual := f.qual, result := f.resultOf }

/-- Write the ACCEPTED record of flight `k` (R209); false when no slot is free. -/
def State.logAccept (s : State) (k : Nat) : Bool × State :=
  match s.flight? k with
  | none => (false, s)
  | some f =>
    let seq := s.log.nextSeq
    match s.logNew (fun q => s.flightEntry { f with seq := q } 1) with
    | (none, s1) => (false, s1)
    | (some i, s1) =>
      let f' := { f with seq, logIdx := i, inShadow := s1.log.degraded, logOpen := true }
      let s2 := s1.setFlight k f'
      (true, if f.mutates then s2.horizonPut f'.hEntry else s2)

/-- Rewrite the entry of flight `k` in Logbook state `st` (1 ACCEPTED, 2 STARTED, 3 DONE), continuing it in the shadow
ring where R220 says so. -/
def State.logRewrite (s : State) (k st : Nat) : State :=
  match s.flight? k with
  | none => s
  | some f =>
    if !f.journalled then s
    else
      let note (s : State) (f : Flight) : State :=
        let s1 := s.setFlight k { f with logOpen := st != 3 }
        if f.mutates then s1.horizonPut f.hEntry else s1
      let move (s : State) : State := match s.logSlot with
        | none => s
        | some i =>
          let f' := { f with logIdx := i, inShadow := true }
          note (s.shadowNew (s.flightEntry f' st)).2 f'
      if s.log.degraded then
        if f.inShadow then note (s.shadowPut f.logIdx (s.flightEntry f st)) f else move s
      else
        let (ok, s1) := s.logPsWrite (32 * f.logIdx) (s.flightEntry f st)
        if ok then note s1 f else move s1

/-- A class M command causes its first media operation: STARTED is recorded before it (R17, R209). -/
def State.logStarted (s : State) (k : Nat) : State :=
  match s.flight? k with
  | some f => if f.mutates ∧ f.phase = .accepted then (s.setFlight k { f with phase := .started }).logRewrite k 2 else s
  | none => s

/-- One media operation of flight `k` has completed: `OPS_DONE` rises by 1 and the entry is written (R209). -/
def State.logOpDone (s : State) (k : Nat) : State :=
  match s.flight? k with
  | some f => (s.setFlight k { f with opsDone := f.opsDone + 1 }).logRewrite k 2
  | none => s

/-! ### The in-doubt list (R218, R219) -/

/-- Bytes of in-doubt entry `i`. -/
def State.idlEntry (s : State) (i : Nat) : List Byte := s.psRead (0x81000 + 16 * i) 16

/-- An in-doubt entry (Table 9-5). -/
def idlBytes (logIdx kind cause addr count opcode : Nat) : List Byte :=
  withCrc16 (natLE 2 logIdx ++ natLE 1 kind ++ natLE 1 cause ++ natLE 4 addr ++ natLE 2 count ++ natLE 1 opcode ++ natLE 3 0)

/-- A write of entry `i` of the in-doubt list, as one write of the 32-byte unit that holds it (R206): true when it is in PS. In DEGRADED it
is not repeated, and a failure sets `LOST` (R222). -/
def State.idlWrite (s : State) (i : Nat) (l : List Byte) : Bool × State :=
  let off := 0x81000 + 32 * (i / 2)
  let unit := if i % 2 = 0 then l ++ s.psRead (off + 16) 16 else s.psRead off 16 ++ l
  let (ok, s1) := if s.log.degraded then s.psTry off unit else s.logPsWrite off unit
  (ok, if ok then s1 else s1.set F.IDL_STAT_LOST 1)

/-- Add an in-doubt entry (R218); the 257th is not added, nor is one whose write fails (R219, R222). -/
def State.idlAdd (s : State) (l : List Byte) : State :=
  let n := s.get F.IDL_STAT_COUNT
  if 256 ≤ n then s.set F.IDL_STAT_OVERFLOW 1
  else
    let (ok, s1) := s.idlWrite n l
    if ok then ((s1.set F.IDL_STAT_COUNT (n + 1)).set F.GLB_EVT_IN_DOUBT_ADD 1).post 3 (n + 1) else s1

/-- The in-doubt list's valid entries. -/
def State.idlList (s : State) : List (List Byte) := (List.range (s.get F.IDL_STAT_COUNT)).map s.idlEntry

/-- Write the list out as given, clearing what follows it. -/
def State.idlReplace (s : State) (l : List (List Byte)) : State :=
  let n := s.get F.IDL_STAT_COUNT
  let all := l ++ List.replicate (n - l.length) (natLE 16 0)
  (all.zipIdx.foldl (fun s p => if s.idlEntry p.2 = p.1 then s else (s.idlWrite p.2 p.1).2) s).set
    F.IDL_STAT_COUNT l.length

/-- The kind and the address step of an opcode's media operations (Tables 9-4, 9-5). -/
def opKind (op : Nat) : Nat := if op = 0x10 then 1 else if op = 0x11 then 2 else if op = 0x41 then 3 else 4

/-- `ADDR` of operation `d` of a command whose first address is `a`. -/
def opAddr (op a d : Nat) : Nat := if op = 0x10 then a + d else if op = 0x41 then a + 8 * d else a

/-- The in-doubt entry of a flight with unfinished operations (R218). -/
def Flight.inDoubt (f : Flight) (cause : Nat) : List Byte :=
  let op := leAt f.bytes 0 1
  idlBytes f.logIdx (opKind op) cause (opAddr op f.addr f.opsDone) (f.opsTotal - f.opsDone) op

/-! ### Recovery (R216, R217, Table 3-5) -/

/-- The slots of the ring that PS lists, ascending. -/
def State.ringListed (s : State) : List Nat :=
  ((s.keep.ps.filter (fun p => p.1 < 0x80000)).map (fun p => p.1 / 32)).foldr
    (fun i l => if l.head? = some i then l else i :: l) []

/-- The entry of slot `i` of the PS ring. -/
def State.ringEntry (s : State) (i : Nat) : List Byte := s.psRead (32 * i) 32

/-- Does slot `i` of the PS ring pass its check? One whose last write failed does not (R464). -/
def State.ringOk (s : State) (i : Nat) : Bool := s.psWhole (32 * i) && crc16Ok (s.ringEntry i)

/-- The slot among these with the highest `SEQ`, TORN and EMPTY entries taking no part. -/
def State.newestSlot (s : State) (l : List Nat) : Option Nat :=
  l.foldl (fun best i =>
    let e := s.ringEntry i
    let kind := leAt e 4 1 % 16
    if kind = 0 ∨ kind = 6 then best
    else match best with
      | none => some i
      | some b => if seqAbove (leAt e 0 4) (leAt (s.ringEntry b) 0 4) then some i else best) none

/-- Place `i` in a list of slots ordered by `SEQ`, newest first. -/
def State.insertBySeq (s : State) (i : Nat) : List Nat → List Nat
  | [] => [i]
  | j :: l =>
    if seqAbove (leAt (s.ringEntry i) 0 4) (leAt (s.ringEntry j) 0 4) then i :: j :: l else j :: s.insertBySeq i l

/-- What an entry of the ring says to the deduplication index. -/
def hOfEntry (i : Nat) (e : List Byte) : HEntry :=
  { seq := leAt e 0 4, idx := i, qid := leAt e 6 1 % 64, tag := leAt e 8 2, gen := leAt e 7 1, fprint := leAt e 10 4,
    status := leAt e 14 1, qual := leAt e 15 1, result := leAt e 24 4 }

/-- An entry closed by the Trailhead: `STATE` CLOSED with this status, `TIME` and CRC made anew. -/
def State.closedEntry (s : State) (e : List Byte) (status : Nat) : List Byte :=
  withCrc16 (sliceB e 0 4 ++ natLE 1 (1 + 16 * 4) ++ sliceB e 5 9 ++ natLE 1 status ++ natLE 1 0 ++ sliceB e 16 12
    ++ natLE 2 s.logTime)

/-- Close one slot found open (R73, Table 3-5; with the flag set, R217). In DEGRADED the closed entry takes the next shadow slot (R216). -/
def State.closeSlot (aborted : Nat) (wasDegraded : Bool) (s : State) (i : Nat) : State :=
  let e := s.ringEntry i
  let st := leAt e 4 1 / 16
  let m := bit (leAt e 6 1) 7
  let op := leAt e 5 1
  let d := leAt e 16 2
  let n := leAt e 18 2
  let a := leAt e 20 4
  if leAt e 4 1 % 16 ≠ 1 ∨ (st ≠ 1 ∧ st ≠ 2) then s
  else
    let doubt := m && (st == 2 || wasDegraded)
    let status := if doubt then 0x23 else aborted
    let e' := s.closedEntry e status
    let (j, s1) : Option Nat × State := if s.log.degraded then s.shadowNew e'
      else
        let (ok, s2) := s.logPsWrite (32 * i) e'
        if ok then (some i, s2) else s2.shadowNew e'
    let s3 := if doubt then
        s1.idlAdd (idlBytes i (opKind op) (if wasDegraded then 5 else 1) (opAddr op a d) (n - d) op)
      else s1
    if m then s3.horizonPut (hOfEntry (j.getD i) e') else s3

/-- Count the leading valid entries of the in-doubt list in PS (R219). -/
def State.idlCountFrom (s : State) : Nat → Nat → Nat
  | 0, i => i
  | f + 1, i => let e := s.idlEntry i; if leAt e 2 1 ≠ 0 ∧ crc16Ok e ∧ s.psWhole (0x81000 + 32 * (i / 2)) then s.idlCountFrom f (i + 1) else i

/-- Step 5 of the Trailhead (R216, R217). -/
def State.recover (s : State) : State :=
  let hdr := s.headerBits
  let marker := bit hdr 0
  let wasDegraded := bit hdr 1 || s.aon.logDegraded
  let slots := s.ringListed.filter s.ringOk
  let top := s.newestSlot slots
  let s0 := match top with
    | some i =>
      let q := leAt (s.ringEntry i) 0 4
      { s with log := { ({} : Log) with
        injected := s.log.injected, newest := i, newestSeq := q, nextSeq := (q + 1) % 2 ^ 32, lastAlloc := i, prevNewest := i } }
    | none => { s with log := { ({} : Log) with injected := s.log.injected } }
  let s0 := s0.set F.IDL_STAT_COUNT (s0.idlCountFrom 256 0)
  -- 2: torn slots
  let s1 := s0.ringListed.foldl (fun s i =>
    if s.ringOk i then s
    else
      let t := s.kindEntry 0 6 0 0
      let (ok, s2) := if s.log.degraded then (false, s) else s.logPsWrite (32 * i) t
      let s3 := if ok then s2 else (s2.shadowNew t).2
      (s3.idlAdd (idlBytes i 6 6 0 0 0)).addF F.LOG_ERR_TORN 1) (s0.set F.LOG_ERR_TORN 0)
  -- 3: the newest entry
  let k := match top with | some i => leAt (s.ringEntry i) 4 1 % 16 | none => 0
  let s2 := s1.set F.RMV_STAT_PREV_CLEAN (b2n (k == 3 || k == 4))
  -- 4: the horizon
  let ms := slots.filter (fun i => leAt (s.ringEntry i) 4 1 % 16 == 1 && bit (leAt (s.ringEntry i) 6 1) 7)
  let order := (ms.foldl (fun l i => s.insertBySeq i l) []).take 4096
  let s3 := if s2.log.degraded then s2
    else { s2 with log := { s2.log with horizon := order.map (fun i => hOfEntry i (s.ringEntry i)) } }
  -- 5: open entries
  let aborted := if marker then 0x31 else 0x33
  let s4 := slots.foldl (State.closeSlot aborted wasDegraded) s3
  let s5 := if wasDegraded then s4.idlAdd (idlBytes 0xFFFF 5 5 0 0 0) else s4
  -- 6: marker and flag
  let s6 := s5.writeHeader 0
  -- 7: the TRAILHEAD entry
  let (_, s7) := s6.logNew (fun q => s6.kindEntry q 2 (s6.get F.RST_CAUSE_LAST) 0)
  if s7.log.degraded then s7 else { s7 with aon := { s7.aon with logDegraded := false, prevDegraded := false } }

/-! ### Rows -/

/-- LOGBOOK_WRITE (R206): the store will answer `o` to the Logbook writes that follow, beginning with the current record of the command in
flight `k` if it has an open one, which is written now; a failure enters DEGRADED. -/
def logbookWrite (k : Nat) (o : List PsOutcome) (s : State) : State :=
  let s1 := { s with keep := { s.keep with logNext := o } }
  match s.flight? k with
  | none => s1
  | some f => if f.journalled ∧ f.logOpen then s1.logRewrite k (if f.phase = .accepted then 1 else 2) else s1

/-- IDL_CLR (R219): remove one in-doubt entry or all of them; a wrong key is a field error. -/
def State.idlClrWrite (s : State) (v : Word) : State :=
  if bits v.toNat 24 8 ≠ 0x69 then s.fieldError
  else if bit v.toNat 8 then s.idlReplace []
  else
    let i := bits v.toNat 0 8
    if s.get F.IDL_STAT_COUNT ≤ i then s else s.idlReplace (s.idlList.eraseIdx i)

/-- LOG_INJECT (R220): the next Logbook write to PS fails; nothing happens in DEGRADED. -/
def State.logInjectWrite (s : State) (v : Word) : State :=
  if bits v.toNat 24 8 ≠ 0xE7 then s.fieldError
  else if bit v.toNat 0 && !s.log.degraded then { s with log := { s.log with injected := true } }
  else s

end Sys2Proof.Machine
end

