-- ==== Sys2Proof/Machine/Wire.lean ====
section
/-!
DEFINITION. The physical coding of a link's lanes (R135 to R137): striping, 8b/10b, 66-bit and 130-bit blocks, the three scramblers, and
the bits that a lane carries for ordered sets and stream bytes. Bits are in the order of transmission. The code tables of 8b/10b are those
of the standard code (PRESUMED, log entry 137).
-/

namespace Sys2Proof.Machine

/-! ### 8b/10b (AGL1) -/

/-- The `n` bits of a number, most significant first. -/
def msbBits (n v : Nat) : List Bool := (List.range n).map (fun i => v.testBit (n - 1 - i))

/-- The bits of a byte list, bit 0 of each byte first. -/
def wireBits (l : List Byte) : List Bool := l.flatMap (fun b => (List.range 8).map (fun i => b.toNat.testBit i))

/-- The 6-bit codes of the five low bits of a byte at negative running disparity, the first bit sent on the left. -/
def sixCodes : List Nat := [0b100111, 0b011101, 0b101101, 0b110001, 0b110101, 0b101001, 0b011001, 0b111000,
  0b111001, 0b100101, 0b010101, 0b110100, 0b001101, 0b101100, 0b011100, 0b010111,
  0b011011, 0b100011, 0b010011, 0b110010, 0b001011, 0b101010, 0b011010, 0b111010,
  0b110011, 0b100110, 0b010110, 0b110110, 0b001110, 0b101110, 0b011110, 0b101011]

/-- The 4-bit codes of the three high bits at negative running disparity. -/
def fourCodes : List Nat := [0b1011, 0b1001, 0b0101, 0b1100, 0b1101, 0b1010, 0b0110, 0b1110]

/-- A code of `n` bits as it is sent at disparity `rd`: complemented at positive disparity when its ones and zeros differ in number, or when
it has two forms all the same (`two`); then the disparity after it. -/
def codeAt (n v : Nat) (two rd : Bool) : Nat × Bool :=
  let odd := 2 * countBits v n != n
  (if rd && (odd || two) then 2 ^ n - 1 - v else v, rd != odd)

/-- One data character: ten bits, and the disparity after it. -/
def enc8b10b (rd : Bool) (b : Nat) : List Bool × Bool :=
  let x := b % 32
  let y := b / 32 % 8
  let (u, r) := codeAt 6 (listGet 0 sixCodes x) (x == 7) rd
  let alt := y == 7 && ((!r && (x == 17 || x == 18 || x == 20)) || (r && (x == 11 || x == 13 || x == 14)))
  let (v, q) := codeAt 4 (if alt then 0b0111 else listGet 0 fourCodes y) (y == 3) r
  (msbBits 6 u ++ msbBits 4 v, q)

/-- The COM character K28.5. -/
def comChar (rd : Bool) : List Bool × Bool := (msbBits 10 (if rd then 0b1100000101 else 0b0011111010), !rd)

/-- The character K28.7. -/
def k287Char (rd : Bool) : List Bool × Bool := (msbBits 10 (if rd then 0b1100000111 else 0b0011111000), rd)

/-- A run of characters, each by its encoder. -/
def encChars (rd : Bool) : List (Bool → List Bool × Bool) → List Bool × Bool
  | [] => ([], rd)
  | f :: l => let (b, r) := f rd; let (c, q) := encChars r l; (b ++ c, q)

/-! ### Scramblers (R136) -/

/-- One step of the AGL1 LFSR: the bit it gives, and its next state (the Galois form, PRESUMED: log entry 137). -/
def lfsr1 (v : Nat) : Bool × Nat :=
  (v.testBit 15, if v.testBit 15 then (v * 2 % 2 ^ 16) ^^^ 0x0039 else v * 2 % 2 ^ 16)

/-- One step of the AGL3 LFSR, in Fibonacci form: its last stage is the output (log entry 137). -/
def lfsr3 (v : Nat) : Bool × Nat :=
  let fb := [22, 20, 15, 7, 4, 1].foldl (fun a i => a != v.testBit i) false
  (v.testBit 22, (v * 2 + b2n fb) % 2 ^ 23)

/-- The AGL3 seed of logical lane `k`. -/
def seed3 (k : Nat) : Nat := (0x1DBFBC ^^^ (k * 0x111111)) % 2 ^ 23

/-- Bits scrambled by an additive LFSR. -/
def additive (step : Nat → Bool × Nat) (v : Nat) : List Bool → List Bool × Nat
  | [] => ([], v)
  | b :: l => let (o, w) := step v; let (r, x) := additive step w l; ((b != o) :: r, x)

/-- Bits scrambled by the self-synchronous scrambler of AGL2; bit `i` of `v` is the bit sent `i` + 1 bits ago. -/
def selfSync (v : Nat) : List Bool → List Bool × Nat
  | [] => ([], v)
  | b :: l =>
    let o := (b != v.testBit 38) != v.testBit 57
    let (r, x) := selfSync ((v * 2 + b2n o) % 2 ^ 58) l
    (o :: r, x)

/-- Cut a list into pieces of `n`. -/
def chunks {α : Type} (n : Nat) : Nat → List α → List (List α)
  | 0, _ => []
  | f + 1, l => if l.isEmpty then [] else l.take n :: chunks n f (l.drop n)

/-! ### Lanes -/

/-- One lane's transmitter: LFSR, last bits sent, disparity. -/
structure LanePhy where
  lfsr : Nat
  past : Nat
  rd : Bool

/-- The transmitter of logical lane `k`. -/
def Phy.lane (p : Phy) (k : Nat) : LanePhy := ⟨listGet 0xFFFF p.lfsr k, listGet 0 p.past k, listGet false p.rd k⟩

/-- Set it. -/
def Phy.setLane (p : Phy) (k : Nat) (v : LanePhy) : Phy :=
  { lfsr := p.lfsr.set k v.lfsr, past := p.past.set k v.past, rd := p.rd.set k v.rd }

/-- Stream bytes of one lane at generation `g` (R135, R136): AGL1 characters, AGL2 blocks of 66 bits, AGL3 blocks of 130 bits. -/
def LanePhy.data (p : LanePhy) (g : Nat) (l : List Byte) : List Bool × LanePhy :=
  let b := wireBits l
  if g = 2 then
    let (c, v) := selfSync p.past b
    (((chunks 64 (l.length + 1) c).flatMap (fun x => [true, false] ++ x)), { p with past := v })
  else if g = 3 then
    let (c, v) := additive lfsr3 p.lfsr b
    (((chunks 128 (l.length + 1) c).flatMap (fun x => [true, false] ++ x)), { p with lfsr := v })
  else
    let (c, v) := additive lfsr1 p.lfsr b
    let bytes := (chunks 8 (l.length + 1) c).map (fun x => maskOf ((withIdx x).filterMap (fun q => if q.2 then some q.1 else none)))
    let (e, r) := encChars p.rd (bytes.map (fun n rd => enc8b10b rd n))
    (e, { p with lfsr := v, rd := r })

/-- An ordered set on logical lane `k` at generation `g` (R137): at AGL1 a COM goes before it, which seeds the scrambler; at AGL3 an ALN and
an EIEOS do. -/
def LanePhy.ordered (p : LanePhy) (g k : Nat) (l : List Byte) : List Bool × LanePhy :=
  let b := wireBits l
  let id := listGet 0 (l.map (·.toNat)) 0
  if g = 2 then ((chunks 64 3 b).flatMap (fun x => [false, true] ++ x), p)
  else if g = 3 then ([false, true] ++ b, if id = 0x78 ∨ id = 0x00 then { p with lfsr := seed3 k } else p)
  else
    let chars : List (Bool → List Bool × Bool) :=
      if id = 0x00 then l.map (fun _ => k287Char) else l.map (fun x rd => enc8b10b rd x.toNat)
    let (e, r) := encChars p.rd (comChar :: chars)
    (e, { p with lfsr := 0xFFFF, rd := r })

/-- Lanes of a link by its width code. -/
def widthLanes (code : Nat) : Nat := if code = 2 then 4 else if code = 1 then 2 else 1

/-- The bytes that a block takes from each lane: none are awaited at AGL1. -/
def blockBytes (g : Nat) : Nat := if g = 2 then 8 else if g = 3 then 16 else 1

/-- Stream bytes with the IDL bytes that complete the blocks begun (log entry 138). -/
def padIdle (g w : Nat) (l : List Byte) : List Byte :=
  let n := w * blockBytes g
  l ++ List.replicate ((n - l.length % n) % n) 0

/-- The bytes of lane `k` of `w` (R135): byte `i` of the stream goes to lane `i` mod `w`. -/
def stripe (w k : Nat) (l : List Byte) : List Byte := ((withIdx l).filter (fun p => p.1 % w == k)).map (·.2)

/-- Stream bytes on every lane of the width: what each logical lane carries, and the transmitters after it. -/
def Phy.stream (p : Phy) (g w : Nat) (l : List Byte) : List (List Bool) × Phy :=
  (List.range w).foldl (fun (a : List (List Bool) × Phy) k =>
    let (b, v) := (a.2.lane k).data g (stripe w k (padIdle g w l))
    (a.1 ++ [b], a.2.setLane k v)) ([], p)

end Sys2Proof.Machine
end

