-- ==== Sys2Proof/Machine/Link.lean ====
section
/-!
DEFINITION. The parts of the host link that other engines use: frames and their credits (R145, R151, R152), the queue of
frames that wait, MSI-X messages (R172), and sending to the host in either host mode.
-/

namespace Sys2Proof.Machine

/-! ### Frames -/

/-- The XOR of the four-bit digits of a number. -/
def nibbleXor : Nat → Nat → Nat
  | 0, _ => 0
  | n + 1, v => (v % 16) ^^^ nibbleXor n (v / 16)

/-- The bytes of a transaction frame (R145): `HCHK` makes the XOR of all nibbles of bytes 0 to 3 equal 0xF. -/
def frameBytes (typ seq : Nat) (hdr payload : List Byte) : List Byte :=
  let w := seq % 4096 + payload.length / 4 * 4096
  let chk := 0xF ^^^ nibbleXor 2 typ ^^^ nibbleXor 5 w
  let body := natLE 1 typ ++ natLE 3 (w + chk * 2 ^ 20) ++ sliceB hdr 0 12 ++ payload
  body ++ natLE 4 (crc32 body)

/-- The bytes of a link frame (R145). -/
def linkFrameBytes (typ : Nat) (fields : List Byte) : List Byte :=
  let body := natLE 1 typ ++ sliceB fields 0 7
  body ++ natLE 4 (crc32 body)

/-- CTL units a frame costs (Table 6-10); on a cascade link the CHDR unit of each frame (Table 22-1). -/
def TxItem.ctlCost (i : TxItem) : Nat :=
  b2n (i.typ == 0x23 || i.typ == 0x24 || i.typ == 0x25 || i.typ == 0x27 || (decide (0x31 ≤ i.typ) && decide (i.typ ≤ 0x35)))

/-- RDAT units a frame costs (Table 6-10); on a cascade link its CDAT units (Table 22-1). -/
def TxItem.rdatCost (i : TxItem) : Nat :=
  if i.typ = 0x26 ∨ i.typ = 0x23 ∨ (0x32 ≤ i.typ ∧ i.typ ≤ 0x35) then (i.payload.length + 63) / 64 else 0

/-- Units of CTL credit the sender has (R152). -/
def Link.ctlAvail (l : Link) : Nat := (l.ctlLimit + 4096 - l.ctlUsed) % 4096

/-- Units of RDAT credit the sender has. -/
def Link.rdatAvail (l : Link) : Nat := (l.rdatLimit + 4096 - l.rdatUsed) % 4096

/-- Bytes held in the retry buffer: payload, and the 20 bytes of header and CRC (DESIGN CHOICE, log entry 126). -/
def Link.retryBytes (l : Link) : Nat := l.retry.foldl (fun n p => n + 20 + p.2.payload.length) 0

/-- May this frame be sent for the first time now (R151, R152)? -/
def Link.canSend (l : Link) (i : TxItem) : Bool :=
  l.state == 6 && l.pm == 0 && decide (i.ctlCost ≤ l.ctlAvail) && decide (i.rdatCost ≤ l.rdatAvail)
    && decide (l.retry.length < 1024) && decide (l.retryBytes + 20 + i.payload.length ≤ 32768)

/-- Send a frame: it takes its number and its credits and is kept until it is acknowledged. -/
def Link.sendNow (l : Link) (i : TxItem) : Link :=
  { l with next := (l.next + 1) % 4096, retry := l.retry ++ [(l.next, i)], ctlUsed := (l.ctlUsed + i.ctlCost) % 4096,
           rdatUsed := (l.rdatUsed + i.rdatCost) % 4096 }

/-- Link `l`: 0 the host link, 1 and 2 the cascade links on CL_0 and CL_1. -/
def State.lnk (s : State) (l : Nat) : Link := if l = 0 then s.agl else if l = 1 then s.casc.cl0 else s.casc.cl1

/-- Set a link. -/
def State.setLnk (s : State) (l : Nat) (v : Link) : State :=
  if l = 0 then { s with agl := v } else if l = 1 then { s with casc := { s.casc with cl0 := v } }
  else { s with casc := { s.casc with cl1 := v } }

/-- The output of a frame on link `l`. -/
def linkMsg (l seq : Nat) (i : TxItem) : Msg :=
  let f := frameBytes i.typ seq i.hdr i.payload
  if l = 0 then .agl i.typ seq f else .casc l i.typ seq f

/-- Stream bytes leave on the lanes of link `l` (R135, R136). -/
def State.wire (s : State) (l : Nat) (bytes : List Byte) : State :=
  let v := s.lnk l
  let r := v.phy.stream v.gen (widthLanes v.width) bytes
  (withIdx r.1).foldl (fun (s : State) p => s.send (.line l p.1 p.2)) (s.setLnk l { v with phy := r.2 })

/-- An ordered set of type `typ` leaves on physical lane `k` of link `l` (R137). -/
def State.setOn (s : State) (l typ : Nat) (bytes : List Byte) (k : Nat) : State :=
  let v := s.lnk l
  let j := if v.reversed then 3 - k else k
  let r := (v.phy.lane j).ordered v.gen j bytes
  ((s.setLnk l { v with phy := v.phy.setLane j r.2 }).send (.link l typ bytes)).send (.line l j r.1)

/-- An ordered set leaves on every active lane (R137). -/
def State.setAll (s : State) (l typ : Nat) (bytes : List Byte) : State :=
  (setBits (s.lnk l).active 4).foldl (fun (s : State) k => s.setOn l typ bytes k) s

/-- A frame leaves on link `l`. -/
def State.sendFrame (s : State) (l seq : Nat) (i : TxItem) : State :=
  (s.send (linkMsg l seq i)).wire l (frameBytes i.typ seq i.hdr i.payload)

/-- May frames for link `l` leave? Cascade frames wait behind what stands in Q_44 (R16). -/
def State.mayFlush (s : State) (l : Nat) : Bool := l == 0 || (tget {} s.fqs 44).ring.isEmpty

/-- Send the waiting frames of link `l` in order, as far as credits allow. -/
def State.linkFlush (s : State) (l : Nat) : Nat → State
  | 0 => s
  | n + 1 =>
    let v := s.lnk l
    match v.tx with
    | [] => s
    | i :: rest =>
      if v.canSend i && s.mayFlush l then ((s.setLnk l { v.sendNow i with tx := rest }).sendFrame l v.next i).linkFlush l n else s

/-- The 16 bytes of an EIEOS (Table 6-6). -/
def eieosBytes : List Byte := (List.range 8).flatMap (fun _ => [0x00, 0xFF])

/-- This end leaves L1 by sending EIEOS (R161). -/
def State.leaveL1 (s : State) (l : Nat) : State :=
  let v := s.lnk l
  if v.state = 0xA then
    (s.setLnk l { v with state := 7, cnt := [], chgTo := 0, newRate := false, pm := 0 }).setAll l 0x00 eieosBytes
  else s

/-- Queue a frame on link `l` and send what can be sent, in order (R158); a frame to send ends L1 (R161). -/
def State.linkSend (s : State) (l : Nat) (i : TxItem) : State :=
  let v := s.lnk l
  ((s.setLnk l { v with tx := v.tx ++ [i] }).leaveL1 l).linkFlush l (v.tx.length + 1)

/-- Send a link frame (Table 6-8): its type and fields. -/
def State.linkFrame (s : State) (l typ : Nat) (fields : List Byte) : State :=
  (s.send (.link l typ (linkFrameBytes typ fields))).wire l (linkFrameBytes typ fields)

/-- Is the host mode PCI Express (R50)? -/
def State.pcieMode (s : State) : Bool := s.get F.GLB_STAT_HOST_MODE == 1

/-- `n` bytes of the MSI-X table: the mask bit of every entry is 1 at reset. -/
def State.msixLE (s : State) (o n : Nat) : Nat :=
  leNat ((List.range n).map (fun i => tget (if (o + i) % 16 = 12 then (1 : Byte) else 0) s.pcie.msix (o + i)))

/-- The output of a request under PCI Express (R168): an MSI-X message is a write of its table entry's data to its address (R172). -/
def State.pcieMsg (s : State) (i : TxItem) : Msg :=
  if i.typ = 0x30 then .msix i.addr (s.msixLE (16 * i.addr) 8) (s.msixLE (16 * i.addr + 8) 4)
  else if i.typ = 0x27 then .tlpRead i.addr (leAt i.hdr 8 2)
  else .tlpWrite i.addr i.payload

/-- The reset value of a configuration byte that software can write (PRESUMED from the PCI Express specification): 0 but for Device
Control (Enable No Snoop, Max_Read_Request_Size 512), Link Control 2 (16.0 GT/s), AER's severities and correctable mask, the margining
controls (no command), and T_POWER_ON of the L1 substates (10 µs). -/
def pcieCfgReset (a : Nat) : Byte :=
  if a = 0x79 then 0x28 else if a = 0xA0 then 0x04 else if a = 0x10C then 0x10 else if a = 0x10D then 0x20
  else if a = 0x10E then 0x06 else if a = 0x115 then 0x20
  else if 0x1A8 ≤ a ∧ a < 0x1B8 then (if a % 4 = 0 then 0x38 else if a % 4 = 1 then 0x9C else 0)
  else if a = 0x1CC then 0x28 else 0

/-- A little-endian number of written configuration bytes. -/
def State.cfgLE (s : State) (a n : Nat) : Nat :=
  leNat ((List.range n).map (fun i => tget (pcieCfgReset (a + i)) s.pcie.cfg (a + i)))

/-- Can the endpoint issue requests now: the data link layer is up, the function is in D0 (R177), and Bus Master Enable is set (PRESUMED
from the PCI Express specification)? -/
def State.pcieCanSend (s : State) : Bool := s.pcie.dlUp && !s.pcie.d3 && bit (s.cfgLE 4 2) 2

/-- A TLP to send ends L1; CLKREQ_N is driven low (R178). -/
def State.pcieAwake (s : State) : State :=
  if s.pcie.ltssm = 5 then
    { s with pcie := { s.pcie with ltssm := 3, l1ss := 0 }, balls := { s.balls with clkreq := .low } }
  else s

/-- Send a TLP: it takes its number and is kept until it is acknowledged (PRESUMED from the PCI Express specification). -/
def State.tlpSend (s : State) (m : Msg) : State :=
  let p := s.pcie
  ({ s with pcie := { p with tlpNext := (p.tlpNext + 1) % 4096, tlpRetry := p.tlpRetry ++ [(p.tlpNext, m)] } }).send m

/-- Is this a frame that may leave after a removal trigger (R133): a completion, a REG_RSP with `STATUS` 0x02, an MSI-X message? -/
def TxItem.afterRemoval (i : TxItem) : Bool := i.typ == 0x24 || (i.typ == 0x23 && leAt i.hdr 1 1 == 2) || i.typ == 0x30

/-- Queue a frame or request for the host and send what can be sent, in order (R158, R168). -/
def State.hostSend (s : State) (i : TxItem) : State :=
  if s.st = stRemoving ∧ i.afterRemoval = false then s
  else if s.pcieMode then
    let s := { s with pcie := { s.pcie with lastReq := s.clock } }
    if s.pcieCanSend ∧ s.agl.tx = [] then s.pcieAwake.tlpSend (s.pcieMsg i)
    else { s with agl := { s.agl with tx := s.agl.tx ++ [i] } }
  else s.linkSend 0 i

/-- A frame to the host waits: in L1 the device leaves L1 for it (R161). -/
def State.hostWake (s : State) : State := if s.pcieMode then s else s.leaveL1 0

/-! ### CMD credits (R153) -/

/-- May the device grant CMD credits now? In REMOVING it raises no `LIMIT`, also when it leaves TRAILHEAD for that state (DESIGN CHOICE, log
entry 123). -/
def State.cmdGrants (s : State) : Bool := !s.pcieMode && s.agl.state == 6 && s.st != stTrailhead && s.st != stRemoving

/-- Set the CMD `LIMIT` and tell the host. -/
def State.cmdLimitSet (s : State) (lim : Nat) : State :=
  ({ s with agl := { s.agl with cmdLimit := lim % 4096 } }).linkFrame 0 0x13 ([1] ++ natLE 2 (lim % 4096))

/-- The CMD `LIMIT` is raised to `CMD_LIMIT` ahead of consumption. -/
def State.cmdRaise (s : State) : State :=
  let up := (s.agl.cmdUsed + s.get F.AGL_CRED_CFG_CMD_LIMIT + 4096 - s.agl.cmdLimit) % 4096
  if s.cmdGrants = true ∧ 0 < up ∧ up < 2048 then s.cmdLimitSet (s.agl.cmdLimit + up) else s

/-- Q_0 has taken a frame: one unit is returned. -/
def State.cmdReturn (s : State) : State := if s.cmdGrants then s.cmdLimitSet (s.agl.cmdLimit + 1) else s

/-- Could a frame be sent to the host at once? -/
def State.hostCanSend (s : State) (i : TxItem) : Bool :=
  if s.pcieMode then s.pcieCanSend && s.agl.tx.isEmpty
  else s.agl.tx.isEmpty && s.agl.canSend i

/-! ### The cascade (R507, R508, R510) -/

/-- Strapped role: 0 single, 1 master, 2 member (R50). -/
def State.cascRole (s : State) : Nat := s.get F.GLB_STAT_CASC_ROLE

/-- Are the host lanes to stay in electrical idle: before lane training starts (R54), on a cascade member (R3), and under PCI Express while
PERST_N is low (R173) or without the PLL's lock (Table 2-15)? -/
def State.hostLanesIdle (s : State) : Bool :=
  !s.rmv.lanesStarted || s.cascRole == 2 || (s.pcieMode && (s.pcie.perst || s.pcie.pllFail))

/-- The host lanes take the level that follows from the state. CLKREQ_N is driven only under PCI Express (R37): low while the link is to run
and is in no substate of L1. -/
def State.setLanes (s : State) : State :=
  { s with balls := { s.balls with lanesIdle := s.hostLanesIdle, clkreq := if s.pcieMode && !s.hostLanesIdle && s.pcie.l1ss == 0 then .low else .hiZ } }

/-- The device's own CASC_ID. -/
def State.cascId (s : State) : Nat := s.get F.GLB_STAT_CASC_ID

/-- The link on which a frame for device `dst` leaves: in pair topology the one link there is; in a chain, CL_1 towards members
and CL_0 towards the master. -/
def State.cascLane (s : State) (dst : Nat) : Nat := if s.get F.CASC_CFG_TOPO = 1 then 1 else if dst = 0 then 1 else 2

/-- A cascade transaction frame (R510, Table 22-2): `h` are header bytes 6 to 15. -/
def State.cascFrame (s : State) (typ dst : Nat) (h payload : List Byte) : TxItem :=
  { typ, hdr := natLE 1 (dst % 4) ++ natLE 1 s.cascId ++ sliceB h 0 10, payload }

/-- Is member `m` joined? -/
def State.joined (s : State) (m : Nat) : Bool := (tget {} s.casc.members m).joined

/-- Header bytes 6 to 15 of a C_REQ (Table 22-2). -/
def cReqHeader (kind xid prio vol alb : Nat) : List Byte :=
  natLE 1 kind ++ [0] ++ natLE 2 xid ++ natLE 1 prio ++ natLE 1 vol ++ natLE 4 alb

/-- The first number from `x` on that is not in use with member `m` (R510). -/
def State.freeXid (s : State) (m : Nat) : Nat :=
  let used := (s.casc.runs.filter (fun r => r.dev == m)).map (·.xid)
  (((List.range (used.length + 1)).map (fun i => (s.casc.nextXid + i) % 65536)).find? (fun x => !used.contains x)).getD 0

/-- Cut bytes that go to address `a` into pieces that end at multiples of `m` (or at the end). -/
def cutAt (m : Nat) : Nat → Nat → List Byte → List (Nat × List Byte)
  | 0, _, _ => []
  | fuel + 1, a, l =>
    if l = [] then []
    else
      let n := m - a % m
      (a, l.take n) :: cutAt m fuel (a + n) (l.drop n)

/-! ### Configuration bytes and MSI-X -/

/-- Data bytes of one frame or request: 512 under AGL (Table 6-9), Max_Payload_Size, at most 512, under PCI Express. -/
def State.dataMax (s : State) : Nat := if s.pcieMode then min 512 (128 <<< bits (s.cfgLE 0x78 2) 5 3) else 512

/-- MSI-X Enable. -/
def State.msixOn (s : State) : Bool := bit (s.cfgLE 0x52 2) 15

/-- Is vector `v` masked: Function Mask, or its own mask bit (set at reset)? -/
def State.msixMasked (s : State) (v : Nat) : Bool :=
  bit (s.cfgLE 0x52 2) 14 || bit (tget (1 : Byte) s.pcie.msix (16 * v + 12)).toNat 0

/-- Signal a vector (R172): nothing while MSI-X is disabled, its pending bit while it is masked. -/
def State.msixSignal (s : State) (v : Nat) : State :=
  if !s.msixOn then s
  else if s.msixMasked v then { s with pcie := { s.pcie with pba := s.pcie.pba ||| (1 <<< v) } }
  else s.hostSend { typ := 0x30, addr := v }

end Sys2Proof.Machine
end

