-- ==== Sys2Proof/Machine/Hamper.lean ====
section
/-!
DEFINITION. The Hamper buffer pool (ch. 11): tags and references, the allocator with its pools, limits and wait list,
release, retain, handover, stale references, retirement and the leak audit.
-/

namespace Sys2Proof.Machine

/-! ### Buffers and references -/

/-- Buffer `b` with its tag. -/
def State.hbuf (s : State) (b : Nat) : HBuf := tget {} s.hmp.bufs b

/-- Set a buffer. -/
def State.setHbuf (s : State) (b : Nat) (v : HBuf) : State := { s with hmp := { s.hmp with bufs := tset {} s.hmp.bufs b v } }

/-- Is the buffer allocated? -/
def HBuf.held (v : HBuf) : Bool := decide (0 < v.ref) && !v.retired

/-- The reference of a buffer (R246). -/
def refOf (b gen : Nat) : Nat := b % 2048 + gen % 32 * 2048

/-- The buffer index of a reference. -/
def refBuf (r : Nat) : Nat := r % 2048

/-- The generation of a reference. -/
def refGen (r : Nat) : Nat := r / 2048 % 32

/-- Does the reference name an allocated buffer of its generation (R261)? -/
def State.refOk (s : State) (r : Nat) : Bool := let v := s.hbuf (refBuf r); v.held && v.gen == refGen r

/-- Free buffers *F*. -/
def State.hmpFree (s : State) : Nat := (2048 - s.hmp.fresh) + s.hmp.freed.length

/-- Retired buffers. -/
def State.hmpRetired (s : State) : Nat := (s.hmp.bufs.filter (fun p => p.2.retired)).length

/-- Buffers an owner holds. -/
def State.hmpHeld (s : State) (o : Nat) : Nat := (s.hmp.bufs.filter (fun p => p.2.held && p.2.owner == o)).length

/-- Buffers that all owners hold. -/
def State.hmpHeldAll (s : State) : Nat := (s.hmp.bufs.filter (fun p => p.2.held)).length

/-- The pool of an owner (Table 11-2): 0 essential, 1 engine, 2 host. -/
def ownerPool (o : Nat) : Nat := if o ≤ 3 then 0 else if o = 6 ∨ o = 8 ∨ o = 9 then 2 else 1

/-- `OWN_LIMIT` of an owner: 0 means none. -/
def State.ownLimit (s : State) (o : Nat) : Nat :=
  if o % 2 = 1 then s.get (F.OWN_LIMIT_ODD (o / 2)) else s.get (F.OWN_LIMIT_EVEN (o / 2))

/-- Post a Hamper event: bit `k` of `HMP_EVT`, source 224 + k. -/
def State.hmpEvent (s : State) (k data : Nat) : State := s.postBit F.HMP_EVT_SRC 224 k data

/-- Re-evaluate the LOW and CRIT states against *F* (R254). -/
def State.hmpEval (s : State) : State :=
  let f := s.hmpFree
  let low := s.get F.HMP_THR_LOW
  let crit := s.get F.HMP_THR_CRIT
  let hyst := s.get F.HMP_THR_HYST
  let s1 :=
    if f < low ∧ s.hmp.low = false then ({ s with hmp := { s.hmp with low := true } }).hmpEvent 0 f
    else if low + hyst ≤ f ∧ s.hmp.low = true then ({ s with hmp := { s.hmp with low := false } }).hmpEvent 1 f
    else s
  if f < crit ∧ s1.hmp.crit = false then ({ s1 with hmp := { s1.hmp with crit := true } }).hmpEvent 2 f
  else if crit + hyst ≤ f ∧ s1.hmp.crit = true then ({ s1 with hmp := { s1.hmp with crit := false } }).hmpEvent 3 f
  else s1

/-! ### Allocation (R249 to R253) -/

/-- The conditions of R251 other than waiting requests ahead. -/
def State.hmpRoom (s : State) (o n : Nat) : Bool :=
  let f := s.hmpFree
  let lim := s.ownLimit o
  decide (n ≤ f)
    && (ownerPool o != 2 || (!s.hmp.low && decide (s.get F.HMP_THR_LOW + n ≤ f)))
    && (ownerPool o != 1 || (!s.hmp.crit && decide (s.get F.HMP_THR_CRIT + n ≤ f)))
    && (lim == 0 || decide (s.hmpHeld o + n ≤ lim))

/-- Take the buffer freed longest ago (R253) for an owner. -/
def State.hmpTake1 (s : State) (o : Nat) : Nat × State :=
  let (b, h) := if s.hmp.fresh < 2048 then (s.hmp.fresh, { s.hmp with fresh := s.hmp.fresh + 1 })
    else match s.hmp.freed with
      | b :: l => (b, { s.hmp with freed := l })
      | [] => (0, s.hmp)
  let s1 := { s with hmp := h }
  let v := s1.hbuf b
  let g := (v.gen + 1) % 32
  (refOf b g, s1.setHbuf b { v with
    owner := o, gen := g, ref := 1, next := none, len := 0, cmd := none, cmdLow := v.cmd.getD v.cmdLow, born := s.clock / 1024 % 2 ^ 32,
    poison := false, orphanOnce := false, orphan := false })

/-- Take `n` buffers. -/
def State.hmpTakeN (s : State) (o : Nat) : Nat → List Nat × State
  | 0 => ([], s)
  | n + 1 =>
    let (r, s1) := s.hmpTake1 o
    let (l, s2) := s1.hmpTakeN o n
    (r :: l, s2)

/-- Link buffers in grant order (R247). -/
def State.hmpChain (s : State) : List Nat → State
  | r :: r' :: l => (s.setHbuf (refBuf r) { s.hbuf (refBuf r) with next := some r' }).hmpChain (r' :: l)
  | _ => s

/-- Grant a request. -/
def State.hmpGrant (s : State) (o n : Nat) (chain : Bool) : List Nat × State :=
  let (l, s1) := s.hmpTakeN o n
  let s2 := if chain then s1.hmpChain l else s1
  let pk := max (tget 0 s2.hmp.peak o) (s2.hmpHeld o)
  (l, ({ s2 with hmp := { s2.hmp with peak := tset 0 s2.hmp.peak o pk } }).hmpEval)

/-- Examine the wait list in arrival order (R252): `blocked` holds the pools that a waiting request ahead holds up. -/
def State.hmpExamineFrom (s : State) (blocked : List Nat) : List HWait → List HWait × State
  | [] => ([], s)
  | w :: l =>
    if blocked.contains (ownerPool w.owner) = false ∧ s.hmpRoom w.owner w.n then
      let (g, s1) := s.hmpGrant w.owner w.n w.chain
      ({ s1 with hmp := { s1.hmp with granted := tput s1.hmp.granted w.id g } }).hmpExamineFrom blocked l
    else
      let (k, s1) := s.hmpExamineFrom (ownerPool w.owner :: blocked) l
      (w :: k, s1)

/-- Examine the wait list. -/
def State.hmpExamine (s : State) : State :=
  let (k, s1) := s.hmpExamineFrom [] s.hmp.waits
  { s1 with hmp := { s1.hmp with waits := k } }

/-- The answer of the allocator. -/
inductive HAnswer where
  | granted (refs : List Nat)
  | none
  | waits (id : Nat)
  deriving DecidableEq, Repr

/-- One request (R249, R251, R252). -/
def State.hmpRequest (s : State) (o n : Nat) (chain wait : Bool) : HAnswer × State :=
  let ahead := s.hmp.waits.any (fun w => ownerPool w.owner == ownerPool o)
  if ahead = false ∧ s.hmpRoom o n then
    let (g, s1) := s.hmpGrant o n chain
    (.granted g, s1)
  else if wait ∧ s.hmp.waits.length < 64 ∧ (s.hmp.waits.filter (fun w => w.owner == o)).length < 4 then
    let i := s.hmp.nextId
    (.waits i, { s with hmp := { s.hmp with waits := s.hmp.waits ++ [⟨i, o, n, chain⟩], nextId := i + 1 } })
  else (.none, s)

/-- ALLOC_REQUEST (R249 to R252). Owners and counts that no requester uses are not requests. -/
def allocRequest (owner n : Nat) (chain wait : Bool) (s : State) : State :=
  if 0x0D < owner ∨ n < 1 ∨ 16 < n ∨ (chain ∧ n < 2) then s
  else
    let (a, s1) := s.hmpRequest owner n chain wait
    { s1 with hmp := { s1.hmp with lastGrant := match a with | .granted g => some g | _ => none } }

/-- Waiting requests that satisfy `c` are withdrawn: all of them leave before the list is examined again (R252, R267). -/
def State.withdrawWhere (s : State) (c : HWait → Bool) : State :=
  ({ s with hmp := { s.hmp with waits := s.hmp.waits.filter (fun w => !c w) } }).hmpExamine

/-- WAIT_WITHDRAW (R252). -/
def waitWithdraw (id : Nat) (s : State) : State := s.withdrawWhere (fun w => w.id == id)

/-! ### Release (R257 to R262) -/

/-- A stale access (R261): refused and counted; `who` is the requester's owner ID. -/
def State.staleRef (s : State) (r who : Nat) : State :=
  (s.addF F.HMP_ERR_STALE_REFS 1).hmpEvent 7 (refBuf r + who % 32 * 2 ^ 16)

/-- Retire a buffer (R262). -/
def State.hmpRetire (s : State) (b : Nat) (inTag : Bool) : State :=
  (s.setHbuf b { s.hbuf b with ref := 0, retired := true, next := none, poison := false }).hmpEvent 8
    (b + b2n inTag * 2 ^ 16)

/-- A buffer's count has reached 0: it is free, or retired when its data had a double-bit error. -/
def State.hmpDrop (s : State) (b : Nat) : State :=
  let v := s.hbuf b
  if v.poison then s.hmpRetire b false
  else
    let s1 := s.setHbuf b { v with ref := 0, next := none, cmd := none, cmdLow := v.cmd.getD v.cmdLow, orphanOnce := false, orphan := false }
    { s1 with hmp := { s1.hmp with freed := s1.hmp.freed ++ [b] } }

/-- A reference release, following up to `fuel` links (R257). -/
def State.hmpReleaseFrom (s : State) (r who : Nat) : Nat → State
  | 0 => s
  | f + 1 =>
    if s.refOk r = false then s.staleRef r who
    else
      let v := s.hbuf (refBuf r)
      if 1 < v.ref then s.setHbuf (refBuf r) { v with ref := v.ref - 1 }
      else
        let s1 := s.hmpDrop (refBuf r)
        match v.next with
        | some n => s1.hmpReleaseFrom n who f
        | none => s1

/-- A reference release with what follows from it. -/
def State.hmpRelease (s : State) (r who : Nat) : State := ((s.hmpReleaseFrom r who 16).hmpEval).hmpExamine

/-- The data of a buffer is read with an error: 1 corrected and counted, 2 double-bit, which is to retire the buffer when its count reaches
0 (R262). -/
def State.hmpEcc (s : State) (b ecc : Nat) : State :=
  if ecc = 1 then s.addF F.HMP_ERR_ECC_CORR 1
  else if ecc = 2 ∧ (s.hbuf b).held then s.setHbuf b { s.hbuf b with poison := true }
  else s

/-- Retain (R258): refused at 15. -/
def State.hmpRetainRef (s : State) (r who : Nat) : Bool × State :=
  if s.refOk r = false then (false, s.staleRef r who)
  else
    let v := s.hbuf (refBuf r)
    if 15 ≤ v.ref then (false, s.hmpEvent 9 (refBuf r))
    else (true, s.setHbuf (refBuf r) { v with ref := v.ref + 1 })

/-- RETAIN (R258). -/
def hmpRetain (r who : Nat) (s : State) : State := (s.hmpRetainRef r who).2

/-- A buffer and those that follow it in its chain, for up to `f` buffers, as far as their references are good. -/
def State.chainBufs (s : State) (b : Nat) : Nat → List Nat
  | 0 => []
  | f + 1 => b :: match (s.hbuf b).next with
    | some n => if s.refOk n then s.chainBufs (refBuf n) f else []
    | none => []

/-- Named-owner release of buffers: each is freed with those that follow it in its chain (R259). A `NEXT` that is stale counts as a stale
reference of the buffer's owner (R261). -/
def State.hmpFreeAll (s : State) (l : List Nat) : State :=
  let all := (l.flatMap (fun b => s.chainBufs b 16)).dedup
  let stale := all.filter (fun b => (s.hbuf b).next.any (fun n => !s.refOk n))
  let s1 := stale.foldl (fun (s : State) b => s.staleRef ((s.hbuf b).next.getD 0) (s.hbuf b).owner) s
  ((all.foldl State.hmpDrop s1).hmpEval).hmpExamine

/-- A named-owner release of a buffer (R259). -/
def State.hmpNamed (s : State) (b owner : Nat) : State :=
  let v := s.hbuf b
  if v.held ∧ v.owner = owner then s.hmpFreeAll [b]
  else (s.addF F.HMP_ERR_NAMED_REFUSED 1).hmpEvent 10 (b % 2048 + owner % 32 * 2 ^ 16)

/-- The allocated buffers whose tag satisfies `c`. -/
def State.heldWhere (s : State) (c : HBuf → Bool) : List Nat := (s.hmp.bufs.filter (fun p => p.2.held && c p.2)).map (·.1)

/-- A named-owner release by owner and in-flight index (R259). -/
def State.hmpNamedCmd (s : State) (owner k : Nat) : State := s.hmpFreeAll (s.heldWhere (fun v => v.owner == owner && v.cmd == some k))

/-- NAMED_OWNER_RELEASE (R259): of one buffer, or of every buffer of the owner that serves a command. -/
def namedOwnerRelease (owner : Nat) (buf : Option Nat) (k : Nat) (s : State) : State :=
  match buf with
  | some b => s.hmpNamed (b % 2048) owner
  | none => s.hmpNamedCmd owner k

/-- HANDOVER (R260): true when it is made. No buffer goes to a reserved owner (R248). -/
def State.hmpHand (s : State) (r frm dst : Nat) : Bool × State :=
  if s.refOk r = false then (false, s.staleRef r frm)
  else
    let v := s.hbuf (refBuf r)
    let lim := s.ownLimit dst
    if v.owner ≠ frm ∨ 0x0D < dst ∨ (lim ≠ 0 ∧ lim < s.hmpHeld dst + 1) then (false, s)
    else
      let s1 := s.setHbuf (refBuf r) { v with owner := dst }
      (true, { s1 with hmp := { s1.hmp with peak := tset 0 s1.hmp.peak dst (max (tget 0 s1.hmp.peak dst) (s1.hmpHeld dst)) } })

/-- HANDOVER (R260). -/
def hmpHandover (r frm dst : Nat) (s : State) : State := (s.hmpHand r frm dst).2

/-! ### Leak audit (R263 to R266) -/

/-- The oldest buffer an owner holds, with its age in units of 1.024 ms. -/
def State.oldestOf (s : State) (o : Nat) : Option (Nat × Nat) :=
  let now := s.clock / 1024 % 2 ^ 32
  (s.hmp.bufs.filter (fun p => p.2.held && p.2.owner == o)).foldl (fun best p =>
    let age := (now + 2 ^ 32 - p.2.born) % 2 ^ 32
    match best with
    | none => some (p.1, age)
    | some (b, a) => if a < age then some (p.1, age) else some (b, a)) none

/-- Does the buffer serve a command that is not in flight? -/
def State.isStray (s : State) (v : HBuf) : Bool :=
  v.held && (match v.cmd with | some k => !(s.host.flights.any (fun p => p.1 == k)) | none => false)

/-- Free the orphans the last scan found, by named-owner release (R265). -/
def State.hmpReclaim (s : State) : State :=
  s.hmpFreeAll (s.heldWhere (fun v => v.orphan && s.isStray v))

/-- One audit scan. -/
def State.hmpScan (s : State) : State :=
  let owners := List.range 14
  let old := owners.filterMap (fun o => (s.oldestOf o).map (fun p => (o, p)))
  let s1 := { s with hmp := { s.hmp with oldest := old } }
  -- suspects
  let lim := s.get F.AUDIT_CFG_AGE_LIMIT
  let sus := old.filter (fun p => lim != 0 && bit (s.get F.AUDIT_MASK_MASK) p.1 && decide (lim * 100000 ≤ p.2.2 * 1024))
  let s2 := sus.foldl (fun s p => s.hmpEvent 4 (p.1 + p.2.1 * 2 ^ 16)) s1
  let s3 := s2.set F.AUDIT_RES_SUSPECTS sus.length
  -- orphans
  let bufs : List (Nat × HBuf) := s3.hmp.bufs.map (fun p =>
    let stray := s3.isStray p.2
    (p.1, { p.2 with orphan := stray && p.2.orphanOnce, orphanOnce := stray }))
  let n : Nat := (bufs.filter (fun p => p.2.orphan)).length
  let s4 := ({ s3 with hmp := { s3.hmp with bufs } }).set F.AUDIT_RES_ORPHANS n
  let reclaim := s.get F.AUDIT_CFG_RECLAIM == 1
  let s5 := if n = 0 then s4 else s4.hmpEvent 5 (n + b2n reclaim * 2 ^ 16)
  let s6 := if n ≠ 0 ∧ reclaim then s5.hmpReclaim else s5
  -- the sum
  let sum := s.hmpFree + s.hmpHeldAll + s.hmpRetired
  if sum = 2048 then s6.set F.AUDIT_RES_MISMATCH 0
  else ((s6.set F.AUDIT_RES_MISMATCH 1).hmpEvent 6 (s.hmpFree + sum * 2 ^ 16)).faultDue 0x05 0
    (natLE 2 s.hmpFree ++ natLE 2 sum)

/-- AUDIT_SCAN (R262, R263): the periodic scan reads every tag; it meets `corr` corrected single-bit errors and double-bit
errors in the tags of the buffers of `bad`, which retire at once. -/
def auditScan (corr : Nat) (bad : List Nat) (s : State) : State :=
  if s.get F.AUDIT_CFG_PERIOD = 0 then s
  else
    let s1 := s.addF F.HMP_ERR_ECC_CORR corr
    let s2 := bad.foldl (fun s b =>
      if b < 2048 ∧ (s.hbuf b).retired = false then
        let s' := if (s.hbuf b).held then s
          else if b < s.hmp.fresh then { s with hmp := { s.hmp with freed := s.hmp.freed.filter (· != b) } }
          else { s with hmp := { s.hmp with
            freed := ((List.range 2048).drop s.hmp.fresh ++ s.hmp.freed).filter (· != b), fresh := 2048 } }
        s'.hmpRetire b true
      else s) s1
    s2.hmpEval.hmpScan

/-! ### Registers -/

/-- A write of HMP_THR (R255): a write that breaks its conditions keeps all three fields (R9). -/
def State.hmpThr (s : State) (v : Word) : State :=
  let hyst := bits v.toNat 24 8
  let low := bits v.toNat 12 11
  let crit := bits v.toNat 0 11
  if 1 ≤ crit ∧ crit + hyst < low ∧ low + hyst ≤ 2048 then
    ((((s.set F.HMP_THR_HYST hyst).set F.HMP_THR_LOW low).set F.HMP_THR_CRIT crit).hmpEval).hmpExamine
  else s.fieldError

/-- A write of `OWN_LIMIT_k`: values above 0x800 are reserved. -/
def State.ownLimitWrite (s : State) (k : Nat) (v : Word) : State :=
  let o := bits v.toNat 16 12
  let e := bits v.toNat 0 12
  let s1 := if o ≤ 0x800 then s.set (F.OWN_LIMIT_ODD k) o else s.fieldError
  let s2 := if e ≤ 0x800 then s1.set (F.OWN_LIMIT_EVEN k) e else s1.fieldError
  s2.hmpExamine

/-- Release every buffer of an owner (HMP_CTL action 0b01). -/
def State.hmpReleaseOwner (s : State) (o : Nat) : State := s.hmpFreeAll (s.heldWhere (fun v => v.owner == o))

/-- A write of HMP_CTL. -/
def State.hmpCtl (s : State) (v : Word) : State :=
  let o := bits v.toNat 0 5
  if bits v.toNat 24 8 ≠ 0x48 then s.fieldError
  else match bits v.toNat 8 2 with
    | 1 => if 4 ≤ o ∧ o ≤ 0x0D then s.hmpReleaseOwner o else s.fieldError
    | 2 => s.hmpScan
    | 3 => s.hmpReclaim
    | _ => s.fieldError

/-! ### Access to data and tags -/

/-- Bytes 8 and 9 of a tag: the index, and `CMD_VALID` (Table 11-1). -/
def HBuf.cmdBytes (v : HBuf) : Nat := match v.cmd with | some k => k % 1024 + 2 ^ 15 | none => v.cmdLow % 1024

/-- The bytes of a tag (Table 11-1). -/
def HBuf.tag (v : HBuf) : List Byte :=
  let nx := v.next.getD 0
  natLE 1 v.owner ++ natLE 1 v.gen ++ natLE 1 v.ref ++ natLE 1 (b2n v.next.isSome) ++ natLE 2 nx ++ natLE 2 v.len
    ++ natLE 2 v.cmdBytes ++ natLE 4 v.born ++ natLE 2 0
    ++ readBytes 0 v.stage 16 48

/-- A stage's write of one tag byte (R245): bytes 0 to 5 and 10 to 15 are the allocator's. -/
def HBuf.tagPut (v : HBuf) (i : Nat) (b : Byte) : HBuf :=
  if i < 6 ∨ (10 ≤ i ∧ i < 16) then v
  else if i = 6 then { v with len := v.len / 256 * 256 + b.toNat }
  else if i = 7 then { v with len := v.len % 256 + b.toNat % 32 * 256 }
  else if i = 8 ∨ i = 9 then
    let w := v.cmdBytes
    let w' := if i = 8 then w / 256 * 256 + b.toNat else w % 256 + b.toNat * 256
    { v with cmd := if bit w' 15 then some (w' % 1024) else none, cmdLow := w' % 1024 }
  else { v with stage := tset 0 v.stage i b }

/-- Place bytes in a buffer's data. -/
def State.hmpPut (s : State) (b off : Nat) (l : List Byte) : State :=
  let v := s.hbuf b
  s.setHbuf b { v with data := writeBytes 0 v.data off l }

/-- Read bytes of a buffer's data. -/
def State.hmpData (s : State) (b off n : Nat) : List Byte := readBytes 0 (s.hbuf b).data off n

end Sys2Proof.Machine
end

