-- ==== Sys2Proof/Machine/Road.lean ====
section
/-!
DEFINITION. The internal queues (ch. 10) as their producers and consumers use them (R15, R16): pointers and credits, watermarks
and the FC pins, packing of producer writes, spill chains, and how an engine puts work into a queue and takes it out.
-/

namespace Sys2Proof.Machine

/-! ### Queues and their pointers -/

/-- Queue `q`. -/
def State.fq (s : State) (q : Nat) : Fq := tget {} s.fqs q

/-- The pointers of a queue: RD, VIS and WR modulo twice the depth, and the counts of the spill chain. -/
def Fq.ptrs (v : Fq) (q : Nat) : FqPtrs :=
  let m := 2 * fqDepth q
  { rd := v.rd % m, vis := (v.rd + min v.vis v.ring.length) % m, wr := (v.rd + v.ring.length) % m, head := v.spillOff,
    tail := v.spillOff + v.spill.length }

/-- Pointers as the second copy holds them: every bit inverted (R237). -/
def FqPtrs.inverted (p : FqPtrs) : FqPtrs := ⟨4095 - p.rd, 4095 - p.vis, 4095 - p.wr, 4095 - p.head, 4095 - p.tail⟩

/-- Set queue `q`; both copies of its pointers are written. -/
def State.setFq (s : State) (q : Nat) (v : Fq) : State :=
  { s with fqs := tset {} s.fqs q { v with inv := (v.ptrs q).inverted } }

/-- Every closed entry of the queue, in order. -/
def Fq.entries (v : Fq) : List FqEntry := v.ring ++ v.spill

/-- The fill of the queue (ch. 10, Watermarks). -/
def Fq.fill (v : Fq) : Nat := v.ring.length + v.spill.length + v.parts.length

/-- Pending entries of a queue. -/
def Fq.pending (v : Fq) : Nat := v.entries.length - v.vis

/-- Do the copies of the pointers agree, and do RD, VIS and WR lie in that order with WR no more than the depth ahead (R237)? -/
def Fq.ptrsOk (v : Fq) (q : Nat) : Bool :=
  let p := v.ptrs q
  let m := 2 * fqDepth q
  v.inv == p.inverted && decide ((p.vis + m - p.rd) % m ≤ (p.wr + m - p.rd) % m) && decide ((p.wr + m - p.rd) % m ≤ fqDepth q)

/-- Entries a spill buffer holds. -/
def spillPer (q : Nat) : Nat := 4096 / fqW q

/-- Places of the spill buffers the queue holds that no entry of the chain fills. -/
def Fq.spillFree (v : Fq) (q : Nat) : Nat := v.bufs.length * spillPer q - v.spillOff - v.spill.length

/-- Free on-chip entries: none take entries while the spill chain holds any (R236). -/
def Fq.chipFree (v : Fq) (q : Nat) : Nat := if v.spill = [] then fqDepth q - v.ring.length else 0

/-- Free places of the spill buffers, less those that open partial entries have taken. -/
def Fq.spillOpen (v : Fq) (q : Nat) : Nat := v.spillFree q - (v.parts.length - v.chipFree q)

/-- `SPILL_CFG` of a queue. -/
def State.spillCfg (s : State) (q : Nat) : Nat :=
  if q = 37 then s.get F.SPILL_CFG_Q37 else if q = 39 then s.get F.SPILL_CFG_Q39 else if q = 43 then s.get F.SPILL_CFG_Q43
  else if q = 44 then s.get F.SPILL_CFG_Q44 else if q = 47 then s.get F.SPILL_CFG_Q47 else 0

/-- Credits a producer has (R224, R234). -/
def Fq.credits (v : Fq) (q prod : Nat) : Nat :=
  if fqProducers q = 1 then v.chipFree q + v.spillFree q - v.parts.length
  else
    fqDepth q / fqProducers q
      - ((v.ring.filter (fun e => e.prod == prod)).length + (v.parts.filter (fun e => e.prod == prod)).length)

/-- Post a fabric event: bit `k` of `FAB_EVT`, source 240 + k. -/
def State.fabEvent (s : State) (f : Fld) (k data : Nat) : State := (s.set f 1).post (240 + k) data

/-! ### FC pins and watermarks (R240 to R242) -/

/-- Is the watermark state of a selected queue set, and the pin enabled? -/
def State.fcWant (s : State) (k : Nat) : Bool :=
  let en := if k = 0 then s.get F.FC_CFG_FC0_EN else s.get F.FC_CFG_FC1_EN
  let sel := if k = 0 then s.get F.FC0_SEL_LO_SEL + s.get F.FC0_SEL_HI_SEL * 2 ^ 32
    else s.get F.FC1_SEL_LO_SEL + s.get F.FC1_SEL_HI_SEL * 2 ^ 32
  en == 1 && s.fqs.any (fun p => p.2.wm && bit sel p.1)

/-- Set the pins, posting FC_CHG when one changes. -/
def State.fcSet (s : State) (a b : Bool) : State :=
  if s.balls.fc0 = a ∧ s.balls.fc1 = b then s
  else ({ s with balls := { s.balls with fc0 := a, fc1 := b } }).fabEvent F.FAB_EVT_FC_CHG 2 (b2n a + 2 * b2n b)

/-- A selected watermark state asserts its pin at once, except in TRAILHEAD. -/
def State.fcEval (s : State) : State :=
  if s.st = stTrailhead ∨ s.st = stRemoving then s
  else s.fcSet (s.balls.fc0 || s.fcWant 0) (s.balls.fc1 || s.fcWant 1)

/-- FC_HOLD_EXPIRY (R242): no selected state of pin `k` has been set for `HOLD` × 40 ns. -/
def fcHoldExpiry (k : Nat) (s : State) : State :=
  if s.st = stRemoving then s
  else s.fcSet (s.balls.fc0 && !(k == 0 && !s.fcWant 0)) (s.balls.fc1 && !(k == 1 && !s.fcWant 1))

/-- The watermark state of `q` after a change of fill, or when a new `HI` is at or below it (R240). -/
def State.wmEval (s : State) (q : Nat) : State :=
  let v := s.fq q
  let hi := s.get F.FQ_WM_HI q
  let lo := s.get F.FQ_WM_LO q
  if hi ≤ v.fill ∧ v.wm = false then
    ((s.setFq q { v with wm := true }).fabEvent F.FAB_EVT_WM_HI 1 (q + v.fill * 2 ^ 16)).fcEval
  else if v.fill ≤ lo ∧ v.wm = true then s.setFq q { v with wm := false }
  else s

/-- Queue `q` changes to `v`: the watermark state follows a change of fill (R240). -/
def State.fqPut (s : State) (q : Nat) (v : Fq) : State :=
  if v.fill = (s.fq q).fill then s.setFq q v else (s.setFq q v).wmEval q

/-- A write of FQ_INJECT. -/
def State.fqInjectWrite (s : State) (v : Word) : State :=
  let q := bits v.toNat 0 6
  if bits v.toNat 24 8 ≠ 0x3A ∨ 48 ≤ q then s.fieldError
  else s.setFq q { s.fq q with inject := true }

/-- A write of FQ_WM for the queue the path selects (R240, R241). -/
def State.fqWmSet (s : State) (p : Path) (w : Word) : State :=
  let q := s.get F.FQ_SEL_QID (pathNum p)
  let hi := bits w.toNat 16 12
  let lo := bits w.toNat 0 12
  let cap := fqDepth q + (if fqSpill q then s.spillCfg q * spillPer q else 0)
  if 1 ≤ hi ∧ hi ≤ cap ∧ lo < hi then
    let s1 := (s.set F.FQ_WM_HI hi q).set F.FQ_WM_LO lo q
    if hi ≤ (s1.fq q).fill then s1.wmEval q else s1
  else s.fieldError

/-! ### Entries (R226, R228, R231) -/

/-- Add a closed entry behind the others: visible at once in a plain queue. -/
def Fq.append (v : Fq) (q : Nat) (e : FqEntry) : Fq :=
  let vis := if fqMode q = 0 then v.vis + 1 else v.vis
  if v.spill = [] ∧ v.ring.length < fqDepth q then { v with ring := v.ring ++ [e], vis }
  else { v with spill := v.spill ++ [e], vis }

/-- Give a queue these entries, the first `n` of them on chip. -/
def Fq.place (v : Fq) (n : Nat) (l : List FqEntry) : Fq := { v with ring := l.take n, spill := l.drop n }

/-- The first spill buffer is released once its last entry has moved and no open entry holds a place in it (R236). -/
def State.spillTidy (s : State) (q : Nat) : State :=
  let v := s.fq q
  if v.spillOff = 0 ∨ ¬(v.spillOff = spillPer q ∨ (v.spill = [] ∧ v.parts = [])) then s
  else match v.bufs with
    | r :: l => (s.setFq q { v with bufs := l, spillOff := 0 }).hmpNamed (refBuf r) 7
    | [] => s.setFq q { v with spillOff := 0 }

/-- Discard pending and partial entries, and what a stalled producer had still to write of them (R230). -/
def State.fqRewindQ (s : State) (q : Nat) : State :=
  let v := s.fq q
  (((s.fqPut q { v.place v.ring.length (v.entries.take v.vis) with parts := [], held := [], slotOpen := false }).addF
      F.FQ_COUNT_REWINDS 1 q)).spillTidy q

/-- Close a partial entry (R226): padding bytes are 0; false when it is refused. A packet above half the depth is refused and rewound
(R231). -/
def State.fqClose1 (s : State) (q : Nat) (e : FqEntry) : Bool × State :=
  let v := s.fq q
  let v1 := { v with parts := v.parts.filter (fun p => p.prod != e.prod) }
  if fqMode q ≠ 0 ∧ fqDepth q / 2 < v.pending + 1 then
    let s1 := (s.setFq q v1).fqRewindQ q
    (false, (s1.addF F.FQ_COUNT_PKT_OVF 1 q).fabEvent F.FAB_EVT_PKT_OVF 4 q)
  else (true, (s.fqPut q (v1.append q { e with vb := e.data.length, data := sliceB e.data 0 (fqW q) })).spillTidy q)

/-- Fill entries with a producer's bytes, closing each that holds *W* bytes. A producer without a credit stalls before the first byte of an
entry and keeps what it has still to write; what follows a refused entry is refused. -/
def State.fqFillBytes (s : State) (q : Nat) (m : FqEntry) : Nat → List Byte → State
  | 0, _ => s
  | f + 1, l =>
    if l = [] then s
    else
      let v := s.fq q
      let part := v.parts.find? (fun p => p.prod == m.prod)
      if part = none ∧ v.credits q m.prod = 0 then s.setFq q { v with held := v.held ++ [{ m with data := l }] }
      else
        let cur := part.getD { m with data := [] }
        let room := fqW q - cur.data.length
        let e := { cur with data := cur.data ++ l.take room }
        let s1 := s.fqPut q { v with parts := e :: v.parts.filter (fun p => p.prod != m.prod) }
        if e.data.length < fqW q then s1
        else match s1.fqClose1 q e with
          | (true, s2) => s2.fqFillBytes q m f (l.drop room)
          | (false, s2) => s2

/-- Credits have returned: stalled producers go on, in the order they stalled. -/
def State.fqResume (s : State) (q : Nat) : State :=
  let v := s.fq q
  if v.held = [] then s
  else v.held.foldl (fun (s : State) m => s.fqFillBytes q m (m.data.length + 1) m.data) (s.setFq q { v with held := [] })

/-- Close the partial entry of a producer, if there is one. -/
def State.fqClosePart (s : State) (q prod : Nat) : State :=
  match (s.fq q).parts.find? (fun p => p.prod == prod) with
  | some e => (s.fqClose1 q e).2
  | none => s

/-- Move an entry from the head of the spill chain into the ring (R236). -/
def State.spillMove (s : State) (q : Nat) : State :=
  let v := s.fq q
  match v.spill with
  | e :: rest =>
    if v.ring.length < fqDepth q then
      (s.setFq q { v with ring := v.ring ++ [e], spill := rest, spillOff := v.spillOff + 1 }).spillTidy q
    else s
  | [] => s.spillTidy q

/-! ### What engines do with a queue (R15, R16) -/

/-- Has the producer credits for `n` entries of queue `q`, and no write that is stalled? -/
def State.qCan (s : State) (q n prod : Nat) : Bool :=
  decide (n ≤ (s.fq q).credits q prod) && (s.fq q).held.isEmpty

/-- A producer sends a whole entry, visible at once. -/
def State.qPut (s : State) (q : Nat) (e : FqEntry) : State :=
  let v := (s.fq q).append q { e with vb := fqW q, done := true }
  s.fqPut q { v with vis := if fqMode q ≠ 0 ∧ v.vis + 1 = v.entries.length then v.vis + 1 else v.vis }

/-- A channel fills the entry of a read, which stays pending (R346). -/
def State.qPend (s : State) (q : Nat) (e : FqEntry) : State := s.fqPut q ((s.fq q).append q { e with vb := fqW q })

/-- The oldest ready entry. -/
def State.qFront (s : State) (q : Nat) : Option FqEntry := if (s.fq q).vis = 0 then none else (s.fq q).ring.head?

/-- The work of the oldest ready entry. -/
def State.qWork (s : State) (q : Nat) : QWork := match s.qFront q with | some e => e.work | none => .none

/-- The oldest ready entry leaves, and its credit returns. -/
def State.qTake (s : State) (q : Nat) : State :=
  let v := s.fq q
  match v.ring with
  | _ :: rest =>
    if v.vis = 0 then s
    else
      ((s.fqPut q { v with ring := rest, vis := v.vis - 1, rd := (v.rd + 1) % (2 * fqDepth q) }).spillMove q).fqResume q
  | [] => s

/-- Closed entries, from the front, that are settled: visible ones, and pending reads that have passed (R229, R351). -/
def settledLen (l : List FqEntry) : Nat := (l.takeWhile (fun e => e.done)).length

/-- The pending entry of this work is committed: VIS moves over the entries that are done. -/
def State.qDone (s : State) (q : Nat) (w : QWork) : State :=
  let v := s.fq q
  let l := v.entries.map (fun e => if e.work = w then { e with done := true } else e)
  s.setFq q { v.place v.ring.length l with vis := v.vis + settledLen (l.drop v.vis) }

/-- The pending entry of this work is rewound (R230, R351). -/
def State.qDrop (s : State) (q : Nat) (w : QWork) : State :=
  let v := s.fq q
  if (v.entries.drop v.vis).all (fun e => e.work != w) then s
  else
    let rest := (v.entries.drop v.vis).filter (fun e => e.work != w)
    let l := v.entries.take v.vis ++ rest
    let s1 := s.fqPut q { v.place (min v.ring.length l.length) l with vis := v.vis + settledLen rest }
    ((s1.addF F.FQ_COUNT_REWINDS 1 q).spillTidy q).fqResume q

/-- Does the queue hold an entry of this work? -/
def State.qHas (s : State) (q : Nat) (w : QWork) : Bool := (s.fq q).entries.any (fun e => e.work == w)

/-- Can work pass through a queue whose consumer takes it as it comes: no entry ahead of it, and a credit for each? -/
def State.qOpen (s : State) (q n prod : Nat) : Bool := (s.fq q).entries.isEmpty && s.qCan q (min 1 n) prod

/-- An entry passes through such a queue. -/
def State.qPass (s : State) (q : Nat) (e : FqEntry) : State :=
  if s.qOpen q 1 e.prod then (s.qPut q e).qTake q else s

/-- `n` entries pass through. -/
def State.qPassN (s : State) (q : Nat) (e : FqEntry) (n : Nat) : State := iterate (fun (s : State) => s.qPass q e) n s

/-- Entries of work that satisfies `c` keep their places, for their consumer to take and drop. -/
def State.qForget (s : State) (q : Nat) (c : QWork → Bool) : State :=
  let v := s.fq q
  let f (e : FqEntry) : FqEntry := if c e.work then { e with work := .none, flight := none, bufs := [] } else e
  s.setFq q { v with ring := v.ring.map f, spill := v.spill.map f }

/-- Who the entries of a queue belong to that carry no in-flight index (R225). -/
def originOf (q : Nat) : FqOrigin := if 2 ≤ q ∧ q ≤ 9 ∨ q = 35 then .map else if q = 23 ∨ q = 36 then .stream else .host

/-! ### Cascade frames to send (R510) -/

/-- Send a cascade frame to a device: a packet of Q_44, its length slot and 64 bytes of payload to an entry. -/
def State.cascSend (s : State) (typ dst : Nat) (h payload : List Byte) : State :=
  (s.qPassN 44 {} (1 + (payload.length + 63) / 64)).linkSend (s.cascLane dst) (s.cascFrame typ dst h payload)

/-- Open an exchange with member `m` and send its C_REQ (R514, R515). -/
def State.cascOpen (s : State) (m : Nat) (use : CUse) (kind prio vol alb : Nat) (payload : List Byte) : State :=
  let x := s.freeXid m
  let s1 := { s with casc := { s.casc with nextXid := (x + 1) % 65536, runs := s.casc.runs ++ [({ xid := x, dev := m, use } : CRun)] } }
  (s1.addF F.CASC_COUNT_RUNS 1).cascSend 0x31 m (cReqHeader kind x prio vol alb) payload

/-- A member that has left TRAILHEAD sends JOIN upstream once its link there is in L0 (R511, Table 22-3). -/
def State.joinSend (s : State) : State :=
  if s.cascRole ≠ 2 ∨ s.casc.accepted ∨ s.casc.cl0.state ≠ 6 ∨ s.st = stTrailhead ∨ s.st = stRemoving ∨ s.st = 0 then s
  else
    let p := s.uid ++ natLE 2 (s.get F.FW_SVI_SVI_VER) ++ natLE 1 s.st ++ natLE 1 (b2n s.formB) ++ natLE 2 s.casc.epoch ++ [0, 0]
    ({ s with casc := { s.casc with joinAt := some s.clock } }).cascSend 0x35 0 [1] p

end Sys2Proof.Machine
end

