-- ==== Sys2Proof/Machine/HostQueue.lean ====
section
/-!
DEFINITION. Host queues and commands (ch. 08): queue pairs, the examination of a command (R194), identity and duplicates
(R198 to R202), arbitration (R203, R204), completions (R189 to R191, R196), the supervisor's mailbox (R24, R25), and the
rows that act on them, with the commands of the Logbook (R214, R215) and NOP.
-/

namespace Sys2Proof.Machine

/-! ### Opcodes (Table 8-3) -/

/-- Is the opcode one of Table 8-3? -/
def opcodeKnown (op : Nat) : Bool :=
  [0x01, 0x02, 0x03, 0x04, 0x05, 0x10, 0x11, 0x12, 0x13, 0x20, 0x21, 0x22, 0x23, 0x24, 0x30, 0x31, 0x32, 0x40, 0x41, 0x42,
    0x43, 0x44, 0x50, 0x7F].contains op

/-- Is the command of class M, as it would be executed (R193)? -/
def cmdMutates (c : List Byte) : Bool :=
  let op := leAt c 0 1
  [0x10, 0x11, 0x12, 0x13, 0x24, 0x32, 0x41, 0x42, 0x43, 0x44].contains op
    || ((op == 0x30 || op == 0x23) && bit (leAt c 16 1) 0)

/-- Is the opcode handed to the supervisor (R24)? -/
def opAssisted (op : Nat) : Bool :=
  [0x20, 0x21, 0x22, 0x23, 0x24, 0x30, 0x32, 0x40, 0x41, 0x42, 0x43, 0x44, 0x50].contains op

/-- Does the command carry data, in or out (Table 8-3)? -/
def cmdHasData (c : List Byte) : Bool :=
  let op := leAt c 0 1
  [0x01, 0x02, 0x03, 0x10, 0x12, 0x20, 0x21, 0x22, 0x31, 0x40, 0x41].contains op || (op == 0x30 && !bit (leAt c 16 1) 0)

/-- The body bytes that Table 8-3 names, each with the mask of its bits that are not reserved. -/
def opMasks (op : Nat) : List (Nat × Nat) :=
  let full (a n : Nat) : List (Nat × Nat) := (List.range n).map (fun i => (a + i, 0xFF))
  if op = 0x01 then (16, 0x0F) :: full 20 6
  else if op = 0x02 then [(16, 7), (17, 0x37), (18, 3)] ++ full 20 3 ++ full 24 8
  else if op = 0x03 then (16, 0x0F) :: full 20 16
  else if op = 0x04 then (16, 0x1F) :: full 24 4
  else if op = 0x05 then [(16, 0x1F)]
  else if op = 0x10 then [(16, 7), (17, 0x37), (18, 3), (19, 0xFF)] ++ full 20 3
  else if op = 0x11 then [(16, 7), (17, 0x37)] ++ full 20 3
  else if op = 0x12 then (16, 0x0F) :: full 20 6
  else if op = 0x13 then [(16, 0x8F)]
  else if op = 0x20 ∨ op = 0x21 then (16, 3) :: (full 20 8 ++ full 56 8)
  else if op = 0x22 then [(16, 0x0F), (17, 0x0F)] ++ full 20 4
  else if op = 0x23 then [(16, 1), (20, 0xFF)]
  else if op = 0x24 then [(16, 0x0F)]
  else if op = 0x30 then [(16, 1), (17, 0xFF), (18, 0x3F), (19, 0xFF)] ++ full 32 32
  else if op = 0x31 then [(20, 0xFF), (21, 0x3F)] ++ full 24 2
  else if op = 0x32 then full 20 4
  else if op = 0x40 then [(20, 0xFF), (21, 0xFF), (22, 0x7F)] ++ full 24 4
  else if op = 0x41 then [(16, 1), (20, 0xFF), (21, 0xFF), (22, 0x7F)] ++ full 24 4 ++ full 32 16
  else if op = 0x42 then (16, 0xFF) :: full 32 16
  else if op = 0x43 then [(16, 3)]
  else if op = 0x44 then [(16, 0xFF), (17, 0x0F), (18, 1)]
  else if op = 0x50 then [(16, 0xFF), (17, 0xFF)] ++ full 20 4
  else []

/-- Every reserved bit of the header and the body is 0. -/
def cmdReservedOk (c : List Byte) : Bool :=
  leAt c 1 1 < 4 && leAt c 4 4 == 0 &&
    (List.range 48).all (fun i =>
      let m := ((opMasks (leAt c 0 1)).find? (fun p => p.1 == 16 + i)).elim 0 (·.2)
      leAt c (16 + i) 1 &&& (0xFF ^^^ m) == 0)

/-- Is it a sector code of Table 19-1? -/
def sectorCode (c : Nat) : Bool := decide (c ≤ 7) || (decide (0x41 ≤ c) && decide (c ≤ 0x7F))

/-- Is it a target code of TEST_PATTERN? -/
def patternTarget (t : Nat) : Bool :=
  decide (t ≤ 3) || t == 0x10 || t == 0x11 || (decide (0x20 ≤ t) && decide (t ≤ 0x27))

/-- Is the pattern byte one of Table 23-1? -/
def patternOk (p : Nat) : Bool := decide (p % 16 ≤ 5) && decide (p / 16 ≤ 1)

/-- Encodings that are not reserved (R193, Table 8-3), the message lengths of R420, R421 and R423 and the channel mask of R432 among them. -/
def cmdEncodingOk (pcie : Bool) (c : List Byte) : Bool :=
  let op := leAt c 0 1
  let inR (v lo hi : Nat) : Bool := decide (lo ≤ v ∧ v ≤ hi)
  if op = 0x01 then inR (leAt c 24 2) 1 256
  else if op = 0x02 then
    leAt c 18 1 != 3 && inR (leAt c 28 4) 4 32768 && leAt c 28 4 % 4 == 0
      && (leAt c 18 1 != 0 || (leAt c 24 4 % 4096 == 0 && leAt c 28 4 % 4096 == 0))
  else if op = 0x03 then
    leAt c 24 4 != 0 && inR (leAt c 28 2) 1 512 &&
      (if pcie then leAt c 8 8 != 0 && inR (leAt c 32 4) 0x10000 0x1000000 && leAt c 32 4 % 4096 == 0 else leAt c 32 4 == 0)
  else if op = 0x04 then inR (leAt c 24 4) 1 65535
  else if op = 0x10 then inR (leAt c 19 1) 1 16
  else if op = 0x12 then inR (leAt c 24 2) 1 512
  else if op = 0x13 then !bit (leAt c 16 1) 7 || leAt c 16 1 % 16 == 0
  else if op = 0x20 then leAt c 20 4 == 400 && leAt c 24 4 == 168 && (pcie || leAt c 56 8 == 0)
  else if op = 0x21 then leAt c 20 4 == 96 && leAt c 24 4 == 256 && (pcie || leAt c 56 8 == 0)
  else if op = 0x22 then leAt c 20 4 == 404
  else if op = 0x23 then !bit (leAt c 16 1) 0 || leAt c 20 1 != 0
  else if op = 0x30 then
    inR (leAt c 19 1) 1 8 && decide (leAt c 18 1 + leAt c 19 1 ≤ 0x40)
      && (if bit (leAt c 16 1) 0 then leAt c (32 + 4 * leAt c 19 1) (32 - 4 * leAt c 19 1) == 0 else leAt c 32 32 == 0)
  else if op = 0x31 then inR (leAt c 24 2) 1 512
  else if op = 0x40 then leAt c 20 3 % 4 == 0 && inR (leAt c 24 4) 4 65536 && leAt c 24 4 % 4 == 0
  else if op = 0x41 then leAt c 20 3 % 8 == 0 && inR (leAt c 24 4) 8 65536 && leAt c 24 4 % 8 == 0
  else if op = 0x42 then sectorCode (leAt c 16 1)
  else if op = 0x43 then leAt c 16 1 != 0
  else if op = 0x50 then patternTarget (leAt c 16 1) && patternOk (leAt c 17 1) && inR (leAt c 20 4) 1 1000000
  else true

/-- The page bits of the `ROW` of an ERASE_RAW are 0, as far as the die has pages (R193, R306). -/
def State.eraseRowOk (s : State) (c : List Byte) : Bool :=
  let (ch, d, row) := rawAddr c
  leAt c 0 1 != 0x11 || (s.die ch d).state != 1 || row % (s.die ch d).pages == 0

/-- R192: `DPTR`. -/
def cmdDptrOk (pcie : Bool) (c : List Byte) : Bool :=
  if pcie && cmdHasData c then leAt c 8 8 % 4 == 0 else leAt c 8 8 == 0

/-- The fingerprint of a command (R198). -/
def fingerprint (c : List Byte) : Nat :=
  let op := leAt c 0 1
  let body := if op = 0x20 ∨ op = 0x21 then sliceB c 16 40 ++ natLE 8 0 else sliceB c 16 48
  crc32 (sliceB c 0 1 ++ body)

/-- `ADDR` of the entry of a command (Table 9-4). -/
def cmdAddr (c : List Byte) : Nat :=
  let op := leAt c 0 1
  if op = 0x01 ∨ op = 0x03 ∨ op = 0x32 then leAt c 20 4
  else if op = 0x02 ∨ op = 0x10 ∨ op = 0x11 then
    leAt c 20 3 + leAt c 16 1 % 8 * 2 ^ 24 + leAt c 17 1 % 8 * 2 ^ 27 + leAt c 17 1 / 16 % 4 * 2 ^ 30
  else if op = 0x40 ∨ op = 0x41 then leAt c 20 3 % 2 ^ 23
  else if op = 0x42 then leAt c 16 1
  else if op = 0x24 then leAt c 16 1 % 16
  else if op = 0x30 then leAt c 17 1 * 256 + leAt c 18 1
  else 0

/-- `OPS_TOTAL` of a command when it is accepted (Table 9-4). -/
def cmdOps (c : List Byte) : Nat :=
  let op := leAt c 0 1
  if op = 0x10 then leAt c 19 1
  else if op = 0x11 ∨ op = 0x42 ∨ op = 0x24 then 1
  else if op = 0x41 then leAt c 24 4 / 8
  else 0

/-! ### Queue pairs -/

/-- Queue pair `q`. -/
def State.qp (s : State) (q : Nat) : Qp := tget {} s.host.qps q

/-- Set queue pair `q`. -/
def State.setQp (s : State) (q : Nat) (v : Qp) : State := { s with host := { s.host with qps := tset {} s.host.qps q v } }

/-- Depth of the submission queue. -/
def Qp.sqDepth (v : Qp) : Nat := 2 ^ v.sqLog2

/-- Depth of the completion queue. -/
def Qp.cqDepth (v : Qp) : Nat := 2 ^ v.cqLog2

/-- Slots allocated to all pairs (R179). -/
def State.slotsUsed (s : State) : Nat :=
  s.host.qps.foldl (fun n p => if p.2.st = .absent then n else n + p.2.sqDepth) 0

/-- Set an error bit of pair `q` and of `HQ_EVT`, posting source 32 + q when the bit becomes set (ch. 08, Register pages). -/
def State.qpError (s : State) (q : Nat) (f g : Fld) : State :=
  let was := s.get f q
  let s1 := (s.set f 1 q).set g 1
  if was = 0 then s1.post (32 + q) (s1.reg 0x90B q).toNat else s1

/-- A pointer mismatch of pair `q` (R188). -/
def State.qpMismatch (s : State) (q : Nat) : State :=
  let v := s.qp q
  let n := (v.fill + v.sqDepth - v.head) % v.sqDepth
  let s1 := s.setQp q { v with fill := 0, tail := 0, head := 0, cqHead := 0, cqTail := 0, phase := true, slots := [] }
  (s1.qpError q F.QP_ERR_QERR F.HQ_EVT_QERR).faultDue 0x02 0 (natLE 1 q ++ natLE 2 n)

/-! ### Completions -/

/-- A queue's flights in flight, as pairs (index, flight), in the order they were taken. -/
def State.flightsOf (s : State) (q : Nat) : List (Nat × Flight) := s.host.flights.filter (fun p => p.2.qid == q)

/-- The 16 bytes of a completion entry of pair `q` (Table 8-1); of a bound command it is the member's, with this pair's head and
phase (R515). -/
def State.cplEntry (s : State) (q : Nat) (v : Qp) (c : Cpl) : List Byte :=
  let flags := b2n c.dup + 2 * b2n (s.st == stLimited || c.lim) + 4 * b2n s.log.degraded + 8 * b2n c.stale
  let lg := match c.logIdx with | some i => i % 2 ^ 14 + 2 ^ 14 | none => 0
  if c.raw = [] then
    natLE 4 c.result ++ natLE 1 v.head ++ natLE 1 q ++ natLE 2 c.tag ++ natLE 1 c.status ++ natLE 1 c.qual ++ natLE 1 flags
      ++ natLE 1 v.gen ++ natLE 2 lg ++ natLE 1 0 ++ natLE 1 (b2n v.phase)
  else sliceB c.raw 0 4 ++ natLE 1 v.head ++ sliceB c.raw 5 10 ++ natLE 1 (b2n v.phase)

/-- Remove a flight that has posted its completion. -/
def State.dropFlight (s : State) (k : Nat) : State :=
  { s with host := { s.host with flights := tdel s.host.flights k } }

/-- The completion of a command that a member runs for the master leaves as C_CPL (R514, R515); a class R command's DONE record follows
it (R18). None leaves for a command that an orderly reset closed (R66). -/
def State.cascComplete (s : State) (q xid : Nat) (c : Cpl) : State :=
  let s1 := { s with casc := { s.casc with xids := tdel s.casc.xids c.flight } }
  let s2 := if c.silent then s1
    else s1.cascSend 0x33 0 ([0, 0] ++ natLE 2 xid) (s.cplEntry q (s.qp q) c)
  let s3 := match s2.flight? c.flight with
    | some f => if f.mutates ∨ f.journalled = false then s2 else s2.logRewrite c.flight 3
    | none => s2
  s3.dropFlight c.flight

/-- Place a completion among those of its pair. -/
def State.pushCpl (s : State) (q : Nat) (c : Cpl) : State :=
  match s.casc.xids.find? (fun p => p.1 == c.flight) with
  | some (_, x) => s.cascComplete q x c
  | none =>
    let v := s.qp q
    s.setQp q { v with ready := v.ready ++ [c] }

/-- The completion of flight `k`. -/
def Flight.cpl (f : Flight) (k : Nat) : Cpl :=
  { flight := k, tag := f.tag, status := f.status, qual := f.qual, result := f.resultOf, dup := f.dup, stale := f.stale,
    logIdx := if f.journalled then some f.logIdx else none, noIrq := bit (leAt f.bytes 1 1) 0, gen := f.gen, lim := f.lim,
    raw := if leAt f.raw 8 1 = f.status then f.raw else [] }

/-- The status and the `DUP` flag of a duplicate of a command that ended with this status (R200). -/
def dupStatus (status : Nat) : Nat × Bool := if status = 0 ∨ status = 2 then (1, false) else (status, true)

/-- Count a duplicate's completion. -/
def State.countDup (s : State) : State := s.addF F.HQ_DUP_DUPS 1

/-- The completion of a duplicate in flight `k` that repeats an outcome (R200). The `QUAL` of SUCCESS_DUPLICATE is 0, and so is that of a
REG_ACCESS (log entry 130). One that repeats what an orderly reset in hand closed is not posted (R66). -/
def State.dupComplete (s : State) (k : Nat) (status qual result idx : Nat) : State :=
  match s.flight? k with
  | none => s
  | some f =>
    let (st, d) := dupStatus status
    let f' := { f with status := st, qual := if d then qual else 0, result := result, dup := d, phase := .ready, logIdx := idx }
    let c : Cpl := { f'.cpl k with logIdx := some idx, silent := s.rmv.orderly.isSome && status == 0x33 }
    ((s.setFlight k f').pushCpl f.qid c).countDup

/-- The parked duplicates of flight `k`, in arrival order. -/
def State.parkedOn (s : State) (k : Nat) : List Nat :=
  let l := s.host.flights.filter (fun p => p.2.phase == .parked k)
  (l.foldr (fun p acc =>
    let (a, b) := acc.span (fun q => decide (q.2 < p.2.arr))
    a ++ (p.1, p.2.arr) :: b) ([] : List (Nat × Nat))).map (·.1)

/-- A result is 0 for any status other than SUCCESS, SUCCESS_SOFT and SUCCESS_DUPLICATE (Table 8-1). -/
def resultFor (status result : Nat) : Nat := if status ≤ 2 then result % 2 ^ 32 else 0

/-- The command in flight `k` gives up its Hamper buffers: by named-owner release of those that carry its index when it is aborted (R259),
and by reference. -/
def State.releaseBufs (s : State) (k : Nat) (aborted : Bool) : State :=
  match s.flight? k with
  | some f =>
    let s1 := s.setFlight k { f with bufs := [] }
    let s2 := if aborted then [1, 8, 9, 10].foldl (fun (s : State) o => s.hmpNamedCmd o k) s1 else s1
    (f.bufs.filter s2.refOk).foldl (fun (s : State) r => s.hmpRelease r (s.hbuf (refBuf r)).owner) s2
  | none => s

/-- Moves of 4,096 bytes or part that `n` bytes make (Table 12-1). -/
def moves (n : Nat) : Nat := (n + 4095) / 4096

/-- Present transfer requests to the ledger (R278). -/
def State.askXfer (s : State) (k n : Nat) : State :=
  if n = 0 then s else { s with rt := { s.rt with reqs := s.rt.reqs ++ [.xfer k n] } }

/-- A plane part that served flight `k` serves nobody. -/
def OpUse.forget (u : OpUse) (k : Nat) : OpUse :=
  match u with
  | .page j _ => if j = k then .cal 0 else u
  | .erase j => if j = k then .cal 0 else u
  | .wback j _ => if j = k then .cal 0 else u
  | .imp j _ => if j = k then .cal 0 else u
  | _ => u

/-- The road forgets the command in flight `k`: what still arrives for it has no use. -/
def State.detach (s : State) (k : Nat) : State :=
  { s with
    dops := s.dops.map (fun (p : Nat × DieOp) =>
      (p.1, { p.2 with parts := p.2.parts.map (fun (x : OpPart) => { x with use := x.use.forget k }) }))
    cws := s.cws.map (fun (p : Nat × Cw) => (p.1, if p.2.flight = some k then { p.2 with use := CwUse.cal, flight := none } else p.2))
    map := { s.map with
      frames := s.map.frames.filter (fun p => p.2.flight != some k)
      faults := s.map.faults.map (fun f => { f with waits := f.waits.filter (fun w => match w with | .host j _ => j != k | _ => true) }) }
    keep := { s.keep with norReads := s.keep.norReads.filter (fun r => r.flight != k) }
    prot := { s.prot with job := s.prot.job.filter (fun j => j.flight != k) }
    agl := { s.agl with dreqs := s.agl.dreqs.map (fun d => if d.flight = k then { d with dead := true } else d) }
    casc := { s.casc with runs := s.casc.runs.filter (fun r => match r.use with
      | .host j _ => j != k
      | .cmd j => j != k
      | .stream _ _ => true) } }

/-- A request for output buffers that still waits is withdrawn, and buffers granted to it go back. -/
def State.dropWait (s : State) (w : Option Nat) : State :=
  match w with
  | none => s
  | some i =>
    let refs := ((s.hmp.granted.find? (fun g => g.1 == i)).map (·.2)).getD []
    let s1 := waitWithdraw i { s with hmp := { s.hmp with granted := tdel s.hmp.granted i } }
    refs.foldl (fun (s : State) r => s.hmpRelease r (s.hbuf (refBuf r)).owner) s1

/-- Has MAP no more to look up for the command in flight `k`? -/
def State.lookedUp (s : State) (k : Nat) : Bool :=
  match s.flight? k with
  | some f => !f.run || f.phase == .ready || (List.range (leAt f.bytes 24 2)).all (fun i => f.units.any (fun u => u.1 == i))
  | none => true

/-- MAP takes the entries at the front of Q_1 whose lookups are done, or whose commands have ended. -/
def State.q1Tidy (s : State) : State :=
  iterate (fun (s : State) => match s.qWork 1 with
    | .alb k => if s.lookedUp k then s.qTake 1 else s
    | _ => s) (s.fq 1).vis s

/-- AUTH_BEGIN in flight `f` completes with a status: the time that AUTH_FINISH has runs from here (R421). -/
def State.authStamp (s : State) (f : Flight) (status : Nat) : State :=
  if leAt f.bytes 0 1 = 0x20 ∧ status = 0 then
    { s with prot := { s.prot with sessions := s.prot.sessions.map (fun p =>
      if p.1 = leAt f.bytes 16 1 % 4 ∧ p.2.st = 1 then (p.1, { p.2 with since := s.clock }) else p) } }
  else s

/-- End the command in flight `k` with this outcome. A class M command's DONE record is written before its completion can
be posted; a class R command's follows the posting (R18, R209). Parked duplicates complete right after it (R201). -/
def State.complete (s : State) (k status : Nat) (qual : Nat := 0) (result : Nat := 0) : State :=
  match s.flight? k with
  | none => s
  | some f =>
    if f.phase = .ready then s
    else
      let f1 := { f with status, qual, result := resultFor status result, phase := .ready, mailbox := false, out := [], bufs := [],
                         step3 := false, hwait := none }
      let sr := ((s.releaseBufs k (decide (0x30 ≤ status))).dropWait f.hwait).detach k
      let s0 := { sr with
        rt := { sr.rt with reqs := sr.rt.reqs.filter (fun r => match r with | .xfer j _ => j != k | _ => true) } }
      let s1 := s0.setFlight k f1
      let s2 := if f.mutates && f.journalled then s1.logRewrite k 3 else s1
      let f2 := (s2.flight? k).getD f1
      let s3 := s2.pushCpl f.qid { f2.cpl k with silent := s.rmv.orderly.isSome && status == 0x33 }
      let s4 := if f.dup then s3.countDup else s3
      let s5 := (if opAssisted (leAt f.bytes 0 1) ∧ f.mailbox = false then s4.qPass 38 { flight := some k } else s4).authStamp f status
      ((s.parkedOn k).foldl (fun s j => s.dupComplete j f2.status f2.qual f2.resultOf f2.logIdx) s5).q1Tidy

/-- End a command without a completion, as an orderly reset does (R66): the entry is closed DONE. -/
def State.closeSilently (s : State) (k status : Nat) : State :=
  match s.flight? k with
  | none => s
  | some f =>
    let f1 := { f with status, qual := 0, result := 0, phase := .ready, mailbox := false }
    let s1 := (s.setFlight k f1)
    if f.phase ≠ .ready then s1.logRewrite k 3 else s1

/-- A deleting pair whose last command in flight has posted becomes absent (R183). -/
def State.finishDelete (s : State) (q : Nat) : State :=
  let v := s.qp q
  if v.st = .deleting ∧ s.flightsOf q = [] ∧ v.ready = [] then
    let s1 := s.setQp q {}
    v.delPaths.foldl (fun (s : State) p => s.set F.QP_RESULT_CODE 1 (pathNum p)) s1
  else s

/-- COMPLETION_POST (R189, R191): the oldest completion held for pair `q` goes to slot `CQ_TAIL` when there is room, the
pair is bound and the link can take it; a class R command's DONE record follows (R18). None is posted for a command that an orderly
reset closed (R66). The entry passes through Q_21. -/
def completionPost (a : QpAccess) (s : State) : State :=
  let q := a.q
  let v := s.qp q
  if a.mm ∧ v.st ≠ .absent then s.qpMismatch q
  else match v.ready.filter (fun c => !c.silent) with
  | [] => s
  | c :: _ =>
    let rest := v.ready.erase c
    let entry := s.cplEntry q v c
    let item : TxItem := { typ := 0x24, hdr := natLE 1 q ++ natLE 1 0 ++ natLE 2 v.cqTail, payload := entry,
                           addr := v.base + 16 * v.cqTail }
    if v.st = .absent ∨ v.bound = false ∨ (v.cqTail + 1) % v.cqDepth = v.cqHead ∨ s.qOpen 21 1 0 = false then s
    else if s.hostCanSend item = false then s.hostWake
    else
      let t := (v.cqTail + 1) % v.cqDepth
      let s1 := s.setQp q { v with ready := rest, cqTail := t, phase := if t = 0 then !v.phase else v.phase }
      let s2 := (s1.qPass 21 { data := entry, flight := some c.flight }).hostSend item
      let s3 := if s.pcieMode ∧ v.irqEn ∧ c.noIrq = false then s2.msixSignal v.vec else s2
      let s4 := match s3.flight? c.flight with
        | some f => if f.mutates ∨ f.journalled = false then s3 else s3.logRewrite c.flight 3
        | none => s3
      (s4.dropFlight c.flight).finishDelete q

/-! ### Taking a command -/

/-- Effective priority of pair `q` (R203, R204). -/
def State.effPrio (s : State) (q : Nat) : Nat :=
  let v := s.qp q
  let step := s.get F.HQ_AGE_STEP_US
  let boost := if step = 0 then 0 else min (s.get F.HQ_AGE_BOOST_MAX) ((s.clock - v.ageFrom) / step)
  min 7 (v.prio + boost)

/-- The command at the head of pair `q`. -/
def State.headCmd (s : State) (q : Nat) : List Byte := tget [] (s.qp q).slots (s.qp q).head

/-- Does pair `q` take part in an arbitration round (R182, R187, R203)? -/
def State.qpEligible (s : State) (q : Nat) : Bool :=
  let v := s.qp q
  v.st == .active && v.head != v.tail
    && !(bit (leAt (s.headCmd q) 1 1) 1 && !(s.flightsOf q).isEmpty)
    && (v.bound || decide (v.ready.length + 1 < v.cqDepth))

/-- The pair the round chooses: the highest effective priority, and among equals the one that follows the pair served last
(R203). -/
def State.roundWinner (s : State) : Option Nat :=
  let order := (List.range 64).map (fun i => (s.host.last + 1 + i) % 64)
  order.foldl (fun best q =>
    if s.qpEligible q then
      match best with
      | none => some q
      | some b => if s.effPrio b < s.effPrio q then some q else some b
    else best) none

/-- What identity says of a command of pair `q` (R198 to R202). -/
inductive Ident where
  | fresh
  | conflict
  | repeats (status qual result idx : Nat)
  | parkOn (k : Nat)
  | readAgain
  deriving DecidableEq, Repr

/-- Compare a command with the deduplication index. -/
def State.identify (s : State) (q tag gen fp : Nat) (m : Bool) : Ident :=
  match s.host.flights.find? (fun p => p.2.journalled && p.2.qid == q && p.2.tag == tag && p.2.gen == gen) with
  | some (k, f) =>
    if f.fprint ≠ fp then .conflict else if m then .parkOn k else .readAgain
  | none =>
    if q = 0 then .fresh
    else match s.log.horizon.find? (fun h => h.qid == q && h.tag == tag && h.gen == gen) with
      | some h => if h.fprint ≠ fp then .conflict else .repeats h.status h.qual h.result h.idx
      | none => .fresh

/-- Steps 1 to 3 of R194: the status and qualifier that refuse a command. -/
def State.refusal (s : State) (c : List Byte) : Option (Nat × Nat) :=
  if s.st = stRemoving then some (0x31, 0)
  else if s.st = stServiceOnly then some (0x40, 1)
  else if s.st = stThermalHold ∨ s.therm.stop then some (0x32, 0)
  else if !opcodeKnown (leAt c 0 1) then some (0x10, 0)
  else if !(cmdReservedOk c && cmdEncodingOk s.pcieMode c && s.eraseRowOk c && cmdDptrOk s.pcieMode c) then some (0x11, 0)
  else none

/-- A free index of the in-flight table. -/
def State.freeFlight (s : State) : Option Nat :=
  firstFree (fun i => s.host.flights.any (fun p => p.1 == i)) 1024 1024 0

/-- The record of the command `c` of pair `q`. -/
def State.newFlight (s : State) (q : Nat) (c : List Byte) : Flight :=
  { qid := q, tag := leAt c 2 2, gen := (s.qp q).gen, bytes := c, mutates := cmdMutates c, fprint := fingerprint c,
    arr := s.host.takes, journalled := false, addr := cmdAddr c, opsTotal := cmdOps c, since := s.clock }

/-- A command of a pair bound to member `m`, after steps 1 to 3 of R194 (R515): streams have no place there, and a member that has
not joined does nothing. -/
def State.boundCmd (s : State) (q k m : Nat) (c : List Byte) (f : Flight) : State :=
  let op := leAt c 0 1
  if op = 0x03 ∨ op = 0x04 ∨ op = 0x05 then (s.setFlight k f).complete k 0x12 9
  else if s.joined m = false then (s.setFlight k f).complete k 0x40
  else
    (s.setFlight k { f with phase := .started, run := true }).cascOpen m (.cmd k) 2 (s.qp q).prio 0 0
      (sliceB c 0 4 ++ natLE 1 q ++ natLE 1 f.gen ++ sliceB c 6 58)

/-- The commands that wait in the mailbox, Q_37, in arrival order. -/
def State.mailbox (s : State) : List Nat :=
  (s.fq 37).entries.filterMap (fun e => match e.work with
    | .mailbox k => if (s.flight? k).any (fun f => f.mailbox) then some k else none
    | _ => none)

/-- The supervisor takes the command in flight `k`, the first that waits, from Q_37. -/
def State.mailTake (s : State) (k : Nat) : State :=
  if s.qHas 37 (QWork.mailbox k) then
    iterate (fun (s : State) => s.qTake 37) (((s.fq 37).entries.takeWhile (fun e => e.work != QWork.mailbox k)).length + 1) s
  else s

/-- HOST writes a supervisor-assisted command into Q_37, where it stays pending until step 3 of Table 1-5 has passed (R24, R230). -/
def State.mailPend (s : State) (k : Nat) (c : List Byte) : State :=
  if opAssisted (leAt c 0 1) then s.qPend 37 { data := c, flight := some k, work := .mailbox k } else s

/-- Step 3 has ended: the entry is committed, or rewound when the command could not be recorded. -/
def State.mailSettle (s : State) (k : Nat) (c : List Byte) (ok : Bool) : State :=
  if opAssisted (leAt c 0 1) = false then s
  else if ok = false then s.qDrop 37 (.mailbox k)
  else match s.flight? k with
    | some g => (s.setFlight k { g with mailbox := true }).qDone 37 (.mailbox k)
    | none => s

/-- Steps 4 and 5 of R194 for the command `c` of pair `q`. -/
def State.admitCmd (s : State) (q k : Nat) (c : List Byte) (f : Flight) : State :=
    match s.identify q f.tag f.gen f.fprint f.mutates with
    | .conflict =>
      let s1 := (s.qpError q F.QP_ERR_TAG_CONFLICT F.HQ_EVT_TAG_CONFLICT).addF F.HQ_DUP_CONFLICTS 1
      (s1.setFlight k f).complete k 0x11 2
    | .repeats st ql r i => (s.setFlight k f).dupComplete k st ql r i
    | .parkOn o =>
      match s.flight? o with
      | some g =>
        if g.phase = .ready then (s.setFlight k f).dupComplete k g.status g.qual g.resultOf g.logIdx
        else s.setFlight k { f with phase := .parked o }
      | none => s
    | .readAgain => ((s.setFlight k { f with dup := true }).mailPend k c).mailSettle k c true
    | .fresh =>
      let (ok, s1) := (((s.setFlight k { f with journalled := true }).mailPend k c).qPass 22 { flight := some k }).logAccept k
      s1.mailSettle k c ok

/-- Examine the command `c` just taken from pair `q` (R194). -/
def State.examine (s : State) (q k : Nat) (c : List Byte) : State :=
  let f := s.newFlight q c
  match s.refusal c with
  | some (st, ql) => (s.setFlight k f).complete k st ql
  | none => if (s.qp q).dev ≠ 0 then s.boundCmd q k (s.qp q).dev c f else s.admitCmd q k c f

/-- Is HOST held at its intake: by the number of commands in flight, Q_22 without credit (R203), a Logbook without a free
slot (R222), or a command that waits for its output buffers (R256)? -/
def State.intakeHeld (s : State) : Bool :=
  decide (1024 ≤ s.host.flights.length) || !s.qCan 22 1 0 || (s.log.degraded && s.logSlot.isNone)
    || s.host.flights.any (fun p => p.2.step3)

/-- COMMAND_TAKE (R203): one command of the winning submission queue is taken and examined under R194. `mm` says that the
two copies of that queue's pointers differ on this access (R188). A command for the supervisor waits for a credit of Q_37 (R15). -/
def commandTake (mm : Bool) (s : State) : State :=
  if s.rmv.orderly.isSome ∨ s.intakeHeld then s
  else match s.roundWinner, s.freeFlight with
    | some q, some k =>
      if mm then s.qpMismatch q
      else
        let v := s.qp q
        let c := s.headCmd q
        if opAssisted (leAt c 0 1) ∧ s.qCan 37 1 0 = false then s
        else
        let s1 := s.setQp q { v with head := (v.head + 1) % v.sqDepth, slots := tdel v.slots v.head, ageFrom := s.clock }
        let s2 := { s1 with host := { s1.host with last := q, takes := s.host.takes + 1 } }
        s2.examine q k c
    | _, _ => s

/-! ### The start of a command's execution -/

/-- The command in flight `k`, when it has opcode `op`, is accepted and may start now: a supervisor-assisted command only
from the front of the mailbox while SVC runs (R24, R25), none that runs on another member, and none behind one that waits for its output
buffers (R256). -/
def State.canStart (s : State) (k op : Nat) : Option Flight :=
  match s.flight? k with
  | some f =>
    if leAt f.bytes 0 1 = op ∧ f.phase = .accepted ∧ f.run = false ∧ s.works
        ∧ (f.mailbox = false ∨ (s.mailbox.head? = some k ∧ s.get F.GLB_STAT_SVC_HALT = 0))
        ∧ s.host.flights.all (fun p => !(p.2.step3 && decide (p.2.arr < f.arr)))
    then some f else none
  | none => none

/-- The command leaves the mailbox and runs. -/
def State.startRun (s : State) (k : Nat) (f : Flight) : State :=
  (s.mailTake k).setFlight k { f with run := true, mailbox := false, step3 := false }

/-- Hand out data and complete: the completion follows the last data frame (R156, R168). Data for the cascade does not cross the host
lanes, so the ledger is not asked (Table 12-1). -/
def State.deliver (s : State) (k status qual result : Nat) (out : List Byte) : State :=
  if out = [] then s.complete k status qual result
  else match s.flight? k with
    | some f =>
      let n := moves out.length
      let f1 := { f with status, qual, result, out, sent := 0, xadm := 0, run := true }
      if s.casc.xids.any (fun p => p.1 == k) then s.setFlight k { f1 with xadm := n } else (s.setFlight k f1).askXfer k n
    | none => s

/-- Ask for single buffers under an owner until the command in flight `k` holds `n`, 16 to a request; true when it does. A request that
waits holds the command, and with `hold` all behind it, in step 3 (R256). -/
def State.hostBufs (s : State) (o k n : Nat) (hold : Bool) : Nat → Bool × State
  | 0 => (false, s)
  | fuel + 1 =>
    match s.flight? k with
    | none => (false, s)
    | some f =>
      let take (s : State) (g : List Nat) : State :=
        (g.foldl (fun (s : State) r => s.setHbuf (refBuf r) { s.hbuf (refBuf r) with cmd := some k }) s).setFlight k
          { f with bufs := f.bufs ++ g, hwait := none }
      if n ≤ f.bufs.length then (true, s)
      else match f.hwait with
        | some i =>
          (match s.hmp.granted.find? (fun g => g.1 == i) with
          | some (_, g) => (take { s with hmp := { s.hmp with granted := tdel s.hmp.granted i } } g).hostBufs o k n hold fuel
          | none => (false, s))
        | none =>
          match s.hmpRequest o (min 16 (n - f.bufs.length)) false true with
          | (.granted g, s1) => (take s1 g).hostBufs o k n hold fuel
          | (.waits i, s1) => (false, s1.setFlight k { f with step3 := hold, hwait := some i })
          | (.none, s1) => (false, s1.setFlight k { f with step3 := hold })

/-- The same with as many requests as `n` buffers take: at step 3 for the output buffers of HOST_RD. -/
def State.getBufs (s : State) (o k n : Nat) : Bool × State := s.hostBufs o k n (o == 8) (n / 16 + 2)

/-- NOP (R193). -/
def cmdNop (k : Nat) (s : State) : State :=
  match s.canStart k 0x7F with
  | some f => (s.startRun k f).complete k 0
  | none => s

/-- LOGBOOK_MARK (R215): the command's own entry, whose `ADDR` is `MARK`, is closed DONE; its index is the result. -/
def logbookMark (k : Nat) (s : State) : State :=
  match s.canStart k 0x32 with
  | some f => (s.startRun k f).complete k 0
  | none => s

/-- MAILBOX_TIMEOUT (R25): the command in flight `k` has waited 100 ms in the mailbox. -/
def mailboxTimeout (k : Nat) (s : State) : State :=
  match s.flight? k with
  | some f => if f.mailbox ∧ 100000 ≤ s.clock - f.since then s.complete k 0x40 3 else s
  | none => s

/-! ### Ports and doorbells -/

/-- SUBMISSION_PORT_WRITE (R185; a pair being deleted discards what it is given, R183): `bytes` written at offset `off` of the port of pair `q`; `mm` as for COMMAND_TAKE. -/
def submissionPortWrite (q off : Nat) (data : List Byte) (mm : Bool) (s : State) : State :=
  let v := s.qp q
  if v.st = .absent then s.set F.HQ_EVT_DB_ERR 1
  else if mm then s.qpMismatch q
  else if off ≠ 0 ∨ data.length ≠ 64 ∨ (v.fill + 1) % v.sqDepth = v.head then
    s.qpError q F.QP_ERR_PORT_ERR F.HQ_EVT_PORT_ERR
  else if v.st = .deleting then s
  else s.setQp q { v with slots := tput v.slots v.fill data, fill := (v.fill + 1) % v.sqDepth }

/-- Does `x` lie ring-wise after `a` and no further than `b`, in a ring of `d`? -/
def ringAfter (d a b x : Nat) : Bool := decide (0 < (x + d - a) % d ∧ (x + d - a) % d ≤ (b + d - a) % d)

/-- SQ_DOORBELL (R186): `v` written to the submission doorbell of pair `q`. -/
def sqDoorbell (q : Nat) (w : Word) (mm : Bool) (s : State) : State :=
  let v := s.qp q
  let t := w.toNat
  if v.st = .absent then s.set F.HQ_EVT_DB_ERR 1
  else if mm then s.qpMismatch q
  else if t = v.tail then s
  else if t < v.sqDepth ∧ ringAfter v.sqDepth v.tail v.fill t then
    s.setQp q { v with tail := t, ageFrom := if v.head = v.tail then s.clock else v.ageFrom }
  else s.qpError q F.QP_ERR_DB_ERR F.HQ_EVT_DB_ERR

/-- CQ_HEAD_DOORBELL (R190). -/
def cqHeadDoorbell (q : Nat) (w : Word) (mm : Bool) (s : State) : State :=
  let v := s.qp q
  let h := w.toNat
  if v.st = .absent then s.set F.HQ_EVT_DB_ERR 1
  else if mm then s.qpMismatch q
  else if h < v.cqDepth ∧ ringAfter v.cqDepth v.cqHead v.cqTail h then s.setQp q { v with cqHead := h }
  else s.qpError q F.QP_ERR_DB_ERR F.HQ_EVT_DB_ERR

/-! ### Actions of QP_CTL (R181 to R183, R205) -/

/-- The CQ base stored for pair `q`. -/
def State.cqBase (s : State) (q : Nat) : Nat := s.get F.QP_CQ_BASE_LO_ADDR q * 64 + s.get F.QP_CQ_BASE_HI_ADDR q * 2 ^ 32

/-- The pair that QP_SEL of path `p` names. -/
def State.selQp (s : State) (p : Path) : Nat := s.get F.QP_SEL_QID (pathNum p)

/-- The member that CASC_QBIND binds pair `q` to, 0 for none (R515). -/
def State.bindOf (s : State) (q : Nat) : Nat :=
  if s.cascRole = 1 ∧ q ≠ 0 then bits (s.get (F.CASC_QBIND_BIND (q / 16))) (2 * (q % 16)) 2 else 0

/-- A pair made from its stored configuration (R182). -/
def State.newQp (s : State) (q : Nat) (bound : Bool) : Qp :=
  { st := .active, gen := s.get F.QP_SQ_CFG_GEN q, prio := s.get F.QP_SQ_CFG_PRIO q, sqLog2 := s.get F.QP_SQ_CFG_SQ_LOG2 q,
    cqLog2 := s.get F.QP_CQ_CFG_CQ_LOG2 q, vec := s.get F.QP_CQ_CFG_VEC q, irqEn := s.get F.QP_CQ_CFG_IRQ_EN q == 1,
    base := s.cqBase q, bound, ageFrom := s.clock, dev := s.bindOf q }

/-- Report the outcome of a QP_CTL action to the path; it waits for no DELETE that it asked for before. -/
def State.qpResult (s : State) (p : Path) (code : Nat) : State :=
  let s1 := s.set F.QP_RESULT_CODE code (pathNum p)
  { s1 with host := { s1.host with qps := s1.host.qps.map (fun x => (x.1, { x.2 with delPaths := x.2.delPaths.filter (· != p) })) } }

/-- CREATE. -/
def State.qpCreate (s : State) (p : Path) : State :=
  let q := s.selQp p
  if (s.qp q).st ≠ .absent then s.qpResult p 2
  else
    let v := s.newQp q true
    if v.sqLog2 < 1 ∨ 8 < v.sqLog2 ∨ v.cqLog2 < 1 ∨ 12 < v.cqLog2 ∨ v.vec = 0 ∨ (s.pcieMode ∧ v.base = 0)
        ∨ (v.dev ≠ 0 ∧ s.joined v.dev = false) then
      s.qpResult p 3
    else if 4096 < s.slotsUsed + v.sqDepth then s.qpResult p 4
    else (s.setQp q v).qpResult p 1

/-- DELETE. One of a pair that is being deleted reports DELETING to its path too (log entry 129). -/
def State.qpDelete (s : State) (p : Path) : State :=
  let q := s.selQp p
  let v := s.qp q
  if q = 0 then s.qpResult p 2
  else if v.st = .absent then s.qpResult p 5
  else
    let s1 := s.qpResult p 6
    let u := s1.qp q
    (s1.setQp q { u with st := .deleting, slots := [], fill := v.head, tail := v.head, delPaths := u.delPaths ++ [p] }).finishDelete q

/-- SET_PRIO. -/
def State.qpSetPrio (s : State) (p : Path) : State :=
  let q := s.selQp p
  let v := s.qp q
  if v.st = .absent then s.qpResult p 5
  else (s.setQp q { v with prio := s.get F.QP_SQ_CFG_PRIO q }).qpResult p 1

/-- BIND. -/
def State.qpBind (s : State) (p : Path) : State :=
  let q := s.selQp p
  let v := s.qp q
  if v.st = .absent then s.qpResult p 5
  else if v.bound then s.qpResult p 2
  else if s.cqBase q = 0 then s.qpResult p 3
  else (s.setQp q { v with bound := true, base := s.cqBase q }).qpResult p 1

/-- A write of QP_CTL (ch. 08, Register pages). -/
def State.qpCtl (s : State) (p : Path) (v : Word) : State :=
  if bits v.toNat 24 8 ≠ 0x71 then s.fieldError
  else match bits v.toNat 0 3 with
    | 1 => s.qpCreate p
    | 2 => s.qpDelete p
    | 3 => s.qpSetPrio p
    | 4 => s.qpBind p
    | _ => s.fieldError

/-- Queue pair 0 is created in the cycle in which the state leaves TRAILHEAD (R180). -/
def State.createPair0 (s : State) : State :=
  s.setQp 0 { st := .active, prio := 7, sqLog2 := 5, cqLog2 := 5, vec := 1, irqEn := true, bound := !s.pcieMode,
              ageFrom := s.clock }

end Sys2Proof.Machine
end

