-- ==== Sys2Proof/Machine/Nvm.lean ====
section
/-!
DEFINITION. The keep die's stores at work (ch. 19): eNOR programs and erases with their checks, sector protection and the
password, reads while busy, the fault journal, the OTP row, writes of PS, and keep-bus transfers (R13).
-/

namespace Sys2Proof.Machine

/-! ### Sectors and the eNOR state record -/

/-- The sector index of a sector code (R440). -/
def sectorIndex (c : Nat) : Nat := if c ≤ 7 then c else 7 + (c - 0x40)

/-- The first address of a sector and its size. -/
def sectorRange (c : Nat) : Nat × Nat := if c ≤ 7 then (c * 0x4000, 0x4000) else ((c - 0x40) * 0x20000, 0x20000)

/-- Rated erases of a sector (Table 19-1). -/
def ratedErases (c : Nat) : Nat := if c ≤ 7 then 100000 else 10000

/-- Record 4 of PS. -/
def norRecord : PairRec := ⟨0x83000, 512⟩

/-- The check of record 4 (R460). -/
def norRecordOk (l : List Byte) : Bool :=
  copyOk l && (sectorCode (leAt l 8 1) || leAt l 8 1 == 0xFF) && leAt l 9 7 == 0 && (l.drop 300).all (· == 0)

/-- The eNOR state record in force: no pending sector and no erases counted where neither copy passes. -/
def State.norRec (s : State) : List Byte :=
  (s.copyInUse norRecord norRecordOk).getD (natLE 8 0 ++ natLE 1 0xFF ++ natLE 503 0)

/-- The pending sector, 0xFF for none. -/
def State.norPend (s : State) : Nat := leAt s.norRec 8 1

/-- Does an interrupted erase await its fresh erase, or is that running (R28, R74)? The pending sector of an erase that runs in the ordinary
way is none. -/
def State.eraseIncomplete (s : State) : Bool :=
  s.norPend != 0xFF && !(match s.keep.norOp with
    | some op => op.erase && op.origin != .boot && !s.keep.norStopped
    | none => false)

/-- The erase count of a sector code. -/
def State.norWear (s : State) (c : Nat) : Nat := leAt s.norRec (16 + 4 * sectorIndex c) 4

/-- Write record 4 with this pending sector and, for a sector, this count. -/
def State.norRecWrite (s : State) (pend : Nat) (cnt : Option (Nat × Nat)) : Bool × State :=
  let body := natLE 1 pend ++ natLE 7 0 ++ (List.range 71).flatMap (fun i =>
    match cnt with
    | some (c, n) => if sectorIndex c = i then natLE 4 n else sliceB s.norRec (16 + 4 * i) 4
    | none => sliceB s.norRec (16 + 4 * i) 4)
  s.writePair norRecord norRecordOk body

/-! ### Protection (R90, R360, R450, R451) -/

/-- The sectors a range of `n` bytes from `a` affects: one program lies in at most two. -/
def sectorsOf (a n : Nat) : List Nat :=
  let x := sectorOf a
  let y := sectorOf (a + n - 1)
  if n = 0 ∨ x = y then [x] else if y = x + 1 then [x, y] else
    (List.range (y + 1)).filter (fun c => decide (x ≤ c) && sectorCode c)

/-- Is the sector part of an image slot in use (R90, R360)? -/
def State.imageInUse (s : State) (c : Nat) : Bool :=
  let svi := s.get F.FW_SVI_VALID == 1 &&
    (if s.get F.FW_SVI_SLOT = 0 then decide (0x41 ≤ c ∧ c ≤ 0x48) else decide (0x49 ≤ c ∧ c ≤ 0x50))
  let spbSlot := if s.st = stLimited then s.get F.BOOT_CFG_PREF_SPB else s.get F.BOOT_RES_SPB_SLOT
  let inSlot (k : Nat) : Bool := if k = 0 then c == 0x51 || c == 0x52 else c == 0x53 || c == 0x54
  svi || ((s.get F.FW_SPB_LOADED == 1 || s.st == stLimited) && inSlot spbSlot)
    || (bit s.keep.xchSlots 0 && inSlot 0) || (bit s.keep.xchSlots 1 && inSlot 1)

/-- Is the sector of password class (R450, R452)? -/
def State.passwordClass (s : State) (c : Nat) : Bool :=
  c == 6 || (if c ≤ 7 then bit (s.otpLE 9 8 1) c else bit (s.otpLE 9 9 8) (c - 0x41))

/-- Is the device retired? -/
def State.retired (s : State) : Bool := bit (s.otpLE 9 0 1) 0

/-- The active password entry (R451): the valid one with the highest number. -/
def State.activeEntry (s : State) : Option Nat :=
  let v := s.otpLE 9 1 1
  if bit v 3 then some 3 else if bit v 2 then some 2 else if bit v 1 then some 1 else if bit v 0 then some 0 else none

/-- The 32 bytes of password entry `k`. -/
def State.entryBytes (s : State) (k : Nat) : List Byte := s.otpBytes (7 + k / 2) (32 * (k % 2)) 32

/-- The hash R450 compares. -/
def State.passHash (s : State) (pass : List Byte) : List Byte :=
  Config.sha256 ([0x55, 0x5A, 0x4E, 0x4F, 0x52, 0x50, 0x57, 0x31] ++ s.uid ++ pass)

/-- The password check of R450: the qualifier that refuses, none when it passes. A mismatch is counted. -/
def State.passCheck (s : State) (pass : List Byte) : Option Nat × State :=
  if s.retired then (some 0x45, s)
  else match s.activeEntry with
    | none => (some 0x42, s)
    | some k =>
      if s.get F.NOR_PW_STAT_BARRED = 1 then (some 0x43, s)
      else if s.passHash pass = s.entryBytes k then (none, s.set F.NOR_PW_STAT_FAILS 0)
      else
        let n := s.get F.NOR_PW_STAT_FAILS + 1
        let s1 := (s.set F.NOR_PW_STAT_FAILS n).set F.NOR_PW_STAT_BARRED (b2n (decide (8 ≤ n)))
        (some 0x42, s1.postBit F.NOR_EVT_SRC 336 3 n)

/-! ### Checks of a program or an erase (R442, R443) -/

/-- Checks 2 to 5 of R442 over a range of sectors: status and qualifier of the refusal. -/
def State.norProtect (s : State) (sectors : List Nat) (inRange : Bool) (pass : List Byte) : Option (Nat × Nat) × State :=
  if !inRange then (some (0x12, 0), s)
  else if sectors.any s.imageInUse then (some (0x14, 0x05), s)
  else if sectors.any (fun c => s.keep.norWp.contains c) then (some (0x14, 0x44), s)
  else if sectors.any s.passwordClass then
    match s.passCheck pass with
    | (some q, s1) => (some (0x14, q), s1)
    | (none, s1) => (none, s1)
  else (none, s)

/-- Is a word's program allowed by the blank check (R443)? -/
def blankOk (clear : Bool) (present data : Nat) : Bool :=
  if clear then data &&& present == data else present == 2 ^ 64 - 1 || present == data

/-- The words of a program, as (address, data). -/
def programWords (a : Nat) (l : List Byte) : List (Nat × Nat) :=
  (List.range (l.length / 8)).map (fun i => (a + 8 * i, leAt l (8 * i) 8))

/-! ### The engine of the array (R441, R444, R445) -/

/-- The path's result of a `NOR_CTL` action, with NOR_DONE. -/
def State.norResult (s : State) (p : Path) (status qual : Nat) : State :=
  let w := pathNum p
  (((s.set F.NOR_RES_BUSY 0 w).set F.NOR_RES_STATUS status w).set F.NOR_RES_QUAL qual w).postBit F.NOR_EVT_SRC 336 0
    (status * 256 + qual)

/-- Can the supervisor give KMEM a request and have its response (Q_39, Q_40 of Table 10-1)? -/
def State.kmemOpen (s : State) : Bool := s.qOpen 39 1 0 && s.qOpen 40 1 0

/-- The request of flight `k` goes to KMEM (R441). -/
def State.kmemAsk (s : State) (k : Nat) : State := s.qPass 39 { flight := some k }

/-- KMEM's response for flight `k`. -/
def State.kmemTell (s : State) (k : Nat) : State := s.qPass 40 { flight := some k }

/-- Report the outcome of eNOR work to its origin. -/
def State.norReport (s : State) (o : Origin) (status qual result : Nat) : State :=
  match o with
  | .path p => s.norResult p status qual
  | .cmd k => (s.kmemTell k).complete k status qual result
  | .boot => s

/-- A word counts as a media operation that is complete (R209). -/
def State.norOpDone (s : State) (o : Origin) : State := match o with | .cmd k => s.logOpDone k | _ => s

/-- Skip the words that already equal their data: each counts as complete (R443). -/
def State.norSkip (s : State) (o : Origin) : List (Nat × Nat) → List (Nat × Nat) × State
  | [] => ([], s)
  | (a, d) :: l => if s.norLE a 8 = d then (s.norOpDone o).norSkip o l else ((a, d) :: l, s)

/-- Is the array idle or suspended? -/
def State.norReadable (s : State) : Bool := match s.keep.norOp with | none => true | some op => op.suspended

/-- May a NOR_READ be served now: in status mode it waits until the erase ends (R446)? -/
def State.norServes (s : State) : Bool :=
  s.norReadable && (s.keep.norOp.isNone || s.get F.NOR_CFG_BUSY_MODE == 1)

/-- The next access to the array meets a link fault of the keep bus: its fault record is written (R13). -/
def State.norLink (s : State) (addr : Nat) : State :=
  ({ s with keep := { s.keep with norFault := false } }).faultDue 0x0A 2 (natLE 4 addr)

/-- An array read is served: its data leave through Q_46, or a link fault of the keep bus ends it (R13). -/
def State.norReadEnd (s : State) (r : NorRead) : State :=
  if s.keep.norFault then (s.norLink r.addr).complete r.flight 0x50 0x48
  else (s.qPassN 46 { flight := some r.flight } (moves r.len)).deliver r.flight 0 0 0 (s.norBytes r.addr r.len)

/-- Serve the array reads that wait, in arrival order (R446). -/
def State.norServe (s : State) : State :=
  let l := s.keep.norReads
  l.foldl State.norReadEnd { s with keep := { s.keep with norReads := [] } }

/-- STARTED is recorded before the first operation that a command causes (R17). -/
def State.norStarted (s : State) (o : Origin) : State := match o with | .cmd k => s.logStarted k | _ => s

/-- The sectors that work affects. -/
def NorOp.sectors (op : NorOp) : List Nat :=
  if op.erase then [op.sector] else sectorsOf (op.words.head?.elim 0 (·.1)) (8 * op.words.length)

/-- Does the blank check of R443 pass for the whole of a program? -/
def State.norBlank (s : State) (op : NorOp) : Bool := op.words.all (fun p => blankOk op.clear (s.norLE p.1 8) p.2)

/-- Checks 3 to 6 of R442, made when the work is taken, with the state of the array and its protection that it then meets; the device's own
work ignores them (R454). -/
def State.norCheck (s : State) (op : NorOp) : Option (Nat × Nat) × State :=
  if op.origin = .boot then (none, s)
  else match s.norProtect op.sectors true op.pass with
    | (some r, s1) => (some r, s1)
    | (none, s1) => (if !s1.keep.norFault && !op.erase && !s1.norBlank op then some (0x13, if op.clear then 0x41 else 0x40) else none, s1)

/-- Start one piece of eNOR work that passed its checks on the idle array; true when it then occupies the array. -/
def State.norPerform (s : State) (op : NorOp) : Bool × State :=
  if s.keep.norFault then
    let a := if op.erase then (sectorRange op.sector).1 else (op.words.head?.elim 0 (·.1))
    (false, ((s.norStarted op.origin).norLink a).norReport op.origin 0x50 0x48 0)
  else if op.erase then
    let c := op.sector
    let n := s.norWear c + 1
    match (s.norStarted op.origin).norRecWrite c (some (c, n)) with
    | (false, s1) => (false, s1.norReport op.origin 0x50 0x47 0)
    | (true, s1) =>
      let s2 := if n = ratedErases c then s1.postBit F.NOR_EVT_SRC 336 2 (c + n * 2 ^ 32) else s1
      (true, { s2 with keep := { s2.keep with norOp := some { op with since := s2.clock } } })
  else
    let s1 := s.norStarted op.origin
    match s1.norSkip op.origin op.words with
    | ([], s2) => (false, s2.norReport op.origin 0 0 0)
    | (w, s2) => (true, { s2 with keep := { s2.keep with norOp := some { op with words := w } } })

/-- Start one piece of eNOR work on the idle array, unless a check of R442 refuses it; true when it then occupies the array. -/
def State.norBegin (s : State) (op : NorOp) : Bool × State :=
  match s.norCheck op with
  | (some (st, q), s1) => (false, s1.norReport op.origin st q 0)
  | (none, s1) => s1.norPerform op

/-- Take waiting work in arrival order while the array is free. Work behind a journal record that waits is not taken (R456). -/
def State.norNext (s : State) : Nat → State
  | 0 => s
  | f + 1 =>
    match s.keep.norOp, s.keep.norQueue with
    | none, op :: rest =>
      if 0 < op.after then s else (({ s with keep := { s.keep with norQueue := rest } }).norBegin op).2.norNext f
    | _, _ => s

/-- New work for the array (R441). -/
def State.norSubmit (s : State) (op : NorOp) : State :=
  let s1 := { s with keep := { s.keep with norQueue := s.keep.norQueue ++ [{ op with after := s.keep.jnlHeld.length }] } }
  s1.norNext s1.keep.norQueue.length

/-- The array's work has ended: waiting reads, then waiting work. -/
def State.norFree (s : State) : State :=
  let s1 := ({ s with keep := { s.keep with norOp := none } }).norServe
  s1.norNext s1.keep.norQueue.length

/-- ENOR_WORD_PROGRAM_END (R444): the word in progress ends, its verify passing or not. -/
def enorWordProgramEnd (ok : Bool) (s : State) : State :=
  match s.keep.norOp with
  | some op =>
    match op.erase, op.words with
    | false, (a, d) :: rest =>
      if ok then
        let s1 := (s.norPut a (natLE 8 (s.norLE a 8 &&& d))).norOpDone op.origin
        match s1.norSkip op.origin rest with
        | ([], s2) => (({ s2 with keep := { s2.keep with norOp := none } }).norReport op.origin 0 0 0).norFree
        | (w, s2) => ({ s2 with keep := { s2.keep with norOp := some { op with words := w } } }).norServe
      else
        let (v, s1) := s.freeBits 64
        let s2 := (s1.norPut a (natLE 8 v)).postBit F.NOR_EVT_SRC 336 1 a
        let s3 := (s2.faultDue 0x08 1 (natLE 4 a))
        (({ s3 with keep := { s3.keep with norOp := none } }).norReport op.origin 0x50 0x46 0).norFree
    | _, _ => s
  | none => s

/-- Erase a sector's contents: every byte 0xFF, or open when the verify failed. -/
def State.norClear (s : State) (c : Nat) (ok : Bool) : State :=
  let r := sectorRange c
  let doubt := s.keep.norDoubt.filter (fun p => p.1 != c)
  let nor := s.keep.nor.filter (fun p => !(decide (r.1 ≤ p.1) && decide (p.1 < r.1 + r.2)))
  if ok then { s with keep := { s.keep with nor, norDoubt := doubt } }
  else
    let (n, s1) := s.takeFree
    { s1 with keep := { s1.keep with nor, norDoubt := (c, n) :: doubt } }

/-- ENOR_ERASE_END (R445, R74): the running erase ends, its verify passing or not; the pending sector is cleared. -/
def enorEraseEnd (ok : Bool) (s : State) : State :=
  match s.keep.norOp with
  | some op =>
    if op.erase ∧ op.suspended = false ∧ s.keep.norStopped = false then
      let c := op.sector
      let n := s.norWear c
      let s1 := s.norClear c ok
      let s1 := if c = 7 ∧ ok then { (s1.set F.JNL_STAT_NEXT 0) with keep := { s1.keep with jnlFullPosted := false } } else s1
      let (wrote, s2) := s1.norRecWrite 0xFF none
      let s4 := if ok then s2
        else (s2.postBit F.NOR_EVT_SRC 336 1 (c + 2 ^ 31)).faultDue 0x08 2 (natLE 4 c)
      let s5 := s4.norOpDone op.origin
      let s6 := { s5 with keep := { s5.keep with norOp := none } }
      (if !ok then s6.norReport op.origin 0x50 0x46 0
        else if !wrote then s6.norReport op.origin 0x50 0x47 0
        else s6.norReport op.origin 0 0 n).norFree
    else s
  | none => s

/-- ERASE_SUSPENDED (R446): an erase for which a read waits has run for `MIN_RUN` and is suspended. Under `BUSY_MODE` 1 the reads that wait
are served. Where none waits, or `BUSY_MODE` is 0, the read is a fetch of SVC, which suspends the erase whatever `BUSY_MODE` holds (R447). -/
def eraseSuspended (s : State) : State :=
  match s.keep.norOp with
  | some op =>
    if op.erase ∧ op.suspended = false ∧ s.keep.norStopped = false
        ∧ s.get F.NOR_CFG_MIN_RUN * 100 ≤ s.clock - op.since then
      let s1 := { s with keep := { s.keep with norOp := some { op with suspended := true, since := s.clock } } }
      if s.get F.NOR_CFG_BUSY_MODE = 1 then s1.norServe else s1
    else s
  | none => s

/-- ERASE_RESUME (R446): no read waits, or 200 µs have passed since the suspension. -/
def eraseResume (s : State) : State :=
  match s.keep.norOp with
  | some op =>
    if op.erase ∧ op.suspended ∧ s.keep.norStopped = false
        ∧ (s.keep.norReads = [] ∨ s.get F.NOR_CFG_BUSY_MODE = 0 ∨ 200 ≤ s.clock - op.since) then
      { s with keep := { s.keep with norOp := some { op with suspended := false, since := s.clock } } }
    else s
  | none => s

/-- A register action cut short reports the status of the interruption; a command is closed by whoever interrupts. -/
def State.norCut (s : State) (status : Nat) (o : Origin) : State :=
  match o with
  | .path p => s.norResult p status 0
  | _ => s

/-- Interrupt eNOR work (R449, Table 19-3): the word in progress completes, words and work not started are dropped, an
erase is left with its pending sector, and journal records that wait go to FAULT_LATCH (R456). -/
def State.norInterrupt (s : State) (status : Nat) : State :=
  let s0 := s.keep.norQueue.foldl (fun s op => s.norCut status op.origin)
    { s with keep := { s.keep with norQueue := [], norReads := [] } }
  match s.keep.norOp with
  | none => s0
  | some op =>
    let s1 :=
      if op.erase then
        s0.keep.jnlHeld.foldl State.jnlDrop { s0 with keep := { s0.keep with
          norOp := some { op with suspended := true }, norStopped := true, jnlHeld := [] } }
      else match op.words with
        | (a, d) :: rest =>
          let s1 := (s0.norPut a (natLE 8 (s0.norLE a 8 &&& d))).norOpDone op.origin
          let s2 := { s1 with keep := { s1.keep with norOp := none } }
          if rest = [] then s2.norReport op.origin 0 0 0 else s2
        | [] => { s0 with keep := { s0.keep with norOp := none } }
    if s1.keep.norOp = none ∧ op.words.length = 1 then s1 else s1.norCut status op.origin

/-! ### Commands -/

/-- The data a command has received, as bytes. -/
def Flight.dataBytes (f : Flight) (n : Nat) : List Byte := readBytes 0 f.data 0 n

/-- The index that LOGBOOK_READ gives: that of the entry with the highest `SEQ`, its own not counted, as in the worked case of ch. 09 (log
entry 131). -/
def State.logResult (s : State) (f : Flight) : Nat :=
  if f.journalled ∧ s.log.newestSeq = f.seq ∧ s.log.newest = f.logIdx then s.log.prevNewest else s.log.newest

/-- LOGBOOK_READ (R214). -/
def logbookRead (k : Nat) (s : State) : State :=
  match s.canStart k 0x31 with
  | some f =>
    let first := leAt f.bytes 20 2
    let n := leAt f.bytes 24 2
    match s.getBufs 0x01 k (moves (32 * n)) with
    | (false, s0) => s0
    | (true, s0) =>
    let s1 := s0.startRun k ((s0.flight? k).getD f)
    if s.log.degraded ∧ 0x3FF < first then s1.complete k 0x12
    else
      let out := (List.range n).flatMap (fun i =>
        if s.log.degraded then sliceB (tget [] s.log.shadow ((first + i) % 1024)) 0 32
        else s.ringEntry ((first + i) % 16384))
      (s1.qPassN 46 { flight := some k } (moves (32 * n))).deliver k 0 0 (s.logResult f) out
  | none => s

/-- NOR_READ (R446). -/
def norRead (k : Nat) (s : State) : State :=
  match s.canStart k 0x40 with
  | some f =>
    let a := leAt f.bytes 20 3
    let n := leAt f.bytes 24 4
    if s.kmemOpen = false then s else
    match s.getBufs 0x0A k (moves n) with
    | (false, s0) => s0
    | (true, s0) =>
    let s1 := (s0.startRun k ((s0.flight? k).getD f)).kmemAsk k
    if 0x800000 < a + n then s1.complete k 0x12
    else if s1.norServes then s1.norReadEnd ⟨k, a, n⟩
    else { s1 with keep := { s1.keep with norReads := s1.keep.norReads ++ [⟨k, a, n⟩] } }
  | none => s

/-- NOR_PROGRAM (R442, R443): its data has arrived. -/
def norProgram (k : Nat) (s : State) : State :=
  match s.canStart k 0x41 with
  | some f =>
    let a := leAt f.bytes 20 3
    let n := leAt f.bytes 24 4
    let clear := bit (leAt f.bytes 16 1) 0
    if f.got ≠ n ∨ s.kmemOpen = false then s
    else
      let s1 := (s.startRun k f).kmemAsk k
      if 0x800000 < a + n then (s1.kmemTell k).complete k 0x12
      else s1.norSubmit { origin := .cmd k, erase := false, words := programWords a (f.dataBytes n), clear, pass := sliceB f.bytes 32 16 }
  | none => s

/-- NOR_ERASE (R442, R445). -/
def norErase (k : Nat) (s : State) : State :=
  match s.canStart k 0x42 with
  | some f =>
    let c := leAt f.bytes 16 1
    if s.kmemOpen = false then s
    else
    ((s.startRun k f).kmemAsk k).norSubmit { origin := .cmd k, erase := true, sector := c, pass := sliceB f.bytes 32 16 }
  | none => s

/-! ### NOR_CTL (R442, R450 to R453) -/

/-- The path's `NOR_PASS` registers as 16 bytes. -/
def State.norPass (s : State) (w : Nat) : List Byte := (List.range 4).flatMap (fun k => natLE 4 (s.get (F.NOR_PASS_DATA k) w))

/-- The path's `NOR_PW_NEW` registers as 16 bytes. -/
def State.norPwNew (s : State) (w : Nat) : List Byte := (List.range 4).flatMap (fun k => natLE 4 (s.get (F.NOR_PW_NEW_DATA k) w))

/-- Set the path's `NOR_PASS` registers to 0 (R450). -/
def State.clearPass (s : State) (w : Nat) : State := (List.range 4).foldl (fun s k => s.set (F.NOR_PASS_DATA k) 0 w) s

/-- Is OTP slot `n` locked? -/
def State.otpLocked (s : State) (n : Nat) : Bool := bit s.keep.otpLocks n

/-- Program bytes of an OTP slot on behalf of the device, ending as the row's next outcome says: 1 performed, 4 failed, 5
link fault. A locked slot refuses (R458): 2. -/
def State.otpProgramBytes (s : State) (slot off : Nat) (l : List Byte) : Nat × State :=
  if s.otpLocked slot then (2, s)
  else
    let (o, s0) := s.otpAnswer
    match o with
    | .ok _ => (1, s0.otpOr slot off l)
    | o =>
      let (v, s1) := s0.freeBits (8 * l.length)
      let s2 := s1.otpOr slot off (List.zipWith (· &&& ·) l (natLE l.length v))
      if o = .linkFault then (5, s2.faultDue 0x0A 3 (natLE 4 (64 * slot + off))) else (4, s2)

/-- Status and qualifier of a password action whose OTP program ended so (R452). -/
def otpActionOutcome (code : Nat) : Nat × Nat := if code = 1 then (0, 0) else if code = 5 then (0x50, 0x48) else (0x50, 0)

/-- The lowest entry above the active one that reads all 0 bytes (R452). -/
def State.freeEntry (s : State) : Option Nat :=
  [1, 2, 3].find? (fun k => decide (s.activeEntry.getD 0 < k) && (s.entryBytes k).all (· == 0))

/-- PW_CHANGE (R452): status and qualifier. -/
def State.pwChange (s : State) (w : Nat) : (Nat × Nat) × State :=
  match s.passCheck (s.norPass w) with
  | (some q, s1) => ((0x14, q), s1)
  | (none, s1) =>
    match s1.freeEntry with
    | none => ((0x14, 0x49), s1)
    | some k =>
      let (c, s2) := s1.otpProgramBytes (7 + k / 2) (32 * (k % 2)) (s1.passHash (s1.norPwNew w))
      if c ≠ 1 then (otpActionOutcome c, s2)
      else
        let (c', s3) := s2.otpProgramBytes 9 1 (natLE 1 (1 <<< k))
        (otpActionOutcome c', s3)

/-- PROTECT (R452). -/
def State.norProtectAction (s : State) (w c : Nat) : (Nat × Nat) × State :=
  match s.passCheck (s.norPass w) with
  | (some q, s1) => ((0x14, q), s1)
  | (none, s1) =>
    let (r, s2) := if c ≤ 7 then s1.otpProgramBytes 9 8 (natLE 1 (1 <<< c))
      else s1.otpProgramBytes 9 9 (natLE 8 (1 <<< (c - 0x41)))
    (otpActionOutcome r, s2)

/-- RETIRE (R452). -/
def State.norRetire (s : State) (w : Nat) : (Nat × Nat) × State :=
  match s.passCheck (s.norPass w) with
  | (some q, s1) => ((0x14, q), s1)
  | (none, s1) =>
    let (r, s2) := s1.otpProgramBytes 9 0 (natLE 1 1)
    (otpActionOutcome r, s2)

/-- The status that keeps eNOR and OTP work from starting, if any (R449, R458, R500, R504). -/
def State.nvBarred (s : State) : Option Nat :=
  if s.st = stRemoving then some 0x31 else if s.st = stThermalHold ∨ s.therm.stop then some 0x32
  else if s.rmv.orderly.isSome then some 0x33 else none

/-- A `NOR_CTL` action that passed the checks of its write (R441, R442, R452, R453). -/
def State.norAction (s : State) (p : Path) (sector act : Nat) : State :=
  let w := pathNum p
  let pass := s.norPass w
  let a := s.get F.NOR_ADDR_ADDR w * 8
  let d := s.get F.NOR_WDATA_LO_DATA w + s.get F.NOR_WDATA_HI_DATA w * 2 ^ 32
  let busy (s : State) : State := s.set F.NOR_RES_BUSY 1 w
  match s.nvBarred with
  | some st => (s.clearPass w).norResult p st 0
  | none =>
    if act = 1 ∨ act = 2 then
      (busy (s.clearPass w)).norSubmit { origin := .path p, erase := false, words := [(a, d)], clear := act == 2, pass }
    else if act = 3 then (busy (s.clearPass w)).norSubmit { origin := .path p, erase := true, sector, pass }
    else if act = 4 then
      let s1 := { s with keep := { s.keep with norWp := if s.keep.norWp.contains sector then s.keep.norWp else sector :: s.keep.norWp } }
      (s1.clearPass w).norResult p 0 0
    else
      let r := if act = 5 then s.norProtectAction w sector else if act = 6 then s.pwChange w else s.norRetire w
      let s1 := if act = 6 then (List.range 4).foldl (fun s k => s.set (F.NOR_PW_NEW_DATA k) 0 w) r.2 else r.2
      (s1.clearPass w).norResult p r.1.1 r.1.2

/-- A write of NOR_CTL. -/
def State.norCtlWrite (s : State) (p : Path) (v : Word) : State :=
  let act := bits v.toNat 0 4
  let sector := bits v.toNat 16 8
  if bits v.toNat 24 8 ≠ 0x9E ∨ act = 0 ∨ 7 < act ∨ s.get F.NOR_RES_BUSY (pathNum p) = 1
      ∨ ((act = 3 ∨ act = 4 ∨ act = 5) ∧ sectorCode sector = false) then s.fieldError
  else s.norAction p sector act

/-- A read of NOR_RDATA_LO (R448): it never waits. -/
def State.norRdata (s : State) (p : Path) : Nat × State :=
  if s.norReadable then
    let v := s.norLE (s.get F.NOR_ADDR_ADDR (pathNum p) * 8) 8
    (v % 2 ^ 32, s.set F.NOR_RDATA_HI_DATA (v / 2 ^ 32))
  else (0, (s.set F.NOR_RDATA_HI_DATA 0).set F.NOR_STAT_RD_BUSY 1)

/-! ### The fault journal -/

/-- The journal is full: JNL_FULL is posted once (R456). -/
def State.jnlFull (s : State) : State :=
  if s.get F.JNL_STAT_NEXT < 512 ∨ s.keep.jnlFullPosted then s
  else { (s.postBit F.NOR_EVT_SRC 336 4) with keep := { s.keep with jnlFullPosted := true } }

/-- The oldest journal record no longer waits. -/
def State.jnlTake (s : State) : State :=
  { s with keep := { s.keep with
    jnlHeld := s.keep.jnlHeld.tail, norQueue := s.keep.norQueue.map (fun op => { op with after := op.after - 1 }) } }

/-- JOURNAL_APPEND (R456): the oldest record that waits is programmed in the next slot of PSEC_7 once the array is free. A
full journal drops it; a record whose program fails goes to FAULT_LATCH (R221). None starts from TJ_TRIP until the junction has cooled
(R449). The work behind it follows. -/
def journalAppend (ok : Bool) (s : State) : State :=
  match s.keep.jnlHeld, s.keep.norOp with
  | r :: _, none =>
    if s.therm.stop then s
    else
      let s0 := s.jnlTake
      let n := s.get F.JNL_STAT_NEXT
      let l := s0.faultRecord r
      let s2 :=
        if 512 ≤ n then s0.jnlFull.jnlDrop r
        else if ok then ((s0.norPut (0x1C000 + 32 * n) l).set F.JNL_STAT_NEXT (n + 1)).jnlFull
        else
          let (v, s1) := s0.freeBits 256
          (((s1.norPut (0x1C000 + 32 * n) (natLE 32 v)).set F.JNL_STAT_NEXT (n + 1)).jnlFull).faultLatch l
      s2.norNext s2.keep.norQueue.length
  | _, _ => s

/-! ### OTP_CTL (R458) -/

/-- The slots that `OTP_CTL` programs and locks (Table 19-7). -/
def otpCtlSlot (n : Nat) : Bool := (decide (3 ≤ n ∧ n ≤ 5)) || decide (16 ≤ n ∧ n ≤ 31)

/-- The outcome of an OTP action, with OTP_DONE. -/
def State.otpResult (s : State) (p : Path) (code : Nat) : State :=
  (s.set F.OTP_RES_CODE code (pathNum p)).postBit F.NOR_EVT_SRC 336 6 code

/-- Is no OTP action taken: in THERMAL_HOLD, in REMOVING, or from TJ_TRIP (R458)? -/
def State.otpBarred (s : State) : Bool := s.st == stRemoving || s.st == stThermalHold || s.therm.stop

/-- PROGRAM. -/
def State.otpProgram (s : State) (p : Path) : State :=
  let w := pathNum p
  let slot := s.get F.OTP_SEL_SLOT w
  if s.otpBarred then s.otpResult p 5
  else if !otpCtlSlot slot then s.otpResult p 3
  else if s.otpLocked slot then s.otpResult p 2
  else
    let (c, s1) := s.otpProgramBytes slot (4 * s.get F.OTP_SEL_WORD w) (natLE 4 (s.get F.OTP_WDATA_DATA w))
    s1.otpResult p (if c = 5 then 4 else c)

/-- LOCK. -/
def State.otpLock (s : State) (p : Path) : State :=
  let slot := s.get F.OTP_SEL_SLOT (pathNum p)
  if s.otpBarred then s.otpResult p 5
  else if !otpCtlSlot slot then s.otpResult p 3
  else if s.otpLocked slot then s.otpResult p 2
  else
    let (o, s0) := s.otpAnswer
    let lock (s : State) (n : Nat) : State := { s with keep := { s.keep with otpLocks := s.keep.otpLocks ||| (n <<< slot) } }
    match o with
    | .ok _ => (lock s0 1).otpResult p 1
    | o =>
      let (v, s1) := s0.freeBits 1
      let s2 := if o = .linkFault then s1.faultDue 0x0A 3 (natLE 4 (64 * slot)) else s1
      (lock s2 v).otpResult p 4

/-- A write of OTP_CTL. -/
def State.otpCtlWrite (s : State) (p : Path) (v : Word) : State :=
  if bits v.toNat 24 8 ≠ 0xC5 then s.fieldError
  else match bits v.toNat 0 2 with
    | 1 => s.otpProgram p
    | 2 => s.otpLock p
    | _ => s.fieldError

/-! ### PS and the keep bus -/

/-- PS_WRITE (R463, R464): a verified write of the 32-byte unit `u`, the store answering `o`. -/
def psWrite (u : Nat) (data : List Byte) (o : List PsOutcome) (s : State) : State :=
  ((s.withPs o).psWrite (32 * (u % 0x8000)) (sliceB data 0 32)).2

/-- PS_ADDR advances by 4 after each access of PS_DATA with `INC` = 1 (R465). -/
def State.psAdvance (s : State) (w : Nat) : State :=
  if s.get F.PS_ADDR_INC w = 1 then s.set F.PS_ADDR_ADDR (s.get F.PS_ADDR_ADDR w + 1) w else s

/-- The areas of PS that Table 19-8 gives a content, as (first, size). -/
def psAreas : List (Nat × Nat) :=
  [(0, 0x80000), (0x80000, 0x80), (0x81000, 0x1000), (0x82000, 0x80), (0x82080, 0x40), (0x82100, 0x40), (0x82200, 0x40), (0x83000, 0x400),
    (0x83400, 0x200), (0x84000, 0x800), (0x84800, 0x40), (0x85000, 0x400), (0x86000, 0x400), (0x86400, 0x100), (0x88000, 0x2000),
    (0x8C000, 0x4000), (0x90000, 0x10000), (0xE0000, 0x20000)]

/-- Is a PS offset reserved (Table 19-8)? -/
def psReserved (a : Nat) : Bool := psAreas.all (fun r => !decide (r.1 ≤ a ∧ a < r.1 + r.2))

/-- A read of PS_DATA. Reserved offsets read 0 (R459). -/
def State.psDataRead (s : State) (p : Path) : Nat × State :=
  let w := pathNum p
  let a := s.get F.PS_ADDR_ADDR w * 4
  (if psReserved a then 0 else s.psLE a 4, s.psAdvance w)

/-- A write of PS_DATA (R465, R553): only in the platform area. -/
def State.psDataWrite (s : State) (p : Path) (v : Word) : State :=
  let w := pathNum p
  let a := s.get F.PS_ADDR_ADDR w * 4
  let s1 := if 0xE0000 ≤ a then (s.psWrite a (natLE 4 v.toNat)).2 else s.fieldError
  s1.psAdvance w

/-- The link fault of an eNOR transfer (R13): the program or erase in progress ends, else the array read that has waited longest, else
the next access meets it. -/
def State.norLinkNow (s : State) (addr : Nat) : State :=
  match s.keep.norOp, s.keep.norReads with
  | some op, l =>
    if op.suspended = false then
      (({ (s.norLink addr) with keep := { (s.norLink addr).keep with norOp := none } }).norReport op.origin 0x50 0x48 0).norFree
    else (match l with
      | r :: rest => ({ (s.norLink addr) with keep := { (s.norLink addr).keep with norReads := rest } }).complete r.flight 0x50 0x48
      | [] => { s with keep := { s.keep with norFault := true } })
  | none, r :: rest => ({ (s.norLink addr) with keep := { (s.norLink addr).keep with norReads := rest } }).complete r.flight 0x50 0x48
  | none, [] => { s with keep := { s.keep with norFault := true } }

/-- KEEP_BUS_TRANSFER (R13): a transfer whose first `crcErrors` attempts arrive with a CRC error is repeated up to three
times. At the fourth error the bus reports a link fault to the access it belongs to: one in progress, or the next one that this model makes
to the store, since it performs an access and its transfers in one step (log entry 133). A PS access then ends as a write whose verify
failed; an eNOR or OTP access writes its fault record and ends INTERNAL_ERROR with KEEP_BUS. -/
def keepBusTransfer (target : KeepTarget) (addr crcErrors : Nat) (s : State) : State :=
  if crcErrors ≤ 3 then s
  else match target with
    | .ps => { s with keep := { s.keep with psFault := true } }
    | .nor => s.norLinkNow addr
    | .otp => { s with keep := { s.keep with otpFault := true } }

end Sys2Proof.Machine
end

