-- ==== Sys2Proof/Machine/Flash.lean ====
section
/-!
DEFINITION. What the channels share (ch. 13, 15): the Sequence Program Bundle as it lies in eNOR (R339, R340), dies and
their classes, die operations and their priorities (R295), and the program-order guard (R306 to R308).
-/

namespace Sys2Proof.Machine

/-! ### The bundle (R339, Tables 15-1 to 15-3) -/

/-- Address of SPB slot `i` (Table 4-1). -/
def spbBase (i : Nat) : Nat := if i = 0 then 0x220000 else 0x260000

/-- Bytes of the body of SPB slot `i`. -/
def State.spbBytes (s : State) (i off n : Nat) : List Byte := s.norBytes (spbBase i + 0x100 + off) n

/-- A little-endian number of the body of SPB slot `i`. -/
def State.spbLE (s : State) (i off n : Nat) : Nat := s.norLE (spbBase i + 0x100 + off) n

/-- `CLASS_COUNT` of SPB slot `i`. -/
def State.spbClasses (s : State) (i : Nat) : Nat := s.norLE (spbBase i + 0x0C) 1

/-- `BODY_LEN` of SPB slot `i`. -/
def State.spbBody (s : State) (i : Nat) : Nat := s.norLE (spbBase i + 0x10) 4

/-- Offset in the body of descriptor `c`. -/
def State.descOff (s : State) (i c : Nat) : Nat := s.spbLE i 4 4 + 64 * c

/-- Offset and length in the body of program `p`. -/
def State.progAt (s : State) (i p : Nat) : Nat × Nat :=
  let e := s.spbLE i 8 4 + 8 * p
  (s.spbLE i e 4, s.spbLE i (e + 4) 4)

/-- Are all bytes 0? -/
def allZero (l : List Byte) : Bool := l.all (· == 0)

/-- Does descriptor `c` meet Table 15-2 and R339? -/
def State.descOk (s : State) (i c : Nat) : Bool :=
  let o := s.descOff i c
  let le (a n : Nat) : Nat := s.spbLE i (o + a) n
  let u16 (v : Nat) : Bool := decide (1 ≤ v ∧ v ≤ 65535)
  decide (le 16 1 < 3) && decide (le 17 1 < s.spbLE i 0 2) && decide (le 18 1 < 8) && le 19 1 == 0 && u16 (le 20 4)
    && u16 (le 24 4) && u16 (le 28 4) && (bit (le 18 1) 0 || (le 32 2 == 0 && le 34 2 == 0)) && u16 (le 36 2)
    && allZero (s.spbBytes i (o + 38) 26)
    && bit (s.spbLE i ((s.progAt i (le 17 1)).1 + 6) 2) c

/-- Is a detector configuration legal (Table 15-8)? -/
def ecfgOk (v : Nat) : Bool := decide (v % 32 < 8) && !bit v 31

/-- Does program `p` meet Table 15-3 and R339? -/
def State.progOk (s : State) (i p : Nat) : Bool :=
  let (o, len) := s.progAt i p
  let le (a n : Nat) : Nat := s.spbLE i (o + a) n
  let w := le 4 2
  o % 256 == 0 && decide (o + len ≤ s.spbBody i) && len == 256 + 4 * w && s.spbBytes i o 4 == [0x53, 0x51, 0x50, 0x31]
    && decide (1 ≤ w ∧ w ≤ 4096) && decide (le 8 2 < w) && le 0x0E 2 % 16 == 0
    && (List.range 8).all (fun t => decide (le (0x10 + 4 * t) 4 < 2 ^ 22))
    && (List.range 8).all (fun e => ecfgOk (le (0x30 + 4 * e) 4) && (bit (le 0x0D 1) e || le (0x30 + 4 * e) 4 == 0))
    && le 0x50 4 == crc32 (s.spbBytes i (o + 256) (4 * w)) && allZero (s.spbBytes i (o + 0x54) 172)

/-- Do two byte ranges (offset, length) lie apart? -/
def apart (a b : Nat × Nat) : Bool := decide (a.1 + a.2 ≤ b.1 ∨ b.1 + b.2 ≤ a.1)

/-- Do the ranges of a list lie apart from each other? -/
def allApart : List (Nat × Nat) → Bool
  | [] => true
  | a :: l => l.all (apart a) && allApart l

/-- Does the body of SPB slot `i` meet R339? -/
def State.spbBodyOk (s : State) (i : Nat) : Bool :=
  let pc := s.spbLE i 0 2
  let cc := s.spbClasses i
  let ct := s.spbLE i 4 4
  let pt := s.spbLE i 8 4
  decide (1 ≤ pc ∧ pc ≤ 16) && s.spbLE i 2 2 == 0 && ct % 64 == 0 && pt % 8 == 0 && allZero (s.spbBytes i 0x0C 52)
    && decide (ct + 64 * cc ≤ s.spbBody i) && decide (pt + 8 * pc ≤ s.spbBody i)
    && (List.range pc).all (s.progOk i) && (List.range cc).all (s.descOk i)
    && allApart ((ct, 64 * cc) :: (pt, 8 * pc) :: (List.range pc).map (s.progAt i))

/-- The program that class `c` of SPB slot `i` names, when its image is well formed (R354). -/
def State.readProg (s : State) (i c : Nat) : Option Prog :=
  let p := s.spbLE i (s.descOff i c + 17) 1
  if c < s.spbClasses i ∧ s.descOk i c ∧ s.progOk i p then
    let o := (s.progAt i p).1
    let le (a n : Nat) : Nat := s.spbLE i (o + a) n
    some {
      base := false, cls := c, slot := i,
      code := (List.range (le 4 2)).map (fun j => BitVec.ofNat 32 (le (256 + 4 * j) 4)),
      entry := le 8 2, faultVec := le 0x0A 2 % 4096, carryT := le 0x0C 1, armE := le 0x0D 1, vecBase := le 0x0E 2,
      tcfg := (List.range 8).map (fun t => le (0x10 + 4 * t) 4), ecfg := (List.range 8).map (fun e => le (0x30 + 4 * e) 4) }
  else none

/-- The program index that class `c` of slot `i` names. -/
def State.progIndex (s : State) (i c : Nat) : Nat := s.spbLE i (s.descOff i c + 17) 1

/-- `CLASS_MASK` of the program of class `c` of slot `i`. -/
def State.classMask (s : State) (i c : Nat) : Nat := s.spbLE i ((s.progAt i (s.progIndex i c)).1 + 6) 2

/-- Do READ ID bytes and a protocol fit descriptor `c` (R340)? -/
def State.descFits (s : State) (i c : Nat) (ident : List Byte) (jedec : Bool) : Bool :=
  let o := s.descOff i c
  let m := s.spbLE i (o + 8) 8
  let pm := s.spbLE i (o + 16) 1
  leAt ident 0 8 &&& m == s.spbLE i o 8 &&& m && (pm == 2 || pm == b2n jedec)

/-- Parameters of a die class (Tables 15-2, 15-4). -/
structure ClsPar where
  tr : Nat
  tprog : Nat
  tbers : Nat
  caps : Nat
  tsus : Nat
  tres : Nat
  tfeat : Nat
  deriving DecidableEq, Repr

/-- The baseline class (Table 15-4). -/
def baselinePar : ClsPar := ⟨200, 3000, 9000, 0, 0, 0, 1000⟩

/-! ### Channels and dies -/

/-- Dies in use on channel `n`, ascending. -/
def State.diesInUse (s : State) (n : Nat) : List Nat :=
  ((s.chan n).dies.filter (fun p => p.2.state == 1)).map (·.1)

/-- The parameters of class `c` on channel `n`. -/
def State.clsPar (s : State) (n c : Nat) : ClsPar :=
  match (s.chan n).bundle with
  | none => baselinePar
  | some i =>
    let le (a m : Nat) : Nat := s.spbLE i (s.descOff i c + a) m
    ⟨le 20 4, le 24 4, le 28 4, le 18 1, le 32 2, le 34 2, le 36 2⟩

/-- The parameters of the class of die `d` on channel `n`. -/
def State.diePar (s : State) (n d : Nat) : ClsPar := s.clsPar n (s.die n d).cls

/-- Planes of a die. -/
def Die.planeCount (v : Die) : Nat := if v.planes = 0 then 1 else if v.planes = 1 then 2 else 4

/-- The block of a row. -/
def Die.blockOf (v : Die) (row : Nat) : Nat := if v.pages = 0 then 0 else row / v.pages

/-- The plane of a row: the low bits of the block address. PRESUMED (assumption log). -/
def Die.planeOf (v : Die) (row : Nat) : Nat := v.blockOf row % v.planeCount

/-- Does the row exist? -/
def Die.rowOk (v : Die) (row : Nat) : Bool := decide (row < v.pages * v.blocks)

/-- `ADDR` of Table 9-4 for a die address. -/
def packAddr (ch d row : Nat) : Nat := row % 2 ^ 24 + ch % 8 * 2 ^ 24 + d / 4 % 8 * 2 ^ 27 + d % 4 * 2 ^ 30

/-- Bytes of a codeword of a rate (Table 16-1). -/
def cwBytes (rate : Nat) : Nat := if rate = 0 then 4352 else if rate = 1 then 4480 else if rate = 2 then 4608 else 4864

/-- Parity circulants of a rate. -/
def cwParity (rate : Nat) : Nat := if rate = 0 then 15 else if rate = 1 then 23 else if rate = 2 then 31 else 47

/-- Active layout of class `c`: rate and codewords per page. -/
def State.layout (s : State) (c : Nat) : Nat × Nat := (s.get (F.CW_LAYOUT_RATE c), s.get (F.CW_LAYOUT_CPP_M1 c) + 1)

/-- Does the class hold decodable codewords (R383)? -/
def State.layoutOk (s : State) (c : Nat) : Bool :=
  let (r, n) := s.layout c
  let pb := s.get (F.CW_LAYOUT_PAGE_BYTES c)
  pb == 0 || decide (cwBytes r * n ≤ pb)

/-! ### Die operations -/

/-- Die operation `i`. -/
def State.dop? (s : State) (i : Nat) : Option DieOp := (s.dops.find? (fun p => p.1 == i)).map (·.2)

/-- Set a die operation. -/
def State.setDop (s : State) (i : Nat) (o : DieOp) : State := { s with dops := tput s.dops i o }

/-- Remove a die operation. -/
def State.delDop (s : State) (i : Nat) : State := { s with dops := tdel s.dops i }

/-- Codeword `c`. -/
def State.cw? (s : State) (c : Nat) : Option Cw := (s.cws.find? (fun p => p.1 == c)).map (·.2)

/-- Set a codeword. -/
def State.setCw (s : State) (c : Nat) (v : Cw) : State := { s with cws := tput s.cws c v }

/-- The flight a plane part serves. -/
def State.useFlight (s : State) : OpUse → Option Nat
  | .cw c => (s.cw? c).bind (·.flight)
  | .page k _ => some k
  | .erase k => some k
  | .wback k _ => some k
  | .cal _ => none
  | .imp k _ => some k

/-- Who a codeword without an in-flight index is read for (R225). -/
def CwUse.origin (u : CwUse) : FqOrigin :=
  match u with
  | .mapPage _ _ => .map
  | .dict _ _ => .map
  | .stream _ _ => .stream
  | .frame _ _ => .stream
  | _ => .host

/-- The side tag of what an operation's first part serves (R225). -/
def State.opTag (s : State) (o : DieOp) : Option Nat × FqOrigin :=
  match o.parts with
  | p :: _ => (s.useFlight p.use, match p.use with | .cw c => (s.cw? c).elim .host (·.use.origin) | _ => .host)
  | [] => (none, .host)

/-- Does the operation come from CODEC: a program, or a retry or soft read of a codeword? -/
def DieOp.fromCodec (o : DieOp) : Bool :=
  o.kind == 1 || ((o.kind == 3 || o.kind == 4) && o.parts.any (fun p => match p.use with | .cw _ => true | _ => false))

/-- The queue through which an operation reaches its channel's scheduler (ch. 13): Q_2 + n from MAP, Q_26 + n from CODEC. -/
def DieOp.queue (o : DieOp) : Nat := (if o.fromCodec then 26 else 2) + o.ch % 8

/-- Does channel `n` take operations from its queues? Not while a sequence exchange runs its entry window (ch. 25). -/
def State.chTakes (s : State) (n : Nat) : Bool := match (s.sq n).xch with | some x => !x.entry | none => true

/-- The scheduler of channel `n` takes what lies in queue `q`. -/
def State.opDrain (s : State) (n q : Nat) : Nat → State
  | 0 => s
  | f + 1 =>
    if s.chTakes n = false then s
    else match s.qWork q with
      | .op i =>
        let s1 := s.qTake q
        (match s1.dop? i with
        | some o => if o.st = OpSt.queued then s1.setDop i { o with st := .waiting, arr := s1.clock } else s1
        | none => s1).opDrain n q f
      | _ => s

/-- Operation `i` enters its queue when that has a credit, and the scheduler takes what it can (R15, R16). -/
def State.opEnter (s : State) (i : Nat) : State :=
  match s.dop? i with
  | none => s
  | some o =>
    let q := o.queue
    if o.st ≠ .queued then s
    else if s.qHas q (.op i) then s.opDrain o.ch q 64
    else if s.qCan q 1 0 then
      let t := s.opTag o
      (s.qPut q { flight := t.1, orig := t.2, work := .op i }).opDrain o.ch q 64
    else s

/-- Operations of channel `n` that its scheduler has not taken move on, those from MAP first (ch. 13, Coincidences). -/
def State.opMove (s : State) (n : Nat) : State :=
  let l := s.dops.filter (fun p => p.2.st == .queued && p.2.ch == n)
  ((l.filter (fun p => !p.2.fromCodec)) ++ l.filter (fun p => p.2.fromCodec)).foldl (fun (s : State) p => s.opEnter p.1) s

/-- Does MAP, or with `codec` the codec, stall with an operation that its queue has no credit for (R15)? -/
def State.opStall (s : State) (codec : Bool) : Bool :=
  s.dops.any (fun p => p.2.st == .queued && p.2.fromCodec == codec && !s.qHas p.2.queue (.op p.1))

/-- A die operation leaves for its channel's scheduler. -/
def State.addOp (s : State) (o : DieOp) : State :=
  let s1 := { (s.setDop s.nextOp { o with arr := s.clock, st := .queued }) with nextOp := s.nextOp + 1 }
  if s.dops.any (fun p => p.2.st == .queued && p.2.queue == o.queue && !s.qHas o.queue (.op p.1)) then s1 else s1.opEnter s.nextOp

/-- Does the operation read? -/
def DieOp.reads (o : DieOp) : Bool := o.kind == 0 || o.kind == 3 || o.kind == 4

/-- Does the operation hold a grant? -/
def DieOp.holds (o : DieOp) : Bool := o.st != .waiting && o.st != .queued

/-- The priority an operation carries (R295, R205). -/
def State.prioOf (s : State) (q : Option Nat) (fix : Nat) : Nat := match q with | some q => (s.qp q).prio | none => fix

/-- Boost by age (R295). -/
def State.dieBoost (s : State) (n arr : Nat) : Nat :=
  let step := s.get (F.CH_SCHED_AGE_STEP_US n)
  if step = 0 then 0 else min (s.get (F.CH_SCHED_BOOST_MAX n)) ((s.clock - arr) / step)

/-- Effective die priority: the highest among the operation's parts (R295, R300). -/
def State.effDie (s : State) (o : DieOp) : Nat :=
  let one (q : Option Nat) (fix arr : Nat) : Nat := min 7 (s.prioOf q fix + s.dieBoost o.ch arr)
  o.mates.foldl (fun m p => max m (one p.1 p.2.1 p.2.2)) (one o.prioQ o.prioFix o.arr)

/-- The carried priority of an operation at the ledger: the highest among its parts (R278, R300). -/
def State.carried (s : State) (o : DieOp) : Nat :=
  o.mates.foldl (fun m p => max m (s.prioOf p.1 p.2.1)) (s.prioOf o.prioQ o.prioFix)

/-- The longest time a class allows the operation (R304). -/
def State.opMax (s : State) (o : DieOp) : Nat :=
  let p := s.diePar o.ch o.die
  if o.kind = 1 then p.tprog else if o.kind = 2 then p.tbers else p.tr

/-- The operations of channel `n`, oldest first. -/
def State.chOps (s : State) (n : Nat) : List (Nat × DieOp) := s.dops.filter (fun p => p.2.ch == n)

/-- Does a channel run bar new die operations of channel `n` (R525)? -/
def State.tpHolds (s : State) (n : Nat) : Bool := s.test.runs.any (fun p => p.1 == 0x20 + n)

/-- Started operations (R288, R57). -/
def State.startedOps (s : State) : List (Nat × DieOp) := s.dops.filter (fun p => p.2.started.isSome)

/-- Operations as they count: a cache sequence once (R288). -/
def seqCount (l : List (Nat × DieOp)) : Nat := (l.map (fun p => p.2.seqOf.getD p.1)).dedup.length

/-- Post channel event `k` (Table 13-5). -/
def State.chEvent (s : State) (n k : Nat) (data : Nat := 0) : State := s.postBit (F.CH_EVT_SRC n) (96 + 8 * n) k data

/-- The junction in 1/16 °C (R497). -/
def State.junction (s : State) : Int := toSigned 16 (s.get F.THERM_STAT_TJ)

/-! ### The program-order guard -/

/-- Bytes of guard entry `i`. -/
def State.guardBytes (s : State) (i : Nat) : List Byte := s.psRead (0x8C000 + 16 * i) 16

/-- Is a guard entry in use? -/
def guardUsed (l : List Byte) : Bool := !allZero l && crc16Ok l

/-- Is guard entry `i` in use? -/
def State.guardPass (s : State) (i : Nat) : Bool := s.psWhole (0x8C000 + 16 * i) && guardUsed (s.guardBytes i)

/-- A guard entry (Table 19-10). -/
def guardEntry (ch d row next stamp : Nat) : List Byte :=
  withCrc16 (natLE 1 (ch % 8) ++ natLE 1 (d % 32) ++ natLE 4 (row % 2 ^ 24) ++ natLE 2 next ++ natLE 4 stamp ++ natLE 2 0)

/-- Guard entries in use, with their numbers. -/
def State.guardList (s : State) : List (Nat × List Byte) :=
  ((List.range 1024).filter s.guardPass).map (fun i => (i, s.guardBytes i))

/-- The entry of a block. -/
def State.guardFind (s : State) (ch d row : Nat) : Option (Nat × List Byte) :=
  s.guardList.find? (fun p => leAt p.2 0 1 == ch && leAt p.2 1 1 == d && leAt p.2 2 4 == row)

/-- The stamp of the next guard write. -/
def State.guardStamp (s : State) : Nat :=
  (s.guardList.foldl (fun m p => if genAbove (leAt p.2 8 4) m then leAt p.2 8 4 else m) 0 + 1) % 2 ^ 32

/-- Write guard entry `i`; true when it is verified. -/
def State.guardWrite (s : State) (i : Nat) (l : List Byte) : Bool × State := s.psWrite (0x8C000 + 16 * i) l

/-- ERASE_RAW opens a block (R306): next page 0, evicting the entry last updated longest ago when the table is full. -/
def State.guardOpen (s : State) (ch d row : Nat) : Bool × State :=
  let st := s.guardStamp
  match s.guardFind ch d row with
  | some (i, _) => s.guardWrite i (guardEntry ch d row 0 st)
  | none =>
    match (List.range 1024).find? (fun i => !s.guardPass i) with
    | some i => s.guardWrite i (guardEntry ch d row 0 st)
    | none =>
      let old := s.guardList.foldl (fun (b : Option (Nat × List Byte)) p =>
        match b with
        | none => some p
        | some q => if genAbove (leAt q.2 8 4) (leAt p.2 8 4) then some p else some q) none
      match old with
      | none => (false, s)
      | some (i, l) =>
        let (ok, s1) := s.guardWrite i (guardEntry ch d row 0 st)
        let c := leAt l 0 1 % 8
        if ok then
          (true, (s1.addF (F.GUARD_STAT_EVICTS c) 1).chEvent c 3 (leAt l 1 1 % 32 + leAt l 2 4 % 2 ^ 24 * 256))
        else (false, s1)

/-- Before the confirm cycle of page `p` of a block (R307): the next page rises to p + 1, and a complete block's entry is
removed. -/
def State.guardRaise (s : State) (ch d row p pages : Nat) : Bool × State :=
  match s.guardFind ch d row with
  | none => (true, s)
  | some (i, l) =>
    if p < leAt l 6 2 then (true, s)
    else if pages ≤ p + 1 then s.guardWrite i (natLE 16 0)
    else s.guardWrite i (guardEntry ch d row (p + 1) s.guardStamp)

/-- Does R307 let pages from `p` on be programmed? -/
def State.guardAllows (s : State) (ch d row p : Nat) : Bool :=
  match s.guardFind ch d row with
  | none => false
  | some (_, l) => decide (leAt l 6 2 ≤ p)

/-! ### Regions (R197, R411, R436, R437) -/

/-- The protection life cycle (R413): the highest state whose bit is set. -/
def State.lifecycle (s : State) : Nat :=
  let b := s.otpLE 6 0 1
  if bit b 2 then 3 else if bit b 1 then 2 else if bit b 0 then 1 else 0

/-- Is the block one of a save volume (R411)? -/
def State.saveBlock (s : State) (ch blk : Nat) : Bool :=
  (List.range 16).any (fun v => s.get F.VOL_CFG_KIND v == 2 && bit (s.get F.VOL_SAVE_CH_MASK v) ch
    && decide (s.get F.VOL_SAVE_FIRST_BLK v ≤ blk ∧ blk < s.get F.VOL_SAVE_FIRST_BLK v + s.get F.VOL_SAVE_BLK_COUNT v))

/-- May a raw command touch the block? -/
def State.regionOk (s : State) (ch blk : Nat) (mutates : Bool) : Bool :=
  (blk != s.get F.IMP_CFG_BLK || decide (s.lifecycle < 2)) && (!mutates || decide (s.lifecycle < 3) || s.saveBlock ch blk)

/-- Can a program or erase of this worst-case duration ever start under `HOLD_TIME` (R60)? -/
def State.holdOk (s : State) (us : Nat) : Bool := decide (us + 300 ≤ s.get F.RMV_CFG_HOLD_TIME * 100)

/-! ### Hamper chains -/

/-- The references of a chain from its first buffer, as far as they are good (R261). -/
def State.chainRefs (s : State) (r : Nat) : Nat → List Nat
  | 0 => []
  | n + 1 =>
    if s.refOk r = false then []
    else r :: match (s.hbuf (refBuf r)).next with
      | some q => s.chainRefs q n
      | none => []

/-- The stale reference that a chain of up to `n` buffers runs into, if any. -/
def State.chainStale (s : State) (r : Nat) : Nat → Option Nat
  | 0 => none
  | n + 1 => if s.refOk r = false then some r else (s.hbuf (refBuf r)).next.bind (fun q => s.chainStale q n)

/-- The first `n` bytes of a chain. -/
def State.chainData (s : State) (r n : Nat) : List Byte :=
  ((s.chainRefs r 16).flatMap (fun q => s.hmpData (refBuf q) 0 4096)).take n

/-- Place bytes in the buffers of a chain, setting `LEN` of each. -/
def State.chainPut (s : State) : List Nat → List Byte → State
  | [], _ => s
  | r :: l, d =>
    let s1 := s.hmpPut (refBuf r) 0 (d.take 4096)
    (s1.setHbuf (refBuf r) { s1.hbuf (refBuf r) with len := min 4096 d.length }).chainPut l (d.drop 4096)

/-- Write stage bytes of a tag. -/
def State.stagePut (s : State) (r off : Nat) (l : List Byte) : State :=
  let v := s.hbuf (refBuf r)
  if 0x10000 ≤ r then s
  else s.setHbuf (refBuf r) { v with stage := writeBytes 0 v.stage off l }

/-- What a step said of its PS writes is over. -/
def State.endPs (s : State) : State := s.withPs []

end Sys2Proof.Machine
end

