-- ==== Sys2Proof/Machine/Ration.lean ====
section
/-!
DEFINITION. The Ration energy ledger (ch. 12): measurement, the supply and hold-up accounts, admission of decodes, transfers
and die operations, the cost table and its calibration; and what follows an admission: the landing chain of a read (R298,
R366) and the hand-over to the sequencer.
-/

namespace Sys2Proof.Machine

/-! ### The values in force -/

/-- Refill in mW, burst in mJ, bank energy in 0.1 mJ: the device's own, or its share (R517). -/
def State.budget (s : State) : Nat × (Nat × Nat) :=
  match s.rt.share with
  | some v => v
  | none => (s.get F.RATION_CFG_REFILL_MW, (s.get F.RATION_CFG_BURST_MJ, s.get F.RATION_HU_HU_ENERGY))

/-- Does R280 apply now? -/
def State.derates (s : State) : Bool := decide (1 ≤ s.get F.GLB_STAT_THERM) && s.get F.RATION_CFG_DERATE != 0

/-- Sixteenths that remain (R280). -/
def State.sixteenths (s : State) (d : Bool) : Nat := if d then 16 - s.get F.RATION_CFG_DERATE else 16

/-- The cap in units of 1/256 µJ (R276, R280). -/
def State.capNow (s : State) (d : Bool) : Nat := s.budget.2.1 * 16000 * s.sixteenths d

/-- The energy *A* available to die work (R281). -/
def State.availNow (s : State) : Int :=
  ((s.budget.2.2 * 256000 : Nat) - (s.get F.RATION_HU_HU_BASE_MW * 256 : Nat) * ((s.get F.RMV_CFG_HOLD_TIME : Nat) - 10 : Int)) / 10

/-- Reserved energy outstanding (R282). -/
def State.huOut (s : State) : Nat := s.dops.foldl (fun n p => n + p.2.res) 0

/-- Operations holding reservations. -/
def State.huOps (s : State) : Nat := seqCount (s.dops.filter (fun p => p.2.res != 0))

/-- Energy and duration of entry `i` of the cost table (R272). -/
def State.cost (s : State) (i : Nat) : Nat × Nat := (s.get F.COST_E_ENERGY i, s.get F.COST_D_DUR_US i)

/-- Post a ledger event (Table 12-2). -/
def State.rationEvent (s : State) (f : Fld) (n data : Nat) : State := (s.set f 1).post n data

/-- Step 8 of the Trailhead enables the ledger (R269, R280). -/
def State.ledgerEnable (s : State) (isns : Bool) : State :=
  let d := s.derates
  let s1 := { s with rt := { s.rt with on := true, isns, bal := s.capNow d, cap := s.capNow d, avail := s.availNow, derated := d } }
  if d then s1.rationEvent F.RATION_EVT_DERATE 11 1 else s1

/-! ### Measurement and charges (R270, R271, R276) -/

/-- The share a charge returns at its next update. -/
def Charge.next (c : Charge) : Nat :=
  if c.done < c.dur then c.charge * (c.done + 1) / c.dur - c.charge * c.done / c.dur else 0

/-- What a charge has not returned yet. -/
def Charge.rest (c : Charge) : Nat := if c.dur = 0 then 0 else c.charge - c.charge * c.done / c.dur

/-- The measured energy of the last microsecond (R270). -/
def State.measured (s : State) (vT : Nat) (diff : Int) (onDie : Nat) : Int :=
  if s.rt.isns then (vT * 256 : Nat) * diff / ((s.get F.RATION_ISNS_SHUNT * 10000 : Nat) : Int)
  else ((onDie * 100 / s.get F.RATION_ISNS_REG_EFF : Nat) : Int)
    + ((s.rt.charges.filter (fun c => match c.payer with | .op _ => true | _ => false)).foldl (fun n c => n + c.next) 0 : Nat)

/-- The check of the ISNS reading (R271). -/
def State.isnsCheck (s : State) (diff : Int) : State :=
  let bad := if -1000 ≤ diff ∧ diff ≤ 8000 then 0 else s.rt.isnsBad + 1
  if s.rt.isns = false then s
  else if 100 ≤ bad then
    ({ s with rt := { s.rt with isns := false, isnsBad := 0 } }).rationEvent F.RATION_EVT_ISNS_FAULT 10 (ofSigned 16 diff)
  else { s with rt := { s.rt with isnsBad := bad } }

/-- An operation has ended before its duration has run out: its unreturned share comes back at the next update (R276). -/
def State.chargeEnd (s : State) (p : Payer) : State :=
  match s.rt.charges.find? (fun c => c.payer == p) with
  | some c => { s with rt := { s.rt with charges := s.rt.charges.erase c, back := s.rt.back + c.rest } }
  | none => s

/-! ### Ending a command's die work early -/

/-- Does an operation serve flight `k`? -/
def State.opServes (s : State) (k : Nat) (o : DieOp) : Bool := o.parts.any (fun p => s.useFlight p.use == some k)

/-- Release the Hamper chains of a die operation, and withdraw requests that still wait. -/
def State.opBufsFree (s : State) (o : DieOp) : State :=
  o.parts.foldl (fun s p =>
    let s1 := match p.buf with | some r => s.hmpRelease r (s.hbuf (refBuf r)).owner | none => s
    match p.hwait with | some w => waitWithdraw w s1 | none => s1) s

/-- Take an operation off the books: its charge ends, its reservation falls, its slot in the sequencer is not touched. -/
def State.opErase (s : State) (i : Nat) : State := (s.chargeEnd (.op i)).delDop i

/-- Remove the operations that fulfil `c` and have not started. An operation already taken into a slot stays until the
sequencer closes the slot. -/
def State.dropOps (s : State) (c : DieOp → Bool) : State :=
  (s.dops.filter (fun p => c p.2 && p.2.started.isNone &&
    (match p.2.st with | .open _ => false | _ => true))).foldl (fun s p =>
      let s1 := (s.opBufsFree p.2).opErase p.1
      { s1 with seqs := s1.seqs.map (fun q => (q.1, if q.2.hand = some p.1 then { q.2 with hand := none } else q.2)) }) s

/-- Remove the operations of flight `k` that have not started. -/
def State.dropUnstarted (s : State) (k : Nat) : State := s.dropOps (s.opServes k)

/-- A command fails: its later die operations are not started, and it completes once those that started have ended. -/
def State.failFlight (s : State) (k st ql : Nat) : State :=
  match s.flight? k with
  | none => s
  | some f =>
    let die := (st == 0x21 || st == 0x22) && (f.status == 0x31 || f.status == 0x32 || f.status == 0x33)
    let f1 := if f.fails = 0 || die || (st == 0x23 && f.status != 0x23) then { f with fails := 1, status := st, qual := ql } else f
    let s1 := (s.setFlight k f1).dropUnstarted k
    if s1.dops.any (fun p => s1.opServes k p.2) then s1 else s1.complete k f1.status f1.qual

/-- Is it an operation of a ledger calibration? -/
def DieOp.isCal (o : DieOp) : Bool := o.parts.any (fun p => match p.use with | .cal i => decide (0 < i) | _ => false)

/-- Set the calibration code. -/
def State.calCode (s : State) (c : Nat) : State := (s.set F.RATION_CAL_STAT_CODE c).set F.RATION_CAL_STAT_BUSY 0

/-- A removal trigger or reset ends a calibration (R275); an operation of it that has not started is not made. -/
def State.calAbort (s : State) : State :=
  match s.rt.cal with
  | some _ => (({ s with rt := { s.rt with cal := none } }).dropOps DieOp.isCal).calCode 5
  | none => s

/-- A die operation that can never be started is refused (R283): each command it serves completes PROTECTED, HOLDUP; a calibration that
needs it ends as one cut short (log entry 136). -/
def State.refuseOp (s : State) (o : DieOp) : State :=
  if o.isCal then s.calAbort else
  (o.parts.filterMap (fun p => s.useFlight p.use)).foldl (fun s k => s.failFlight k 0x14 4) s

/-- A unit that serves the command in flight `k` is lost: the command completes INTERNAL_ERROR (R261). -/
def State.unitLost (s : State) (k : Option Nat) : State :=
  match k with
  | some k => if (s.flight? k).any (fun f => f.phase != .ready) then s.failFlight k 0x50 0 else s
  | none => s

/-- REFERENCE_RELEASE (R257, R261, R262) by owner `who`, whose last read of the buffer met the error `ecc`: none, one corrected, or a
double-bit error, with which the unit is lost. -/
def referenceRelease (r who ecc : Nat) (s : State) : State :=
  if s.refOk r = false then s.hmpRelease r who
  else
    let b := refBuf r
    let s1 := (s.hmpEcc b ecc).hmpRelease r who
    if ecc = 2 then s1.unitLost (s.hbuf b).cmd else s1

/-! ### Landing chains and hand-over (R298, R366) -/

/-- The seed of codeword `k` at a row under a value of RND_CFG (R370); 0 stands for no randomising. -/
def seedOf (rnd row k : Nat) : Nat :=
  if bits rnd 31 1 = 0 then 0
  else
    let v := ((row * 8 + k) * 0x6A09 + bits rnd 0 31) % 2 ^ 31
    if v = 0 then 0x7FFFFFFF else v

/-- The seed under the settings in force. -/
def State.cwSeed (s : State) (row k : Nat) : Nat := seedOf (s.reg 0x2640).toNat row k

/-- `TAG` of a codeword's location (R364). -/
def cwTag (row k die : Nat) : Nat := row % 2 ^ 24 + k % 8 * 2 ^ 24 + die % 32 * 2 ^ 27

/-- `RTY_CLASS_c` in force: FA, COUNT, BASE; the defaults in LIMITED (R384). -/
def State.rtyClass (s : State) (c : Nat) : Nat × (Nat × Nat) :=
  if s.st = stLimited then (0x89, (0xF, 0))
  else (s.get (F.RTY_CLASS_FA c), (s.get (F.RTY_CLASS_COUNT c), s.get (F.RTY_CLASS_BASE c)))

/-- The retry entry of a step: P1 to P4 as one word, P1 lowest. -/
def State.rtyParams (s : State) (c step : Nat) : Nat :=
  if s.st = stLimited then rtyEntryDefault step
  else (s.reg (0x2680 + (s.get (F.RTY_CLASS_BASE c) + step) % 64)).toNat

/-- A signed byte moved by `d`, saturating (R381). -/
def shiftByte (b : Nat) (d : Int) : Nat := ofSigned 8 (max (-128) (min 127 (toSigned 8 b + d)))

/-- Each of P1 to P4 moved by `d`. -/
def shiftParams (p : Nat) (d : Int) : Nat :=
  (List.range 4).foldl (fun v i => v + shiftByte (bits p (8 * i) 8) d * 2 ^ (8 * i)) 0

/-- The read-level offset of die `d` on channel `n`, a signed byte (R472). -/
def State.dieOfs (s : State) (n d : Nat) : Int := toSigned 8 (bits (s.reg 0x2F86 (n % 8 * 8 + d / 4)).toNat (8 * (d % 4)) 8)

/-- The home levels `P_BASE` of a die of class `c` (R366, R472). -/
def State.homeLevels (s : State) (n d c : Nat) : Nat := shiftParams (s.rtyParams c 0) (s.dieOfs n d)

/-- The channel issues BSETF with the home levels to a die whose offset is not 0, or has changed (R472). -/
def State.homeSet (s : State) (n d : Nat) : State :=
  let c := (s.die n d).cls
  s.send (.bus n 6 (natLE 1 d ++ natLE 1 (s.rtyClass c).1 ++ natLE 4 (s.homeLevels n d c)))

/-- Every die in use whose offset is not 0 is set to its home levels (R472). -/
def State.homeAll (s : State) (n : Nat) : State :=
  (s.diesInUse n).foldl (fun (s : State) d => if s.dieOfs n d = 0 then s else s.homeSet n d) s

/-- The offset of soft read `i` (R381): −Δ, +Δ, −2Δ, +2Δ. -/
def State.softShift (s : State) (i : Nat) : Int :=
  let d : Int := s.get F.RTY_CFG_SOFT_DELTA
  if i = 1 then -d else if i = 2 then d else if i = 3 then -(2 * d) else if i = 4 then 2 * d else 0

/-- What a codeword records when the chain of its base read is allocated (R366). -/
def State.cwRecord (s : State) (w : Cw) : Cw :=
  let cls := (s.die w.ch w.die).cls
  let (r, n) := s.layout cls
  { w with cls, rate := r, cpp := n, seed := s.cwSeed w.row w.k, xtag := cwTag w.row w.k w.die, fa := (s.rtyClass cls).1,
           pBase := s.homeLevels w.ch w.die cls }

/-- The stage bytes of a landing chain (Table 16-6). -/
def State.cwStage (s : State) (w : Cw) : List Byte :=
  let p0 := if w.soft = 0 then s.rtyParams w.cls w.step else shiftParams (s.rtyParams w.cls w.step) (s.softShift w.soft)
  let p := shiftParams p0 (s.dieOfs w.ch w.die)
  natLE 1 (w.rate + (w.cpp - 1) * 4) ++ natLE 1 w.k ++ natLE 1 w.step ++ natLE 1 w.fa ++ natLE 4 p ++ natLE 4 w.pBase
    ++ natLE 4 w.seed ++ natLE 4 w.xtag ++ natLE 4 0 ++ natLE 1 w.soft ++ natLE 23 0

/-- What a part's landing chain needs: owner and buffers (R248). -/
def State.landNeed (s : State) (o : DieOp) (u : OpUse) : Nat × Nat :=
  match u with
  | .imp _ i => if i % 128 = 65 then (0x03, moves o.len) else (0x0C, 2)
  | .cw c => (0x03, if (s.cw? c).all (fun w => w.pass = 0) then 2 else max 1 (moves o.len))
  | _ => (0x03, max 1 (moves o.len))

/-- A part's chain has been granted: the tag and the stage area are written. -/
def State.landPart (s : State) (o : DieOp) (p : OpPart) (refs : List Nat) : OpPart × State :=
  let r := refs.headD 0
  let s0 := refs.foldl (fun s q => s.setHbuf (refBuf q) { s.hbuf (refBuf q) with cmd := s.useFlight p.use }) s
  let s1 := match p.use with
    | .cw c => match s0.cw? c with
      | some w =>
        let w1 := if w.step = 0 ∧ w.soft = 0 then s0.cwRecord w else w
        let s1 := s0.setCw c { w1 with buf := r }
        s1.stagePut r 16 (s1.cwStage w1)
      | none => s0
    | .cal i => if o.kind = 1 then s0.chainPut refs ((List.range o.len).map (Config.calPattern i)) else s0
    | .imp _ i =>
      if i % 128 = 65 then s0.chainPut refs (List.replicate o.len 0) else
      let off : Int := -32 + 2 * (i % 32 : Nat)
      s0.stagePut r 16 (natLE 2 0 ++ natLE 1 0xFF ++ natLE 1 (s0.rtyClass (s0.die o.ch o.die).cls).1 ++
        natLE 4 (shiftParams 0 off) ++ natLE 4 0)
    | _ => s0
  ({ p with buf := some r, hwait := none }, s1)

/-- Ask for, or collect, the landing chain of one part. -/
def State.landAsk (s : State) (o : DieOp) (p : OpPart) : OpPart × State :=
  if p.buf.isSome then (p, s)
  else match p.hwait with
    | some w =>
      match s.hmp.granted.find? (fun g => g.1 == w) with
      | some (_, refs) => ({ s with hmp := { s.hmp with granted := tdel s.hmp.granted w } }).landPart o p refs
      | none => (p, s)
    | none =>
      let (own, n) := s.landNeed o p.use
      match s.hmpRequest own n (decide (2 ≤ n)) true with
      | (.granted g, s1) => s1.landPart o p g
      | (.waits i, s1) => ({ p with hwait := some i }, s1)
      | (.none, s1) => (p, s1)

/-- The parts of an operation, each with its chain where it could be had. -/
def State.landParts (s : State) (o : DieOp) : List OpPart → List OpPart × State
  | [] => ([], s)
  | p :: l =>
    let (p', s1) := s.landAsk o p
    let (l', s2) := s1.landParts o l
    (p' :: l', s2)

/-- An admitted operation moves on once every part has its chain, an erase at once; a pass of a pattern run (kind 5) is not handed over. The column and length of a
decoded read follow the recorded layout (R365). -/
def State.opAdvance (s : State) (i : Nat) : State :=
  match s.dop? i with
  | none => s
  | some o =>
    if o.st ≠ .admitted ∨ o.kind = 5 then s
    else if o.kind = 2 ∨ (o.kind = 1 ∧ o.parts.all (fun p => p.buf.isSome)) then s.setDop i { o with st := .ready }
    else
      let (ps, s1) := s.landParts o o.parts
      let o1 := match ps.findSome? (fun p => match p.use with | .cw c => s1.cw? c | _ => none) with
        | some w => if w.pass = 0 then { o with col := w.k * cwBytes w.rate, len := cwBytes w.rate } else o
        | none => o
      s1.setDop i { o1 with parts := ps, st := if ps.all (fun p => p.buf.isSome) then .ready else .admitted }

/-- Is a commit of group CH_n in hold (R126, R347)? -/
def State.chHold (s : State) (n : Nat) : Bool := s.port.hold.contains (2 + n)

/-- May the scheduler hand an operation to sequencer `n` (R336, R355)? -/
def State.canHand (s : State) (n : Nat) : Bool :=
  let q := s.sq n
  q.hand.isNone && !q.halted && (q.st == 1 || q.st == 2) && (match q.xch with | some x => !x.entry | none => true)

/-- Hand the oldest operation that is ready to sequencer `n` (R298). -/
def State.handNext (s : State) (n : Nat) : State :=
  if s.canHand n then
    match (s.chOps n).find? (fun p => p.2.st == .ready) with
    | some (i, o) => (s.setDop i { o with st := .handed }).setSq n { s.sq n with hand := some i }
    | none => s
  else s

/-- Move on what can move on channel `n`: collect landing chains, then hand over. -/
def State.chPump (s : State) (n : Nat) : State :=
  (((s.opMove n).chOps n).foldl (fun s p => s.opAdvance p.1) (s.opMove n)).handNext n

/-! ### Admission (R277 to R283) -/

/-- Admit a charge of cost `c` for `dur` µs: the charge of R277. -/
def State.admitCharge (s : State) (c dur : Nat) (p : Payer) : State :=
  let ch := min c (s.rt.bal + s.rt.cap).toNat
  { s with rt := { s.rt with
    bal := s.rt.bal - ch, sumAdm := s.rt.sumAdm + ch, charges := s.rt.charges ++ [{ payer := p, charge := ch, dur }] } }

/-- Is a cost covered (R277)? -/
def State.covered (s : State) (c : Nat) : Bool := decide (((min c s.rt.cap : Nat) : Int) ≤ s.rt.bal)

/-- The entry charged for a decode or transfer request. -/
def State.reqCost (s : State) : LReq → Nat × Nat
  | .dec c => s.cost (match s.cw? c with | some w => if w.softRefs = [] then 0x40 else 0x41 | none => 0x40)
  | .xfer _ _ => s.cost 0x42
  | .push _ => s.cost 0x42

/-- What a request is charged to. -/
def LReq.payer : LReq → Payer
  | .dec c => .dec c
  | .xfer k _ => .xfer k
  | .push t => .push t

/-- An admitted decode starts on its engine; an admitted transfer may move. -/
def State.grantReq (s : State) : LReq → State
  | .dec c => match s.cw? c with
    | some w => (match w.phase with | .asked e => s.setCw c { w with phase := .busy e } | _ => s)
    | none => s
  | .xfer k _ => match s.flight? k with | some f => s.setFlight k { f with xadm := f.xadm + 1 } | none => s
  | .push t =>
    if (tget {} s.map.streams t).state = 0 then s
    else { s with map := { s.map with streams := tset {} s.map.streams t { tget {} s.map.streams t with xadm := true } } }

/-- The queue of requests after one move or decode of the request at place `i` has been admitted. -/
def dropReq : List LReq → Nat → List LReq
  | [], _ => []
  | .xfer k (n + 2) :: l, 0 => .xfer k (n + 1) :: l
  | _ :: l, 0 => l
  | r :: l, i + 1 => r :: dropReq l i

/-- Cost index of a die operation (Table 12-1); a class number counts modulo 16. A pass of a pattern run is one READ (R523). -/
def State.opCostIdx (s : State) (o : DieOp) : Nat :=
  4 * ((s.die o.ch o.die).cls % 16) + (if 4 ≤ o.kind then 0 else o.kind)

/-- Cost of a die operation, once per plane, and its duration. -/
def State.opCost (s : State) (o : DieOp) : Nat × Nat :=
  let (e, d) := s.cost (s.opCostIdx o)
  (e * o.parts.length, d)

/-- The reservation of a program or erase (R281). -/
def State.opRes (s : State) (o : DieOp) : Nat :=
  if o.kind = 1 ∨ o.kind = 2 then ((s.opCost o).1 * (8 + s.get F.RATION_HU_HU_MARGIN) + 7) / 8 else 0

/-- Die operations presented to the ledger, in the order of R278; while a calibration is in hand, only its own (R275). -/
def State.presented (s : State) : List (Nat × DieOp) :=
  let l := s.dops.filter (fun p => p.2.st == .granted && (s.rt.cal.isNone || p.2.isCal))
  l.foldr (fun p acc =>
    let (a, b) := acc.span (fun q => decide (s.carried p.2 < s.carried q.2)
      || (s.carried p.2 == s.carried q.2 && (decide (q.2.arr < p.2.arr) || (q.2.arr == p.2.arr && decide (q.2.ch < p.2.ch)))))
    a ++ p :: b) []

/-- Is a die operation held back by a blocking one that arrived before it (R278)? -/
def State.heldBack (s : State) (i : Nat) (o : DieOp) : Bool :=
  s.dops.any (fun p => p.2.blocking && p.2.st == .granted && (decide (p.2.arr < o.arr) || (p.2.arr == o.arr && decide (p.1 < i))))

/-- What the hold-up account says of a die operation: 0 admits, 1 can never be admitted, 2 waits for other reservations,
3 waits for HOLDUP_OK (R282, R283). -/
def State.huAnswer (s : State) (o : DieOp) : Nat :=
  if o.kind ≠ 1 ∧ o.kind ≠ 2 then 0
  else if s.holdOk (s.opMax o) = false ∨ s.rt.avail < s.opRes o then 1
  else if s.aon.holdupOk = false then 3
  else if s.rt.avail < ((s.huOut + s.opRes o : Nat) : Int) then 2
  else 0

/-- An operation begins to wait, or goes on waiting, on the hold-up account (R283). -/
def State.huWait (s : State) (i : Nat) (o : DieOp) (a : Nat) : State :=
  let from' := if a = 3 then (match o.huFrom with | some t => some t | none => some s.clock) else none
  if o.huWaited then s.setDop i { o with huFrom := from' }
  else ((s.setDop i { o with huFrom := from', huWaited := true }).addF F.RATION_STATS_HU_WAITS 1).rationEvent
    F.RATION_EVT_HU_WAIT 9 (o.ch + b2n (a == 3) * 2 ^ 16)

/-- An operation presented and not covered begins its wait on the supply account (R278). -/
def State.supplyWait (s : State) (i : Nat) (o : DieOp) : State :=
  match o.waitFrom with
  | some _ => s
  | none => (s.setDop i { o with waitFrom := some s.clock }).addF F.RATION_STATS_STALLS 1

/-- What a decision finds of one presented operation: it is refused when the hold-up account can never admit it; otherwise it waits on each
account that does not cover it. -/
def State.examineOp (s : State) (i : Nat) : State :=
  match s.dop? i with
  | none => s
  | some o =>
    let a := s.huAnswer o
    if a = 1 then s.refuseOp o
    else
      let s1 := if s.covered (s.opCost o).1 then s else s.supplyWait i o
      if a = 0 then s1 else s1.huWait i ((s1.dop? i).getD o) a

/-- Do both accounts admit the operation now, and no blocking one holds it back? -/
def State.admits (s : State) (i : Nat) (o : DieOp) : Bool :=
  s.covered (s.opCost o).1 && s.huAnswer o == 0 && !s.heldBack i o

/-- Admit a die operation. -/
def State.admitOp (s : State) (i : Nat) (o : DieOp) : State :=
  let (c, d) := s.opCost o
  ((s.admitCharge c d (.op i)).setDop i
    { o with st := .admitted, res := s.opRes o, dur := d, blocking := false, waitFrom := none, huFrom := none }).chPump o.ch

/-- The first request that is covered, with its place. -/
def State.firstReq (s : State) : Option (Nat × LReq) := (withIdx s.rt.reqs).find? (fun p => s.covered (s.reqCost p.2).1)

/-- ADMISSION_DECISION (R278): one decision. Operations presented and not covered begin their waits, and the first request that is covered,
decodes and transfers before die operations, is admitted. In REMOVING, decodes and transfers pass without charge and no die operation is
admitted (R279). -/
def admissionDecision (s : State) : State :=
  if s.st = stRemoving then
    match s.rt.reqs with
    | r :: _ => ({ s with rt := { s.rt with reqs := dropReq s.rt.reqs 0 } }).grantReq r
    | [] => s
  else if s.rt.on = false then s
  else
    let s0 := if s.works = false ∨ s.therm.stop then s else (s.presented.map (·.1)).foldl State.examineOp s
    match s0.firstReq with
    | some (j, r) =>
      let (c, d) := s0.reqCost r
      let s1 := s0.admitCharge c d r.payer
      ({ s1 with rt := { s1.rt with reqs := dropReq s1.rt.reqs j } }).grantReq r
    | none =>
      if s.works = false ∨ s.therm.stop then s0
      else match s0.presented.find? (fun p => s0.admits p.1 p.2) with
        | some (i, o) => s0.admitOp i o
        | none => s0

/-- STARVE (R278): die operation `i` has waited `STARVE_US` on the supply account. One that waits only for other reservations never
becomes blocking (R283). -/
def starve (i : Nat) (s : State) : State :=
  match s.dop? i with
  | some o =>
    match o.waitFrom with
    | some t =>
      let lim := s.get F.RATION_WAIT_STARVE_US
      if o.st = .granted ∧ o.blocking = false ∧ lim ≠ 0 ∧ lim ≤ s.clock - t ∧ ¬(s.covered (s.opCost o).1 ∧ s.huAnswer o = 2) then
        (s.setDop i { o with blocking := true }).rationEvent F.RATION_EVT_STARVE 8 o.ch
      else s
    | none => s
  | none => s

/-- HU_WAIT_TIMEOUT (R283): HOLDUP_OK has stayed low for `HU_WAIT_MS` while die operation `i` waited for it. -/
def huWaitTimeout (i : Nat) (s : State) : State :=
  match s.dop? i with
  | some o =>
    match o.huFrom with
    | some t =>
      let lim := s.get F.RATION_WAIT_HU_WAIT_MS
      if o.st = .granted ∧ s.aon.holdupOk = false ∧ lim ≠ 0 ∧ lim * 1000 ≤ s.clock - t then s.refuseOp o else s
    | none => s
  | none => s

/-- HOLDUP_OK_CHANGE (R284): the HOLDUP_OK input takes a level. -/
def holdupOkChange (level : Bool) (s : State) : State :=
  let s1 := { s with aon := { s.aon with holdupOk := level } }
  if level then { s1 with dops := s1.dops.map (fun p => (p.1, { p.2 with huFrom := none })) } else s1

/-! ### The cost table and settings in PS (R272 to R274) -/

/-- The cost record. -/
def costRecord : PairRec := ⟨0x84000, 552⟩

/-- The Ration settings record. -/
def rationRecord : PairRec := ⟨0x84800, 32⟩

/-- Copy `c` of the cost record lies in a 1 KiB area (R273). -/
def State.costCopy (s : State) (c : Nat) : List Byte := s.psRead (0x84000 + c * 0x400) 552

/-- Does a copy of the cost table pass its check (R273)? -/
def costOk (l : List Byte) : Bool :=
  copyOk l && allZero (sliceB l 8 8) && (List.range 67).all (fun i =>
    let e := 16 + 8 * i
    leAt l (e + 3) 1 == 0 && leAt l (e + 4) 2 != 0 && leAt l (e + 6) 2 == 0)

/-- Does a copy of the Ration settings pass its check (R460)? -/
def rationOk (l : List Byte) : Bool :=
  let cfg := leAt l 8 4
  let isns := leAt l 16 4
  copyOk l && decide (0x1F4 ≤ bits cfg 16 16 ∧ bits cfg 16 16 ≤ 0x2710) && bits cfg 12 4 == 0 && bits cfg 0 8 != 0
    && bits isns 24 8 == 0 && decide (0x32 ≤ bits isns 16 8 ∧ bits isns 16 8 ≤ 0x64) && bits isns 10 6 == 0
    && decide (1 ≤ bits isns 0 10 ∧ bits isns 0 10 ≤ 0x3E8) && allZero (sliceB l 20 12)

/-- Does copy `c` of the cost table pass its check? -/
def State.costPass (s : State) (c : Nat) : Bool := s.psWhole (0x84000 + c * 0x400) && costOk (s.costCopy c)

/-- The cost table as SAVE writes it. -/
def State.costBody (s : State) : List Byte :=
  natLE 8 0 ++ (List.range 67).flatMap (fun i => natLE 4 (s.cost i).1 ++ natLE 4 (s.cost i).2)

/-- The defaults of Table 12-1 for the whole table. -/
def State.costDefaults (s : State) : State :=
  ((List.range 67).foldl (fun s i => (s.set F.COST_E_ENERGY (costDefault i).1 i).set F.COST_D_DUR_US (costDefault i).2 i) s).set
    F.RATION_TBL_SRC 0

/-- Choose between two copies, knowing which pass their check, as R460 sets out. -/
def pickCopy (a b : List Byte) (okA okB : Bool) : Option (List Byte) :=
  match okA, okB with
  | true, true => if genAbove (leAt b 0 4) (leAt a 0 4) then some b else some a
  | true, false => some a
  | false, true => some b
  | false, false => none

/-- Load the cost table and the settings at the Trailhead (R273). -/
def State.rationLoad (s : State) : State :=
  let s1 := match pickCopy (s.costCopy 0) (s.costCopy 1) (s.costPass 0) (s.costPass 1) with
    | some l => ((List.range 67).foldl (fun (s : State) i =>
        (s.set F.COST_E_ENERGY (leAt l (16 + 8 * i) 3) i).set F.COST_D_DUR_US (leAt l (20 + 8 * i) 2) i) s).set F.RATION_TBL_SRC 1
    | none => s.costDefaults
  match s1.copyInUse rationRecord rationOk with
  | some l =>
    let w (o : Nat) : Word := BitVec.ofNat 32 (leAt l o 4)
    (((((s1.setReg 0x3102 (w 8)).setStaged 0x3102 (w 8)).setReg 0x3103 (w 12)).setStaged 0x3103 (w 12)).setReg 0x3107 (w 16))
  | none => s1

/-- SAVE: the copy that R460 chooses, at its place in the 1 KiB area (R273). -/
def State.rationSave (s : State) : State :=
  let a := s.costCopy 0
  let b := s.costCopy 1
  let ga := leAt a 0 4
  let gb := leAt b 0 4
  let (c, g) : Nat × Nat := match s.costPass 0, s.costPass 1 with
    | true, true => if genAbove ga gb then (1, (ga + 1) % 2 ^ 32) else (0, (gb + 1) % 2 ^ 32)
    | true, false => (1, (ga + 1) % 2 ^ 32)
    | false, true => (0, (gb + 1) % 2 ^ 32)
    | false, false => (0, 1)
  let body := s.costBody
  let (ok, s1) := s.psWrite (0x84000 + c * 0x400) (natLE 4 g ++ natLE 4 (crc32 body) ++ body ++ natLE 472 0)
  if ok then
    (s1.writePair rationRecord rationOk
      (natLE 4 (s.reg 0x3102).toNat ++ natLE 4 (s.reg 0x3103).toNat ++ natLE 4 (s.reg 0x3107).toNat)).2
  else s1

/-! ### Calibration (R275) -/

/-- The operations of step 3, as (kind, page of the block): an erase, 16 programs, 64 reads, 64 soft reads, an erase. -/
def calSteps : List (Nat × Nat) :=
  (2, 0) :: (List.range 16).map (fun i => (1, i)) ++ (List.range 64).map (fun i => (0, i % 16))
    ++ (List.range 64).map (fun i => (3, i % 16)) ++ [(2, 0)]

/-- The energy above idle, time and count of the operations of a kind. -/
def RationCal.sum (r : RationCal) (k : Nat) : Int × (Nat × Nat) := tget (0, (0, 0)) r.sums k

/-- The mean energy and the mean duration of a kind, rounded up, within the ranges of R272 (step 4). -/
def RationCal.mean (r : RationCal) (k : Nat) : Nat × Nat :=
  let (e, t, n) := r.sum k
  (min 0xFFFFFF ((e.toNat + 100 * n - 1) / (100 * n)), max 1 (min 0xFFFF ((t + n - 1) / n)))

/-- Write entry `i` of the cost table. -/
def State.setCost (s : State) (i : Nat) (v : Nat × Nat) : State := (s.set F.COST_E_ENERGY v.1 i).set F.COST_D_DUR_US v.2 i

/-- Step 4: the means enter the table, and die work resumes. -/
def State.calFinish (s : State) (r : RationCal) : State :=
  let s1 := (List.range 4).foldl (fun (s : State) k => s.setCost (4 * (r.cls % 16) + k) (r.mean k)) s
  let s2 := r.means.foldl (fun (s : State) m =>
    if 4 ≤ m.1 ∧ m.1 < 7 then s.setCost (0x3C + m.1) (min 0xFFFFFF m.2.1, max 1 (min 0xFFFF m.2.2)) else s) s1
  (({ s2 with rt := { s2.rt with cal := none } }).set F.RATION_TBL_SRC 2).calCode 1

/-- The calibration presents its next operation to the ledger, at priority 7: no die scheduler takes part, since no other die work runs. -/
def State.calNext (s : State) (r : RationCal) : State :=
  match r.left with
  | [] => s.calFinish r
  | (kd, pg) :: rest =>
    let i := s.nextOp
    let v := s.die r.ch r.die
    let o : DieOp := {
      ch := r.ch, kind := kd, die := r.die, parts := [⟨r.row + pg, .cal (pg + 1), none, none⟩], len := if kd = 2 then 0 else v.pageBytes,
      prioFix := 7, arr := s.clock, st := .granted }
    let s1 := { s.setDop i o with nextOp := i + 1 }
    { s1 with rt := { s1.rt with cal := some { r with left := rest, cur := some (kd, i) } } }

/-- Is any die work of other origin under way? -/
def State.dieWork (s : State) : Bool :=
  s.dops.any (fun p => p.2.st != .queued && p.2.st != .waiting && p.2.st != .granted && !p.2.isCal)

/-- A calibration counts one update in which `meas` was measured: of the idle device once no die work is left, then of the operation that
its sequencer has taken. -/
def State.calTick (s : State) (meas : Int) : State :=
  match s.rt.cal with
  | none => s
  | some r =>
    let put (r : RationCal) : State := { s with rt := { s.rt with cal := some r } }
    match r.cur with
    | none =>
      if r.idleN = 0 ∧ s.dieWork then s
      else
        let r1 := { r with idleN := r.idleN + 1, idle := r.idle + meas }
        if r1.idleN < 100 then put r1 else s.calNext { r1 with left := calSteps }
    | some (kd, i) =>
      if (s.dop? i).any (fun o => match o.st with | .open _ => true | _ => false) then
        let v := r.sum kd
        put { r with sums := tput r.sums kd (v.1 + 100 * meas - r.idle, (v.2.1 + 1, v.2.2)) }
      else s

/-- The calibration's operation `i` has ended, and the next one follows. -/
def State.calOpEnd (s : State) (i : Nat) : State :=
  match s.rt.cal with
  | some r =>
    match r.cur with
    | some (kd, j) =>
      if i = j then
        let v := r.sum kd
        s.calNext { r with cur := none, sums := tput r.sums kd (v.1, (v.2.1, v.2.2 + 1)) }
      else s
    | none => s
  | none => s

/-- CALIBRATE of class `c`. The means that it will measure of the decodes and the host-free transfers come with the command; those of the
die operations are what the ledger measures while they run. -/
def State.rationCalibrate (s : State) (c : Nat) (means : List (Nat × (Nat × Nat))) : State :=
  let a := (s.reg 0x3146).toNat
  let ch := bits a 24 3
  let d := bits a 27 3 * 4 + bits a 30 2
  let v := s.die ch d
  let row := bits a 0 24
  if s.rt.isns = false ∨ s.rt.on = false then s.calCode 2
  else if v.state ≠ 1 ∨ v.cls ≠ c then s.calCode 3
  else if s.regionOk ch (v.blockOf row) true = false then s.calCode 4
  else if s.rt.cal.isSome then s
  else ({ s with rt := { s.rt with cal := some { cls := c, ch, die := d, row := row - row % v.pages, means } } }).set F.RATION_CAL_STAT_BUSY 1

/-! ### The ledger update (R270, R271, R276, R280, R281) -/

/-- One update of the ledger (R276): `vT` is the voltage at ISNS_T in mV, `diff` the differential reading in units of 10 µV, `onDie` the
energy sensed on die, in units of 1/256 µJ. -/
def ledgerMove (vT : Nat) (diff : Int) (onDie : Nat) (s : State) : State :=
  if s.rt.on = false then s
  else
    let d := s.derates
    let num := s.rt.frac + s.budget.1 * 256 * s.sixteenths d
    let refill := num / 16000
    let meas := s.measured vT diff onDie
    let shares := s.rt.charges.foldl (fun n c => n + c.next) 0 + s.rt.back
    let cap := s.capNow d
    let b := max (-(cap : Int)) (min (cap : Int) (s.rt.bal + refill - meas + shares))
    let charges := (s.rt.charges.map (fun c => { c with done := c.done + 1 })).filter (fun c => decide (c.done < c.dur))
    let u := s.rt.upd + 1
    let sumIn := s.rt.sumIn + meas
    let s1 := { s with rt := { s.rt with
      bal := b, frac := num % 16000, charges, back := 0, cap, avail := s.availNow, derated := d, upd := u % 1000,
      sumIn := if u = 1000 then 0 else sumIn, sumAdm := if u = 1000 then 0 else s.rt.sumAdm } }
    let s2 := if u = 1000 then
        (s1.set F.RATION_MEAS_P_IN_MW (min 0xFFFF (sumIn / 256).toNat)).set F.RATION_MEAS_P_ADMIT_MW (min 0xFFFF (s.rt.sumAdm / 256))
      else s1
    let s3 := if d = s.rt.derated then s2 else s2.rationEvent F.RATION_EVT_DERATE 11 (b2n d)
    (s3.isnsCheck diff).calTick meas

/-- A write of RATION_CTL. -/
def State.rationCtl (s : State) (v : Word) (means : List (Nat × (Nat × Nat))) : State :=
  if bits v.toNat 24 8 ≠ 0xD2 then s.fieldError
  else match bits v.toNat 0 2 with
    | 1 => s.rationSave
    | 2 => s.costDefaults
    | 3 => s.rationCalibrate (bits v.toNat 12 4) means
    | _ => s.fieldError

end Sys2Proof.Machine
end

