-- ==== Sys2Proof/Machine/Codec.lean ====
section
/-!
DEFINITION. The codec (ch. 16): taking codewords, decode attempts, read-retry and soft decoding, outcomes; encoding of program
pages; the codec settings in PS.
-/

namespace Sys2Proof.Machine

/-! ### Engines -/

/-- The engine a codeword holds. -/
def Cw.engine (w : Cw) : Option Nat := match w.phase with | .asked e => some e | .busy e => some e | _ => none

/-- Is LDPC_e free? -/
def State.engineFree (s : State) (e : Nat) : Bool := s.cws.all (fun p => p.2.engine != some e)

/-- Does a soft decode wait for an engine? -/
def State.softWaits (s : State) : Bool := s.cws.any (fun p => p.2.phase == .softWait)

/-- The engine a hard decode takes (R372). -/
def State.hardEngine (s : State) : Option Nat :=
  if s.engineFree 2 then some 2 else if s.engineFree 3 then some 3
  else if s.softWaits then none
  else if s.engineFree 0 then some 0 else if s.engineFree 1 then some 1 else none

/-- Present a decode attempt on engine `e` to the ledger (R278). -/
def State.askDecode (s : State) (c e : Nat) (w : Cw) : State :=
  let s1 := s.setCw c { w with phase := .asked e }
  { s1 with rt := { s1.rt with reqs := s1.rt.reqs ++ [.dec c] } }

/-- Give free soft engines to the soft decodes that wait, oldest first (R372). -/
def State.softAdvance (s : State) : State :=
  s.cws.foldl (fun s p =>
    if p.2.phase = .softWait then
      if s.engineFree 0 then s.askDecode p.1 0 p.2 else if s.engineFree 1 then s.askDecode p.1 1 p.2 else s
    else s) s

/-! ### Creating and ending codewords -/

/-- Start the read of a codeword, or the raw read of a range of its page from `col` on: the read leaves for the die scheduler. -/
def State.cwStart (s : State) (w : Cw) (col : Nat := 0) : State :=
  let c := s.nextCw
  let s1 := { s.setCw c w with nextCw := c + 1 }
  s1.addOp { ch := w.ch, kind := 0, die := w.die, parts := [⟨w.row, .cw c, none, none⟩], prioQ := w.prioQ, prioFix := w.prioFix, col,
             len := w.pass }

/-- Forget a codeword. -/
def State.delCw (s : State) (c : Nat) : State := { s with cws := tdel s.cws c }

/-- Release a chain held under CODEC. -/
def State.freeChain (s : State) (r : Nat) : State := if 0x10000 ≤ r then s else s.hmpRelease r 3

/-- Post codec event `k` for a codeword (Table 16-5). -/
def State.codecEvent (s : State) (k : Nat) (w : Cw) : State :=
  s.postBit F.CODEC_EVT_SRC 256 k (packAddr w.ch w.die w.row + w.k * 2 ^ 32)

/-- Record the codeword of an UNCORRECTABLE or MISPLACED outcome (R385). -/
def State.lastFail (s : State) (w : Cw) (o : Nat) : State :=
  ((s.set F.LAST_FAIL_ADDR (packAddr w.ch w.die w.row)).set F.LAST_FAIL_CW_OUTCOME o).set F.LAST_FAIL_CW_CW w.k

/-- Count an outcome (DEC_CNT). -/
def State.countOutcome (s : State) (o : Nat) : State :=
  if o = 0 then s.addF F.DEC_CNT_0_HARD 1 else if o = 1 then s.addF F.DEC_CNT_0_RETRY 1
  else if o = 2 then s.addF F.DEC_CNT_1_SOFT 1 else if o = 3 then s.addF F.DEC_CNT_2_ERASED 1
  else if o = 8 then s.addF F.DEC_CNT_1_UNCORR 1 else if o = 9 then s.addF F.DEC_CNT_2_MISPLACED 1 else s

/-- The queue a codeword leaves the codec through. -/
def Cw.outQueue (w : Cw) : Nat := match w.use with | .mapPage _ _ => 35 | _ => 18

/-- The entry of a codeword that has its outcome (R376). -/
def Cw.entry (w : Cw) (c : Nat) : FqEntry :=
  { data := natLE 2 w.buf ++ natLE 1 w.outcome ++ natLE 1 w.step ++ natLE 2 w.bitsFixed
      ++ natLE 2 (match w.flight with | some k => k % 1024 + 2 ^ 15 | none => 0) ++ natLE 4 (packAddr w.ch w.die w.row) ++ natLE 1 w.k ++ natLE 3 0
    flight := w.flight, orig := w.use.origin, bufs := if 0x10000 ≤ w.buf then [] else [w.buf], work := .cw c }

/-- Codewords with an outcome leave in order, each as its queue has a credit (R15, R16). -/
def State.cwFlush (s : State) : State :=
  s.cwOut.foldl (fun (s : State) c =>
    match s.cw? c with
    | none => { s with cwOut := s.cwOut.filter (· != c) }
    | some w =>
      let blocked := (s.cwOut.takeWhile (· != c)).any (fun d => (s.cw? d).any (fun x => x.outQueue == w.outQueue))
      if blocked = false ∧ s.qCan w.outQueue 1 0 then { (s.qPut w.outQueue (w.entry c)) with cwOut := s.cwOut.filter (· != c) } else s) s

/-- A codeword has its outcome: it passes, with its kept chain `r`, to Q_18, or to Q_35 for a map page (R376). -/
def State.cwDone (s : State) (c : Nat) (w : Cw) (o r : Nat) : State :=
  let s1 := (s.stagePut r 36 (natLE 1 o)).countOutcome o
  let s2 := if o = 8 ∨ o = 9 then s1.lastFail w o else s1
  let s3 := s2.setCw c { w with phase := .done, outcome := o, buf := r, kept := none, softRefs := [] }
  ({ s3 with cwOut := s3.cwOut ++ [c] }).cwFlush

/-- Release the chains of a codeword other than `r`. -/
def State.cwFreeOthers (s : State) (w : Cw) (r : Nat) : State :=
  let l := (match w.kept with | some k => [k.1] | none => []) ++ w.softRefs ++ [w.buf]
  ((l.dedup).filter (· != r)).foldl State.freeChain s

/-- The chain that passes on when a codeword fails: the kept one, or the one in hand. -/
def Cw.keptRef (w : Cw) : Nat := match w.kept with | some k => k.1 | none => w.buf

/-- A codeword ends UNCORRECTABLE after decoding was tried (R375, R385). -/
def State.cwUncorr (s : State) (c : Nat) (w : Cw) : State :=
  let r := w.keptRef
  (((s.cwFreeOthers w r).codecEvent 0 w).cwDone c w 8 r).softAdvance

/-- The first hard read of a codeword was closed other than passed (R351): no decode was made. -/
def State.cwReadFailed (s : State) (c : Nat) : State :=
  match s.cw? c with
  | some w => if w.step = 0 ∧ w.soft = 0 then s.cwDone c w 8 w.buf else s.cwUncorr c w
  | none => s

/-! ### Taking a codeword (R372, R374) -/

/-- Could a landing chain for a retry read be requested (R372)? -/
def State.retryChainOk (s : State) : Bool := s.hmpRoom 3 2 && s.hmp.waits.all (fun w => ownerPool w.owner != ownerPool 3)

/-- The unit of codeword `c` is lost, its buffers stale (R261): its command completes INTERNAL_ERROR; without a command it counts as
UNCORRECTABLE. -/
def State.cwLost (s : State) (c : Nat) (w : Cw) : State :=
  let s1 := s.staleRef w.buf 3
  match w.flight with
  | some k => ((s1.cwFreeOthers w w.buf).delCw c).unitLost (some k)
  | none => s1.cwUncorr c { w with buf := 0x10000 }

/-- The raw bytes of the read in hand. -/
def State.cwRaw (s : State) (w : Cw) (r : Nat) : List Byte := s.chainData r (cwBytes w.rate)

/-- Is a commit of group CODEC in hold? -/
def State.codecHold (s : State) : Bool := s.port.hold.contains 0x0A

/-- The next soft read is sent, or the soft decode waits for an engine when all have landed (R381, R382). -/
def State.softNext (s : State) (c : Nat) (w : Cw) : State :=
  if w.softLeft = 0 then (s.setCw c { w with phase := .softWait }).softAdvance
  else
    let w1 := { w with soft := w.soft + 1, softLeft := w.softLeft - 1, phase := .reading }
    ((s.setCw c w1).addF F.RTY_COUNT_SOFT_READS 1).addOp
      { ch := w.ch, kind := 3, die := w.die, parts := [⟨w.row, .cw c, none, none⟩], prioQ := w.prioQ, prioFix := w.prioFix,
        step := w.step }

/-- A raw read passes the codec with its bytes as they landed. -/
def State.cwPass (s : State) (c : Nat) (w : Cw) : State := s.cwDone c { w with data := s.chainData w.buf w.pass } 0xB w.buf

/-- Can the codec take on anything more: has every outcome and every read it made a place (R15)? -/
def State.codecTakes (s : State) : Bool := s.cwOut.isEmpty && !s.opStall true

/-- Has channel `n` no codeword that the codec could take now? -/
def State.cwNone (s : State) (n : Nat) : Bool :=
  match s.qWork (10 + n) with
  | .cw c => (s.cw? c).any (fun w => w.phase == .landed && w.pass == 0
      && ((s.codecHold && w.step == 0 && w.soft == 0) || s.hardEngine.isNone || !s.retryChainOk))
  | _ => true

/-- Is it the turn of channel `n`: does none of the channels from the one after that last served up to it hold a codeword to take? -/
def State.codecTurnOk (s : State) (n : Nat) : Bool :=
  (List.range ((n + 8 - s.codecTurn) % 8)).all (fun i => s.cwNone ((s.codecTurn + i) % 8))

/-- CODEWORD_TAKE (R372): in turn across the channels, the oldest codeword of Q_10 + n is taken when an engine can take it and a retry chain could be
had; a codeword with few 0 bits is ERASED without decoding (R374), and a raw read passes without an engine (R371). While a commit of group CODEC is in hold no codeword that begins is
taken; the reads of sequences that run are (R126). An entry of an abandoned codeword is taken and dropped. -/
def codewordTake (n : Nat) (s : State) : State :=
  if 8 ≤ n ∨ s.codecTakes = false ∨ s.codecTurnOk n = false then s
  else match s.qWork (10 + n) with
    | .cw c =>
      let s1 := { s.qTake (10 + n) with codecTurn := (n + 1) % 8 }
      (match s.cw? c, s.hardEngine with
      | some w, some e =>
        if w.phase ≠ .landed then s1
        else if w.pass ≠ 0 then s1.cwPass c w
        else if (s.codecHold ∧ w.step = 0 ∧ w.soft = 0) ∨ s.retryChainOk = false then s
        else if (s.chainStale w.buf 2).isSome then s1.cwLost c w
        else if w.soft ≠ 0 then s1.softNext c { w with softRefs := w.softRefs ++ [w.buf] }
        else if w.step = 0 ∧ zeroBits (s1.cwRaw w w.buf) ≤ s.get F.CODEC_CFG_ERASED_ZEROS then s1.cwDone c w 3 w.buf
        else s1.askDecode c e w
      | none, _ => s1
      | some w, none => if w.phase ≠ .landed then s1 else if w.pass ≠ 0 then s1.cwPass c w else s)
    | _ => s

/-! ### Decode attempts (R373, R375, R376, R378 to R382) -/

/-- The steps of a retry sequence (R378). -/
def retrySteps (learned count most : Nat) : List Nat :=
  let l := if learned = 0 then 1 else learned
  let up := (List.range (count + 1)).filter (fun i => decide (l ≤ i))
  let low := (List.range l).filter (fun i => decide (1 ≤ i))
  (up ++ low).take most

/-- Send the retry read of the next step. -/
def State.retryNext (s : State) (c : Nat) (w : Cw) (st : Nat) (rest : List Nat) : State :=
  let w1 := { w with step := st, left := rest, phase := .reading }
  ((s.setCw c w1).addF F.RTY_COUNT_RETRY_READS 1).addOp
    { ch := w.ch, kind := 4, die := w.die, parts := [⟨w.row, .cw c, none, none⟩], prioQ := w.prioQ, prioFix := w.prioFix,
      step := st }

/-- A retry sequence, or the base read alone, has ended without success: a soft decode, or UNCORRECTABLE (R381). -/
def State.softStart (s : State) (c : Nat) (w : Cw) : State :=
  if s.get F.RTY_CFG_SOFT_EN = 0 ∨ s.st = stLimited then s.cwUncorr c w
  else
    let w1 := { w with
      step := (match w.kept with | some k => k.2.1 | none => w.step), soft := 0,
      softLeft := if s.get F.RTY_CFG_SOFT5 = 0 then 2 else 4 }
    (s.codecEvent 1 w).softNext c w1

/-- A hard attempt has failed with so many unsatisfied checks: the better chain is kept and the sequence goes on. -/
def State.hardFailed (s : State) (c : Nat) (w : Cw) (unsat : Nat) : State :=
  let (s1, w1) : State × Cw := match w.kept with
    | none => (s, { w with kept := some (w.buf, (w.step, unsat)) })
    | some k =>
      if unsat < k.2.2 then (s.freeChain k.1, { w with kept := some (w.buf, (w.step, unsat)) })
      else (s.freeChain w.buf, { w with buf := k.1 })
  if w.step = 0 then
    if s.get F.RTY_CFG_RTY_EN = 0 then s1.softStart c w1
    else
      let cnt := (s.rtyClass w.cls).2.1
      let learned := if s.st = stLimited then 0 else (s.die w.ch w.die).learn
      match retrySteps learned cnt (s.get F.RTY_CFG_RTY_MAX) with
      | st :: rest => s1.retryNext c { w1 with learnOn := s.get F.RTY_CFG_LEARN == 1 && s.st != stLimited } st rest
      | [] => s1.softStart c w1
  else match w1.left with
    | st :: rest => s1.retryNext c w1 st rest
    | [] => s1.softStart c w1

/-- A decode has succeeded with the codeword `x`: the payload enters the first buffer of the chain, the second is unlinked
and released (R376). -/
def State.cwSuccess (s : State) (c : Nat) (w : Cw) (r iter : Nat) (x raw : List Byte) (o : Nat) : State :=
  let fixedBits := bitsDiffer x raw
  let s1 := s.cwFreeOthers w r
  let v := s1.hbuf (refBuf r)
  let s2 := (s1.hmpPut (refBuf r) 0 (x.take 4096))
  let s3 := s2.setHbuf (refBuf r) { s2.hbuf (refBuf r) with next := none, len := 4096 }
  let s4 := match v.next with | some q => s3.freeChain q | none => s3
  let s5 := (s4.set F.DEC_PEAK_ITER_MAX (max iter (s4.get F.DEC_PEAK_ITER_MAX))).set F.DEC_PEAK_BITS_MAX
    (max fixedBits (s4.get F.DEC_PEAK_BITS_MAX))
  let s6 := if o = 1 ∧ w.learnOn then s5.setDie w.ch w.die { s5.die w.ch w.die with learn := w.step } else s5
  s6.cwDone c { w with bitsFixed := fixedBits, data := x.take 4112 } o r

/-- DECODE_END (R373): the attempt on engine `e` ends after `iter` iterations with `unsat` unsatisfied checks and, when its
syndrome is zero, the codeword `word`. -/
def decodeEnd (e iter unsat : Nat) (word : Option (List Byte)) (s : State) : State :=
  match s.cws.find? (fun p => p.2.phase == .busy e) with
  | none => s
  | some (c, w) =>
    let soft := !w.softRefs.isEmpty
    let r := if soft then w.keptRef else w.buf
    let s0 := (s.chargeEnd (.dec c)).stagePut r 37 (natLE 1 iter ++ natLE 2 unsat)
    let fail (s : State) : State := if soft then s.cwUncorr c w else (s.hardFailed c w unsat).softAdvance
    match word with
    | none => fail s0
    | some x =>
      if x.length ≠ cwBytes w.rate ∨ syndromeZero (cwParity w.rate) x = false then fail s0
      else if dcrcOk x = false then fail ((s0.codecEvent 3 w).addF F.DEC_CNT_2_MISCORR 1)
      else if leAt x 4096 4 ≠ w.xtag then
        (((s0.cwFreeOthers w r).codecEvent 2 w).cwDone c w 9 r).softAdvance
      else
        let raw := randomise w.seed (s0.cwRaw w r)
        let o := if soft then 2 else if w.step = 0 then 0 else 1
        (s0.cwSuccess c w r iter x raw o).softAdvance

/-- Stop a codeword: no further read is sent, its outcome is ABANDONED (Table 16-7). An attempt under way ends with it, and its share comes
back (R276). The entry of Q_10 + n that a read of it has begun is left to the codec, which drops it. -/
def State.cwAbandon (s : State) (c : Nat) : State :=
  match s.cw? c with
  | none => s
  | some w =>
    if w.phase = .done then s
    else
      let use := OpUse.cw c
      let mine := s.dops.any (fun p => p.2.parts.any (fun x => x.use == use && x.buf == some w.buf))
      let w := if mine then { w with buf := 0x10000 } else w
      let s1 := { s with
        dops := s.dops.map (fun (p : Nat × DieOp) => (p.1, { p.2 with
          parts := p.2.parts.map (fun (x : OpPart) => if x.use = use then { x with use := OpUse.cal 0 } else x) }))
        rt := { s.rt with reqs := s.rt.reqs.filter (fun r => r != LReq.dec c) } }
      let r := w.keptRef
      (((s1.qDone (10 + w.ch % 8) (.cw c)).cwFreeOthers w r).cwDone c w 0xA r).chargeEnd (.dec c)

/-! ### Encoding (R365, R368 to R370) -/

/-- What the encoding of a page takes from the settings: rate and codewords per page of its class, and RND_CFG. -/
structure EncPar where
  rate : Nat
  cpp : Nat
  rnd : Nat
  deriving DecidableEq, Repr

/-- The settings in force for class `c`. -/
def State.encPar (s : State) (c : Nat) : EncPar := ⟨(s.layout c).1, (s.layout c).2, (s.reg 0x2640).toNat⟩

/-- The image of a page from its data (R365, R368): codewords at their columns, 0xFF after them. -/
def pageImage (p : EncPar) (die row kind pageBytes : Nat) (data : List Byte) : List Byte :=
  let cws := (List.range p.cpp).flatMap (fun k =>
    randomise (seedOf p.rnd row k) (cwBuild (cwParity p.rate) (cwTag row k die) kind (sliceB data (4096 * k) 4096)))
  cws ++ List.replicate (pageBytes - cws.length) (0xFF : Byte)

/-- The settings that the pages of a PROGRAM_RAW are encoded with: those in force when its first page entered Q_25, which its record
keeps. -/
def State.flightPar (s : State) (f : Flight) (c : Nat) : EncPar :=
  match f.units with
  | (rate, cpp) :: (rnd, _) :: _ => ⟨rate, cpp, rnd⟩
  | _ => s.encPar c

/-- ENCODE (R368): page `i` of the PROGRAM_RAW in flight `k` passes Q_25, is encoded, or passed through, into a chain under CODEC, and its
program leaves through Q_26 + n for the die scheduler. The encode of a command that has been stopped is abandoned, and Q_26 + n rewound
(R230). -/
def codecEncode (k i : Nat) (s : State) : State :=
  match s.flight? k with
  | none => s
  | some f =>
    let (ch, d, row) := rawAddr f.bytes
    let v := s.die ch d
    let enc := bit (leAt f.bytes 18 1) 1
    if leAt f.bytes 0 1 ≠ 0x10 ∨ f.run = false ∨ f.phase = .ready ∨ leAt f.bytes 19 1 ≤ i ∨ f.sent ≠ i ∨ s.qOpen 25 1 0 = false
        ∨ s.opStall true then s
    else if f.fails ≠ 0 then (s.setFlight k { f with sent := leAt f.bytes 19 1 }).fqRewindQ (26 + ch % 8)
    else
      let p := s.flightPar f v.cls
      let size := if enc then 4096 * p.cpp else v.pageBytes
      let data := readBytes 0 f.data (size * i) size
      let img := if enc then pageImage p d (row + i) 1 v.pageBytes data else data
      match s.hmpRequest 3 (moves v.pageBytes) (decide (2 ≤ moves v.pageBytes)) false with
      | (.granted g, s1) =>
        let s2 := (g.foldl (fun s r => s.setHbuf (refBuf r) { s.hbuf (refBuf r) with cmd := some k }) s1).chainPut g img
        let f1 := { f with sent := i + 1, units := [(p.rate, p.cpp), (p.rnd, 0)] }
        ((s2.qPass 25 { flight := some k }).setFlight k f1).addOp
          { ch, kind := 1, die := d, parts := [⟨row + i, .page k i, g.head?, none⟩], prioQ := some f.qid, len := v.pageBytes }
      | _ => s

/-! ### Settings in PS (R383, R384) -/

/-- The codec settings record. -/
def codecRecord : PairRec := ⟨0x85000, 512⟩

/-- Does a copy of the codec settings pass its check (R460)? -/
def codecOk (l : List Byte) : Bool :=
  copyOk l && allZero (sliceB l 8 8)
    && (List.range 16).all (fun c => decide (leAt l (16 + 4 * c) 4 < 32))
    && (List.range 16).all (fun c =>
      let v := leAt l (84 + 4 * c) 4
      bits v 24 8 == 0 && bits v 12 4 == 0 && bits v 8 4 != 0 && bits v 6 2 == 0)
    && decide (leAt l 404 4 < 2 ^ 20) && decide (leAt l 408 4 < 2 ^ 30) && allZero (sliceB l 412 100)

/-- The active settings as SAVE writes them. -/
def State.codecBody (s : State) : List Byte :=
  natLE 8 0 ++ (List.range 16).flatMap (fun c => natLE 4 ((s.reg (0x2480 + c)).toNat % 32)) ++ natLE 4 (s.reg 0x2640).toNat
    ++ (List.range 16).flatMap (fun c => natLE 4 (s.reg (0x2650 + c)).toNat)
    ++ (List.range 64).flatMap (fun e => natLE 4 (s.reg (0x2680 + e)).toNat) ++ natLE 4 (s.reg 0x26C0).toNat
    ++ natLE 4 (s.reg 0x26C1).toNat

/-- The default layout of class `c` (R383): its `CPP` follows the page size. -/
def State.cppDefault (s : State) (c : Nat) : Nat :=
  let n := s.get (F.CW_LAYOUT_PAGE_BYTES c) / 4608
  if n = 0 then 1 else min 8 n

/-- The registers of the codec settings with their default values. -/
def State.codecDefaultRegs (s : State) : List (Nat × Word) :=
  (List.range 16).map (fun c => (0x2480 + c, BitVec.ofNat 32 ((s.cppDefault c - 1) * 4 + 2 + s.get (F.CW_LAYOUT_PAGE_BYTES c) * 2 ^ 16)))
    ++ [(0x2640, regReset 0x2640)] ++ (List.range 16).map (fun c => (0x2650 + c, regReset (0x2650 + c)))
    ++ (List.range 64).map (fun e => (0x2680 + e, regReset (0x2680 + e))) ++ [(0x26C0, regReset 0x26C0), (0x26C1, regReset 0x26C1)]

/-- Load the codec settings at the Trailhead into both the active and the staged fields. -/
def State.codecLoad (s : State) : State :=
  let both (s : State) (p : Nat × Word) : State := (s.setReg p.1 p.2).setStaged p.1 p.2
  match s.copyInUse codecRecord codecOk with
  | some l =>
    let w (o : Nat) : Word := BitVec.ofNat 32 (leAt l o 4)
    let s1 := (List.range 16).foldl (fun (s : State) c => both s (0x2480 + c, BitVec.ofNat 32 (leAt l (16 + 4 * c) 4 +
      s.get (F.CW_LAYOUT_PAGE_BYTES c) * 2 ^ 16))) s
    let s2 := both s1 (0x2640, w 80)
    let s3 := (List.range 16).foldl (fun (s : State) c => both s (0x2650 + c, w (84 + 4 * c))) s2
    let s4 := (List.range 64).foldl (fun (s : State) e => both s (0x2680 + e, w (148 + 4 * e))) s3
    (both (both s4 (0x26C0, w 404)) (0x26C1, w 408)).set F.CODEC_TBL_SRC 1
  | none => (s.codecDefaultRegs.foldl both s).set F.CODEC_TBL_SRC 0

/-- Clear every learned step (R384). -/
def State.clearLearn (s : State) : State :=
  { s with chans := s.chans.map (fun p => (p.1, { p.2 with dies := p.2.dies.map (fun d => (d.1, { d.2 with learn := 0 })) })) }

/-- A write of CODEC_CTL. BUSY while a commit of group CODEC is pending (R383): the write is then refused by the access. -/
def State.codecCtl (s : State) (v : Word) : State :=
  if bits v.toNat 24 8 ≠ 0x6C then s.fieldError
  else match bits v.toNat 0 2 with
    | 1 => (s.writePair codecRecord codecOk s.codecBody).2
    | 2 => if s.port.pend.any (fun p => p.1 == 0x0A) then s
      else s.codecDefaultRegs.foldl (fun (s : State) p => s.setStaged p.1 p.2) s
    | 3 => s.clearLearn
    | _ => s.fieldError

end Sys2Proof.Machine
end

