-- ==== Sys2Proof/Machine/Map.lean ====
section
/-!
DEFINITION. The asset map (ch. 17): parts of reads and how they end, stream records, map entries (R388 to R390), the map cache
and map faults (R393 to R395), INFLATE's dictionary slots, writing the map (R401 to R404), and the volume table in PS (R387).
-/

namespace Sys2Proof.Machine

/-! ### Placement (R513) -/

/-- Is the volume a content volume? -/
def State.isContent (s : State) (v : Nat) : Bool := s.get F.VOL_CFG_KIND v == 1

/-- The devices that hold a volume; `CASC_VOL` counts on the master, and for content volumes. -/
def State.volDevs (s : State) (v : Nat) : List Nat :=
  if s.cascRole = 1 ∧ s.isContent v then setBits (s.get (F.CASC_VOL_DEV_MASK v)) 4 else [0]

/-- The ALBs of one stripe unit. -/
def State.volUnit (s : State) (v : Nat) : Nat := 2 ^ s.get (F.CASC_VOL_STRIPE v)

/-- The device that holds global ALB `a`, and its local ALB. -/
def State.placeOf (s : State) (v a : Nat) : Nat × Nat :=
  let l := s.volDevs v
  let n := s.volUnit v
  (listGet 0 l (a / n % l.length), a / n / l.length * n + a % n)

/-- The global ALB of a local ALB of this device, which is the first that holds the volume. -/
def State.globalAlb (s : State) (v b : Nat) : Nat :=
  let n := s.volUnit v
  b / n * (s.volDevs v).length * n + b % n

/-- The global length of a volume. -/
def State.globalLen (s : State) (v : Nat) : Nat :=
  let len := s.get F.VOL_LEN_LEN v
  if (s.volDevs v).contains 0 then len * (s.volDevs v).length else len

/-- Does the volume lie here alone? -/
def State.localVol (s : State) (v : Nat) : Bool := s.volDevs v == [0]

/-! ### Parts of a read (R375, R19) -/

/-- How severe a status is among the parts of one command (R375). -/
def sevOf (st : Nat) : Nat := if st = 0 then 0 else if st = 2 then 1 else if st = 0x20 then 2 else 3

/-- Bytes a read command delivers. -/
def Flight.outLen (f : Flight) : Nat := if leAt f.bytes 0 1 = 0x01 then 4096 * leAt f.bytes 24 2 else leAt f.bytes 28 4

/-- The part of device `d` of a READ_ALB that lies on several has ended, or gone on, with a status: the worst of each device counts. -/
def Flight.devPart (f : Flight) (d st ql : Nat) : List (Nat × (Nat × Nat)) :=
  f.rdev.map (fun p => if p.1 = d ∧ sevOf p.2.1 < sevOf st then (d, (st, ql)) else p)

/-- The status of a READ_ALB that lies on several devices: that of its lowest ALB whose run did not end in SUCCESS or SUCCESS_SOFT
(R514). `dev` names the device of each ALB. -/
def Flight.devStatus (f : Flight) (n : Nat) (dev : Nat → Nat) : Nat × Nat :=
  match ((List.range n).map (fun i => tget (0, 0) f.rdev (dev i))).find? (fun p => decide (1 < sevOf p.1)) with
  | some p => p
  | none => if f.rdev.any (fun p => p.2.1 == 2) then (2, 0) else (0, 0)

/-- Bytes of a read's output that may leave: those of the parts before the first that is not at hand (R19). -/
def Flight.doneLen (f : Flight) : Nat :=
  let n := ((List.range f.want).takeWhile (fun i => f.units.any (fun u => u.1 == i && u.2 == 3))).length
  if n = f.want then f.outLen else min (4096 * n) f.outLen

/-- What is at hand of the read in flight `k` is released in order of offset, and its moves are asked for; the read ends once every part has
ended and what is released has left. -/
def State.readFlow (s : State) (k : Nat) : State :=
  match s.flight? k with
  | none => s
  | some f =>
    let n := f.doneLen
    let s1 := s.setFlight k { f with out := readBytes 0 f.data 0 n }
    let s2 := if s.casc.xids.any (fun p => p.1 == k) then s.setFlight k { f with out := readBytes 0 f.data 0 n, xadm := moves n }
      else s1.askXfer k (moves n - moves f.out.length)
    if f.want ≤ f.got ∧ n ≤ f.sent then s2.complete k f.status f.qual f.result else s2

/-- Parts of the read in flight `k` on device `d` have ended with a status: the data of each is placed at its offset, `corr` bits were
corrected. An ALB leaves once every earlier one has (R19), whatever becomes of later ones (R20). -/
def State.partsDone (s : State) (k d st ql corr : Nat) (parts : List (Nat × List Byte)) : State :=
  match s.flight? k with
  | none => s
  | some f =>
    if f.phase = .ready ∨ f.run = false then s
    else
      let worse := decide (sevOf f.status < sevOf st)
      let f0 := { f with
        got := f.got + parts.length, data := parts.foldl (fun m p => writeBytes 0 m p.1 p.2) f.data, result := max f.result corr,
        units := parts.foldl (fun m p => tput m (p.1 / 4096) (if sevOf st ≤ 1 then 3 else 4)) f.units,
        status := if worse then st else f.status, qual := if worse then ql else f.qual, rdev := f.devPart d st ql }
      let r := f0.devStatus f0.place.length (fun i => (listGet (0, 0) f0.place i).1)
      (s.setFlight k (if f.place = [] then f0 else { f0 with status := r.1, qual := r.2 })).readFlow k

/-- One part of the read in flight `k` on this device has ended: its data is placed at `off`. -/
def State.partDone (s : State) (k off st ql corr : Nat) (data : List Byte) : State := s.partsDone k 0 st ql corr [(off, data)]

/-- The command's data passed through a channel (R196). -/
def State.markStale (s : State) (k ch : Nat) : State :=
  match s.flight? k with
  | some f => if (s.chan ch).stale then s.setFlight k { f with stale := true } else s
  | none => s

/-! ### Volumes -/

/-- Is a key bound to the volume (R424)? -/
def State.volKeyed (s : State) (v : Nat) : Bool := s.prot.slots.any (fun p => p.2.1 == v)

/-- Is the volume in BUILD mode? -/
def State.inBuild (s : State) (v : Nat) : Bool := s.isContent v && s.get F.VOL_CFG_MODE v == 1

/-- Is the volume encrypted with no key loaded (R396)? -/
def State.noKey (s : State) (v : Nat) : Bool := s.get F.VOL_CFG_ENC v == 1 && !s.volKeyed v

/-- The die of a volume's map region, and the codewords per page of its class (R392). -/
def State.mapDie (s : State) (v : Nat) : Nat × (Nat × Nat) :=
  let ch := s.get F.VOL_MAP_CH v
  let d := s.get F.VOL_MAP_DIE v
  (ch, (d, (s.layout (s.die ch d).cls).2))

/-- The map group of map page `m`. -/
def State.groupOf (s : State) (v m : Nat) : Nat := m / (s.mapDie v).2.2

/-! ### Stream records -/

/-- Stream `t`. -/
def State.stream (s : State) (t : Nat) : Stream := tget {} s.map.streams t

/-- The reference to the buffer that stream `t` holds ALB `a` in. -/
def Stream.bufOf (v : Stream) (a : Nat) : Option Nat := (v.bufs.find? (fun p => p.1 == a)).map (·.2)

/-- Set stream `t`. -/
def State.setStream (s : State) (t : Nat) (v : Stream) : State :=
  { s with map := { s.map with streams := tset {} s.map.streams t v } }

/-- Is a commit of group STREAMS in hold? -/
def State.streamsHold (s : State) : Bool := s.port.hold.contains 0x0B

/-- The progress word (R407). -/
def Stream.progress (v : Stream) (t : Nat) : Nat :=
  v.pushed % 2 ^ 32 + t % 32 * 2 ^ 32 + b2n (v.state == 3) * 2 ^ 62 + b2n (v.state == 2) * 2 ^ 63

/-- Write the progress word to the host, under PCI Express. -/
def State.sendProgress (s : State) (t : Nat) : State :=
  let v := s.stream t
  if s.pcieMode then s.hostSend { typ := 0x26, payload := natLE 8 (v.progress t), addr := v.dptr + v.ring } else s

/-- The stream stops at ALB `a` with a status (R409). -/
def State.streamStop (s : State) (t a st : Nat) : State :=
  let v := s.stream t
  let lower := match v.stopAt with | some (b, _) => decide (a < b) | none => true
  if v.state = 0 ∨ v.state = 2 ∨ lower = false then s.setStream t { v with flying := v.flying.filter (· != a) }
  else
    let gone (b : Nat) : Bool := decide (a ≤ b) && v.resident.all (fun x => x.1 != b)
    let s1 := (v.bufs.filter (fun p => gone p.1)).foldl (fun (s : State) p => s.hmpRelease p.2 6) s
    (s1.setStream t { v with
      state := 3, stopAt := some (a, st), flying := v.flying.filter (fun b => decide (b < a)),
      bufs := v.bufs.filter (fun p => !gone p.1) }).postBit
      F.STR_EVT_SRC 272 1 (t + st * 256 + a * 2 ^ 32)

/-- Release the buffers of the ALBs below `w`. -/
def State.streamDropBelow (s : State) (t w : Nat) : State :=
  let v := s.stream t
  let s1 := (v.bufs.filter (fun p => decide (p.1 < w))).foldl (fun (s : State) p => s.hmpRelease p.2 6) s
  s1.setStream t { v with
    bufs := v.bufs.filter (fun p => decide (w ≤ p.1)), resident := v.resident.filter (fun p => decide (w ≤ p.1)) }

/-- Move the window start to `w` when that is higher; at END the stream has ended (R408, R409). -/
def State.streamAdvance (s : State) (t w : Nat) : State :=
  let v := s.stream t
  if w ≤ v.w then s
  else
    let s1 := s.streamDropBelow t w
    let v1 := { s1.stream t with w, next := max w v.next }
    if v.stop ≤ w ∧ v.state ≠ 2 then ((s1.setStream t { v1 with state := 2 }).postBit F.STR_EVT_SRC 272 0 t).sendProgress t
    else s1.setStream t v1

/-- The waits of a map fault that name the stream are dropped. -/
def MapFault.dropStream (f : MapFault) (t : Nat) : MapFault :=
  { f with waits := f.waits.filter (fun w => match w with | .stream t' _ _ => t' != t | _ => true) }

/-- Does a use belong to stream `t`? -/
def CwUse.ofStream (u : CwUse) (t : Nat) : Bool := match u with | .stream t' _ => t' == t | _ => false

/-- What lies in Q_36 for stream `t` has no use: buffers go back, and the entries are dropped when they are taken. -/
def State.forgetArrivals (s : State) (t : Nat) : State :=
  let mine (w : QWork) : Bool := match w with | .arrival x => x.t == t | _ => false
  let l := (s.fq 36).entries.filterMap (fun e => match e.work with | .arrival x => if x.t = t then x.buf else none | _ => none)
  l.foldl (fun (s : State) r => s.hmpRelease r 6) (s.qForget 36 mine)

/-- Close stream `t` (R410): no progress word follows, and a STREAM_CLOSE in hand completes. -/
def State.streamClosed (s : State) (t : Nat) : State :=
  let v := s.stream t
  let s1 := v.bufs.foldl (fun (s : State) p => s.hmpRelease p.2 6) s
  let mine := (s1.cws.filter (fun p => p.2.use.ofStream t)).map (·.1)
  let s2 := { s1 with
    cws := s1.cws.map (fun (p : Nat × Cw) => (p.1, if p.2.use.ofStream t then { p.2 with use := CwUse.cal } else p.2))
    map := { s1.map with
      streams := tdel s1.map.streams t
      faults := s1.map.faults.map (fun f => f.dropStream t)
      frames := s1.map.frames.map (fun (p : Nat × FrameJob) =>
        (p.1, { p.2 with wants := p.2.wants.filter (fun x => !x.2.ofStream t) })) } }
  let s3 := (mine.foldl State.cwAbandon s2).forgetArrivals t
  match v.closing with
  | some k => s3.complete k 0
  | none => s3

/-- Close every stream that satisfies `c`. -/
def State.closeStreams (s : State) (c : Stream → Bool) : State :=
  ((s.map.streams.filter (fun p => c p.2)).map (·.1)).foldl State.streamClosed s

/-- The streams of volumes whose key slot is unloaded stop (R409). -/
def State.streamsUnkeyed (s : State) : State :=
  (s.map.streams.filter (fun p => p.2.state == 1 && s.noKey p.2.vol)).foldl (fun (s : State) p =>
    s.streamStop p.1 (p.2.resident.foldl (fun m x => if x.1 = m then m + 1 else m) p.2.w) 0x15) s

/-! ### Map entries (R388 to R390) -/

/-- What a map entry says. -/
inductive Xlat where
  | unmapped
  | bad
  | stored (ch die row k : Nat)
  | frame (ch die row k n fpos : Nat)
  deriving DecidableEq, Repr

/-- Read a map entry of a volume with `COMP` = `comp`. -/
def xlat (comp : Nat) (l : List Byte) : Xlat :=
  let v := leAt l 0 8
  if crc8 (sliceB l 0 7) ≠ leAt l 7 1 ∨ bits v 47 9 ≠ 0 then .bad
  else match bits v 0 2 with
    | 0 => if bits v 0 56 = 0 then .unmapped else .bad
    | 1 => if bits v 37 10 = 0 then .stored (bits v 2 3) (bits v 5 5) (bits v 13 24) (bits v 10 3) else .bad
    | 2 => if comp = 0 then .bad
      else .frame (bits v 2 3) (bits v 5 5) (bits v 13 24) (bits v 10 3) (bits v 37 5 + 1) (bits v 42 5)
    | _ => .bad

/-- Does the place exist: a die in use, of a class whose pages hold codewords, and the row on it (R195, R292,
R383)? -/
def State.placeOk (s : State) (ch d row : Nat) : Bool := (s.die ch d).state == 1 && (s.die ch d).rowOk row

/-! ### Dictionary slots (R400) -/

/-- Code of dictionary slot `d`. -/
def State.dictCode (s : State) (d : Nat) : Nat := bits (s.get F.INF_DICT_STAT_CODES) (4 * d) 4

/-- Set the code of dictionary slot `d`. -/
def State.setDictCode (s : State) (d c : Nat) : State :=
  s.set F.INF_DICT_STAT_CODES (putBits (s.get F.INF_DICT_STAT_CODES) (4 * d) 4 c)

/-- The waits of a map fault that name dictionary slot `d` are dropped. -/
def MapFault.dropDict (f : MapFault) (d : Nat) : MapFault :=
  { f with waits := f.waits.filter (fun w => match w with | .dict d' _ => d' != d | _ => true) }

/-- Empty a slot. What is still being read for it has no use. -/
def State.dictClear (s : State) (d : Nat) : State :=
  let mine (u : CwUse) : Bool := match u with | .dict d' _ => d' == d | _ => false
  ({ s with
    cws := s.cws.map (fun (p : Nat × Cw) => (p.1, if mine p.2.use then { p.2 with use := CwUse.cal } else p.2)),
    map := { s.map with
      dicts := tdel s.map.dicts d, dictRead := tdel s.map.dictRead d, dictWant := s.map.dictWant.filter (fun p => p.1 != d),
      faults := s.map.faults.map (fun (f : MapFault) => f.dropDict d) } }).setDictCode d 0

/-- A slot's load ends without a dictionary: its code says why, and DICT_ERR is posted. -/
def State.dictFail (s : State) (d code : Nat) : State :=
  ((s.dictClear d).setDictCode d code).postBit F.INF_EVT_SRC 280 1 (d + code * 16)

/-- The identifier of a dictionary. -/
def dictId (l : List Byte) : Nat := leAt l 4 4

/-- Every ALB of slot `d` has been read. -/
def State.dictCheck (s : State) (d : Nat) : State :=
  let len := s.get (F.INF_DICT_LEN_LEN d)
  let got := tget [] s.map.dictRead d
  if got.length < moves len then s
  else
    let l := ((List.range (moves len)).flatMap (fun i => tget [] got i)).take len
    if l.length < 8 ∨ leAt l 0 4 ≠ 0xEC30A437 then s.dictFail d 4
    else if s.map.dicts.any (fun p => p.1 != d && dictId p.2 == dictId l) then s.dictFail d 5
    else ({ s with map := { s.map with dicts := tput s.map.dicts d l, dictRead := tdel s.map.dictRead d } }).setDictCode d 1

/-- ALB `i` of dictionary slot `d` has been read, with a status. -/
def State.dictArrive (s : State) (d i st : Nat) (data : List Byte) : State :=
  if s.dictCode d ≠ 2 then s
  else if 1 < sevOf st then s.dictFail d 3
  else ({ s with map := { s.map with dictRead := tput s.map.dictRead d (tput (tget [] s.map.dictRead d) i data) } }).dictCheck d

/-! ### Reading an ALB -/

/-- A stream's ALB has come off the road into Q_36 (R406). -/
def State.toQ36 (s : State) (x : Arrival) : State :=
  s.qPut 36 { orig := .stream, bufs := (match x.buf with | some r => [r] | none => []), work := .arrival x }

/-- May ALB `a` become resident in stream `t`? -/
def State.inWindow (s : State) (t a : Nat) : Bool :=
  let v := s.stream t
  (v.state == 1 || v.state == 3) && decide (v.w ≤ a ∧ a < min (v.w + v.depth) v.stop) && !v.resident.any (fun y => y.1 == a)
    && !v.stopAt.any (fun p => decide (p.1 ≤ a))

/-- The stream engine has taken an ALB: it becomes resident, or stops its stream. One outside the window is released. -/
def State.arrive (s : State) (x : Arrival) : State :=
  let v := s.stream x.t
  let asked := v.flying.contains x.a
  let drop (s : State) : State := match x.buf with | some r => s.hmpRelease r 6 | none => s
  let landed := { v with flying := v.flying.filter (· != x.a) }
  if v.state = 0 ∨ v.state = 2 then drop s
  else if 1 < sevOf x.st then (if asked then (drop s).streamStop x.t x.a x.st else drop s)
  else if s.inWindow x.t x.a = false then (drop s).setStream x.t landed
  else match x.buf with
    | none => s.setStream x.t { landed with resident := if (v.bufOf x.a).isSome then tput v.resident x.a x.data else v.resident }
    | some r =>
      if (v.bufOf x.a).isSome then drop s
      else s.setStream x.t { v with resident := tput v.resident x.a x.data, bufs := tput v.bufs x.a r }

/-- An ALB, or a codeword of READ_RAW, is at hand for its use with a status. -/
def State.albArrive (s : State) (u : CwUse) (st ql : Nat) (data : List Byte) : State :=
  match u with
  | .host k off => s.partDone k off st ql 0 data
  | .stream t a => s.toQ36 { t, a, st, data }
  | .dict d i => s.dictArrive d i st data
  | _ => s

/-- The command, pair and fixed priority that a read for a use carries: the command's own, or `PREFETCH_PRIO` of the channel
(R394, R406). -/
def State.useOwner (s : State) (ch : Nat) : CwUse → Option Nat × (Option Nat × Nat)
  | .host k _ => (some k, ((s.flight? k).map (·.qid), 0))
  | _ => (none, (none, s.get (F.CH_SCHED_PREFETCH_PRIO ch)))

/-- Start the read of one codeword. -/
def State.readCw (s : State) (use : CwUse) (vol ch die row k tweak : Nat) (enc : Bool) (own : Option Nat × (Option Nat × Nat)) :
    State :=
  s.cwStart { use, ch, die, row, k, rate := 0, cpp := 0, seed := 0, xtag := 0, flight := own.1, prioQ := own.2.1,
              prioFix := own.2.2, vol, tweak, enc }

/-- Row and codeword index of codeword `j` of a frame that starts at a codeword (R390). -/
def frameAt (cpp row k j : Nat) : Nat × Nat := (row + (k + j) / cpp, (k + j) % cpp)

/-- A frame already being read that this use shares (R390): the same volume, first codeword, codeword count and requester. -/
def State.frameJob (s : State) (vol n : Nat) (place : Nat × Nat × Nat × Nat) (fl : Option Nat) (u : CwUse) : Option (Nat × FrameJob) :=
  s.map.frames.find? (fun p => p.2.vol == vol && p.2.place == place && p.2.n == n && p.2.flight == fl &&
    (match u with
      | .stream t _ => p.2.wants.any (fun x => x.2.ofStream t)
      | .dict _ _ => false
      | _ => true))

/-- Set a frame job. -/
def State.setFrame (s : State) (j : Nat) (v : FrameJob) : State :=
  { s with map := { s.map with frames := tput s.map.frames j v } }

/-- Post ENTRY_ERR for an ALB (R389). -/
def State.entryErr (s : State) (vol alb : Nat) : State := s.postBit F.MAP_EVT_SRC 264 1 (vol + alb * 2 ^ 32)

/-- The entry of an ALB is known: it is read, or answered, for its use. An UNMAPPED ALB is resident in its stream at once (R391). -/
def State.startAlb (s : State) (vol alb : Nat) (u : CwUse) (entry : List Byte) : State :=
  let enc := s.get F.VOL_CFG_ENC vol == 1
  match xlat (s.get F.VOL_CFG_COMP vol) entry with
  | .unmapped =>
    (match u with
    | .dict d _ => if s.dictCode d = 2 then s.dictFail d 6 else s
    | .stream t a => s.arrive { t, a, st := 0, data := List.replicate 4096 0 }
    | _ => s.albArrive u 0 0 (List.replicate 4096 0))
  | .bad => (s.entryErr vol alb).albArrive u 0x20 0x0A []
  | .stored ch d row k =>
    if s.placeOk ch d row then s.readCw u vol ch d row k alb enc (s.useOwner ch u) else s.albArrive u 0x12 0 []
  | .frame ch d row k n fpos =>
    match u with
    | .dict i _ => if s.dictCode i = 2 then s.dictFail i 6 else s
    | _ =>
      let first := alb - fpos
      let own := s.useOwner ch u
      match s.frameJob vol n (ch, d, row, k) own.1 u with
      | some (j, v) => s.setFrame j { v with wants := v.wants ++ [(fpos, u)] }
      | none =>
        let cpp := (s.layout (s.die ch d).cls).2
        if s.placeOk ch d row = false ∨ s.placeOk ch d (frameAt cpp row k (n - 1)).1 = false then s.albArrive u 0x12 0 []
        else
          let j := s.map.nextFrame
          let s1 := ({ s with map := { s.map with nextFrame := j + 1 } }).setFrame j
            { vol, alb := first, n, place := (ch, d, row, k), wants := [(fpos, u)], flight := own.1 }
          (List.range n).foldl (fun (s : State) i =>
            let p := frameAt cpp row k i
            s.readCw (.frame j i) vol ch d p.1 p.2 (first + i) enc own) s1

/-! ### The map cache (R393) -/

/-- The cached map page `m` of a volume. -/
def State.mapPage? (s : State) (v m : Nat) : Option MapPage := s.map.pages.find? (fun p => p.vol == v && p.page == m)

/-- Replace, or add, a cached page, making it the most recently used. -/
def State.pagePut (s : State) (p : MapPage) : State :=
  let n := s.map.clockUse + 1
  { s with map := { s.map with
    clockUse := n, pages := { p with used := n } :: s.map.pages.filter (fun q => !(q.vol == p.vol && q.page == p.page)) } }

/-- The least recently used page among those that satisfy `c`. -/
def lruPage (c : MapPage → Bool) (l : List MapPage) : Option MapPage :=
  (l.filter c).foldl (fun b p => match b with | none => some p | some q => if p.used < q.used then some p else some q) none

/-- Drop cached pages that satisfy `c`. -/
def State.dropPages (s : State) (c : MapPage → Bool) : State :=
  { s with map := { s.map with pages := s.map.pages.filter (fun p => !c p) } }

/-- Put a page in the cache, evicting the least recently used clean page when it is full; none when no page can be evicted. -/
def State.cachePage (s : State) (p : MapPage) : Option State :=
  if s.map.pages.length < 256 ∨ (s.mapPage? p.vol p.page).isSome then some (s.pagePut p)
  else match lruPage (fun q => !q.dirty) s.map.pages with
    | some q => some ((s.dropPages (fun x => x.vol == q.vol && x.page == q.page)).pagePut p)
    | none => none

/-- Drop every cached page of a volume; dirty ones are dropped unwritten and counted (R404). -/
def State.mapDrop (s : State) (v : Nat) : State :=
  let n := (s.map.pages.filter (fun p => p.vol == v && p.dirty)).length
  let s1 := s.dropPages (fun p => p.vol == v)
  if n = 0 then s1 else s1.postBit F.MAP_EVT_SRC 264 2 (v + n * 2 ^ 16)

/-! ### Map faults (R394, R395) -/

/-- The local ALB of part `i` of a READ_ALB. -/
def Flight.localAlb (f : Flight) (i : Nat) : Nat :=
  if f.place = [] then leAt f.bytes 20 4 + i else (listGet (0, 0) f.place i).2

/-- Volume and local ALB of what waits on a fault. -/
def State.waitAlb (s : State) : MapWait → Option (Nat × Nat × CwUse)
  | .host k i => (s.flight? k).map (fun f => (leAt f.bytes 16 1 % 16, f.localAlb i, CwUse.host k (4096 * i)))
  | .stream t a b => some ((s.stream t).vol, b, .stream t a)
  | .dict d i => some (s.get (F.INF_DICT_LEN_VOL d), s.get (F.INF_DICT_ALB_ALB d) + i, .dict d i)
  | .ahead => none

/-- The map page is at hand: go on with one translation. -/
def State.waitGo (s : State) (page : List Byte) (w : MapWait) : State :=
  match s.waitAlb w with
  | some (v, a, u) => s.startAlb v a u (sliceB page (8 * (a % 512)) 8)
  | none => s

/-- The map page could not be had: one translation ends with a status (R395). -/
def State.waitFail (s : State) (st ql : Nat) (w : MapWait) : State :=
  match s.waitAlb w with
  | some (_, _, .stream t a) => s.streamStop t a st
  | some (_, _, u) => s.albArrive u st ql []
  | none => s

/-- The commands that wait on faults. -/
def State.faultCmds (s : State) : List Nat :=
  (s.map.faults.flatMap (fun f => f.waits.filterMap (fun w => match w with | .host k _ => some k | _ => none))).dedup

/-- Waits of a fault that belong to streams: each may need a place in Q_36. -/
def MapFault.streamWaits (f : MapFault) : Nat := (f.waits.filter (fun w => match w with | .stream _ _ _ => true | _ => false)).length

/-- Must a new translation not wait on a fault (R394): do 64 commands and prefetches wait already, `w`'s command not among them? -/
def State.faultFull (s : State) (w : MapWait) : Bool :=
  decide (64 ≤ s.faultCmds.length + s.map.faults.foldl (fun n f => n + f.streamWaits) 0)
    && (match w with | .host k _ => !s.faultCmds.contains k | .stream _ _ _ => true | _ => false)

/-- A map page failed (R395). -/
def State.mapPageErr (s : State) (v m : Nat) : State :=
  (s.addF F.MAP_COUNT_FAULT_ERRS 1).postBit F.MAP_EVT_SRC 264 0 (v + m * 2 ^ 16)

/-- Start a map fault for map page `m`; none while 8 are in progress or new faults wait in hold (R126). -/
def State.faultStart (s : State) (v m : Nat) (w : MapWait) : Option State :=
  if 8 ≤ s.map.faults.length ∨ s.streamsHold then none
  else
    let (ch, d, cpp) := s.mapDie v
    let row := s.get F.VOL_MAP_ROW v + m / cpp
    if s.placeOk ch d row = false then some (s.waitFail 0x12 0 w)
    else
      let c := s.nextCw
      let s1 := s.readCw (.mapPage v m) v ch d row (m % cpp) 0 false (none, (none, s.get (F.CH_SCHED_FAULT_PRIO ch)))
      some { s1 with map := { s1.map with faults := s1.map.faults ++ [{ vol := v, page := m, cw := c, since := s1.clock, waits := [w] }] } }

/-- Look up an ALB for a translation (R393, R394); none when it must wait to be looked up. -/
def State.lookup (s : State) (v a : Nat) (w : MapWait) : Option State :=
  let m := a / 512
  match s.mapPage? v m with
  | some p => some ((s.pagePut p).waitGo p.bytes w)
  | none =>
    if s.faultFull w then none
    else if s.map.faults.any (fun f => f.vol == v && f.page == m) then
      some { s with map := { s.map with faults := s.map.faults.map (fun f =>
        if f.vol = v ∧ f.page = m then { f with waits := f.waits ++ [w] } else f) } }
    else s.faultStart v m w

/-- Look up the ALBs of dictionary slots that still wait for their lookup. -/
def State.dictPump (s : State) : State :=
  s.map.dictWant.foldl (fun (s : State) p =>
    let s1 := { s with map := { s.map with dictWant := s.map.dictWant.filter (· != p) } }
    if s.dictCode p.1 ≠ 2 then s1
    else (s1.lookup (s.get (F.INF_DICT_LEN_VOL p.1)) (s.get (F.INF_DICT_ALB_ALB p.1) + p.2) (.dict p.1 p.2)).getD s) s

/-- Load dictionary slot `d` (R400). -/
def State.dictLoad (s : State) (d : Nat) : State :=
  let v := s.get (F.INF_DICT_LEN_VOL d)
  let n := moves (s.get (F.INF_DICT_LEN_LEN d))
  let s1 := s.dictClear d
  if n = 0 then s1.dictFail d 4
  else if s.isContent v = false ∨ s.get F.VOL_LEN_LEN v < s.get (F.INF_DICT_ALB_ALB d) + n ∨ s.noKey v then s1.dictFail d 3
  else
    let s2 := s1.setDictCode d 2
    ({ s2 with map := { s2.map with dictWant := s2.map.dictWant ++ (List.range n).map (fun i => (d, i)) } }).dictPump

/-- A write of INF_CTL. -/
def State.infCtl (s : State) (v : Word) : State :=
  if bits v.toNat 24 8 ≠ 0x1F ∨ bits v.toNat 8 2 ≠ 1 then s.fieldError
  else (setBits (bits v.toNat 0 4) 4).foldl State.dictLoad s

/-- TRANSLATE (R393): MAP looks up ALB `i` of the READ_ALB in flight `k`, the oldest request of Q_1, whose ALBs it takes in ascending order
(R16). While the read of a lookup has no place in its queue, MAP goes no further (R15), and while 64 commands and prefetches wait on faults it
takes nothing from Q_1 (R394). -/
def mapTranslate (k i : Nat) (s : State) : State :=
  match s.flight? k with
  | some f =>
    if leAt f.bytes 0 1 ≠ 0x01 ∨ s.qWork 1 ≠ .alb k ∨ f.run = false ∨ f.phase = .ready ∨ leAt f.bytes 24 2 ≤ i
        ∨ (List.range (i + 1)).map (fun j => f.units.any (fun u => u.1 == j)) ≠ List.replicate i true ++ [false] ∨ s.opStall false
        ∨ s.faultFull (.host k i) then s
    else match (s.setFlight k { f with units := tput f.units i 1 }).lookup (leAt f.bytes 16 1 % 16) (f.localAlb i) (.host k i) with
      | some s1 => s1.q1Tidy
      | none => s
  | none => s

/-- The map page of codeword `w` was read for fault `f`: the translations that wait go on, or end (R395). A page that a MAP_WRITE created
meanwhile stays (R401). -/
def State.faultEnd (s : State) (f : MapFault) (w : Cw) : State :=
  let t := s.clock - f.since
  let s1 := { s with map := { s.map with faults := s.map.faults.filter (fun g => g.cw != f.cw) } }
  let s2 := ((s1.set F.MAP_FAULT_US_LAST (min 0xFFFF t)).set F.MAP_FAULT_US_MAX (max (s1.get F.MAP_FAULT_US_MAX) (min 0xFFFF t)))
  if w.outcome ≤ 2 ∧ leAt w.data 4100 1 = 2 then
    let page := sliceB w.data 0 4096
    let s3 := s2.addF F.MAP_COUNT_FAULTS 1
    f.waits.foldl (fun (s : State) x => s.waitGo page x) (if (s3.mapPage? f.vol f.page).isSome then s3 else (s3.cachePage { vol := f.vol, page := f.page, bytes := page }).getD s3)
  else if w.outcome = 0xA then f.waits.foldl (fun (s : State) x => s.waitFail (if s.st = stRemoving then 0x31 else 0x32) 0 x) s2
  else f.waits.foldl (fun (s : State) x => s.waitFail 0x20 0x0A x) (s2.mapPageErr f.vol f.page)

/-- MAP_FAULT_DONE (R392, R395): MAP takes the oldest decoded map page from Q_35. -/
def mapFaultDone (s : State) : State :=
  match s.qWork 35 with
  | .cw c =>
    let f := s.map.faults.find? (fun f => f.cw == c)
    if s.opStall false ∨ s.qCan 36 ((f.map MapFault.streamWaits).getD 0) 0 = false then s
    else
      let s0 := (s.qTake 35).cwFlush
      (match s0.cw? c, f with
      | none, _ => s0
      | some w, f =>
        let s1 := (if 0x10000 ≤ w.buf then s0 else (s0.hmpHand w.buf 3 2).2.hmpRelease w.buf 2).delCw c
        match f with
        | none => s1
        | some f => (s1.faultEnd f w).dictPump)
  | .none => if (s.qFront 35).isSome then (s.qTake 35).cwFlush else s
  | _ => s

/-! ### Next map groups and write-back (R402) -/

/-- The next-map-groups record. -/
def groupRecord : PairRec := ⟨0x86400, 128⟩

/-- Its check (R460). -/
def groupOk (l : List Byte) : Bool :=
  copyOk l && allZero (sliceB l 8 8) && (List.range 16).all (fun v => decide (leAt l (16 + 4 * v) 4 < 2 ^ 17)) && allZero (sliceB l 80 48)

/-- Write a volume's next map group to PS; true when it is written. -/
def State.nextGroupWrite (s : State) (v g : Nat) : Bool × State :=
  let val (x : Nat) : Nat := if x = v then g else s.get (F.VOL_STAT_NEXT_GRP x)
  let (ok, s1) := s.writePair groupRecord groupOk (natLE 8 0 ++ (List.range 16).flatMap (fun x => natLE 4 (val x)))
  (ok, if ok then s1.set (F.VOL_STAT_NEXT_GRP v) g else s1)

/-- The data of map group `g` of a volume: cached pages, others all UNMAPPED. -/
def State.groupData (s : State) (v g : Nat) : List Byte :=
  let cpp := (s.mapDie v).2.2
  (List.range cpp).flatMap (fun i => match s.mapPage? v (g * cpp + i) with
    | some p => sliceB p.bytes 0 4096
    | none => List.replicate 4096 (0 : Byte))

/-- Groups that write-back of group `g` of a volume programs, as (volume, group). -/
def State.groupsTo (s : State) (v g : Nat) : List (Nat × Nat) :=
  let n := s.get (F.VOL_STAT_NEXT_GRP v)
  (List.range (g + 1 - n)).map (fun i => (v, n + i))

/-- The groups that MAP_WRITE writes back first, fixed when it starts: while it needs more pages than can be had, the group of
the least recently used dirty page. `have_` counts pages that can be had; `l` holds the groups found so far. -/
def State.wbPlan (s : State) : Nat → List MapPage → Nat → Nat → List (Nat × Nat) → List (Nat × Nat)
  | 0, _, _, _, l => l
  | fuel + 1, pages, need, have_, l =>
    if need ≤ have_ then l
    else match lruPage (fun p => p.dirty) pages with
      | none => l
      | some p =>
        let g := s.groupOf p.vol p.page
        let hit (q : MapPage) : Bool := q.vol == p.vol && q.dirty && decide (s.groupOf q.vol q.page ≤ g)
        s.wbPlan fuel (pages.filter (fun q => !hit q)) need (have_ + (pages.filter hit).length)
          (l ++ (s.groupsTo p.vol g).filter (fun x => !l.contains x))

/-- May the write-backs be made: the die in use and the rows on it (R195, R292)? -/
def State.wbPlaces (s : State) (l : List (Nat × Nat)) : Bool :=
  l.all (fun p => let (ch, d, _) := s.mapDie p.1; s.placeOk ch d (s.get F.VOL_MAP_ROW p.1 + p.2))

/-- Send the programs of write-back that have not been sent, as far as buffers go. -/
def State.wbPump (s : State) (k : Nat) : Nat → State
  | 0 => s
  | fuel + 1 =>
    match s.flight? k with
    | none => s
    | some f =>
      if f.fails ≠ 0 ∨ f.phase = .ready then s
      else match f.units.drop f.sent with
        | [] => s
        | (v, g) :: _ =>
          let (ch, d, cpp) := s.mapDie v
          let die := s.die ch d
          let row := s.get F.VOL_MAP_ROW v + g
          let img := pageImage { s.encPar die.cls with cpp } d row 2 die.pageBytes (s.groupData v g)
          match s.hmpRequest 3 (moves die.pageBytes) (decide (2 ≤ moves die.pageBytes)) false with
          | (.granted r, s1) =>
            let s2 := (r.foldl (fun (s : State) q => s.setHbuf (refBuf q) { s.hbuf (refBuf q) with cmd := some k }) s1).chainPut r img
            ((s2.setFlight k { f with sent := f.sent + 1 }).addOp
              { ch, kind := 1, die := d, parts := [⟨row, .wback k f.sent, r.head?, none⟩], prioQ := some f.qid,
                len := die.pageBytes }).wbPump k fuel
          | _ => s

/-- Before the first confirm cycle of a volume's write-back, its next map group rises past the last group written and the
written pages are clean (R402): program `i` of flight `k`. True when PS holds it. -/
def State.wbBegin (s : State) (k i : Nat) : Bool × State :=
  match s.flight? k with
  | none => (true, s)
  | some f =>
    match f.units[i]? with
    | none => (true, s)
    | some (v, _) =>
      let last := (f.units.filter (fun u => u.1 == v)).foldl (fun m u => max m (u.2 + 1)) 0
      if last ≤ s.get (F.VOL_STAT_NEXT_GRP v) then (true, s)
      else
        let (ok, s1) := s.nextGroupWrite v last
        (ok, if ok then { s1 with map := { s1.map with pages := s1.map.pages.map (fun p =>
          if p.vol = v ∧ s.groupOf v p.page < last then { p with dirty := false } else p) } } else s1)

/-- A program of write-back failed: the pages of its group leave the cache (R402). -/
def State.wbFailed (s : State) (k i : Nat) : State :=
  match (s.flight? k).bind (fun f => f.units[i]?) with
  | some (v, g) => s.dropPages (fun p => p.vol == v && s.groupOf v p.page == g)
  | none => s

/-! ### MAP_WRITE and MAP_FLUSH -/

/-- Entry `i` of the data of a MAP_WRITE. -/
def Flight.entry (f : Flight) (i : Nat) : List Byte := readBytes 0 f.data (8 * i) 8

/-- The check of R401: status of the refusal. -/
def State.mapWriteCheck (s : State) (f : Flight) : Option (Nat × Nat) :=
  let v := leAt f.bytes 16 1 % 16
  let a := leAt f.bytes 20 4
  let n := leAt f.bytes 24 2
  let xs := (List.range n).map (fun i => xlat (s.get F.VOL_CFG_COMP v) (f.entry i))
  let dieOk (x : Xlat) : Bool := match x with
    | .stored ch d _ _ => (s.die ch d).state == 1
    | .frame ch d _ _ _ _ => (s.die ch d).state == 1
    | _ => true
  if s.isContent v = false ∨ s.get F.VOL_LEN_LEN v < a + n then some (0x12, 0)
  else if xs.any (fun x => x == .bad) then some (0x11, 0)
  else if xs.any (fun x => !dieOk x) then some (0x12, 0)
  else if s.get F.VOL_CFG_MODE v = 0 then some (0x14, 6)
  else if (List.range n).any (fun i => decide (s.groupOf v ((a + i) / 512) < s.get (F.VOL_STAT_NEXT_GRP v))) then some (0x13, 0)
  else none

/-- Map pages that a MAP_WRITE touches. -/
def Flight.mapPages (f : Flight) : List Nat :=
  let a := leAt f.bytes 20 4
  let lo := a / 512
  (List.range ((a + leAt f.bytes 24 2 - 1) / 512 + 1 - lo)).map (fun i => lo + i)

/-- Create the uncached pages a MAP_WRITE needs; none when one cannot be had yet. -/
def State.makePages (s : State) (v : Nat) : List Nat → Option State
  | [] => some s
  | m :: l =>
    match s.mapPage? v m with
    | some p => (s.pagePut p).makePages v l
    | none => match s.cachePage { vol := v, page := m, bytes := List.replicate 4096 0, dirty := true } with
      | some s1 => s1.makePages v l
      | none => none

/-- Change the entries and complete. -/
def State.mapApply (s : State) (k : Nat) : State :=
  match s.flight? k with
  | none => s
  | some f =>
    let v := leAt f.bytes 16 1 % 16
    let a := leAt f.bytes 20 4
    let n := leAt f.bytes 24 2
    match s.makePages v f.mapPages with
    | none => s
    | some s1 =>
      let s2 := { s1 with map := { s1.map with pages := s1.map.pages.map (fun (p : MapPage) =>
        if p.vol = v ∧ f.mapPages.contains p.page then
          { p with dirty := true, bytes := (List.range 512).flatMap (fun j =>
            let b := 512 * p.page + j
            if a ≤ b ∧ b < a + n then f.entry (b - a) else sliceB p.bytes (8 * j) 8) }
        else p) } }
      s2.complete k 0

/-- Every program of the write-back of flight `k` has passed. -/
def State.wbFinish (s : State) (k : Nat) : State :=
  match s.flight? k with
  | some f =>
    if leAt f.bytes 0 1 = 0x12 then s.mapApply k
    else s.complete k 0 0 (f.units.foldl (fun n u => n + (s.mapDie u.1).2.2) 0)
  | none => s

/-- One program of write-back has passed. -/
def State.wbPassed (s : State) (k : Nat) : State :=
  let s1 := (s.logOpDone k).wbPump k 256
  match s1.flight? k with
  | some f => if f.units.length ≤ f.opsDone then s1.wbFinish k else s1
  | none => s1

/-- Begin a write-back of these groups, or finish at once when there is none. -/
def State.wbStart (s : State) (k : Nat) (f : Flight) (l : List (Nat × Nat)) : State :=
  let s1 := (s.startRun k { f with units := l, sent := 0, opsTotal := l.length }).qPass 1 { flight := some k }
  if s.wbPlaces l = false then s1.complete k 0x12
  else if l = [] then s1.wbFinish k
  else s1.wbPump k l.length

/-- Go on with a MAP_WRITE or MAP_FLUSH whose write-back waits for buffers, or that waits for a cache page. -/
def State.wbResume (s : State) (k op : Nat) : State :=
  match s.flight? k with
  | some f =>
    if leAt f.bytes 0 1 = op ∧ f.run ∧ f.phase ≠ .ready ∧ f.fails = 0 then
      if f.units.length ≤ f.opsDone then s.wbFinish k else s.wbPump k f.units.length
    else s
  | none => s

/-- MAP_WRITE (R401, R402): its data has arrived. -/
def mapWrite (k : Nat) (s : State) : State :=
  match s.canStart k 0x12 with
  | some f =>
    if f.got ≠ 8 * leAt f.bytes 24 2 ∨ s.qOpen 1 1 0 = false then s
    else match s.mapWriteCheck f with
      | some (st, ql) => (s.startRun k f).complete k st ql
      | none =>
        let v := leAt f.bytes 16 1 % 16
        let need := (f.mapPages.filter (fun m => (s.mapPage? v m).isNone)).length
        let clean := (s.map.pages.filter (fun p => !p.dirty && !(p.vol == v && f.mapPages.contains p.page))).length
        s.wbStart k f (s.wbPlan 4 s.map.pages need (256 - s.map.pages.length + clean) [])
  | none => s.wbResume k 0x12

/-- Groups that MAP_FLUSH writes back for a volume (R403). -/
def State.flushGroups (s : State) (v : Nat) : List (Nat × Nat) :=
  if s.inBuild v then
    match (s.map.pages.filter (fun p => p.vol == v && p.dirty)).map (fun p => s.groupOf v p.page) with
    | [] => []
    | g :: l => s.groupsTo v (l.foldl max g)
  else []

/-- MAP_FLUSH (R386, R402, R403). -/
def mapFlush (k : Nat) (s : State) : State :=
  match s.canStart k 0x13 with
  | some f =>
    let v := leAt f.bytes 16 1 % 16
    if s.qOpen 1 1 0 = false then s
    else if bit (leAt f.bytes 16 1) 7 then s.wbStart k f ((List.range 16).flatMap s.flushGroups)
    else if s.isContent v = false then (s.startRun k f).complete k 0x12
    else s.wbStart k f (s.flushGroups v)
  | none => s.wbResume k 0x13

/-! ### MAP_CTL and the volume table in PS (R387, R393, R403) -/

/-- The volume table record. -/
def volRecord : PairRec := ⟨0x86000, 512⟩

/-- Its check (R460). -/
def volOk (l : List Byte) : Bool :=
  copyOk l && allZero (sliceB l 8 8)
    && (List.range 16).all (fun v =>
      let o := 16 + 16 * v
      let c := leAt l o 4
      decide (c < 256) && bits c 6 2 != 3 && bits c 2 2 == 0 && bits c 0 2 != 3 && decide (leAt l (o + 4) 4 ≤ 0x2000000))
    && bits (leAt l 272 4) 25 7 == 0 && bits (leAt l 272 4) 8 8 == 0 && bits (leAt l 272 4) 0 8 != 0
    && decide (leAt l 276 4 < 8)
    && (List.range 4).all (fun k => bits (leAt l (296 + 4 * k) 4) 17 11 == 0 && decide (bits (leAt l (296 + 4 * k) 4) 0 17 ≤ 0x10000))
    && allZero (sliceB l 312 200)

/-- The active values as SAVE writes them. -/
def State.volBody (s : State) : List Byte :=
  natLE 8 0 ++ (List.range 16).flatMap (fun v => [0x2781, 0x2782, 0x2783, 0x2784].flatMap (fun a => natLE 4 (s.reg a v).toNat))
    ++ natLE 4 (s.reg 0x2902).toNat ++ natLE 4 (s.reg 0x2A02).toNat
    ++ (List.range 8).flatMap (fun k => natLE 4 (s.reg (0x2A03 + k)).toNat)

/-- Load the volume table and the next map groups at the Trailhead. -/
def State.mapLoad (s : State) : State :=
  let both (s : State) (a : Nat) (v w : Nat) : State := (s.setReg a (BitVec.ofNat 32 v) w).setStaged a (BitVec.ofNat 32 v) w
  let s1 := match s.copyInUse volRecord volOk with
    | some l =>
      let s1 := (List.range 16).foldl (fun (s : State) v => (List.range 4).foldl (fun (s : State) j =>
        both s (0x2781 + j) (leAt l (16 + 16 * v + 4 * j) 4) v) s) s
      let s2 := both (s1.setReg 0x2902 (BitVec.ofNat 32 (leAt l 272 4))) 0x2A02 (leAt l 276 4) 0
      ((List.range 8).foldl (fun (s : State) k => both s (0x2A03 + k) (leAt l (280 + 4 * k) 4) 0) s2).set F.MAP_TBL_SRC 1
    | none => s.set F.MAP_TBL_SRC 0
  match s1.copyInUse groupRecord groupOk with
  | some l => (List.range 16).foldl (fun (s : State) v => s.set (F.VOL_STAT_NEXT_GRP v) (leAt l (16 + 4 * v) 4)) s1
  | none => s1

/-- A write of MAP_CTL. -/
def State.mapCtl (s : State) (v : Word) : State :=
  let vol := bits v.toNat 0 4
  let all := bit v.toNat 7
  if bits v.toNat 24 8 ≠ 0x4D then s.fieldError
  else match bits v.toNat 8 3 with
    | 1 => (s.writePair volRecord volOk s.volBody).2
    | 2 => s.dropPages (fun p => !p.dirty && (all || p.vol == vol))
    | 3 => if s.inBuild vol then ((s.dropPages (fun p => p.vol == vol)).nextGroupWrite vol 0).2 else s
    | _ => s.fieldError

end Sys2Proof.Machine
end

