-- ==== Sys2Proof/Machine/Streams.lean ====
section
/-!
DEFINITION. READ_ALB and READ_RAW, what follows the codec on the road (SECURE's decryption, R396, R426; INFLATE, R397 to R399),
and streams (R405 to R410).
-/

namespace Sys2Proof.Machine

/-! ### READ_ALB (R22, R386, R391, R396, R408) -/

/-- Does a stream serve reads of an ALB: it holds it, and is not being closed (Table 1-11)? -/
def Stream.serves (v : Stream) (vol a : Nat) : Bool := v.vol == vol && v.closing.isNone && v.resident.any (fun x => x.1 == a)

/-- A resident ALB whose buffer was freed is not resident (R261); it is prefetched again. -/
def State.streamLost (s : State) (t a : Nat) : State :=
  let v := s.stream t
  (s.staleRef ((v.bufOf a).getD 0) 6).setStream t { v with
    resident := tdel v.resident a, bufs := tdel v.bufs a, next := if v.w ≤ a then min a v.next else v.next }

/-- The lookup of an ALB of a volume in the streams: those that hold it with a stale reference lose it. -/
def State.residentTidy (s : State) (v a : Nat) : State :=
  s.map.streams.foldl (fun (s : State) p =>
    let x := s.stream p.1
    if x.serves v a && !(x.bufOf a).any s.refOk then s.streamLost p.1 a else s) s

/-- The lowest-numbered stream of a volume that holds an ALB. -/
def State.residentAt (s : State) (v a : Nat) : Option Nat := (s.map.streams.find? (fun p => p.2.serves v a)).map (·.1)

/-- A hit keeps a reference of its own to the resident buffer until the command ends; false when the retain is refused (R258). -/
def State.retainFor (s : State) (k t a : Nat) : Bool × State :=
  match (s.stream t).bufOf a, s.flight? k with
  | some r, some f =>
    match s.hmpRetainRef r 6 with
    | (true, s1) => (true, s1.setFlight k { f with bufs := f.bufs ++ [r] })
    | (false, s1) => (false, s1)
  | _, _ => (false, s)

/-- MAP's lookup of `n` ALBs from `a` on in the streams (R22): the places of those that are resident and can be held, with their streams. -/
def State.hitsOf (s : State) (k v a : Nat) : Nat → List (Nat × Nat) × State
  | 0 => ([], s)
  | n + 1 =>
    let (l, s1) := s.hitsOf k v a n
    match s1.residentAt v (a + n) with
    | none => (l, s1)
    | some t => match s1.retainFor k t (a + n) with
      | (true, s2) => (l ++ [(n, t)], s2)
      | (false, s2) => (l, s2)

/-- The ALBs of one device's run that are not resident, as indices. -/
def runOn (place : List (Nat × Nat)) (hits : List Nat) (d : Nat) : List Nat :=
  ((withIdx place).filter (fun p => p.2.1 == d && !hits.contains p.1)).map (·.1)

/-- Cut the ALBs of one device, as indices in ascending order, into runs of consecutive local ALBs. -/
def cutRuns (place : List (Nat × Nat)) : List Nat → List (List Nat)
  | [] => []
  | i :: l => match cutRuns place l with
    | (j :: r) :: rest =>
      if (listGet (0, 0) place j).2 = (listGet (0, 0) place i).2 + 1 then (i :: j :: r) :: rest else [i] :: (j :: r) :: rest
    | rest => [i] :: rest

/-- Send the runs of device `d`, each as a C_REQ VOL_READ (R514). -/
def State.sendRun (s : State) (k v : Nat) (f : Flight) (place : List (Nat × Nat)) (hits : List Nat) (d : Nat) : State :=
  (cutRuns place (runOn place hits d)).foldl (fun (s : State) l =>
    s.cascOpen d (.host k (l.map (4096 * ·))) 1 (s.qp f.qid).prio v (listGet (0, 0) place (l.headD 0)).2 (natLE 4 l.length)) s

/-- The part of a READ_ALB that lies here cannot be decrypted: those ALBs end at once (R396, R516). -/
def State.localUnkeyed (s : State) (k v : Nat) (l : List Nat) : State :=
  if s.noKey v ∧ l ≠ [] then s.partsDone k 0 0x15 0x0C 0 (l.map (fun i => (4096 * i, []))) else s

/-- A READ_ALB whose buffers are at hand starts: its ALBs that are resident are taken from their streams through Q_23, those of this
device await MAP in Q_1, and the run of each other device is sent to it. -/
def State.startRead (s : State) (k v a n : Nat) (f : Flight) (place : List (Nat × Nat)) : State :=
  let far := place != []
  let devs := (place.map (·.1)).dedup
  let (hits, s0) := s.hitsOf k v a n
  let f0 := (s0.flight? k).getD f
  let hit := hits.map (·.1)
  let here := runOn place hit 0
  let away := if far then (List.range n).filter (fun i => !here.contains i && !hit.contains i) else []
  let skip := hit ++ away ++ (if far ∧ s.noKey v then here else [])
  let s1 := s0.startRun k { f0 with want := n, units := skip.map (fun i => (i, 2)), place, rdev := devs.map (fun d => (d, (0, 0))) }
  let s2 := (s1.qPut 1 { flight := some k, bufs := f0.bufs, work := .alb k }).q1Tidy
  let s3 := (devs.filter (· != 0)).foldl (fun (s : State) d => s.sendRun k v f place hit d) s2
  let data := hits.map (fun h => tget [] (s.stream h.2).resident (a + h.1))
  let s4 := (hits.zip data).foldl (fun (s : State) h =>
    (s.qPass 23 { flight := some k, orig := .stream, bufs := ((s.stream h.1.2).bufOf (a + h.1.1)).toList }).partDone k (4096 * h.1.1) 0 0 0 h.2) s3
  let s5 := hits.foldl (fun (s : State) h => s.streamAdvance h.2 (a + h.1 + 1)) s4
  s5.localUnkeyed k v here

/-- READ_ALB (R22, R513, R514): step 3 of Table 1-5 and the lookup in the streams. While Q_1 or Q_23 has no credit, or the output buffers
are not granted, it waits (R15, R256). -/
def readAlb (k : Nat) (s : State) : State :=
  match s.canStart k 0x01 with
  | none => s
  | some f =>
    let v := leAt f.bytes 16 1 % 16
    let a := leAt f.bytes 20 4
    let n := leAt f.bytes 24 2
    let far := !s.localVol v
    let place := if far then (List.range n).map (fun i => s.placeOf v (a + i)) else []
    let devs := (place.map (·.1)).dedup
    if s.isContent v = false ∨ s.globalLen v < a + n then (s.startRun k f).complete k 0x12
    else if far = false ∧ s.noKey v then (s.startRun k f).complete k 0x15 0x0C
    else if devs.any (fun d => d != 0 && !s.joined d) then (s.startRun k f).complete k 0x40
    else if s.qCan 1 1 0 = false ∨ s.qOpen 23 1 0 = false then s
    else
      let st := (List.range n).foldl (fun (s : State) i => s.residentTidy v (a + i)) s
      let hits := (List.range n).filter (fun i => ((st.residentAt v (a + i)).bind (fun t => (st.stream t).bufOf (a + i))).any
        (fun r => decide ((st.hbuf (refBuf r)).ref < 15)))
      match st.getBufs 8 k (n - hits.length) with
      | (false, s0) => s0
      | (true, s0) => s0.startRead k v a n f place

/-! ### READ_RAW (R195, R197, R371, R383) -/

/-- READ_RAW: MODE 0 reads codewords to be decoded, the raw modes one range of a page. -/
def readRaw (k : Nat) (s : State) : State :=
  match s.canStart k 0x02 with
  | none => s
  | some f =>
    let (ch, d, row) := rawAddr f.bytes
    let v := s.die ch d
    let mode := leAt f.bytes 18 1 % 4
    let col := leAt f.bytes 24 4
    let len := leAt f.bytes 28 4
    let cpp := (s.layout v.cls).2
    let lim := if mode = 0 then 4096 * cpp else v.pageBytes
    if v.state ≠ 1 ∨ v.rowOk row = false ∨ lim < col + len ∨ (mode = 0 ∧ s.layoutOk v.cls = false) then
      (s.startRun k f).complete k 0x12
    else if s.regionOk ch (v.blockOf row) false = false then (s.startRun k f).complete k 0x14 6
    else if s.qOpen 1 1 0 = false then s
    else match s.getBufs 8 k (moves len) with
      | (false, s0) => s0
      | (true, s0') =>
        let s0 := s0'.qPass 1 { flight := some k, bufs := ((s0'.flight? k).map (·.bufs)).getD [] }
        let f0 := (s0.flight? k).getD f
        if mode = 0 then
          let s1 := s0.startRun k { f0 with want := len / 4096 }
          (List.range (len / 4096)).foldl (fun (s : State) i =>
            s.readCw (.host k (4096 * i)) 0 ch d row (col / 4096 + i) 0 false (some k, (some f.qid, 0))) s1
        else
          (s0.startRun k { f0 with want := 1 }).cwStart
            { use := .host k 0, ch, die := d, row, k := 0, rate := 0, cpp := 0, seed := 0, xtag := 0, flight := some k, prioQ := some f.qid,
              pass := len } col

/-- The mask of columns `col` to `col + n - 1` of a page: the randomiser's bytes below `CPP` × *N*, 0 beyond (R371). -/
def State.rawMask (s : State) (cls row col n : Nat) : List Byte :=
  let (r, cpp) := s.layout cls
  let w := cwBytes r
  let ms := (List.range cpp).map (fun k => if col < w * (k + 1) ∧ w * k < col + n then randomise (s.cwSeed row k) (List.replicate w 0) else [])
  (List.range n).map (fun i =>
    let c := col + i
    if c < w * cpp then listGet 0 (listGet [] ms (c / w)) (c % w) else 0)

/-- The bytes of a raw read as its command returns them: `MODE` 0b01 de-randomises them, `MODE` 0b10 returns them as stored. -/
def State.rawOut (s : State) (w : Cw) : List Byte :=
  match w.flight.bind s.flight? with
  | some f =>
    if leAt f.bytes 18 1 % 4 = 1 then
      List.zipWith (· ^^^ ·) w.data (s.rawMask (s.die w.ch w.die).cls w.row (leAt f.bytes 24 4) w.data.length)
    else w.data
  | none => w.data

/-! ### SECURE (R396, R426) -/

/-- The status of what removal, thermal stop or reset abandons. -/
def State.abortStatus (s : State) : Nat := if s.st = stRemoving then 0x31 else if s.st = stThermalHold ∨ s.therm.stop then 0x32 else 0x33

/-- Is the codeword one of a READ_RAW? -/
def State.cwRawUse (s : State) (w : Cw) : Bool :=
  match w.use with
  | .host k _ => (match s.flight? k with | some f => leAt f.bytes 0 1 == 0x02 | none => false)
  | _ => false

/-- The status, qualifier and payload a codeword contributes (Table 16-3), decrypted with the key bound to its volume. -/
def State.cwPayload (s : State) (w : Cw) : Nat × (Nat × List Byte) :=
  let p := sliceB w.data 0 4096
  let plain (st : Nat) : Nat × (Nat × List Byte) :=
    if w.enc then
      match s.prot.slots.find? (fun x => x.2.1 == w.vol) with
      | some (_, _, key) => (st, 0, Config.xtsDecrypt key (natLE 16 w.tweak) p)
      | none => (0x15, 0x0C, [])
    else (st, 0, p)
  if w.outcome = 0 then plain 0 else if w.outcome ≤ 2 then plain 2
  else if w.outcome = 3 ∧ s.cwRawUse w then (0, 0, List.replicate 4096 0xFF)
  else if w.outcome = 0xB then (0, 0, s.rawOut w)
  else if w.outcome = 0xA then (s.abortStatus, 0, [])
  else (0x20, 0, [])

/-- A payload of a frame is at hand. -/
def State.frameArrive (s : State) (j i st ql : Nat) (data : List Byte) : State :=
  match s.map.frames.find? (fun p => p.1 == j) with
  | none => s
  | some (_, v) =>
    let worst := match v.bad with | some b => sevOf (b % 256) | none => 1
    s.setFrame j { v with got := tput v.got i data, soft := v.soft || st == 2, bad := if worst < sevOf st then some (st + 256 * ql) else v.bad }

/-- Can SECURE pass the unit of codeword `w` on (R15): through Q_19, and then to the link through Q_20 or to the stream engine through
Q_36? -/
def State.secureCan (s : State) (w : Cw) : Bool :=
  s.qOpen 19 1 0 && (match w.use with
    | .host _ _ => s.qOpen 20 1 0
    | .stream _ _ => s.qCan 36 1 0
    | _ => true)

/-- The plaintext of codeword `c` goes on to its use. -/
def State.secureOut (s : State) (c : Nat) (w : Cw) : State :=
  let (st, ql, data) := s.cwPayload w
  let tag : FqEntry := { flight := w.flight, orig := w.use.origin }
  let s1 := ((s.qPass 19 tag).freeChain w.buf).delCw c
  let s2 := match w.flight with | some k => s1.markStale k w.ch | none => s1
  match w.use with
  | .host k off => (s2.qPass 20 tag).partDone k off st ql (if s.cwRawUse w ∧ w.outcome ≤ 2 then w.bitsFixed else 0) data
  | .frame j i => s2.frameArrive j i st ql data
  | u => s2.albArrive u st ql data

/-- XTS_DECRYPT (R426): SECURE takes the oldest codeword from Q_18. A codeword that the codec held for want of a credit follows it (R15). -/
def xtsDecrypt (s : State) : State :=
  match s.qWork 18 with
  | .cw c =>
    (match s.cw? c with
    | none => (s.qTake 18).cwFlush
    | some w => if s.secureCan w then ((s.qTake 18).secureOut c w).cwFlush else s)
  | .none => if (s.qFront 18).isSome then (s.qTake 18).cwFlush else s
  | _ => s

/-! ### INFLATE (R397 to R399) -/

/-- Walk the blocks of a Zstandard frame from `o`: the offset after the last one; none when a header breaks RFC 8878. -/
def zstdBlocks (l : List Byte) : Nat → Nat → Option Nat
  | 0, _ => none
  | fuel + 1, o =>
    if l.length < o + 3 then none
    else
      let h := leAt l o 3
      let size := if bits h 1 2 = 1 then 1 else bits h 3 21
      if bits h 1 2 = 3 then none
      else if bit h 0 then some (o + 3 + size)
      else zstdBlocks l fuel (o + 3 + size)

/-- What a Zstandard frame header says (RFC 8878): window size, dictionary identifier, content size, checksum flag, and the
offset of the first block. -/
structure ZHeader where
  window : Nat
  dict : Nat
  content : Option Nat
  sum : Bool
  first : Nat
  deriving DecidableEq, Repr

/-- Read a frame header; none for a bad magic or a set reserved bit. -/
def zstdHeader (l : List Byte) : Option ZHeader :=
  let d := leAt l 4 1
  if leAt l 0 4 ≠ 0xFD2FB528 ∨ bit d 3 then none
  else
    let single := bit d 5
    let wn := if single then 0 else 1
    let dn := listGet 0 [0, 1, 2, 4] (d % 4)
    let fn := if bits d 6 2 = 0 then b2n single else 2 ^ bits d 6 2
    let o := 5 + wn
    let fcs := leAt l (o + dn) fn
    let content := if fn = 0 then none else some (if fn = 2 then fcs + 256 else fcs)
    let wd := leAt l 5 1
    let base := 2 ^ (10 + wd / 8)
    some { window := if single then content.getD 0 else base + base / 8 * (wd % 8), dict := leAt l o dn, content, sum := bit d 2,
           first := o + dn + fn }

/-- Does an output of this size serve every ALB looked up in it (R397)? -/
def outOk (n : Nat) (wants : List (Nat × CwUse)) : Bool :=
  n % 4096 == 0 && decide (4096 ≤ n ∧ n ≤ 131072) && wants.all (fun w => decide ((w.1 + 1) * 4096 ≤ n))

/-- Decompress a Zstandard frame: the output, or the cause of Table 17-2. -/
def State.zstdFrame (s : State) (l : List Byte) (wants : List (Nat × CwUse)) : Except Nat (List Byte) :=
  if s.get F.INF_CFG_ZSTD_EN = 0 then .error 7
  else match zstdHeader l with
    | none => .error 1
    | some h =>
      if 131072 < h.window then .error 2
      else if h.dict ≠ 0 ∧ s.map.dicts.all (fun p => dictId p.2 != h.dict) then .error 6
      else if h.sum = false ∧ s.get F.INF_CFG_XSUM_REQ = 1 then .error 4
      else
        let dict := if h.dict = 0 then [] else ((s.map.dicts.find? (fun p => dictId p.2 == h.dict)).map (·.2)).getD []
        match zstdBlocks l 131072 h.first, Config.zstd dict l with
        | some e, some out =>
          if (h.content.any (fun n => n != out.length)) ∨ outOk out.length wants = false then .error 5
          else if h.sum ∧ leAt l e 4 ≠ Config.xxh64 out % 2 ^ 32 then .error 3
          else .ok out
        | _, _ => .error 1

/-- Decompress an LZ4 frame of `n` codewords. -/
def State.lz4Frame (s : State) (l : List Byte) (n : Nat) (wants : List (Nat × CwUse)) : Except Nat (List Byte) :=
  let len := leAt l 0 4
  if s.get F.INF_CFG_LZ4_EN = 0 then .error 7
  else if len = 0 ∨ 4096 * n - 4 < len then .error 1
  else match Config.lz4 (sliceB l 4 len) with
    | none => .error 1
    | some out => if outOk out.length wants then .ok out else .error 5

/-- Every payload of the frame is at hand. -/
def FrameJob.ready (v : FrameJob) : Bool := decide (v.n ≤ v.got.length)

/-- The frame jobs that hold a context: the oldest 14 whose payloads are at hand (R399). In hold no other frame starts (R126). -/
def State.contexts (s : State) : List Nat :=
  let l := ((s.map.frames.filter (fun p => p.2.ready)).map (·.1)).take 14
  if s.port.hold.contains 0x0C then l.filter (fun j => s.map.held.contains j) else l

/-- The stream a frame was prefetched for. -/
def FrameJob.forStream (v : FrameJob) : Option Nat :=
  v.wants.findSome? (fun w => match w.2 with | .stream t _ => some t | _ => none)

/-- The output ALBs of a frame, as (position, use): those asked for, and for a prefetch every other one that falls in the window and is not
on its way (R406). -/
def State.frameUses (s : State) (v : FrameJob) (n : Nat) : List (Nat × CwUse) :=
  match v.forStream with
  | none => v.wants
  | some t =>
    let same := v.wants.all (fun w => match w.2 with | .stream _ a => a == s.globalAlb v.vol (v.alb + w.1) | _ => false)
    let rest := (List.range n).filter (fun i => v.wants.all (fun w => w.1 != i)
      && s.inWindow t (s.globalAlb v.vol (v.alb + i)) && ((s.stream t).bufOf (s.globalAlb v.vol (v.alb + i))).isNone)
    v.wants ++ (if same then rest.map (fun i => (i, CwUse.stream t (s.globalAlb v.vol (v.alb + i)))) else [])

/-- An output ALB of a frame leaves INFLATE. One for a stream that was given no buffer gets one of INFLATE's own, which is handed over to
the stream engine (R248, R260). -/
def State.frameAlb (s : State) (u : CwUse) (st : Nat) (data : List Byte) (own : Option Nat) : State :=
  match u with
  | .stream t a =>
    if ((s.stream t).bufOf a).isSome then s.toQ36 { t, a, st, data }
    else match s.hmpRequest 5 1 false false with
      | (.granted [r], s1) =>
        (match s1.hmpHand r 5 6 with
        | (true, s2) => s2.toQ36 { t, a, st, data, buf := some r }
        | (false, s2) => s2.hmpRelease r 5)
      | (_, s1) => s1
  | .host _ _ => (s.qPass 20 { flight := own }).albArrive u st 0 data
  | _ => s.albArrive u st 0 data

/-- What INFLATE made of frame `v`: its ALBs, or an error code (R397, R398). -/
def State.frameOut (s : State) (v : FrameJob) (r : Except Nat (List Byte)) : State :=
  match r with
  | .ok out =>
    (s.frameUses v (out.length / 4096)).foldl (fun (s : State) w =>
      s.frameAlb w.2 (if v.soft then 2 else 0) (sliceB out (4096 * w.1) 4096) v.flight) (s.addF F.INF_COUNT_FRAMES 1)
  | .error c =>
    let s1 := (s.addF F.INF_COUNT_FRAME_ERRS 1).postBit F.INF_EVT_SRC 280 0 (v.vol + c * 256 + v.alb * 2 ^ 32)
    v.wants.foldl (fun (s : State) w => s.albArrive w.2 0x20 (if c = 6 then 0x0B else 0) []) s1

/-- Is there a place on the road for whatever frame `v` gives (R15), and a buffer for each ALB that needs one? -/
def State.frameCan (s : State) (v : FrameJob) : Bool :=
  if v.forStream.isNone then s.qOpen 20 1 0
  else
    let k := ((s.frameUses v 32).filter (fun w => match w.2 with | .stream t a => ((s.stream t).bufOf a).isNone | _ => false)).length
    s.qCan 36 (v.wants.length + 32) 0 && (k == 0 || s.hmpRoom 5 k)

/-- Could an ALB of the frame's command that MAP has not translated yet share the frame, which is decompressed once (R390)? -/
def State.frameAwaits (s : State) (v : FrameJob) : Bool :=
  match v.flight.bind s.flight?, v.flight with
  | some f, some k => (List.range f.want).any (fun i => decide (v.alb ≤ f.localAlb i ∧ f.localAlb i < v.alb + 32)
      && (f.units.all (fun u => u.1 != i) || s.map.faults.any (fun g => g.waits.contains (.host k i))))
  | _, _ => false

/-- FRAME_DECOMPRESS (R397, R398): INFLATE decompresses frame `j`, once there is a place for what it gives and every ALB of its command that
could share it has been translated. -/
def frameDecompress (j : Nat) (s : State) : State :=
  match s.map.frames.find? (fun p => p.1 == j) with
  | none => s
  | some (_, v) =>
    if v.ready = false ∨ s.contexts.contains j = false ∨ s.frameCan v = false ∨ s.frameAwaits v then s
    else
      let s0 := { s with map := { s.map with frames := tdel s.map.frames j } }
      match v.bad with
      | some b => v.wants.foldl (fun (s : State) w => s.albArrive w.2 (b % 256) (b / 256) []) s0
      | none =>
        let l := (List.range v.n).flatMap (fun i => tget [] v.got i)
        s0.frameOut v (if s.get F.VOL_CFG_COMP v.vol = 2 then s.lz4Frame l v.n v.wants else s.zstdFrame l v.wants)

/-! ### Stream commands (R405, R407, R410) -/

/-- STREAM_OPEN on this device (R405). -/
def streamOpen (k : Nat) (s : State) : State :=
  match s.canStart k 0x03 with
  | none => s
  | some f =>
    let v := leAt f.bytes 16 1 % 16
    let a := leAt f.bytes 20 4
    let n := leAt f.bytes 24 4
    let len := s.globalLen v
    let s1 := s.startRun k f
    if s.isContent v = false ∨ len ≤ a ∨ (n ≠ 0xFFFFFFFF ∧ len < a + n) then s1.complete k 0x12
    else if s.noKey v ∧ (s.volDevs v).contains 0 then s1.complete k 0x15 0x0C
    else match (List.range 32).find? (fun t => (s.stream t).state == 0) with
      | none => s1.complete k 0x12 9
      | some t =>
        (s1.setStream t {
          state := 1, vol := v, qid := f.qid, tag := f.tag, gen := f.gen, dptr := leAt f.bytes 8 8, ring := leAt f.bytes 32 4,
          first := a, w := a, next := a, stop := if n = 0xFFFFFFFF then len else a + n, depth := leAt f.bytes 28 2,
          credit := leAt f.bytes 30 2 }).complete k 0 0 t

/-- STREAM_CREDIT (R407). -/
def streamCredit (k : Nat) (s : State) : State :=
  match s.canStart k 0x04 with
  | none => s
  | some f =>
    let t := leAt f.bytes 16 1 % 32
    let v := s.stream t
    let s1 := s.startRun k f
    if v.state = 0 then s1.complete k 0x12
    else
      let c := satAdd 65535 v.credit (leAt f.bytes 24 4)
      (s1.setStream t { v with credit := c }).complete k 0 0 c

/-- Does a hit of a command in flight still use a buffer of the stream (Table 1-11)? -/
def State.hitsUse (s : State) (t : Nat) : Bool :=
  s.host.flights.any (fun p => p.2.bufs.any (fun r => (s.stream t).bufs.any (fun b => b.2 == r)))

/-- The stream is closed once no hit uses its buffers, and the command completes. -/
def State.closeWhenFree (s : State) (t : Nat) : State :=
  if s.hitsUse t then s else s.streamClosed t

/-- STREAM_CLOSE (R410): the stream stops prefetching; applied again, it ends once the hits on its buffers have been sent. -/
def streamClose (k : Nat) (s : State) : State :=
  match s.canStart k 0x05 with
  | none =>
    match s.map.streams.find? (fun p => p.2.closing == some k) with
    | some (t, _) => s.closeWhenFree t
    | none => s
  | some f =>
    let t := leAt f.bytes 16 1 % 32
    let v := s.stream t
    let s1 := s.startRun k f
    if v.state = 0 ∨ v.closing.isSome then s1.complete k 0x12
    else (s1.setStream t { v with closing := some k }).closeWhenFree t

/-! ### Prefetch and push (R406, R407, R409) -/

/-- The map page after the prefetch point's is looked up when the point is within `MAP_AHEAD` ALBs of its page's end. -/
def State.mapAhead (s : State) (t : Nat) : State :=
  let v := s.stream t
  let ahead := s.get F.STR_CFG_MAP_AHEAD
  let (d, b) := s.placeOf v.vol v.next
  let m := b / 512 + 1
  let stop := if s.localVol v.vol then v.stop else s.get F.VOL_LEN_LEN v.vol
  if ahead = 0 ∨ d ≠ 0 ∨ ahead < 512 - b % 512 ∨ stop ≤ 512 * m then s
  else (s.lookup v.vol (512 * m) .ahead).getD s

/-- Send the prefetch of ALB `a` of a stream: to MAP, or to the member that holds it (R514), which must have joined. Its priority there
is a free value. None while MAP cannot look it up. -/
def State.prefetchSend (s : State) (t v a : Nat) : Option State :=
  let (d, b) := s.placeOf v a
  if d = 0 then s.lookup v b (.stream t a b)
  else if s.joined d then
    let (pr, s1) := s.freeBits 3
    some (s1.cascOpen d (.stream t [a]) 1 pr v b (natLE 4 1))
  else some (s.streamStop t a 0x40)

/-- PREFETCH_ISSUE (R406): stream `t` sends the prefetch of the ALB at its prefetch point. None while a commit of group STREAMS is in hold
(R126), or while MAP or Q_36 has no place for what follows (R15). -/
def prefetchIssue (t : Nat) (s : State) : State :=
  let v := s.stream t
  let a := v.next
  if v.state ≠ 1 ∨ v.closing.isSome ∨ min (v.w + v.depth) v.stop ≤ a ∨ s.works = false ∨ s.therm.stop ∨ s.streamsHold then s
  else if v.resident.any (fun x => x.1 == a) ∨ v.flying.contains a then s.setStream t { v with next := a + 1 }
  else if s.get F.STR_CFG_PF_MAX ≤ v.flying.length ∨ s.opStall false ∨ s.qCan 36 1 0 = false then s
  else match v.bufOf a with
    | some _ =>
      (match (s.setStream t { v with next := a + 1, flying := v.flying ++ [a] }).prefetchSend t v.vol a with
      | some s3 => s3.mapAhead t
      | none => s)
    | none => match s.hmpRequest 6 1 false false with
      | (.granted [r], s1) =>
        let s2 := s1.setStream t { v with next := a + 1, flying := v.flying ++ [a], bufs := tput v.bufs a r }
        (match s2.prefetchSend t v.vol a with
        | some s3 => s3.mapAhead t
        | none => s)
      | _ => s

/-- STREAM_RESIDENT (R406, R409): the stream engine takes the oldest ALB of Q_36. -/
def streamResident (s : State) : State :=
  match s.qWork 36 with
  | .arrival x => (s.qTake 36).arrive x
  | .none => if (s.qFront 36).isSome then s.qTake 36 else s
  | _ => s

/-- The frames or writes of one push. -/
def State.pushItems (s : State) (t : Nat) (v : Stream) (data : List Byte) : List TxItem :=
  let off := (v.w - v.first) * 4096
  if s.pcieMode then
    (cutAt s.dataMax 64 (v.dptr + off % (max 1 v.ring)) data).map (fun p => { typ := 0x26, payload := p.2, addr := p.1 })
  else
    (List.range 8).map (fun i =>
      let last := b2n (i == 7 && v.w + 1 == v.stop)
      { typ := 0x26, hdr := natLE 1 t ++ natLE 1 0 ++ natLE 2 v.tag ++ natLE 4 (off + 512 * i) ++ natLE 1 (last + 2) ++ natLE 3 0,
        payload := sliceB data (512 * i) 512 })

/-- The next push of stream `t` is asked of the ledger (Table 12-1, R278). -/
def State.askPush (s : State) (t : Nat) : State :=
  if s.rt.reqs.contains (.push t) then s else { s with rt := { s.rt with reqs := s.rt.reqs ++ [.push t] } }

/-- PUSH (R407): stream `t` pushes ALB *W*, with credit, once the ledger has admitted the move and the link can take it. An ALB whose buffer
was freed is not resident (R261). -/
def streamPush (t : Nat) (s : State) : State :=
  let v := s.stream t
  match v.resident.find? (fun x => x.1 == v.w) with
  | none => s
  | some (_, data) =>
    let items := s.pushItems t v data
    if v.state = 0 ∨ v.state = 2 ∨ v.credit = 0 ∨ v.closing.isSome ∨ s.works = false ∨ s.streamsHold then s
    else if !(v.bufOf v.w).any s.refOk then s.streamLost t v.w
    else if v.xadm = false then s.askPush t
    else if s.qOpen 23 1 0 = false then s
    else if items.head?.all (fun i => !s.hostCanSend i) then s.hostWake
    else
      let s1 := items.foldl State.hostSend ((s.qPass 23 { orig := .stream, bufs := (v.bufOf v.w).toList }).chargeEnd (.push t))
      let s2 := s1.setStream t { v with credit := v.credit - 1, pushed := v.pushed + 1, xadm := false }
      (s2.sendProgress t).streamAdvance t (v.w + 1)

/-- A write of STR_CTL by a path (R410). -/
def State.strCtl (s : State) (p : Path) (v : Word) : State :=
  if bits v.toNat 24 8 ≠ 0x5B then s.fieldError
  else match bits v.toNat 8 2 with
    | 1 => s.streamClosed (s.get F.STR_SEL_STREAM (pathNum p))
    | 2 => s.closeStreams (fun _ => true)
    | _ => s.fieldError

end Sys2Proof.Machine
end

