-- ==== Sys2Proof/Machine/Protection.lean ====
section
/-!
DEFINITION. Content protection and die imprint (ch. 18): life cycle, derived keys (R418), sessions and authentication (R419 to
R422), title keys (R423 to R425), monotonic counters (R427 to R429), imprint sweeps, enrolment and checks (R430 to R435).
-/

namespace Sys2Proof.Machine

/-! ### Keys (R414 to R418) -/

/-- The ASCII bytes of a string. -/
def ascii (t : String) : List Byte := t.toList.map (fun c => BitVec.ofNat 8 c.toNat)

/-- The KDF of R418: output of `n` bits. -/
def kdf (key : List Byte) (label : String) (context : List Byte) (n : Nat) : List Byte :=
  ((List.range ((n + 255) / 256)).flatMap (fun i =>
    Config.hmacSha256 key (natBE 4 (i + 1) ++ ascii label ++ [0] ++ context ++ natBE 4 n))).take (n / 8)

/-- The device root key. -/
def State.drk (s : State) : List Byte := s.otpBytes 1 0 32

/-- The order of P-256 (FIPS 186-5). -/
def p256Order : Nat := 0xFFFFFFFF00000000FFFFFFFFFFFFFFFFBCE6FAADA7179E84F3B9CAC2FC632551

/-- The device identity key *d*ᴅ (Table 18-3). -/
def State.devPriv (s : State) : List Byte := natBE 32 (beNat (kdf s.drk "UZ-DEVID" [] 320) % (p256Order - 1) + 1)

/-- The device identity public key *Q*ᴅ. -/
def State.devPub (s : State) : List Byte := Config.p256Public s.devPriv

/-- SHA-384 of the platform root key, as OTP slot 3 holds it. -/
def State.rootHash (s : State) : List Byte := s.otpBytes 3 0 48

/-- Post protection event `k` (Table 18-8). -/
def State.protEvent (s : State) (k data : Nat) : State := s.postBit F.PROT_EVT_SRC 320 k data

/-- Draw entropy conditioned with SHA-256 (R416). -/
def State.draw (s : State) (n : Nat) : List Byte × State :=
  let (i, s1) := s.takeFree
  (Config.sha256 (Config.entropy i n), s1)

/-- Can the supervisor give SECURE a job, have its result and send its output (Q_41, Q_42, Q_47 of Table 10-1)? -/
def State.secOpen (s : State) : Bool := s.qOpen 41 1 0 && s.qOpen 42 1 0 && s.qOpen 47 1 0

/-- The cryptographic job of flight `k` goes to SECURE, and its result comes back. -/
def State.secJob (s : State) (k : Nat) : State := (s.qPass 41 { flight := some k }).qPass 42 { flight := some k }

/-- `n` bytes of output of flight `k` go from the supervisor to LINK. -/
def State.svcOut (s : State) (k n : Nat) : State := s.qPassN 47 { flight := some k } ((n + 31) / 32)

/-! ### Sessions (R419) -/

/-- Session `x`. -/
def State.session (s : State) (x : Nat) : Session := tget {} s.prot.sessions x

/-- Set a session. -/
def State.setSession (s : State) (x : Nat) (v : Session) : State :=
  { s with prot := { s.prot with sessions := tset {} s.prot.sessions x v } }

/-- Return every session to IDLE and erase its keys. -/
def State.sessionsClose (s : State) : State := { s with prot := { s.prot with sessions := [] } }

/-- Erase and unbind every key slot (R424); streams of volumes that lose their key stop (R409). -/
def State.keyClear (s : State) : State := ({ s with prot := { s.prot with slots := [] } }).streamsUnkeyed

/-- A failure that counts towards the bar (R422): counted, and reported with its qualifier. -/
def State.authFail (s : State) (x ql : Nat) : State :=
  let n := min 8 (s.get F.PROT_STAT_AUTH_FAILS + 1)
  ((s.set F.PROT_STAT_AUTH_FAILS n).set F.PROT_STAT_BARRED (if n = 8 then 1 else s.get F.PROT_STAT_BARRED)).protEvent 1 (x + ql * 256)

/-- Is a console certificate well formed (Table 18-4)? -/
def certOk (c : List Byte) : Bool :=
  sliceB c 0 4 == [0x43, 0x43, 0x52, 0x54] && leAt c 4 1 == 1 && decide (leAt c 5 1 < 8) && leAt c 6 2 == 0

/-- Does the certificate come from the platform root? -/
def State.certTrusted (s : State) (c : List Byte) : Bool :=
  certOk c && Config.sha384 (sliceB c 112 96) == s.rootHash && Config.ecdsaP384 (sliceB c 112 96) (Config.sha384 (sliceB c 0 208)) (sliceB c 208 96)

/-- The checks of AUTH_BEGIN (R420): qualifier of the refusal. -/
def State.authCheck (s : State) (c : List Byte) : Option Nat :=
  if s.lifecycle = 0 then some 0x20
  else if allZero s.rootHash then some 0x2B
  else if s.get F.PROT_STAT_BARRED = 1 then some 0x2A
  else if s.certTrusted c = false then some 0x21
  else if Config.p256OnCurve (sliceB c 336 64) = false ∨ Config.p384OnCurve (sliceB c 16 96) = false then some 0x21
  else none

/-- AUTH_BEGIN in session `x` ends: refused with qualifier `r`, or, the entropy source being good (`ok`), the device's half of the
handshake for certificate data `c` is handed out (R417, R420). -/
def State.authBegun (s : State) (k x : Nat) (ok : Bool) (c : List Byte) (r : Option Nat) : State :=
  match r with
  | some q => (if q = 0x21 then s.authFail x q else s).complete k 0x14 q
  | none =>
    if ok = false then (s.protEvent 7 0).complete k 0x50
    else
      let (nd, s2) := s.draw 32
      let (e, s3) := s2.draw 32
      let out := nd ++ Config.p256Public e ++ s.uid ++ s.devPub
      ((s3.setSession x {
        st := 1, eph := e, cpub := sliceB c 16 96, qc := sliceB c 336 64, script := ascii "UZAUTH1" ++ c ++ out,
        flags := leAt c 5 1, since := s.clock }).svcOut k 168).deliver k 0 0 0 out

/-- AUTH_BEGIN (R420). `ok` says that the entropy source passes its health tests (R417). -/
def authBegin (k : Nat) (ok : Bool) (s : State) : State :=
  match s.canStart k 0x20 with
  | none => s
  | some f =>
    let x := leAt f.bytes 16 1 % 4
    if leAt f.bytes 20 4 ≠ 400 ∨ leAt f.bytes 24 4 ≠ 168 then (s.startRun k f).complete k 0x11
    else if f.got ≠ 400 ∨ s.secOpen = false then s
    else
      let c := f.dataBytes 400
      let s1 := ((s.startRun k f).secJob k).setSession x {}
      s1.authBegun k x ok c (s1.authCheck c)

/-! ### Monotonic counters (R427) -/

/-- Copy `c` of counter `i`: its value when its CRC passes. -/
def State.ctrCopy (s : State) (i c : Nat) : Option Nat :=
  let l := s.psRead (0x83400 + 32 * i + 16 * c) 16
  if s.psWhole (0x83400 + 32 * i + 16 * c) ∧ leAt l 8 4 = crc32 (l.take 8) ∧ leAt l 12 4 = 0 then some (leAt l 0 8) else none

/-- The value of counter `i`. -/
def State.ctrValue (s : State) (i : Nat) : Nat := max ((s.ctrCopy i 0).getD 0) ((s.ctrCopy i 1).getD 0)

/-- The copy an increment writes: one that fails its CRC, else the one holding the smaller value, copy 0 if equal. -/
def State.ctrTarget (s : State) (i : Nat) : Nat :=
  match s.ctrCopy i 0, s.ctrCopy i 1 with
  | some a, some b => if b < a then 1 else 0
  | some _, none => 1
  | none, _ => 0

/-- COUNTER_INC (R428), the store answering `o`. -/
def counterInc (k : Nat) (o : List PsOutcome) (s : State) : State :=
  match s.canStart k 0x24 with
  | none => s
  | some f =>
    let i := leAt f.bytes 16 1 % 16
    let v := s.ctrValue i
    if s.kmemOpen = false then s
    else
    let s1 := ((s.startRun k f).kmemAsk k).kmemTell k
    if s.prot.sessions.all (fun p => !(p.2.st == 2 && bit p.2.flags 2)) then s1.complete k 0x15 0x24
    else if v = 2 ^ 64 - 1 then s1.complete k 0x14 0x2C
    else
      let l := natLE 8 (v + 1)
      let s2 := (s1.logStarted k).withPs o
      match s2.psWrite (0x83400 + 32 * i + 16 * s.ctrTarget i) (l ++ natLE 4 (crc32 l) ++ natLE 4 0) with
      | (true, s3) => ((s3.logOpDone k).protEvent 6 (i + (v + 1) % 2 ^ 32 * 2 ^ 32)).complete k 0 0 ((v + 1) % 2 ^ 32)
      | (false, s3) => s3.complete k 0x50 0x47

/-! ### AUTH_FINISH (R421) -/

/-- AUTH_FINISH (R421). -/
def authFinish (k : Nat) (ok : Bool) (s : State) : State :=
  match s.canStart k 0x21 with
  | none => s
  | some f =>
    let x := leAt f.bytes 16 1 % 4
    let v := s.session x
    let tmo := s.get F.AUTH_CFG_AUTH_TMO
    if leAt f.bytes 20 4 ≠ 96 ∨ leAt f.bytes 24 4 ≠ 256 then (s.startRun k f).complete k 0x11
    else if f.got ≠ 96 ∨ s.secOpen = false then s
    else
      let s1 := (s.startRun k f).secJob k
      let sig := f.dataBytes 96
      let th := Config.sha384 v.script
      if v.st ≠ 1 then s1.complete k 0x15 0x23
      else if tmo ≠ 0 ∧ tmo * 1000 < s.clock - v.since then (s1.setSession x {}).complete k 0x15 0x23
      else if Config.ecdsaP384 v.cpub th sig = false then ((s1.setSession x {}).authFail x 0x22).complete k 0x14 0x22
      else if ok = false then (s1.protEvent 7 0).complete k 0x50
      else
        let z := Config.ecdhP256 v.eph v.qc
        let kmac := kdf z "UZ-SESSION" (sliceB v.script 311 32 ++ sliceB v.script 407 32) 256
        let head := (List.range 16).flatMap (fun i => natLE 8 (s.ctrValue i)) ++ natLE 1 s.lifecycle
          ++ natLE 1 (s.get F.PROT_STAT_VERIFIED) ++ natLE 30 0
        let (n, s2) := s1.takeFree
        let out := head ++ Config.ecdsaP256Sign s.devPriv (Config.sha256 (ascii "UZAUTH2" ++ th ++ sig ++ head)) n
          ++ Config.hmacSha256 kmac (ascii "UZ-CONFIRM" ++ th)
        ((((s2.setSession x { st := 2, kmac, flags := v.flags }).set F.PROT_STAT_AUTH_FAILS 0).protEvent 0 x).svcOut k 256).deliver k 0 0 0 out

/-! ### The imprint record (R433) -/

/-- The imprint record key. -/
def State.impKey (s : State) : List Byte := kdf s.drk "UZ-IMPMAC" [] 256

/-- Copy `c` of the imprint record. -/
def State.impCopy (s : State) (c : Nat) : List Byte := s.psRead (0x88000 + 4096 * c) 4096

/-- Dies a record holds. -/
def impDies (l : List Byte) : Nat := leAt l 10 1

/-- Is a copy of the record valid, by its form and its HMAC? -/
def State.impOk (s : State) (l : List Byte) : Bool :=
  let n := 16 + 34 * impDies l
  sliceB l 0 4 == [0x49, 0x4D, 0x50, 0x31] && decide (1 ≤ impDies l ∧ impDies l ≤ 64) && allZero (sliceB l 11 5)
    && sliceB l n 32 == Config.hmacSha256 s.impKey (l.take n)

/-- Is copy `c` of the record valid? -/
def State.impPass (s : State) (c : Nat) : Bool := s.psWhole (0x88000 + 4096 * c) && s.impOk (s.impCopy c)

/-- The copy in use. -/
def State.impRecord (s : State) : Option (List Byte) :=
  let a := s.impCopy 0
  let b := s.impCopy 1
  match s.impPass 0, s.impPass 1 with
  | true, true => if genAbove (leAt b 4 4) (leAt a 4 4) then some b else some a
  | true, false => some a
  | false, true => some b
  | false, false => none

/-- The imprint hash of the current record. -/
def State.impHash (s : State) : List Byte :=
  match s.impRecord with
  | some l => Config.sha256 (ascii "UZIMP1" ++ s.uid ++ sliceB l 16 (34 * impDies l))
  | none => natLE 32 0

/-- Write a new record of these dies and references; true when it is verified. -/
def State.impWrite (s : State) (dies : List ((Nat × Nat) × Nat)) : Bool × State :=
  let a := s.impCopy 0
  let b := s.impCopy 1
  let ga := leAt a 4 4
  let gb := leAt b 4 4
  let (c, g) : Nat × Nat := match s.impPass 0, s.impPass 1 with
    | true, true => if genAbove ga gb then (1, (ga + 1) % 2 ^ 32) else (0, (gb + 1) % 2 ^ 32)
    | true, false => (1, (ga + 1) % 2 ^ 32)
    | false, true => (0, (gb + 1) % 2 ^ 32)
    | false, false => (0, 1)
  let l := [0x49, 0x4D, 0x50, 0x31] ++ natLE 4 g ++ natLE 2 (s.get F.IMP_CFG_BLK) ++ natLE 1 dies.length ++ natLE 5 0
    ++ dies.flatMap (fun d => natLE 1 d.1.1 ++ natLE 1 d.1.2 ++ natLE 32 d.2)
  s.psWrite (0x88000 + 4096 * c) (l ++ Config.hmacSha256 s.impKey l)

/-! ### Title keys (R423 to R426) -/

/-- The title key-encryption key of a title (Table 18-3). -/
def State.tkek (s : State) (title : List Byte) : List Byte := kdf s.drk "UZ-TKEK" (title ++ s.impHash) 256

/-- Is a package well formed, for this device, and signed (R423)? -/
def State.packageOk (s : State) (p : List Byte) : Bool :=
  sliceB p 0 4 == [0x54, 0x4B, 0x50, 0x31] && leAt p 4 1 == 1 && decide (leAt p 5 1 < 2) && decide (leAt p 6 1 < 16) && leAt p 7 1 == 0
    && leAt p 168 8 == 0 && sliceB p 8 8 == s.uid && sliceB p 136 32 == Config.sha256 s.devPub
    && Config.sha384 (sliceB p 176 96) == s.rootHash
    && Config.ecdsaP384 (sliceB p 176 96) (Config.sha384 (sliceB p 0 272)) (sliceB p 272 96)

/-- The checks of KEY_LOAD: the key, or status and qualifier. -/
def State.keyCheck (s : State) (x : Nat) (d : List Byte) : Except (Nat × Nat) (List Byte) :=
  let v := s.session x
  let p := sliceB d 4 368
  if s.lifecycle < 2 then .error (0x14, 0x20)
  else if v.st ≠ 2 then .error (0x15, 0x24)
  else if bit v.flags 0 = false then .error (0x14, 0x30)
  else if Config.hmacSha256 v.kmac (sliceB d 0 372) ≠ sliceB d 372 32 then .error (0x14, 0x25)
  else if s.packageOk p = false then .error (0x14, 0x26)
  else if s.get F.PROT_STAT_VERIFIED = 0 ∨ sliceB p 32 32 ≠ s.impHash then .error (0x14, 0x27)
  else if bit (leAt p 5 1) 0 ∧ s.ctrValue (leAt p 6 1 % 16) < leAt p 24 8 then .error (0x14, 0x28)
  else match Config.aesUnwrap (s.tkek (sliceB p 16 8)) (sliceB p 64 72) with
    | none => .error (0x14, 0x26)
    | some key => if sliceB key 0 32 = sliceB key 32 32 then .error (0x14, 0x29) else .ok key

/-- KEY_LOAD of volume `vol` into slot `slot` ends, as the check of its data through session `x` says (R423). -/
def State.keyEnd (s : State) (k x vol slot : Nat) (r : Except (Nat × Nat) (List Byte)) : State :=
  match r with
  | .error (st, ql) => (if ql = 0x25 then s.authFail x ql else s).complete k st ql
  | .ok key =>
    let rest := s.prot.slots.filter (fun p => p.2.1 != vol && p.1 != slot)
    let s1 := { s with prot := { s.prot with slots := tput rest slot (vol, key) } }
    (s1.streamsUnkeyed.protEvent 2 (slot + vol * 256)).complete k 0

/-- KEY_LOAD (R423). -/
def keyLoad (k : Nat) (s : State) : State :=
  match s.canStart k 0x22 with
  | none => s
  | some f =>
    let vol := leAt f.bytes 16 1 % 16
    let slot := leAt f.bytes 17 1 % 16
    if leAt f.bytes 20 4 ≠ 404 then (s.startRun k f).complete k 0x11
    else if f.got ≠ 404 ∨ s.secOpen = false then s
    else
      let d := f.dataBytes 404
      let x := leAt d 0 1
      let s1 := (s.startRun k f).secJob k
      if 4 ≤ x ∨ leAt d 1 3 ≠ 0 then s1.complete k 0x11
      else if s.isContent vol = false then s1.complete k 0x12
      else s1.keyEnd k x vol slot (s.keyCheck x d)

/-- Report the outcome of a PROT_CTL action. -/
def State.protResult (s : State) (c : Nat) : State := (s.set F.PROT_RES_CODE c).set F.PROT_RES_BUSY 0

/-- WRAP (R425). -/
def State.protWrap (s : State) : State :=
  let key := (List.range 16).flatMap (fun i => natLE 4 (s.get (F.WRAP_KEY_DATA i)))
  let title := natLE 4 (s.get F.WRAP_TITLE_LO_DATA) ++ natLE 4 (s.get F.WRAP_TITLE_HI_DATA)
  if s.lifecycle ≠ 2 then s.protResult 2
  else if sliceB key 0 32 = sliceB key 32 32 then s.protResult 8
  else
    let w := Config.aesWrap (s.tkek title) key
    let s1 := (List.range 18).foldl (fun (s : State) i => s.set (F.WRAP_OUT_DATA i) (leAt w (4 * i) 4)) s
    ((List.range 16).foldl (fun (s : State) i => s.set (F.WRAP_KEY_DATA i) 0) s1).protResult 1

/-- PROVISION (R416): `ok` as for AUTH_BEGIN. -/
def State.protProvision (s : State) (ok : Bool) : State :=
  if s.lifecycle ≠ 0 then s.protResult 2
  else if allZero (s.otpBytes 0 0 16) then s.protResult 3
  else if ok = false then s.protEvent 7 0
  else
    let (drk, s1) := s.draw 64
    let (c, s2) := s1.otpProgramBytes 1 0 drk
    if c ≠ 1 then s2.protResult 7
    else
      let s3 := { s2 with keep := { s2.keep with otpLocks := s2.keep.otpLocks ||| 2 } }
      let (c', s4) := s3.otpProgramBytes 6 0 [1]
      s4.protResult (if c' = 1 then 1 else 7)

/-- SEAL (R437). -/
def State.protSeal (s : State) : State :=
  if s.lifecycle ≠ 2 then s.protResult 2
  else if allZero s.rootHash then s.protResult 4
  else if (List.range 16).any s.inBuild ∨ s.map.pages.any (fun p => p.dirty) then s.protResult 5
  else if s.get F.MAP_TBL_SRC ≠ 1 ∨ s.get F.CODEC_TBL_SRC ≠ 1 then s.protResult 6
  else
    let (c, s1) := s.otpProgramBytes 6 0 [4]
    if c ≠ 1 then s1.protResult 7 else (s1.protEvent 5 0).protResult 1

/-- A write of PROT_CTL; `ok` is the health of the entropy source. -/
def State.protCtl (s : State) (v : Word) (ok : Bool) : State :=
  if bits v.toNat 24 8 ≠ 0xB7 then s.fieldError
  else match bits v.toNat 0 3 with
    | 1 => s.protProvision ok
    | 2 => s.protWrap
    | 3 => s.protSeal
    | 4 => s.keyClear.protResult 1
    | 5 => s.sessionsClose.protResult 1
    | _ => s.fieldError

/-! ### Sweeps (R430, R431) -/

/-- The row of page 0 of a die's imprint block. -/
def State.impRow (s : State) (d : Nat × Nat) : Nat := s.get F.IMP_CFG_BLK * (s.die d.1 d.2).pages

/-- Send one operation of an imprint job: kind, what it serves, length. -/
def State.impOp (s : State) (k i kind len step : Nat) (d : Nat × Nat) : State :=
  s.addOp { ch := d.1, kind, die := d.2, parts := [⟨s.impRow d, .imp k i, none, none⟩], len, prioFix := 7, step }

/-- Start sweep `w` (0 or 1) of the die at place `j`: 32 reads as stored. -/
def State.sweepStart (s : State) (k j w : Nat) (d : Nat × Nat) : State :=
  (List.range 32).foldl (fun (s : State) o => s.impOp k (128 * j + 32 * w + o) 4 8192 0xFF d) s

/-- The groups of 32 bytes that read at least 128 ones, as a mask. -/
def groupMask (l : List Byte) : Nat :=
  maskOf ((List.range 256).filter (fun g => decide (128 ≤ (sliceB l (32 * g) 32).foldl (fun n b => n + countBits b.toNat 8) 0)))

/-- Insert into an ascending list. -/
def insertAsc (x : Nat) : List Nat → List Nat
  | [] => [x]
  | y :: l => if x ≤ y then x :: y :: l else y :: insertAsc x l

/-- The imprint that a finished sweep shows (R431); none while a read is missing. -/
def ImpJob.imprint (j : ImpJob) (place w : Nat) : Option Nat :=
  let l := (j.done.filter (fun p => p.1 == 2 * place + w)).map (·.2)
  if l.length < 32 then none
  else
    let t (g : Nat) : Nat := ((List.range 32).find? (fun o => bit (tget 0 (l.filter (fun p => p.1 == o)) o) g)).getD 32
    let ts := (List.range 256).map t
    let m := listGet 0 (ts.foldl (fun acc x => insertAsc x acc) []) 127
    some (maskOf ((List.range 256).filter (fun g => decide (m < listGet 0 ts g))))

/-- The Hamming distance of two imprints. -/
def impDist (a b : Nat) : Nat := countBits (a ^^^ b) 256

/-- Set the imprint job. -/
def State.setJob (s : State) (j : Option ImpJob) : State := { s with prot := { s.prot with job := j } }

/-! ### Checks (R434) -/

/-- The reference imprint of a die in the record. -/
def impRef (l : List Byte) (d : Nat × Nat) : Option Nat :=
  ((List.range (impDies l)).find? (fun i => leAt l (16 + 34 * i) 1 == d.1 && leAt l (17 + 34 * i) 1 == d.2)).map
    (fun i => leNat (sliceB l (18 + 34 * i) 32))

/-- Has every die of a job been swept, or found unreadable? `ws` are the sweeps it makes. -/
def ImpJob.swept (j : ImpJob) (ws : List Nat) : Bool :=
  (List.range j.dies.length).all (fun p => j.bad.contains p || ws.all (fun w => (j.imprint p w).isSome))

/-- A check is at its end: distances, tolerance, result. -/
def State.checkEnd (s : State) (j : ImpJob) : State :=
  match s.impRecord with
  | none => (s.setJob none).complete j.flight 0x14 0x2E
  | some l =>
    let dist := (withIdx j.dies).map (fun p =>
      if j.bad.contains p.1 then 256
      else match j.imprint p.1 0, impRef l p.2 with | some a, some b => impDist a b | _, _ => 256)
    let out := (dist.filter (fun d => decide (s.get F.IMP_CFG_TOL < d))).length
    let most := dist.foldl max 0
    let s1 := (((s.setJob none).set F.IMP_STAT_MAX_DIST most).set F.IMP_STAT_OUTSIDE out).set F.IMP_STAT_MEASURED dist.length
    if out ≤ s.get F.IMP_CFG_MAX_OUT then
      let s2 := if dist.length = impDies l then s1.set F.PROT_STAT_VERIFIED 1 else s1
      (s2.protEvent 3 (most + out * 2 ^ 16)).complete j.flight 0 0 (most + out * 2 ^ 16)
    else ((s1.set F.PROT_STAT_VERIFIED 0).protEvent 4 (most + out * 2 ^ 16)).complete j.flight 0x14 0x2D

/-- IMPRINT_CHECK with `ENROL` = 0 (R434). -/
def imprintCheck (k : Nat) (s : State) : State :=
  match s.canStart k 0x23 with
  | none => s
  | some f =>
    let mask := leAt f.bytes 20 1
    if bit (leAt f.bytes 16 1) 0 ∨ s.prot.job.isSome ∨ s.secOpen = false then s
    else
      let s1 := (s.startRun k f).secJob k
      match (if s.lifecycle < 2 then none else s.impRecord) with
      | none => s1.complete k 0x14 0x2E
      | some l =>
        let dies := ((List.range (impDies l)).map (fun i => (leAt l (16 + 34 * i) 1, leAt l (17 + 34 * i) 1))).filter
          (fun d => mask == 0 || bit mask d.1)
        let bad := ((withIdx dies).filter (fun p => (s.die p.2.1 p.2.2).state != 1)).map (·.1)
        let j : ImpJob := { flight := k, enrol := false, dies, bad }
        let s2 := (withIdx dies).foldl (fun (s : State) p => if bad.contains p.1 then s else s.sweepStart k p.1 0 p.2) (s1.setJob (some j))
        if j.swept [0] then s2.checkEnd j else s2

/-! ### Enrolment (R432, R433, R435) -/

/-- Does the imprint block of a die overlap a save volume or a map region? -/
def State.impOverlap (s : State) (d : Nat × Nat) : Bool :=
  let blk := s.get F.IMP_CFG_BLK
  let p := (s.die d.1 d.2).pages
  s.saveBlock d.1 blk || (List.range 16).any (fun v =>
    let (ch, die, cpp) := s.mapDie v
    let groups := ((s.get F.VOL_LEN_LEN v + 511) / 512 + cpp - 1) / cpp
    let row := s.get F.VOL_MAP_ROW v
    s.isContent v && ch == d.1 && die == d.2 && decide (row < (blk + 1) * p ∧ blk * p < row + groups))

/-- Who may enrol now: status and qualifier of the refusal. -/
def State.enrolCheck (s : State) (mask : Nat) : Option (Nat × Nat) :=
  if mask = 0 then some (0x11, 0)
  else if s.lifecycle = 0 then some (0x14, 0x20)
  else if s.lifecycle = 3 then
    if s.prot.sessions.all (fun p => !(p.2.st == 2 && bit p.2.flags 1)) then some (0x14, 0x30)
    else if countBits (s.otpLE 6 1 1) 8 = 8 then some (0x14, 0x20)
    else none
  else none

/-- The new record is in PS: the life cycle or the re-enrolment count moves on, old keys go (R424, R433, R435). -/
def State.enrolled (s : State) (o : List PsOutcome) : Bool × State :=
  let was := s.lifecycle
  let s0 := { s with keep := { s.keep with otpNext := o } }
  let (c, s1) := if was = 1 then s0.otpProgramBytes 6 0 [2]
    else if was = 3 then s0.otpProgramBytes 6 1 (natLE 1 (2 ^ countBits (s.otpLE 6 1 1) 8))
    else (1, s)
  let s2 := if was = 1 then s1 else (s1.set F.PROT_STAT_VERIFIED 0).keyClear
  (c == 1, { s2 with keep := { s2.keep with otpNext := [] } })

/-- An enrolment whose sweeps have ended writes its record. -/
def State.enrolEnd (s : State) (j : ImpJob) (o : List PsOutcome) : State :=
  let k := j.flight
  let pairs := (List.range j.dies.length).map (fun p => (j.imprint p 0, j.imprint p 1))
  let dist := pairs.map (fun p => match p.1, p.2 with | some a, some b => impDist a b | _, _ => 256)
  let s0 := s.setJob none
  if j.failed ∨ dist.any (fun d => decide (s.get F.IMP_CFG_TOL / 2 < d)) then s0.complete k 0x14 0x2F
  else
    match (s0.withPs o).impWrite (j.dies.zip (pairs.map (fun p => p.1.getD 0))) with
    | (false, s1) => s1.complete k 0x50 0x47
    | (true, s1) =>
      let (ok, s2) := s1.enrolled o
      let most := dist.foldl max 0
      if ok then (s2.set F.IMP_STAT_MAX_DIST most).complete k 0 0 (most + j.leftOut % 256 * 2 ^ 16) else s2.complete k 0x50

/-- IMPRINT_ENROL (R432, R433): IMPRINT_CHECK with `ENROL` = 1. Applied first it erases the imprint blocks; applied once every
sweep has ended it writes the record, the store answering `o`. -/
def imprintEnrol (k : Nat) (o : List PsOutcome) (s : State) : State :=
  match s.canStart k 0x23 with
  | none =>
    match s.prot.job with
    | some j => if j.flight = k ∧ j.enrol ∧ (j.failed ∨ j.swept [0, 1]) ∧ s.dops.all (fun p => !s.opServes k p.2) then s.enrolEnd j o else s
    | none => s
  | some f =>
    let mask := leAt f.bytes 20 1
    if bit (leAt f.bytes 16 1) 0 = false ∨ s.prot.job.isSome ∨ s.secOpen = false then s
    else
      let s1 := (s.startRun k f).secJob k
      match s.enrolCheck mask with
      | some (st, ql) => s1.complete k st ql
      | none =>
        let all := (setBits mask 8).flatMap (fun n => (s.diesInUse n).map (fun d => (n, d)))
        let dies := all.take 64
        if dies = [] ∨ dies.any (fun d => decide ((s.die d.1 d.2).pageBytes < 8192) || s.impOverlap d) then s1.complete k 0x14 0x2F
        else
          let f1 := (s1.flight? k).getD f
          let s2 := (s1.setFlight k { f1 with opsTotal := 2 * dies.length }).setJob
            (some { flight := k, enrol := true, dies, leftOut := all.length - 64 })
          (withIdx dies).foldl (fun (s : State) p => s.impOp k (128 * p.1 + 64) 2 0 0 p.2) s2

/-- An operation of an imprint job has ended: `i` says which, `data` what it read. -/
def State.impEnd (s : State) (k i : Nat) (passed : Bool) (data : List Byte) : State :=
  match s.prot.job, s.flight? k with
  | some j, some f =>
    if j.flight ≠ k then s
    else if f.fails ≠ 0 then (if passed = true ∧ (i % 128 = 64 ∨ i % 128 = 65) then s.logOpDone k else s)
    else
      let p := i / 128
      let c := i % 128
      match j.dies[p]? with
      | none => s
      | some d =>
        if c = 64 ∨ c = 65 then
          if passed = false then s.setJob (some { j with failed := true })
          else
            let s1 := s.logOpDone k
            if c = 64 then s1.impOp k (128 * p + 65) 1 (s.die d.1 d.2).pageBytes 0 d else s1.sweepStart k p 0 d
        else
          let w := c / 32
          let j1 := if passed then { j with done := (2 * p + w, (c % 32, groupMask data)) :: j.done }
            else { j with bad := if j.bad.contains p then j.bad else p :: j.bad }
          let s0 := s.setJob (some j1)
          let s1 := if (j.imprint p w).isNone ∧ (j1.imprint p w).isSome then s0.homeSet d.1 d.2 else s0
          if j.enrol then (if w = 0 ∧ (j.imprint p 0).isNone ∧ (j1.imprint p 0).isSome then s1.sweepStart k p 1 d else s1)
          else if j1.swept [0] then s1.checkEnd j1 else s1
  | some _, none => s.setJob none
  | none, _ => s

end Sys2Proof.Machine
end

