-- ==== Sys2Proof/Machine/Channel.lean ====
section
/-!
DEFINITION. Flash channels (ch. 13): PROGRAM_RAW and ERASE_RAW, the die scheduler (R295 to R301), suspension (R302, R303), die
timeouts (R304), and how die operations are taken, confirmed and ended (R351, R352).
-/

namespace Sys2Proof.Machine

/-! ### PROGRAM_RAW and ERASE_RAW (R195, R197, R306, R307, R411, R436) -/

/-- Bytes of data for one page of a PROGRAM_RAW. -/
def State.rawPage (s : State) (f : Flight) : Nat :=
  let (ch, d, _) := rawAddr f.bytes
  let v := s.die ch d
  if bit (leAt f.bytes 18 1) 1 then 4096 * (s.layout v.cls).2 else v.pageBytes

/-- The refusal of a raw program or erase of `n` pages from `row`: status and qualifier. -/
def State.rawCheck (s : State) (ch d row n maxUs : Nat) (encode : Bool) : Option (Nat × Nat) :=
  let v := s.die ch d
  if v.state ≠ 1 ∨ v.rowOk row = false ∨ v.pages < row % v.pages + n ∨ (encode ∧ s.layoutOk v.cls = false) then some (0x12, 0)
  else if s.regionOk ch (v.blockOf row) true = false then some (0x14, 6)
  else if s.holdOk maxUs = false then some (0x14, 4)
  else none

/-- PROGRAM_RAW (R307): checked in full, it then has its pages encoded (ENCODE). -/
def programRaw (k : Nat) (s : State) : State :=
  match s.canStart k 0x10 with
  | none => s
  | some f =>
    let (ch, d, row) := rawAddr f.bytes
    let n := leAt f.bytes 19 1
    let flags := leAt f.bytes 18 1
    let v := s.die ch d
    match s.rawCheck ch d row n (s.diePar ch d).tprog (bit flags 1) with
    | some (st, ql) => (s.startRun k f).complete k st ql
    | none =>
      let first := row - row % v.pages
      if bit flags 0 = false ∧ s.guardAllows ch d first (row % v.pages) = false then
        let s1 := (s.addF (F.CH_COUNT_GUARD_REFUSED ch) 1).chEvent ch 4 (d + row * 256)
        (s1.startRun k f).complete k 0x13
      else if f.got ≠ n * s.rawPage f ∨ s.qOpen 1 1 0 = false then s
      else (s.startRun k { f with sent := 0, units := [] }).qPass 1 { flight := some k }

/-- ERASE_RAW (R306): a `ROW` whose page bits are not 0 is a reserved encoding. -/
def eraseRaw (k : Nat) (s : State) : State :=
  match s.canStart k 0x11 with
  | none => s
  | some f =>
    let (ch, d, row) := rawAddr f.bytes
    let v := s.die ch d
    match s.rawCheck ch d row 1 (s.diePar ch d).tbers false with
    | some (st, ql) => (s.startRun k f).complete k st ql
    | none =>
      if row % v.pages ≠ 0 then (s.startRun k f).complete k 0x11
      else if s.qOpen 1 1 0 = false then s
      else ((s.startRun k f).qPass 1 { flight := some k }).addOp { ch, kind := 2, die := d, parts := [⟨row, .erase k, none, none⟩], prioQ := some f.qid }

/-! ### The end of a die operation (R351, R375, R402, R432) -/

/-- A flight that has failed completes once no operation of it is left. -/
def State.flightSettle (s : State) (k : Nat) : State :=
  match s.flight? k with
  | some f => if f.fails ≠ 0 ∧ s.dops.all (fun p => !s.opServes k p.2) then s.complete k f.status f.qual else s
  | none => s

/-- A program or erase of flight `k` passed; `n` is the command's result once its last operation has. -/
def State.mediaPassed (s : State) (k n : Nat) : State :=
  let s1 := s.logOpDone k
  match s1.flight? k with
  | some f => if f.fails ≠ 0 then s1.flightSettle k else if f.opsTotal ≤ f.opsDone then s1.complete k 0 0 n else s1
  | none => s1

/-- A program or erase of flight `k` did not pass: the command fails with `st`. An operation that a stop kept from starting, and that
its program then abandons, adds nothing to the outcome recorded (R57). -/
def State.mediaFailed (s : State) (o : DieOp) (k st : Nat) : State :=
  if o.started.isNone ∧ (s.flight? k).any (fun f => f.fails != 0) then s.flightSettle k else s.failFlight k st 0

/-- A read of codeword `c` passed: its entry of Q_10 + n, which its data burst filled, is committed (R346, R351). -/
def State.cwLand (s : State) (n c : Nat) (w : Cw) : State :=
  let s1 := s.setCw c { w with phase := .landed }
  let s2 := if s1.qHas (10 + n % 8) (.cw c) then s1
    else s1.qPend (10 + n % 8) { flight := w.flight, orig := w.use.origin, bufs := [w.buf], work := .cw c }
  s2.qDone (10 + n % 8) (.cw c)

/-- One plane part of an operation has ended, `passed` or not. -/
def State.partEnd (s : State) (o : DieOp) (passed : Bool) (p : OpPart) : State :=
  let free (s : State) : State := match p.buf with | some r => s.hmpRelease r (s.hbuf (refBuf r)).owner | none => s
  let data := match p.buf with | some r => s.chainData r o.len | none => []
  match p.use with
  | .cw c =>
    (match s.cw? c with
    | some w => if passed then s.cwLand o.ch c w else (s.qDrop (10 + o.ch % 8) (.cw c)).cwReadFailed c
    | none => free s)
  | .page k _ =>
    if passed then ((free s).markStale k o.ch).mediaPassed k (((s.flight? k).map (·.opsTotal)).getD 0) else (free s).mediaFailed o k 0x21
  | .erase k => if passed then s.mediaPassed k 0 else s.mediaFailed o k 0x22
  | .wback k i => if passed then ((free s).wbPassed k).flightSettle k else ((free s).wbFailed k i).mediaFailed o k 0x21
  | .cal _ => free s
  | .imp k i =>
    ((if i % 128 < 64 then (free s).qPass 45 { prod := o.ch, flight := some k } else free s).impEnd k i passed data).flightSettle k

/-- A die operation has ended with outcome 0 passed, 1 failed, 2 abandoned: its grant, charge and reservation end, and its
parts settle. The channel reports the outcome into Q_34 (R351). -/
def State.opEnd (s : State) (i : Nat) (oc : Nat) : State :=
  match s.dop? i with
  | none => s
  | some o =>
    let s1 := (s.opErase i).qPass 34 { prod := o.ch, flight := (s.opTag o).1, orig := (s.opTag o).2 }
    ((o.parts.foldl (fun (s : State) p => s.partEnd o (oc == 0) p) s1).calOpEnd i).chPump o.ch

/-- An operation of the die has ended otherwise than by timeout: its consecutive timeouts start again. -/
def State.dieAlive (s : State) (n d : Nat) : State :=
  let v := s.die n d
  if v.tmo = 0 then s else s.setDie n d { v with tmo := 0 }

/-! ### Slots of a sequencer (R351, R352) -/

/-- Slot `x` of sequencer `n`. -/
def State.slot? (s : State) (n x : Nat) : Option OutSlot := ((s.sq n).slots.find? (fun p => p.1 == x)).map (·.2)

/-- Set a slot. -/
def State.setSlot (s : State) (n x : Nat) (v : OutSlot) : State :=
  let q := s.sq n
  s.setSq n { q with slots := tput q.slots x v }

/-- The PS writes that must be verified before the confirm cycle of a part (R306, R307, R402): true when they are. -/
def State.beforeConfirm (s : State) (o : DieOp) (p : OpPart) : Bool × State :=
  let v := s.die o.ch o.die
  let first := p.row - p.row % v.pages
  match p.use with
  | .erase _ => s.guardOpen o.ch o.die first
  | .page _ _ => s.guardRaise o.ch o.die first (p.row % v.pages) v.pages
  | .wback k i => s.wbBegin k i
  | _ => (true, s)

/-- The same for every part, in order; false at the first that fails. -/
def State.beforeConfirms (s : State) (o : DieOp) : List OpPart → Bool × State
  | [] => (true, s)
  | p :: l => match s.beforeConfirm o p with
    | (true, s1) => s1.beforeConfirms o l
    | (false, s1) => (false, s1)

/-- TAKE moves the handed operation of sequencer `n` into slot `x` (R351); none when `VALID` is 0 or the slot is open. When a
guard write fails the operation is not started, and its commands complete INTERNAL_ERROR with PS_FAIL (R308). -/
def State.slotTake (s : State) (n x : Nat) : Option State :=
  match (s.sq n).hand, s.slot? n x with
  | some i, none =>
    (match s.dop? i with
    | none => some (s.setSq n { s.sq n with hand := none })
    | some o =>
      match s.beforeConfirms o o.parts with
      | (true, s1) =>
        let s2 := (s1.setDop i { o with st := .open x }).setSlot n x { op := i, kind := o.kind, die := o.die }
        some ((s2.setSq n { s2.sq n with hand := none }).handNext n)
      | (false, s1) =>
        let s2 := (s1.opBufsFree o).opErase i
        let s3 := s2.setSq n { s2.sq n with hand := none }
        some ((o.parts.foldl (fun (s : State) p => match s1.useFlight p.use with | some k => s.failFlight k 0x50 0x47 | none => s) s3).handNext n))
  | _, _ => none

/-- CONFIRM marks the slot STARTED (R351); STARTED is recorded for the command before the operation begins (R209). -/
def State.slotConfirm (s : State) (n x : Nat) : Option State :=
  match s.slot? n x with
  | none => none
  | some v =>
    if v.started.isSome then some s
    else
      let s1 := s.setSlot n x { v with started := some s.clock }
      (match s1.dop? v.op with
      | none => some s1
      | some o =>
        let s2 := s1.setDop v.op { o with started := some s.clock, runFrom := s.clock }
        if o.kind = 1 ∨ o.kind = 2 then
          some (o.parts.foldl (fun (s : State) p => match s.useFlight p.use with | some k => s.logStarted k | none => s) s2)
        else some s2)

/-- OPEND closes the slot with its outcome (R351). -/
def State.slotEnd (s : State) (n x oc : Nat) : Option State :=
  match s.slot? n x with
  | none => none
  | some v =>
    let q := s.sq n
    some (((s.setSq n { q with slots := tdel q.slots x }).dieAlive n v.die).opEnd v.op oc)

/-- ACK clears `POLL` of the slot (R358). -/
def State.slotAck (s : State) (n x : Nat) : Option State :=
  match s.slot? n x with
  | none => none
  | some v => some (s.setSlot n x { v with poll := false })

/-- SUSPACK reports a suspension or a resumption (R352). -/
def State.slotSuspack (s : State) (n x : Nat) (susp : Bool) : Option State :=
  match s.slot? n x with
  | none => none
  | some v =>
    let s1 := s.setSlot n x (if susp then { v with suspended := true, suspReq := false } else { v with suspended := false, resReq := false })
    (match s1.dop? v.op with
    | none => some s1
    | some o =>
      if susp then
        some ((s1.setDop v.op { o with suspended := true, suspFrom := s.clock, suspCount := o.suspCount + 1, suspReads := 0 }).addF
          (F.CH_COUNT_SUSPENDS n) 1)
      else some (s1.setDop v.op { o with
        suspended := false, runFrom := s.clock, susTime := if o.suspended then o.susTime + (s.clock - o.suspFrom) else o.susTime }))

/-- DIE_OP_END (R57, R287): the started operation in slot `x` of channel `n` has ended in its die, passed or not; `data` holds what
its data bursts put into the landing chain of each part. -/
def dieOpEnd (n x : Nat) (passed : Bool) (data : List (List Byte)) (s : State) : State :=
  match s.slot? n x with
  | none => s
  | some v =>
    match s.dop? v.op with
    | some o =>
      if v.started.isNone ∨ s.qOpen 34 1 n = false then s
      else
        let s1 := if o.reads then
            (o.parts.zip data).foldl (fun (s : State) p => match p.1.buf with
              | some r => (match s.chainStale r 16 with
                | some q => s.staleRef q 3
                | none => s).chainPut (s.chainRefs r 16) (p.2.take o.len)
              | none => s) s
          else s
        (s1.slotEnd n x (if passed then 0 else 1)).getD s
    | none => (s.slotEnd n x 0).getD s

/-! ### The die scheduler (R288, R295 to R297, R300, R301) -/

/-- Grants a channel holds: a cache sequence counts once (R288). -/
def State.grants (s : State) (n : Nat) : Nat :=
  seqCount ((s.chOps n).filter (fun p => p.2.holds))

/-- The blocks of a die operation. -/
def State.opBlocks (s : State) (o : DieOp) : List Nat := o.parts.map (fun p => (s.die o.ch o.die).blockOf p.row)

/-- Do two operations name a common block of one die? -/
def State.sameBlock (s : State) (a b : DieOp) : Bool :=
  a.ch == b.ch && a.die == b.die && (s.opBlocks a).any (fun x => (s.opBlocks b).contains x)

/-- Programs and erases. -/
def DieOp.writes (o : DieOp) : Bool := o.kind == 1 || o.kind == 2

/-- Reads of a channel that have not entered an LDPC engine (R297). -/
def State.readsAhead (s : State) (n : Nat) : Nat :=
  ((s.chOps n).filter (fun p => p.2.holds && p.2.reads)).foldl (fun m p => m + p.2.parts.length) 0
    + ((s.fq (10 + n % 8)).entries.filter (fun e => e.done)).length

/-- Does R297 let waiting operation `i` be granted? -/
def State.mayGrant (s : State) (i : Nat) (o : DieOp) : Bool :=
  (s.chOps o.ch).all (fun p => !(decide (p.1 < i) && (p.2.st == .waiting || p.2.st == .queued) && s.sameBlock o p.2 && (o.writes || p.2.writes)))
    && (!o.reads || decide (s.readsAhead o.ch < s.get (F.CH_SCHED_READ_AHEAD o.ch)))

/-- The suspended operation of a die, if any. -/
def State.suspendedOn (s : State) (n d : Nat) : Option (Nat × DieOp) := (s.chOps n).find? (fun p => p.2.die == d && p.2.suspended)

/-- The read condition of R302: a read of at least `SUSP_PRIO` that does not name the suspended block. -/
def State.suspRead (s : State) (p o : DieOp) : Bool :=
  o.reads && o.die == p.die && decide (s.get (F.CH_SUSP_SUSP_PRIO p.ch) ≤ s.effDie o) && !s.sameBlock o p

/-- Is the die of a waiting operation free for it: no grant on it, or a suspended operation that still serves reads? -/
def State.dieFor (s : State) (o : DieOp) : Bool :=
  let l := (s.chOps o.ch).filter (fun p => p.2.die == o.die && p.2.holds)
  match l with
  | [] => true
  | [(_, p)] =>
    (match (if p.suspended then s.slot? o.ch (match p.st with | .open x => x | _ => 8) else none) with
    | some v => !v.resReq && decide (p.suspReads < s.get (F.CH_SUSP_SUSP_READS o.ch)) && s.suspRead p o
    | none => false)
  | _ => false

/-- Does operation `a` rank before `b`: effective die priority, then age, then die index? -/
def State.ranksBefore (s : State) (a b : Nat × DieOp) : Bool :=
  let ea := s.effDie a.2
  let eb := s.effDie b.2
  decide (eb < ea) || (ea == eb && (decide (a.2.arr < b.2.arr) || (a.2.arr == b.2.arr && (if a.2.die = b.2.die then decide (a.1 < b.1) else decide (a.2.die < b.2.die)))))

/-- The best of a list of operations. -/
def State.bestOp (s : State) (l : List (Nat × DieOp)) : Option (Nat × DieOp) :=
  l.foldl (fun b p => match b with | none => some p | some q => if s.ranksBefore p q then some p else some q) none

/-- Waiting operations of channel `n`. -/
def State.waitingOps (s : State) (n : Nat) : List (Nat × DieOp) := (s.chOps n).filter (fun p => p.2.st == .waiting)

/-- May `b` be merged into granted operation `a` (R300)? Parts on other planes at the same page of their blocks. -/
def State.canMerge (s : State) (a b : DieOp) : Bool :=
  let v := s.die a.ch a.die
  let page (p : OpPart) : Nat := p.row % v.pages
  a.kind == b.kind && a.die == b.die && decide (a.kind < 3) && decide (a.parts.length + b.parts.length ≤ v.planeCount)
    && a.parts.all (fun p => b.parts.all (fun q => v.planeOf p.row != v.planeOf q.row && page p == page q))
    && a.col == b.col && a.len == b.len

/-- Merge every waiting operation that fits into granted operation `i` (R300). -/
def State.mergeInto (s : State) (i : Nat) : State :=
  match s.dop? i with
  | none => s
  | some o =>
    if s.get (F.CH_SCHED_MP_EN o.ch) = 0 ∨ bit (s.diePar o.ch o.die).caps 2 = false ∨ (s.die o.ch o.die).planeCount < 2 then s
    else (s.waitingOps o.ch).foldl (fun (s : State) p =>
      match s.dop? i with
      | some a =>
        if s.canMerge a p.2 ∧ s.mayGrant p.1 p.2 then
          ((s.delDop p.1).setDop i { a with
            parts := a.parts ++ p.2.parts, blocking := a.blocking || p.2.blocking,
            mates := a.mates ++ (p.2.prioQ, (p.2.prioFix, p.2.arr)) :: p.2.mates }).addF (F.CH_COUNT_MERGES o.ch) 1
        else s
      | none => s) s

/-- Does `b` follow `a` in a cache sequence (R301)? -/
def State.cacheNext (s : State) (a b : DieOp) : Bool :=
  let v := s.die a.ch a.die
  match a.parts, b.parts with
  | [p], [q] =>
    a.die == b.die && q.row == p.row + 1 && v.blockOf q.row == v.blockOf p.row &&
      ((a.kind == 0 && b.kind == 0) || (match p.use, q.use with | .page k x, .page l y => k == l && y == x + 1 | _, _ => false))
  | _, _ => false

/-- The last operation of the cache sequence, or the one operation, that holds a die without being suspended. -/
def State.cacheTail (s : State) (n d : Nat) : Option (Nat × DieOp) :=
  let l := (s.chOps n).filter (fun p => p.2.die == d && p.2.holds)
  if l.any (fun p => p.2.suspended) ∨ 1 < seqCount l then none else l.getLast?

/-- Is waiting operation `i` the next page of the cache sequence that its die runs, whose last page so far the sequencer has (R301)? No other
waiting operation of the die ranks before it. -/
def State.cacheFor (s : State) (i : Nat) (o : DieOp) : Option Nat :=
  match s.cacheTail o.ch o.die with
  | none => none
  | some (j, a) =>
    if s.get (F.CH_SCHED_CACHE_EN o.ch) == 1 && bit (s.diePar o.ch o.die).caps 1
        && (match a.st with | .handed => true | .open _ => true | _ => false) && s.cacheNext a o && s.mayGrant i o
        && ((s.bestOp ((s.waitingOps o.ch).filter (fun p => p.2.die == o.die))).map (·.1)) == some i
    then some (a.seqOf.getD j) else none

/-- Cache sequences of channel `n` take their next page: it is one more operation of a grant that the die holds. -/
def State.cacheAll (s : State) (n : Nat) : State :=
  (s.waitingOps n).foldl (fun (s : State) p =>
    match s.cacheFor p.1 p.2 with
    | some r => s.setDop p.1 { p.2 with st := .granted, cache := true, seqOf := some r }
    | none => s) s

/-- Grant one operation. -/
def State.grantOp (s : State) (i : Nat) (o : DieOp) : State :=
  match s.suspendedOn o.ch o.die with
  | some (j, p) => (s.setDop i { o with st := .granted }).setDop j { p with suspReads := p.suspReads + 1 }
  | none => (s.setDop i { o with st := .granted }).mergeInto i

/-- Grant until no die is free for a waiting operation or the channel holds 8 grants. -/
def State.grantAll (s : State) (n : Nat) : Nat → State
  | 0 => s
  | fuel + 1 =>
    if 8 ≤ s.grants n then s
    else match s.bestOp ((s.waitingOps n).filter (fun p => s.dieFor p.2 && s.mayGrant p.1 p.2)) with
      | some (i, o) => (s.grantOp i o).grantAll n fuel
      | none => s

/-- SCHEDULING_DECISION (R296): channel `n` grants its free dies. A commit of the channel in hold admits no new die operation
(R294). -/
def schedulingDecision (n : Nat) (s : State) : State :=
  if s.works = false ∨ s.therm.stop ∨ s.chHold n ∨ (s.chan n).training ∨ s.tpHolds n ∨ 8 ≤ n then s else ((s.opMove n).cacheAll n).grantAll n 8

/-! ### Suspension (R302, R303) -/

/-- Does a read wait that meets the read condition? -/
def State.readWaits (s : State) (p : DieOp) : Bool := (s.waitingOps p.ch).any (fun q => s.suspRead p q.2)

/-- Should the started operation be suspended now? -/
def State.shouldSuspend (s : State) (o : DieOp) : Bool :=
  let run := s.clock - o.runFrom
  s.get (F.CH_SUSP_SUSP_EN o.ch) == 1 && o.writes && o.started.isSome && !o.suspended && bit (s.diePar o.ch o.die).caps 0
    && s.readWaits o && decide ((if o.kind = 1 then s.get (F.CH_SUSP_MIN_RUN_P o.ch) else s.get (F.CH_SUSP_MIN_RUN_E o.ch)) * 10 ≤ run)
    && decide (o.suspCount < s.get (F.CH_SUSP_SUSP_MAX o.ch)) && s.works && !s.therm.stop && !s.chHold o.ch

/-- Should the suspended operation be resumed now: its reads are used up or none waits, and none is in progress? -/
def State.shouldResume (s : State) (o : DieOp) : Bool :=
  let busy := (s.chOps o.ch).any (fun p => p.2.die == o.die && p.2.holds && !p.2.suspended)
  o.suspended && (s.works == false || s.therm.stop || s.chHold o.ch
    || (!busy && (decide (s.get (F.CH_SUSP_SUSP_READS o.ch) ≤ o.suspReads) || !s.readWaits o)))

/-- Ask the sequencer to suspend or resume the operation in a slot. -/
def State.suspAsk (s : State) (o : DieOp) (susp : Bool) : State :=
  match o.st with
  | .open x => match s.slot? o.ch x with
    | some v => s.setSlot o.ch x (if susp then { v with suspReq := true } else { v with resReq := true })
    | none => s
  | _ => s

/-- SUSPEND_DECISION (R302, R303) of channel `n`. -/
def suspendDecision (n : Nat) (s : State) : State :=
  (s.chOps n).foldl (fun (s : State) p =>
    if s.shouldSuspend p.2 then s.suspAsk p.2 true else if s.shouldResume p.2 then s.suspAsk p.2 false else s) s

/-- Resume every suspended operation at once (R303). -/
def State.resumeAll (s : State) : State :=
  s.dops.foldl (fun (s : State) p => if p.2.suspended then s.suspAsk p.2 false else s) s

/-! ### Die timeouts (R304) -/

/-- The channel issues ONFI RESET to one target (CE index `ce`). -/
def State.onfiReset (s : State) (ch ce : Nat) : State :=
  (s.send (.bus ch 0 [BitVec.ofNat 8 ce])).send (.bus ch 1 [0xFF])

/-- The channel resets die `d`: its LUN alone where the die declares RESET LUN, else its whole target. -/
def State.dieReset (s : State) (ch d : Nat) : State :=
  if (s.die ch d).lunReset then
    ((s.send (.bus ch 0 [BitVec.ofNat 8 (d / 4)])).send (.bus ch 1 [0xFA])).send (.bus ch 2 (natLE 3 (d % 4 * (s.die ch d).pages * (s.die ch d).blocks)))
  else s.onfiReset ch (d / 4)

/-- The channel closes the slot of operation `i` itself (R353). -/
def State.slotDrop (s : State) (i : Nat) (o : DieOp) : State :=
  let q := s.sq o.ch
  let s1 := s.setSq o.ch { q with slots := q.slots.filter (fun x => x.2.op != i), hand := if q.hand = some i then none else q.hand }
  s1

/-- Waiting operations of a die that is no longer in use end without being started. -/
def State.dieGone (s : State) (n d : Nat) : State :=
  ((s.chOps n).filter (fun p => p.2.die == d && p.2.started.isNone && (p.2.st == .waiting || p.2.st == .queued))).foldl (fun (s : State) p => s.opEnd p.1 1) s

/-- One started operation is handled as timed out. -/
def State.timedOut (s : State) (i : Nat) (o : DieOp) : State :=
  let v := s.die o.ch o.die
  let t := min 3 (v.tmo + 1)
  let kind := if o.kind = 1 then 1 else if o.kind = 2 then 2 else 0
  let s1 := ((s.setDie o.ch o.die { v with tmo := t, state := if t = 3 then 6 else v.state }).addF (F.CH_COUNT_TIMEOUTS o.ch) 1).chEvent
    o.ch 0 (o.die + kind * 256)
  let s2 := if t = 3 ∧ v.state = 1 then s1.chEvent o.ch 1 o.die else s1
  let s3 := (s2.slotDrop i o).opEnd i 1
  if t = 3 then s3.dieGone o.ch o.die else s3

/-- DIE_TIMEOUT (R304): die operation `i` has not ended in time, so the channel resets its die, or its whole target. -/
def dieTimeout (i : Nat) (s : State) : State :=
  match s.dop? i with
  | none => s
  | some o =>
    match o.started with
    | none => s
    | some t =>
      let sus := o.susTime + (if o.suspended then s.clock - o.suspFrom else 0)
      if s.clock - t < 2 * s.opMax o + sus then s
      else
        let l := if (s.die o.ch o.die).lunReset then [(i, o)]
          else s.startedOps.filter (fun p => p.2.ch == o.ch && p.2.die / 4 == o.die / 4)
        l.foldl (fun (s : State) p => match s.dop? p.1 with | some a => s.timedOut p.1 a | none => s) (s.dieReset o.ch o.die)

end Sys2Proof.Machine
end

