-- ==== Sys2Proof/Machine/Fabric.lean ====
section
/-!
DEFINITION. The queue fabric's own rows (ch. 10): producer writes, COMMIT and REWIND, prefix packets, consumer reads, spill requests; and
pointer mismatches with the queue reset and the settlement of what it discards (R237 to R239).
-/

namespace Sys2Proof.Machine

/-! ### Settlement (R239, Table 10-3) -/

/-- MAP or the stream engine reads a codeword again from the start. -/
def State.cwAgain (s : State) (c : Nat) (w : Cw) : State :=
  let n := s.nextCw
  let s1 := ((s.cwFreeOthers w w.buf).delCw c).cwStart { w with
    phase := .reading, buf := 0x10000, step := 0, soft := 0, left := [], kept := none, softRefs := [], softLeft := 0, outcome := 0,
    bitsFixed := 0, data := [] }
  { s1 with map := { s1.map with faults := s1.map.faults.map (fun f => if f.cw = c then { f with cw := n } else f) } }

/-- The stream engine fetches an ALB again. -/
def State.fetchAgain (s : State) (x : Arrival) : State :=
  let v := s.stream x.t
  if v.state = 0 then s
  else s.setStream x.t { v with flying := v.flying.filter (· != x.a), next := if v.w ≤ x.a then min x.a v.next else v.next }

/-- Settle the work that a discarded entry of queue `q` names (Table 10-3). A completion or a Logbook record is issued again by HOST, which
keeps it: the effect of its row stands. -/
def State.settleEntry (q : Nat) (s : State) (e : FqEntry) : State :=
  if q = 21 ∨ q = 22 then s
  else if q = 0 then (if s.pcieMode then s else s.cmdReturn)
  else match e.flight with
    | some k =>
      let s1 := match e.work with | .cw c => s.delCw c | _ => s
      s1.failFlight k 0x50 0
    | none =>
      match e.work with
      | .cw c => (match s.cw? c with | some w => if e.orig = .host then s.delCw c else s.cwAgain c w | none => s)
      | .op i => s.opEnter i
      | .arrival x => s.fetchAgain x
      | _ => s

/-! ### Pointer mismatch (R237, R238) -/

/-- Reset queue `q` (R238). What a stalled producer had still to write goes with it. -/
def State.fqReset (s : State) (q : Nat) : State :=
  let v := s.fq q
  let all := v.entries ++ v.parts
  let n := all.length
  let s1 := s.setFq q {}
  let s2 := (all.flatMap (·.bufs)).foldl (fun s r => s.hmpNamed (refBuf r) (s.hbuf (refBuf r)).owner) s1
  let s3 := v.bufs.foldl (fun s r => s.hmpNamed (refBuf r) 7) s2
  let s4 := if q < 32 then s3.orF F.FQ_QERR_LO_QERR (1 <<< q) else s3.orF F.FQ_QERR_HI_QERR (1 <<< (q - 32))
  let s5 := (s4.addF F.FQ_COUNT_RESETS 1 q).fabEvent F.FAB_EVT_QERR 0 (q + min 0xFF n * 2 ^ 16)
  all.foldl (State.settleEntry q) (s5.faultDue 0x04 0 (natLE 1 q ++ natLE 1 (min 0xFF n)))

/-- Does an access of queue `q` find its pointers good: copies that agree, in order, and no mismatch forced by FQ_INJECT? -/
def State.qSound (s : State) (q : Nat) : Bool := !(s.fq q).inject && (s.fq q).ptrsOk q

/-- An access of queues, performed as `f` when it finds the pointers of each good; otherwise it is not performed, and each queue with a
mismatch is reset. -/
def State.viaQ (s : State) (qs : List Nat) (f : State → State) : State :=
  match qs.filter (fun q => !s.qSound q) with
  | [] => f s
  | l => l.foldl State.fqReset s

/-- An access of queue `q`; with `mm` a bit of the stored copy of RD has flipped before it. -/
def State.fqAccess (s : State) (q : Nat) (mm : Bool) (f : State → State) : State :=
  if 48 ≤ q then s
  else
    let v := s.fq q
    let s1 := if mm then { s with fqs := tset {} s.fqs q { v with inv := { v.inv with rd := v.inv.rd ^^^ 1 } } } else s
    s1.viaQ [q] f

/-! ### Producers (R226, R228, R231) -/

/-- PRODUCER_WRITE (R226): one write of at most the producer port's width, for an entry with this `USER`, in-flight index and
buffers. A producer that is stalled makes no further write. -/
def producerWrite (q prod : Nat) (data : List Byte) (user : Nat) (flight : Option Nat) (bufs : List Nat) (mm : Bool)
    (s : State) : State :=
  let m : FqEntry := { user, prod, flight, bufs, orig := originOf q }
  s.fqAccess q mm (fun s =>
    if data.length = 0 ∨ fqPW q < data.length ∨ (s.fq q).held.any (fun e => e.prod == prod) then s
    else s.fqFillBytes q m (data.length + 1) data)

/-- PRODUCER_FLUSH (R226): end of unit or flush. -/
def producerFlush (q prod : Nat) (s : State) : State := if 48 ≤ q then s else s.fqClosePart q prod

/-- PACK_TIMEOUT (R226): no write for `TIMEOUT` × 8 cycles. -/
def packTimeout (q prod : Nat) (s : State) : State :=
  if 48 ≤ q ∨ s.reg 0xE40 = 0 then s else s.fqClosePart q prod

/-! ### Consumer (R227, R236) -/

/-- A credit of queue `q` has returned: engines that it held up go on. -/
def State.qFreed (s : State) (q : Nat) : State :=
  if q = 1 then s.q1Tidy
  else if 2 ≤ q ∧ q ≤ 9 then s.opMove (q - 2)
  else if 26 ≤ q ∧ q ≤ 33 then s.opMove (q - 26)
  else if q = 18 ∨ q = 35 then s.cwFlush
  else s

/-- The consumer of queue `q` takes an entry that names engine work by doing that work. -/
def State.qConsume (s : State) (q : Nat) : State :=
  if 10 ≤ q ∧ q ≤ 17 then codewordTake (q - 10) s
  else if q = 18 then xtsDecrypt s
  else if q = 35 then mapFaultDone s
  else if q = 36 then streamResident s
  else s

/-- CONSUMER_READ (R227): the consumer reads the oldest ready entry, whole; it leaves and its credit returns. -/
def consumerRead (q : Nat) (mm : Bool) (s : State) : State :=
  s.fqAccess q mm (fun s => if s.qWork q = .none then (s.qTake q).qFreed q else s.qConsume q)

/-! ### Commit mode (R229, R230) -/

/-- The `POS` codes of a packet. -/
def markPos (l : List FqEntry) : List FqEntry :=
  let n := l.length
  l.zipIdx.map (fun (e, i) => { e with pos := if n = 1 then 0 else if i = 0 then 1 else if i + 1 = n then 3 else 2 })

/-- The open partial entry of a queue with one producer is closed. -/
def State.fqCloseAny (s : State) (q : Nat) : State :=
  match (s.fq q).parts with
  | e :: _ => (s.fqClose1 q e).2
  | [] => s

/-- COMMIT (R229). -/
def fqCommit (q : Nat) (mm : Bool) (s : State) : State :=
  if fqMode q ≠ 1 then s
  else s.fqAccess q mm (fun s =>
    let s1 := s.fqCloseAny q
    let v := s1.fq q
    let all := v.entries.take v.vis ++ markPos (v.entries.drop v.vis)
    s1.setFq q { v.place v.ring.length all with vis := all.length })

/-- REWIND (R230). -/
def fqRewind (q : Nat) (mm : Bool) (s : State) : State :=
  if fqMode q ≠ 1 then s else s.fqAccess q mm (fun s => s.fqRewindQ q)

/-! ### Prefix mode (R232, R233) -/

/-- OPEN (R232): reserve a length slot; a second OPEN is refused with PACK_ERR. -/
def fqOpen (q : Nat) (mm : Bool) (s : State) : State :=
  if fqMode q ≠ 2 then s
  else s.fqAccess q mm (fun s =>
    let v := s.fq q
    if v.slotOpen then s.fabEvent F.FAB_EVT_PACK_ERR 5 q
    else if v.credits q 0 = 0 then s
    else s.fqPut q { (v.append q { data := natLE (fqW q) 0, vb := 8, lslot := true }) with slotOpen := true })

/-- Keep the first `len` bytes of payload entries, shortening the last one kept. -/
def keepBytes : Nat → List FqEntry → List FqEntry
  | _, [] => []
  | len, e :: l => if len = 0 then [] else if len ≤ e.vb then [{ e with vb := len }] else e :: keepBytes (len - e.vb) l

/-- CLOSE (R232, R233): the packet's length is `len`. The credits of entries beyond it return. -/
def fqClose (q len : Nat) (mm : Bool) (s : State) : State :=
  if fqMode q ≠ 2 then s
  else s.fqAccess q mm (fun s =>
    if (s.fq q).slotOpen = false then s
    else
      let s1 := s.fqCloseAny q
      let v := s1.fq q
      if v.slotOpen = false then s1
      else
        let body := (v.entries.drop v.vis).drop 1
        let total := body.foldl (fun n e => n + e.vb) 0
        let kept := keepBytes (min len total) body
        let slot : FqEntry := { data := natLE 4 (min len total) ++ natLE 2 kept.length ++ natLE (fqW q - 6) 0, vb := 8, lslot := true }
        let all := v.entries.take v.vis ++ markPos (slot :: kept)
        let s2 := ((s1.fqPut q { v.place v.ring.length all with vis := all.length, slotOpen := false }).spillTidy q).fqResume q
        if total < len then s2.fabEvent F.FAB_EVT_PACK_ERR 5 q else s2)

/-! ### Spill (R235) -/

/-- SPILL_REQUEST (R235): 8 or fewer free entries on chip, no free place in the buffers held, and fewer buffers than the limit. -/
def spillRequest (q : Nat) (s : State) : State :=
  let v := s.fq q
  if fqSpill q ∧ fqDepth q - v.ring.length - v.parts.length ≤ 8 ∧ v.bufs.length < s.spillCfg q ∧ v.spillOpen q = 0 then
    match s.hmpRequest 7 1 false false with
    | (.granted l, s1) => (s1.setFq q { s1.fq q with bufs := (s1.fq q).bufs ++ l }).fqResume q
    | (_, s1) => (s1.addF F.FQ_COUNT_SPILL_DENIED 1 q).fabEvent F.FAB_EVT_SPILL_DENIED 3 q
  else s

end Sys2Proof.Machine
end

