-- ==== Sys2Proof/Machine/Reset.lean ====
section
/-!
DEFINITION. Immediate resets (R65, R67, R496): what a reset keeps and destroys, and the evidence it leaves in the always-on
island (R69, R70).
-/

namespace Sys2Proof.Machine

/-- The order in which `LAST` takes one of several causes (R69). -/
def causeOrder : List Nat := [0, 8, 1, 2, 3, 4, 7, 6, 5]

/-- The causes that the AON cycle of now has brought so far: those of the last reset, when it was at this moment and the logic die has not
left reset since (log entry 132). -/
def State.cycleCauses (s : State) : List Nat := if s.aon.causesAt = some s.clock ∧ s.trail.step = 0 then s.aon.causes else []

/-- The evidence of a reset (R69): the cause bits (a cause's bit has the number of its code in `LAST`), `LAST`, `RST_COUNT` and `RST_TIME`.
Causes of one AON cycle make one reset: every bit is set, and `LAST` takes the first of them all. -/
def State.evidence (s : State) (causes : List Nat) : State :=
  let all := causes ++ s.cycleCauses
  let s1 := causes.foldl (fun (s : State) c => s.setReg 0x00C0 (s.reg 0x00C0 ||| BitVec.ofNat 32 (1 <<< c))) s
  let last := ((causeOrder.filter (fun c => all.contains c)).head?).getD 0
  let s2 := (s1.set F.RST_CAUSE_LAST last).addF F.RST_COUNT_RESETS (b2n (s.cycleCauses == []))
  let s3 := (s2.set F.RST_TIME_LO_TIME (s.clock % 2 ^ 32)).set F.RST_TIME_HI_TIME (s.clock / 2 ^ 32)
  { s3 with aon := { s3.aon with causes := all, causesAt := some s.clock } }

/-- Registers that a reset of the logic die leaves: page 0x03 (R65), BIST_STAT (R529), and the pages of KMEM, 0xB4 to 0xB8, in every
window, since KMEM is reset by POR only (R65). -/
def keptReg (k : Nat) : Bool :=
  (decide (0xC0 ≤ k) && decide (k < 0x100)) || k == 0x3343 || (decide (0x2D00 ≤ k % 0x4000) && decide (k % 0x4000 < 0x2E40))

/-- The registers kept. -/
def keptRegs (l : List (Nat × Word)) : List (Nat × Word) := l.filter (fun p => keptReg p.1)

/-- Does work of the array belong to a path's register action? It is KMEM's own and outlives a reset of the logic die; a command's work ends
with the command (R73). -/
def NorOp.ofPath (op : NorOp) : Bool := match op.origin with | .path _ => true | _ => false

/-- Work of KMEM at an immediate reset (R67, Table 19-3): the word in progress completes, an erase stops and leaves its
sector's contents open with its pending sector set. Fault records held for the stopped erase go to FAULT_LATCH (R456). A register action
reports its end: success for its word, the status of the interruption for its erase (log entry 33). -/
def State.norReset (s : State) : State :=
  match s.keep.norOp with
  | none => s
  | some op =>
    if op.erase then
      let s1 := (s.keep.jnlHeld.foldl State.jnlDrop s).norClear op.sector false
      let s2 := { s1 with keep := { s1.keep with jnlHeld := [] } }
      if s.keep.norStopped then s2 else s2.norCut 0x33 op.origin
    else match op.words with
      | (a, d) :: _ =>
        let s1 := s.norPut a (natLE 8 (s.norLE a 8 &&& d))
        if op.ofPath then s1.norReport op.origin 0 0 0 else s1
      | [] => s

/-- What lasts until the next reset of any cause, though KMEM keeps its registers: failures of the password (R450). -/
def State.norSession (s : State) : State := (s.set F.NOR_PW_STAT_FAILS 0).set F.NOR_PW_STAT_BARRED 0

/-- The keep die after a reset other than POR: contents and locks kept; the array idle; register actions and fault records that wait for
it still wait (R65, log entry 33). -/
def Keep.afterReset (k : Keep) : Keep :=
  { ps := k.ps, nor := k.nor, otp := k.otp, otpLocks := k.otpLocks, psTorn := k.psTorn, norDoubt := k.norDoubt
    norQueue := k.norQueue.filter NorOp.ofPath, jnlHeld := k.jnlHeld, jnlFullPosted := k.jnlFullPosted }

/-- The keep die after POR: contents and locks. -/
def Keep.afterPor (k : Keep) : Keep := { k.afterReset with norQueue := [], jnlHeld := [], jnlFullPosted := false }

/-- The logic die is reset (R65): every island at its reset values, AON and the stores kept. The balls take the levels of
Table 2-9 (R67). -/
def State.logicReset (s : State) : State :=
  let s1 := s.norReset.norSession
  { State.reset with
    pending := s1.pending, clock := s1.clock, freeN := s1.freeN, formB := s1.formB, sent := s1.sent,
    regs := keptRegs s1.regs, aon := { s1.aon with prevDegraded := s1.aon.logDegraded }, keep := s1.keep.afterReset,
    balls := { vccqLow := s1.balls.vccqLow },
    pcie := { perst := s1.pcie.perst, disabled := s1.pcie.disabled, ltssm := if s1.pcie.disabled then 7 else 0 }, test := { tap := s1.test.tap } }

/-! ### A self-test (R529) that stops (R530) -/

/-- Maximum time of the memories in a mask, in µs (Table 23-2). -/
def bistTime (mask : Nat) : Nat :=
  ((setBits mask 8).map (fun i => listGet 0 [330, 330, 9000, 1700, 2200, 60, 100, 200] i)).foldl (· + ·) 0

/-- Report the end of a self-test: memories in `done` were finished, those in `fails` failed. -/
def State.bistReport (s : State) (done fails code : Nat) : State :=
  let s1 := ((s.set F.BIST_STAT_CODE code).set F.BIST_STAT_FAILED fails).set F.BIST_STAT_DONE (countBits done 8)
  ({ s1 with test := { s1.test with bist := none } }).postBit F.TP_EVT_SRC 360 1 (fails + code * 256)

/-- How many memories of a stopped test are surely finished after `us` microseconds: in ascending bit order, each within its
maximum time. -/
def bistFinished : List Nat → Nat → Nat
  | [], _ => 0
  | i :: l, us =>
    let t := bistTime (1 <<< i)
    if t ≤ us then bistFinished l (us - t) + 1 else 0

/-- A self-test stops (R530): the memories it had not finished count as failed; how far it got within its maximum times is a free value. -/
def State.bistCut (s : State) : State :=
  match s.test.bist with
  | some b =>
    let l := setBits b.mask 8
    let (v, s1) := s.freeBits 8
    let d := maskOf (l.take (max (bistFinished l (s1.clock - b.start)) (v % max 1 l.length)))
    s1.bistReport d (b.mask - (b.mask &&& d)) 6
  | none => s

/-- An immediate reset of one or more causes other than POR: the evidence, then the reset. `resample` says that the next
Trailhead samples the straps (R49). -/
def State.resetNow (s : State) (causes : List Nat) (resample : Bool) : State :=
  let s1 := (s.evidence causes).bistCut.logicReset
  if resample then { s1 with aon := { s1.aon with sampled := false } } else s1

/-- Watchdog `k`. -/
def State.wd (s : State) (k : Nat) : Watchdog := tget {} s.wds k

/-- Set a watchdog. -/
def State.setWd (s : State) (k : Nat) (w : Watchdog) : State := { s with wds := tset {} s.wds k w }

/-- The program counter that `SEQ_STAT.PC` shows. -/
def State.seqPc (s : State) (n : Nat) : Nat := (s.sq n).pc

/-- The evidence of failed watchdogs `ks` (R70). -/
def State.wdEvidence (s : State) (ks : List Nat) : State :=
  let s1 := ks.foldl (fun (s : State) k => s.orF F.RST_CAUSE_WD_CH (1 <<< k)) (s.addF F.RST_COUNT_WD_RESETS 1)
  let s2 := if ks.contains 0 then
      let g := (s.wd 0).good
      ((((s1.set F.WD0_PC_PC s.svcPc.toNat).set F.WD0_GOOD_LO_TIME (g % 2 ^ 32)).set F.WD0_GOOD_HI_TIME (g / 2 ^ 32)).set
        F.WD0_FAIL_LO_TIME (s.clock % 2 ^ 32)).set F.WD0_FAIL_HI_TIME (s.clock / 2 ^ 32)
    else s1
  match (List.range 8).find? (fun n => ks.contains (n + 1)) with
  | some n => (s2.set F.WD_SEQ_EVID_WD (n + 1)).set F.WD_SEQ_EVID_PC (s.seqPc n)
  | none => s2

/-- Watchdogs fail in one AON cycle (R496): `early` the one serviced before its window opened, `late` those past `MAX`. -/
def State.wdFail (s : State) (early : Option Nat) (late : List Nat) : State :=
  (s.wdEvidence (early.toList ++ late)).resetNow ((if late = [] then [] else [2]) ++ (if early.isSome then [3] else [])) false

end Sys2Proof.Machine
end

