-- ==== Sys2Proof/Machine/Router.lean ====
section
/-!
DEFINITION. The Event Router (R482 to R490, R554) and the watchdogs (R491 to R496).
-/

namespace Sys2Proof.Machine

/-! ### Posting and configuration -/

/-- EVENT_POST (R482): source `n` posts. -/
def eventPost (n data : Nat) (s : State) : State := if n < 384 then s.post n data else s

/-- A write of EVR_POST (R483): the path's data. A reserved `SRC` performs nothing. -/
def State.evrPostWrite (s : State) (p : Path) (v : Word) : State :=
  let w := pathNum p
  let src := bits v.toNat 0 9
  if bits v.toNat 24 8 ≠ 0xE1 ∨ 384 ≤ src then s.fieldError
  else s.post src (s.get F.EVR_POST_DATA_LO_DATA w + s.get F.EVR_POST_DATA_HI_DATA w * 2 ^ 32)

/-- A write of 1s to EVR_PEND_`k` (R483, R554): each source's pending bit, data and host copy are discarded. -/
def State.evrClear (s : State) (k : Nat) (v : Word) : State :=
  (setBits v.toNat 32).foldl (fun (s : State) j =>
    let e := s.ev (32 * k + j)
    s.setEv (32 * k + j) { e with pend := false, data := 0, hf := false, hfData := 0 }) s

/-- A write of EVR_CFG_`n` (R488, R489, R554): bit 9 of source 4 stays 1; clearing bit 9 discards the host copy. -/
def State.evrCfg (s : State) (n : Nat) (v : Word) : State :=
  let x := v.toNat &&& 0x800F03FF
  let x := if n = 4 then x ||| 0x200 else x
  let s1 := s.setReg (0x280 + n) (BitVec.ofNat 32 x)
  if bit x 9 then s1
  else
    let e := s1.ev n
    s1.setEv n { e with hf := false, hfData := 0 }

/-! ### Arbitration and claims (R484, R485) -/

/-- Does the configuration of source `n` offer it to target `t`? -/
def State.evOn (s : State) (n t : Nat) : Bool := s.get (F.EVR_CFG_EN n) == 1 && bit (s.get (F.EVR_CFG_TMASK n)) t

/-- Can a target claim source `n` for `t`: pending, not in service, enabled and routed to it? -/
def State.evOpen (s : State) (n t : Nat) : Bool := (s.ev n).pend && (s.ev n).insvc.isNone && s.evOn n t

/-- The best of some sources: highest priority, lowest number first. -/
def State.bestSource (s : State) (l : List Nat) : Option Nat :=
  l.foldl (fun b n => match b with
    | none => some n
    | some m => if s.get (F.EVR_CFG_PRIO m) < s.get (F.EVR_CFG_PRIO n) then some n else some m) none

/-- Could sequencer `n` take a delivery now (R329)? -/
def State.seqOpen (s : State) (n : Nat) : Bool :=
  let q := s.sq n
  (q.st == 1 || q.st == 2) && !q.halted && q.en && !q.insvc && !q.inflt

/-- Is target `t` (0 SVC, 1 to 8 the sequencers) offered anything (R484)? SVC has started once WD_0 has restarted. -/
def State.targetOpen (s : State) (t : Nat) : Bool :=
  !s.balls.clocksGated &&
    (if t = 0 then s.get F.GLB_STAT_SVC_HALT == 0 && bit (s.get F.WD_CTL_EN) 0 && decide (s.svcNest.length < 16)
     else s.seqOpen (t - 1))

/-- The highest priority among the events SVC holds in service. -/
def State.svcPrio (s : State) : Option Nat := s.svcNest.foldl (fun m p => some (max p.2 (m.getD 0))) none

/-- The source target `t` is offered in a round. -/
def State.offerOf (s : State) (t : Nat) : Option Nat :=
  if s.targetOpen t then
    s.bestSource ((s.router.src.map (·.1)).filter (fun n => s.evOpen n t &&
      (t != 0 || (match s.svcPrio with | none => true | some p => decide (p < s.get (F.EVR_CFG_PRIO n))))))
  else none

/-- Target `t` claims source `n` (R485): true when it gets it, else the number is 0x3FF and SPURIOUS counts. -/
def State.evClaim (s : State) (n t : Nat) : Bool × State :=
  if s.evOpen n t then
    let e := s.ev n
    (true, s.setEv n { e with pend := false, data := 0, sdata := e.data, lprio := s.get (F.EVR_CFG_PRIO n), insvc := some t })
  else (false, s.addF F.EVR_COUNT_SPURIOUS 1)

/-- The service of a source ends (R487). -/
def State.evEnd (s : State) (n : Nat) : State :=
  let e := s.ev n
  s.setEv n { e with insvc := none, lprio := 0, sdata := 0 }

/-- The host-forward target takes a copy (R484, R489, R554). -/
def State.hostCopy (s : State) : State :=
  if 16 ≤ s.router.hfq.length ∨ s.st = stTrailhead ∨ s.st = stRemoving ∨ s.balls.clocksGated then s
  else
    match s.bestSource ((s.router.src.map (·.1)).filter (fun n => (s.ev n).hf && s.evOn n 9)) with
    | none => s
    | some n =>
      let e := s.ev n
      let e1 := { e with hf := false, hfData := 0 }
      let only := s.get (F.EVR_CFG_TMASK n) % 512 == 0
      let s1 := s.setEv n (if only then { e1 with pend := false, data := 0 } else e1)
      { s1 with router := { s1.router with hfq := s1.router.hfq ++ [⟨n, s.get (F.EVR_CFG_PRIO n), e.hfData⟩] } }

/-- ARBITRATION_ROUND (R484): the targets are offered their best sources; `svc` says that the supervisor claims what it is
offered. The offers to the sequencers stand until the next round, and are claimed at their boundaries (R329). -/
def arbitrationRound (svc : Bool) (s : State) : State :=
  let offers := ((List.range 8).filterMap (fun n => (s.offerOf (n + 1)).map (fun e => (n + 1, e))))
  let s1 := match (if svc then s.offerOf 0 else none) with
    | some e => match s.evClaim e 0 with
      | (true, s1) => { s1 with svcNest := (e, (s1.ev e).lprio) :: s1.svcNest }
      | (false, s1) => s1
    | none => s
  State.hostCopy { s1 with router := { s1.router with offer := offers } }

/-- SVC_END_SERVICE (R487): the supervisor ends its service of source `n`. -/
def svcEndService (n : Nat) (s : State) : State :=
  if s.svcNest.any (fun p => p.1 == n) then State.evEnd { s with svcNest := s.svcNest.filter (fun p => p.1 != n) } n else s

/-! ### Forwarding to the host (R489) -/

/-- The EVT frame of an entry (Table 6-9). -/
def HfEntry.frame (e : HfEntry) : TxItem := { typ := 0x25, hdr := natLE 2 e.src ++ natLE 1 e.prio ++ [0] ++ natLE 8 e.data }

/-- An event enters the event FIFO under PCI Express (R167, R172). -/
def State.evtFifo (s : State) (e : HfEntry) : State :=
  if 64 ≤ s.pcie.fifo.length then
    let s1 := { s with pcie := { s.pcie with lost := min 0xFFFF (s.pcie.lost + 1) } }
    s1.set F.PCIE_EVT_EVT_LOST 1
  else
    let first := s.pcie.fifo.isEmpty
    let s1 := { s with pcie := { s.pcie with fifo := s.pcie.fifo ++ [e] } }
    if first then s1.msixSignal 0 else s1

/-- HF_EVT_SEND (R489): the oldest entry leaves as an EVT frame once credits allow, or enters the event FIFO. -/
def hfEvtSend (s : State) : State :=
  match s.router.hfq with
  | [] => s
  | e :: l =>
    let s1 := { s with router := { s.router with hfq := l } }
    if s.cascRole = 2 then s1.cascSend 0x34 0 ([0, 0] ++ natLE 2 e.src ++ natLE 1 e.prio) (natLE 8 e.data)
    else if s.pcieMode then s1.evtFifo e
    else if s.hostCanSend e.frame then s1.hostSend e.frame
    else s.hostWake

/-! ### Watchdogs (R491 to R496) -/

/-- Is watchdog `k` enabled? -/
def State.wdEnabled (s : State) (k : Nat) : Bool := bit (s.get F.WD_CTL_EN) k

/-- A window opens: `MIN` and `MAX` in force, elapsed time 0. A warning lead not below `MAX` warns at once (R495). -/
def State.wdWindow (s : State) (k : Nat) (first : Bool) : State :=
  let w := s.wd k
  let mx := s.get (F.WD_CFG_MAX k)
  let warn := s.get F.WD_CTL_WARN
  let now := decide (warn ≠ 0 ∧ mx ≤ warn) && s.wdEnabled k
  let s1 := s.setWd k { w with
    run := true, elapsed := 0, first, warned := now, min := s.get (F.WD_CFG_MIN k), max := mx, good := s.clock }
  if now then s1.post 12 k else s1

/-- A watchdog restarts (R492): no early limit on the first service. -/
def State.wdRestart (s : State) (k : Nat) : State :=
  let s1 := s.setWd k { s.wd k with frozen := false }
  let s2 := if k = 0 then s1.orF F.WD_CTL_EN 1 else s1
  s2.wdWindow k true

/-- Freeze or unfreeze a watchdog (R493). -/
def State.wdFreeze (s : State) (k : Nat) (on : Bool) : State := s.setWd k { s.wd k with frozen := on }

/-- Has watchdog `k` passed `MAX` (R491)? -/
def State.wdIsLate (s : State) (k : Nat) : Bool :=
  let w := s.wd k
  w.run && s.wdEnabled k && decide (10 * w.max < w.elapsed)

/-- The watchdogs that are past `MAX`. -/
def State.lateWds (s : State) : List Nat := (List.range 9).filter s.wdIsLate

/-- A service of watchdog `k` (R491, R492, R496): late, early, or within its window. A failure takes every watchdog past `MAX` with it
(R70). -/
def State.wdService (s : State) (k : Nat) : State :=
  let w := s.wd k
  if w.run = false ∨ s.wdEnabled k = false then s
  else if s.wdIsLate k then s.wdFail none s.lateWds
  else if w.first = false ∧ w.elapsed < 10 * w.min then s.wdFail (some k) s.lateWds
  else s.wdWindow k false

/-- WD0_SERVICE (R492): the supervisor services WD_0. -/
def wd0Service (s : State) : State := s.wdService 0

/-- WD_LATE (R491): a watchdog passes `MAX`; every watchdog that has fails with it. -/
def wdLate (k : Nat) (s : State) : State := if s.wdIsLate k then s.wdFail none s.lateWds else s

/-- WD_WARN (R495): the elapsed time reaches `MAX` − `WARN`, once per window. -/
def wdWarn (k : Nat) (s : State) : State :=
  let w := s.wd k
  let warn := s.get F.WD_CTL_WARN
  if w.run && s.wdEnabled k && !w.frozen && !w.warned && warn != 0 && decide (10 * (w.max - warn) ≤ w.elapsed) then
    (s.setWd k { w with warned := true }).post 12 k
  else s

/-- A write of WD_CTL (R494). -/
def State.wdCtl (s : State) (v : Word) : State :=
  if bits v.toNat 24 8 ≠ 0x5D then s.fieldError
  else
    let on := s.get F.WD_CTL_EN % 2
    (s.set F.WD_CTL_WARN (bits v.toNat 16 8)).set F.WD_CTL_EN (on + bits v.toNat 1 8 * 2)

/-- A write of WD_CFG_`k` (R491): a reserved pair keeps both fields. -/
def State.wdCfg (s : State) (k : Nat) (v : Word) : State :=
  let mx := bits v.toNat 16 16
  let mn := bits v.toNat 0 16
  if mx = 0 ∨ mx ≤ mn then s.fieldError else s.setReg (0x540 + k) v

/-- SVC_DEBUG_HALT (R493, R25). -/
def svcDebugHalt (s : State) : State :=
  if s.get F.GLB_STAT_SVC_HALT = 1 then s else (s.set F.GLB_STAT_SVC_HALT 1).wdFreeze 0 true

/-- SVC_DEBUG_RESUME (R493, R25): the commands in the mailbox may run again. -/
def svcDebugResume (s : State) : State :=
  if s.get F.GLB_STAT_SVC_HALT = 0 then s else (s.set F.GLB_STAT_SVC_HALT 0).wdFreeze 0 false

end Sys2Proof.Machine
end

