-- ==== Sys2Proof/Machine/Images.lean ====
section
/-!
DEFINITION. Images in eNOR (R75 to R81): manifests, signatures, the checks of both kinds of slot, activation (R91), and the
boot record and epoch counters in PS (R92, R553).
-/

namespace Sys2Proof.Machine

/-! ### The boot record and the epoch counters (R92, Table 19-9) -/

/-- Record 0 of PS. -/
def bootRecord : PairRec := ⟨0x82000, 64⟩

/-- The check of record 0. -/
def bootOk (l : List Byte) : Bool :=
  copyOk l && decide (leAt l 8 1 < 16) && decide (leAt l 9 1 ≤ 3) && decide (leAt l 10 1 ≤ 3) && allZero (l.drop 11)

/-- The boot record in force: bits of byte 8, attempts A and B; the defaults are all 0. -/
def State.bootRec (s : State) : Nat × (Nat × Nat) :=
  match s.copyInUse bootRecord bootOk with
  | some l => (leAt l 8 1, (leAt l 9 1, leAt l 10 1))
  | none => (0, (0, 0))

/-- Load BOOT_CFG and the attempt counts from PS. -/
def State.bootLoad (s : State) : State :=
  let (b, (x, y)) := s.bootRec
  ((s.setReg 0x0100 (BitVec.ofNat 32 b)).set F.BOOT_PROG_ATT_A x).set F.BOOT_PROG_ATT_B y

/-- Write the boot record and show what PS then holds (R553). -/
def State.bootWrite (s : State) (b x y : Nat) : Bool × State :=
  let (ok, s1) := s.writePair bootRecord bootOk (natLE 1 b ++ natLE 1 x ++ natLE 1 y)
  (ok, s1.bootLoad)

/-- Record 1 of PS. -/
def epochRecord : PairRec := ⟨0x82080, 32⟩

/-- The check of record 1. -/
def epochOk (l : List Byte) : Bool := copyOk l && decide (leAt l 12 1 < 4) && allZero (l.drop 13)

/-- The epoch counters: SVI, SPB, and a mask of the unset ones (bit 0 SVI, bit 1 SPB). -/
def State.epochs (s : State) : Nat × (Nat × Nat) :=
  match s.copyInUse epochRecord epochOk with
  | some l => (leAt l 8 2, (leAt l 10 2, leAt l 12 1))
  | none => (0xFFFF, (0xFFFF, 3))

/-- Load EPOCH_CNT: an unset counter reads 0xFFFF (R92). -/
def State.epochLoad (s : State) : State :=
  let (a, (b, u)) := s.epochs
  (s.set F.EPOCH_CNT_SVI_EPOCH (if bit u 0 then 0xFFFF else a)).set F.EPOCH_CNT_SPB_EPOCH (if bit u 1 then 0xFFFF else b)

/-- Raise one counter to `v` if that is higher, or set it if it is unset (EPOCH_SET, R86, R92): true unless the write fails.
-/
def State.epochRaise (s : State) (spb : Bool) (v : Nat) : Bool × State :=
  let (a, (b, u)) := s.epochs
  let i := b2n spb
  let cur := if spb then b else a
  if bit u i = false ∧ v ≤ cur then (true, s)
  else
    let u' := if bit u i then u - 2 ^ i else u
    let (ok, s1) := s.writePair epochRecord epochOk
      (if spb then natLE 2 a ++ natLE 2 v ++ natLE 1 u' else natLE 2 v ++ natLE 2 b ++ natLE 1 u')
    (ok, s1.epochLoad)

/-! ### Manifests and signatures (R76 to R78) -/

/-- Address of SVI slot `i` (Table 4-1). -/
def sviBase (i : Nat) : Nat := if i = 0 then 0x20000 else 0x120000

/-- Is an SVI manifest well formed (Table 4-2, R78)? -/
def State.sviManOk (s : State) (i : Nat) : Bool :=
  let b := sviBase i
  let le (a n : Nat) : Nat := s.norLE (b + a) n
  let body := le 0x20 4
  le 4 1 == 1 && le 0x0F 1 == 0 && allZero (s.norBytes (b + 0x2C) 212) && decide (le 6 1 ≤ le 7 1) && decide (le 0x0E 1 ≤ 8)
    && decide (0x100 ≤ body ∧ body ≤ 0xFFE00) && body % 256 == 0 && decide (le 0x28 4 ≤ 0x40000) && decide (le 0x28 4 ≤ body)
    && le 0x24 4 % 4 == 0 && decide (le 0x24 4 < body)

/-- Is an SPB manifest well formed (Table 4-3, R78)? A manifest whose SPB_LEVEL is 0 or whose CLASS_COUNT lies outside 1 to 16 is not
(DESIGN CHOICE, log entry 122). -/
def State.spbManOk (s : State) (i : Nat) : Bool :=
  let b := spbBase i
  let le (a n : Nat) : Nat := s.norLE (b + a) n
  let body := le 0x10 4
  le 4 1 == 1 && decide (1 ≤ le 5 1) && decide (1 ≤ le 0x0C 1 ∧ le 0x0C 1 ≤ 16) && allZero (s.norBytes (b + 0x0D) 3)
    && decide (0x100 ≤ body ∧ body ≤ 0x3FE00) && body % 256 == 0 && allZero (s.norBytes (b + 0x14) 236)

/-- Do the key and signature of the image at `b` with body length `body` pass (R76, R77)? -/
def State.imageTrusted (s : State) (b body : Nat) (svi : Bool) : Bool :=
  let blk := s.norBytes (b + 0x100 + body) 256
  let key := blk.take 96
  let kh := Config.sha384 key
  let own := s.otpBytes 4 0 48
  let rev := s.otpLE 4 48 1
  let known := if svi then (kh == Config.romKeyHash 0 && !bit rev 0) || (kh == Config.romKeyHash 1 && !bit rev 1)
    else !allZero own && kh == own
  known && allZero (blk.drop 192) && Config.ecdsaP384 key (Config.sha384 (s.norBytes b (0x100 + body))) (sliceB blk 96 96)

/-- The code of SVI slot `i` (R79): 0x2 when it is acceptable. `bad` lists the eNOR reads that fail: 0 and 1 the manifest and
the body of SVI slot A, 2 and 3 of slot B, 4 to 7 of SPB slots 0 and 1. `boot` says that the attempt count counts. -/
def State.sviCode (s : State) (i : Nat) (bad : List Nat) (boot : Bool) : Nat :=
  let b := sviBase i
  let (ep, (_, unset)) := s.epochs
  let (_, (x, y)) := s.bootRec
  if bad.contains (2 * i) then 0xD
  else if s.norBytes b 4 ≠ [0x53, 0x56, 0x49, 0x31] then 3
  else if s.sviManOk i = false then 4
  else if bad.contains (2 * i + 1) then 0xD
  else if s.imageTrusted b (s.norLE (b + 0x20) 4) true = false then 5
  else if bit (s.norLE (b + 0x0C) 2) 4 = false then 6
  else if unset ≠ 0 ∨ s.norLE (b + 0x0A) 2 < ep then 7
  else if boot ∧ 3 ≤ (if i = 0 then x else y) then 8
  else 2

/-- The code of SPB slot `i` by itself (R80): 0x2 when it is valid. -/
def State.spbCode (s : State) (i : Nat) (bad : List Nat) : Nat :=
  let b := spbBase i
  let (_, (ep, _)) := s.epochs
  if bad.contains (4 + 2 * i) then 0xD
  else if s.norBytes b 4 ≠ [0x53, 0x50, 0x42, 0x31] then 3
  else if s.spbManOk i = false then 4
  else if bad.contains (5 + 2 * i) then 0xD
  else if s.imageTrusted b (s.norLE (b + 0x10) 4) false = false then 5
  else if s.spbBodyOk i = false then 4
  else if s.norLE (b + 0x0A) 2 < ep then 7
  else 2

/-- The class of valid SPB slot `i` beside SVI slot `v` (R80): 0 tested, 1 agreeing, 2 level outside the range, 3 SVI below
`MIN_SVI`. -/
def State.spbClass (s : State) (v i : Nat) : Nat :=
  let a := sviBase v
  let b := spbBase i
  let lvl := s.norLE (b + 5) 1
  let sv := s.norLE (a + 8) 2
  if lvl < s.norLE (a + 6) 1 ∨ s.norLE (a + 7) 1 < lvl then 2
  else if sv < s.norLE (b + 8) 2 then 3
  else if (List.range (s.norLE (a + 0x0E) 1)).any (fun j => s.norLE (a + 0x10 + 2 * j) 2 == s.norLE (b + 6) 2) then 0
  else 1

/-- The version a slot's status register shows: 0 unless the manifest is well formed. -/
def State.sviVer (s : State) (i code : Nat) : Nat := if code = 3 ∨ code = 0xD ∨ s.sviManOk i = false then 0 else s.norLE (sviBase i + 8) 2

/-- The same for an SPB slot. -/
def State.spbVer (s : State) (i code : Nat) : Nat := if code = 3 ∨ code = 0xD ∨ s.spbManOk i = false then 0 else s.norLE (spbBase i + 6) 2

/-- Set the status register of image slot `a` (0, 1 SVI A and B; 2, 3 SPB 0 and 1). -/
def State.setSlotStat (s : State) (a ver code : Nat) : State :=
  if a = 0 then (s.set F.IMG_STAT_A_VER ver).set F.IMG_STAT_A_CODE code
  else if a = 1 then (s.set F.IMG_STAT_B_VER ver).set F.IMG_STAT_B_CODE code
  else (s.set (F.SPB_STAT_VER (a - 2)) ver).set (F.SPB_STAT_CODE (a - 2)) code

/-- The status code of image slot `a`. -/
def State.slotStat (s : State) (a : Nat) : Nat :=
  if a = 0 then s.get F.IMG_STAT_A_CODE else if a = 1 then s.get F.IMG_STAT_B_CODE else s.get (F.SPB_STAT_CODE (a - 2))

/-- Is image slot `a` the running SVI, or the SPB loaded at the last Trailhead? -/
def State.slotRuns (s : State) (a : Nat) : Bool :=
  if a < 2 then s.get F.FW_SVI_VALID == 1 && s.get F.FW_SVI_SLOT == a
  else s.get F.FW_SPB_LOADED == 1 && s.get F.BOOT_RES_SPB_SLOT == a - 2

/-- Activation of image slot `a` (R91, R553): the code of IMG_CTL_STAT. The slot that runs or is loaded keeps the status code it shows, also
one that an earlier failed activation left (DESIGN CHOICE, log entry 124). -/
def State.activate (s : State) (a : Nat) (bad : List Nat) : Nat × State :=
  let code := if a < 2 then s.sviCode a bad false else s.spbCode (a - 2) bad
  let ver := if a < 2 then s.sviVer a code else s.spbVer (a - 2) code
  if code ≠ 2 then (code, (s.setSlotStat a ver code).set F.IMG_CTL_STAT_CODE code)
  else
    let s1 := s.setSlotStat a ver (if s.slotRuns a then s.slotStat a else 2)
    let (b, (x, y)) := s1.bootRec
    let r := if a < 2 then s1.bootWrite (putBits b 0 1 a) (if a = 0 then 0 else x) (if a = 1 then 0 else y)
      else s1.bootWrite (putBits b 1 1 (a - 2)) x y
    let c := if r.1 then 1 else 0xE
    (c, r.2.set F.IMG_CTL_STAT_CODE c)

end Sys2Proof.Machine
end

