-- ==== Sys2Proof/Machine/Operands.lean ====
section
/-!
DEFINITION. Instruction words of the sequencer (R314, R315, Tables 14-2 and 14-4): the operations, the fields of a word, and
the decoder, which refuses every word that is not listed.
-/

namespace Sys2Proof.Machine

/-- The operations of Table 14-4. -/
inductive SOp where
  | nop | add | adc | sub | sbc | and | or | xor | shl | shr | sar | rol | ror | mul | divs | divu | cmp | tst | neg | not | mov
  | addi | andi | ori | xori | shi | cmpi | movi | movhi | movs | mfs | mts | pset | pget | padd | ptst
  | ldw | ldh | ldb | stw | sth | stb | ldl | stl | b | br | call | callr | ret | rete | retf | djnz | post | evm | wait | kick
  | tset | tstop | tget | earm | edis | eget | brk | bcmd | badr | bdo | bdi | bsts | bsel | bsetf | bgetf | bidle
  deriving DecidableEq, Repr

/-! ### Fields of a word (Table 14-2) -/

/-- *d*, bits [25:22]; also the condition *c* of format B. -/
def wD (w : Nat) : Nat := bits w 22 4

/-- *a*, bits [21:18]. -/
def wA (w : Nat) : Nat := bits w 18 4

/-- *b*, bits [17:14]. -/
def wB (w : Nat) : Nat := bits w 14 4

/-- *imm*, bits [15:0]. -/
def wImm (w : Nat) : Nat := bits w 0 16

/-- *simm*: *imm* sign-extended to 32 bits. -/
def wSimm (w : Nat) : Word := (BitVec.ofNat 16 w).signExtend 32

/-- *target* or *off*, bits [11:0]. -/
def wTarget (w : Nat) : Nat := bits w 0 12

/-- *p* of format M, bits [21:20]. -/
def wPM (w : Nat) : Nat := bits w 20 2

/-- *p* of format P, bits [25:24]. -/
def wPP (w : Nat) : Nat := bits w 24 2

/-- *inc* of format M, bit 12. -/
def wInc (w : Nat) : Bool := bit w 12

/-! ### Decoding -/

/-- A row of Table 14-4: a word is this operation when its bits under `mask` equal `pat`. -/
structure SRow where
  op : SOp
  mask : Nat
  pat : Nat

/-- The mask of the major opcode. -/
def mOp : Nat := 0xFC000000

/-- The mask of *d*. -/
def mD : Nat := 0x03C00000

/-- The mask of *a*. -/
def mA : Nat := 0x003C0000

/-- The mask of *b*. -/
def mB : Nat := 0x0003C000

/-- The mask of *s*. -/
def mS : Nat := 0x00030000

/-- A row of format R with function `fn`; the fields of `also` are 0 too. -/
def rowR (o : SOp) (fn : Nat) (also : Nat := 0) : SRow := ⟨o, mOp ||| 0x3FFF ||| also, 0x04000000 ||| fn⟩

/-- A row of format I with major opcode `op` and *s*; the fields of `also` are 0 too. -/
def rowI (o : SOp) (op sv : Nat) (also : Nat := 0) : SRow := ⟨o, mOp ||| mS ||| also, (op <<< 26) ||| (sv <<< 16)⟩

/-- A row of format M. -/
def rowM (o : SOp) (op : Nat) (also : Nat := 0) : SRow := ⟨o, mOp ||| 0x000FE000 ||| also, op <<< 26⟩

/-- A row of format B. -/
def rowB (o : SOp) (op : Nat) (also : Nat := mA) : SRow := ⟨o, mOp ||| 0x0003F000 ||| also, op <<< 26⟩

/-- A row of format P with *s*. -/
def rowP (o : SOp) (sv : Nat) (also : Nat := 0) : SRow := ⟨o, mOp ||| 0x00C00000 ||| mS ||| also, 0x30000000 ||| (sv <<< 16)⟩

/-- A row whose only field is the major opcode. -/
def rowN (o : SOp) (op : Nat) : SRow := ⟨o, 0xFFFFFFFF, op <<< 26⟩

/-- Table 14-4, arithmetic. -/
def seqRows1 : List SRow :=
  [rowN .nop 0, rowR .add 0x00, rowR .adc 0x01, rowR .sub 0x02, rowR .sbc 0x03, rowR .and 0x04, rowR .or 0x05, rowR .xor 0x06,
   rowR .shl 0x08, rowR .shr 0x09, rowR .sar 0x0A, rowR .rol 0x0B, rowR .ror 0x0C, rowR .mul 0x10,
   rowR .divs 0x14 0x00400000, rowR .divu 0x15 0x00400000, rowR .cmp 0x18 mD, rowR .tst 0x19 mD,
   rowR .neg 0x20 mB, rowR .not 0x21 mB, rowR .mov 0x22 mB,
   rowI .addi 0x02 0, rowI .andi 0x03 0, rowI .ori 0x04 0, rowI .xori 0x05 0, rowI .cmpi 0x07 0 mD,
   rowI .movi 0x08 0 mA, rowI .movhi 0x08 1 mA, rowI .movs 0x08 2 mA]

/-- Table 14-4, SHI: any *s*, *imm*[15:8] = 0. -/
def seqRows2 : List SRow := (List.range 4).map (fun k => rowI .shi 0x06 k 0xFF00)

/-- Table 14-4, special registers, pointers, loads and stores. -/
def seqRows3 : List SRow :=
  [rowI .mfs 0x0A 0 (mA ||| 0xFF00), rowI .mts 0x0B 0 (mD ||| 0xFF00), rowP .pset 0 0xFFFF, rowP .pget 1 0xFFFF, rowP .padd 2 mA,
   rowP .ptst 3 (mA ||| 0xFFFF), rowM .ldw 0x10, rowM .ldh 0x11, rowM .ldb 0x12, rowM .stw 0x13, rowM .sth 0x14, rowM .stb 0x15,
   rowI .ldl 0x16 0, rowI .stl 0x17 0]

/-- Table 14-4, control flow, events, timers and detectors. -/
def seqRows4 : List SRow :=
  [rowB .b 0x20, rowB .br 0x21 0xFFF, rowB .call 0x22, rowI .callr 0x23 0 (mD ||| 0xFFFF), rowN .ret 0x24, rowN .rete 0x25,
   rowN .retf 0x26, rowB .djnz 0x27, rowI .post 0x28 0 (mD ||| 0xFFFC), rowI .evm 0x29 0 (mD ||| mA ||| 0xFFFE), rowN .wait 0x2A,
   rowN .kick 0x2B, rowI .tset 0x2C 0 (mD ||| 0xFFF8), rowI .tstop 0x2C 1 (mD ||| mA ||| 0xFFF8), rowI .tget 0x2C 2 (mD ||| 0xFFF8),
   rowI .earm 0x2D 0 (mD ||| 0xFFF8), rowI .edis 0x2D 1 (mD ||| mA ||| 0xFFF8), rowI .eget 0x2D 2 (mD ||| 0xFFF8), rowN .brk 0x2E]

/-- Table 14-4, bus primitives. -/
def seqRows5 : List SRow :=
  [rowI .bcmd 0x30 0 (mD ||| mA ||| 0xFF00), rowI .badr 0x31 0 (mD ||| 0xFFF8), rowM .bdo 0x32 0x1FFF, rowM .bdi 0x33 0x1FFF,
   rowI .bsts 0x34 0 (mA ||| 0xFF00), rowI .bsel 0x35 0 (mD ||| mA ||| 0xFEF8), rowI .bsetf 0x36 0 (mD ||| 0xFF00),
   rowI .bgetf 0x36 1 (mA ||| 0xFF00), rowI .bidle 0x37 0 (mD ||| mA)]

/-- All rows. No two of them share a word. -/
def seqRows : List SRow := seqRows1 ++ seqRows2 ++ seqRows3 ++ seqRows4 ++ seqRows5

/-- Restrictions on operands that no mask says: BADR takes 1 to 6 cycles, with *a* even beyond 4; BIDLE at least 1; a
post-increment has *off* = 0 (R322). -/
def seqOperandsOk (o : SOp) (w : Nat) : Bool :=
  match o with
  | .badr => decide (1 ≤ wImm w ∧ wImm w ≤ 6) && (decide (wImm w ≤ 4) || wA w % 2 == 0)
  | .bidle => decide (1 ≤ wImm w)
  | .ldw | .ldh | .ldb | .stw | .sth | .stb => !wInc w || wTarget w == 0
  | _ => true

/-- The operation a word spells; none for an illegal instruction (R314). -/
def seqDecode (w : Nat) : Option SOp :=
  match seqRows.find? (fun r => w &&& r.mask == r.pat) with
  | some r => if seqOperandsOk r.op w then some r.op else none
  | none => none

end Sys2Proof.Machine
end

