-- ==== Sys2Proof/Machine/Flags.lean ====
section
/-!
DEFINITION. The flags of the sequencer and its arithmetic (R316 to R320, Table 14-3). Flags are a number laid out as the
special register FLAGS: bit 0 Z, bit 1 N, bit 2 C, bit 3 V, bit 4 DZ.
-/

namespace Sys2Proof.Machine

/-- Set one flag. -/
def setFlag (f i : Nat) (b : Bool) : Nat := putBits f i 1 (b2n b)

/-- Z and N from a result (R316). -/
def flagsZN (f : Nat) (r : Word) : Nat := setFlag (setFlag f 0 (r == 0)) 1 r.msb

/-- Z, N, C and V. -/
def flagsZNCV (f : Nat) (r : Word) (c v : Bool) : Nat := setFlag (setFlag (flagsZN f r) 2 c) 3 v

/-- a + b + carry with its flags (R317). -/
def aluAdd (f : Nat) (a b : Word) (cin : Nat) : Word × Nat :=
  let r := a + b + BitVec.ofNat 32 cin
  (r, flagsZNCV f r (decide (2 ^ 32 ≤ a.toNat + b.toNat + cin)) (decide (r.toInt ≠ a.toInt + b.toInt + cin)))

/-- a − b − borrow with its flags: C is 1 when no borrow occurs (R317). -/
def aluSub (f : Nat) (a b : Word) (bor : Nat) : Word × Nat :=
  let r := a - b - BitVec.ofNat 32 bor
  (r, flagsZNCV f r (decide (b.toNat + bor ≤ a.toNat)) (decide (r.toInt ≠ a.toInt - b.toInt - bor)))

/-- A logical result with Z and N. -/
def aluLogic (f : Nat) (r : Word) : Word × Nat := (r, flagsZN f r)

/-- A shift's result with Z and N, and C set when `c` says how. -/
def aluShift (f : Nat) (r : Word) (c : Option Bool) : Word × Nat :=
  (r, match c with | some c => setFlag (flagsZN f r) 2 c | none => flagsZN f r)

/-- Logical shift left by `n` (R318). -/
def aluShl (f : Nat) (a : Word) (n : Nat) : Word × Nat :=
  aluShift f (if 32 ≤ n then 0 else a <<< n)
    (if n = 0 then none else if n ≤ 32 then some (bit a.toNat (32 - n)) else some false)

/-- Logical shift right by `n`. -/
def aluShr (f : Nat) (a : Word) (n : Nat) : Word × Nat :=
  aluShift f (if 32 ≤ n then 0 else a >>> n)
    (if n = 0 then none else if n ≤ 32 then some (bit a.toNat (n - 1)) else some false)

/-- Arithmetic shift right by `n`. -/
def aluSar (f : Nat) (a : Word) (n : Nat) : Word × Nat :=
  aluShift f (a.sshiftRight (min n 32))
    (if n = 0 then none else if n ≤ 32 then some (bit a.toNat (n - 1)) else some a.msb)

/-- Rotate left by `n` modulo 32. -/
def aluRol (f : Nat) (a : Word) (n : Nat) : Word × Nat :=
  let r := a.rotateLeft (n % 32)
  aluShift f r (if n % 32 = 0 then none else some (bit r.toNat 0))

/-- Rotate right by `n` modulo 32. -/
def aluRor (f : Nat) (a : Word) (n : Nat) : Word × Nat :=
  let r := a.rotateRight (n % 32)
  aluShift f r (if n % 32 = 0 then none else some r.msb)

/-- The low 32 bits of the product; V when the signed product does not fit (R319). -/
def aluMul (f : Nat) (a b : Word) : Word × Nat :=
  let r := a * b
  (r, setFlag (flagsZN f r) 3 (decide (r.toInt ≠ a.toInt * b.toInt)))

/-- Quotient, remainder and flags of a signed division (R320). -/
def aluDivs (f : Nat) (a b : Word) : Word × Word × Nat :=
  if b = 0 then (0xFFFFFFFF, a, setFlag (setFlag (flagsZN f 0xFFFFFFFF) 3 false) 4 true)
  else if a = 0x80000000 ∧ b = 0xFFFFFFFF then (0x80000000, 0, setFlag (setFlag (flagsZN f 0x80000000) 3 true) 4 false)
  else
    let q := BitVec.ofInt 32 (Int.tdiv a.toInt b.toInt)
    (q, BitVec.ofInt 32 (Int.tmod a.toInt b.toInt), setFlag (setFlag (flagsZN f q) 3 false) 4 false)

/-- The same unsigned. -/
def aluDivu (f : Nat) (a b : Word) : Word × Word × Nat :=
  if b = 0 then (0xFFFFFFFF, a, setFlag (setFlag (flagsZN f 0xFFFFFFFF) 3 false) 4 true)
  else
    let q := BitVec.ofNat 32 (a.toNat / b.toNat)
    (q, BitVec.ofNat 32 (a.toNat % b.toNat), setFlag (setFlag (flagsZN f q) 3 false) 4 false)

/-- Is condition `c` of Table 14-3 true? -/
def condTrue (f c : Nat) : Bool :=
  let z := bit f 0
  let n := bit f 1
  let cy := bit f 2
  let v := bit f 3
  match c % 16 with
  | 0 => true
  | 1 => bit f 4
  | 2 => z
  | 3 => !z
  | 4 => cy
  | 5 => !cy
  | 6 => n
  | 7 => !n
  | 8 => v
  | 9 => !v
  | 10 => cy && !z
  | 11 => !cy || z
  | 12 => n == v
  | 13 => n != v
  | 14 => !z && n == v
  | _ => z || n != v

end Sys2Proof.Machine
end

