-- ==== Sys2Proof/Machine/SeqProgram.lean ====
section
/-!
DEFINITION. Sequence programs and their exchange (ch. 15): program memory, starting a program (R311), what a load does to
timers, detectors and slots (R356, R357), SEQ_EXCHANGE (R354), quiet points, the entry window and rollback (R355 to R362).
-/

namespace Sys2Proof.Machine

/-! ### Program memory -/

/-- The ROM baseline program (R83, R342): it carries no timer and arms no detector. -/
def basePrg : Prog := {
  base := true, entry := Config.baselineEntry % 4096, faultVec := Config.baselineFaultVec % 4096,
  vecBase := Config.baselineVecBase, tcfg := (List.range 8).map (fun t => Config.baselineTimer t % 2 ^ 22) }

/-- The word at `a` of program memory, the programs loaded lying over each other, newest first. -/
def progWord : List Prog → Nat → Word
  | [], a => Config.baselineWord a
  | p :: l, a => if p.base then Config.baselineWord a else if a < p.code.length then listGet 0 p.code a else progWord l a

/-- The program sequencer `n` runs. -/
def State.program (s : State) (n : Nat) : Prog := (s.sq n).progs.head?.getD basePrg

/-- SEQ_`n` posts source 160 + 8`n` + `k` (R328). -/
def State.seqEvent (s : State) (n k data : Nat) : State := s.postBit (F.SEQ_EVT_SRC n) (160 + 8 * n) k data

/-! ### Starting and loading -/

/-- The event in service at sequencer `n` ends (R487). -/
def State.dropService (s : State) (n : Nat) : State :=
  let q := s.sq n
  let s1 := s.setSq n { q with insvc := false, claim := 0, edata := 0 }
  if q.insvc ∧ q.claim % 1024 ≠ 0x3FF then s1.evEnd (q.claim % 1024) else s1

/-- Start program `p` (R311, R341, R492): registers and flags 0, the stack empty, EN 0, PC at the entry. At the first start
after a reset local RAM is open. -/
def State.startProg (s : State) (n : Nat) (p : Prog) : State :=
  let s0 := s.dropService n
  let q := s0.sq n
  let first := q.progs.isEmpty
  let q1 := { q with
    v := [], p := [], flags := 0, stack := [], en := false, inflt := false,
    pc := p.entry % 4096, st := 1, halted := false, noBreak := false, issued := false, haltReq := false, wbuf := [], since := s.clock, bad := [],
    progs := p :: q.progs, lram := if first then [] else q.lram, lramN := if first then s0.freeN else q.lramN }
  let s1 := if first then { s0 with freeN := s0.freeN + 1 } else s0
  ((s1.setSq n q1).set (F.SEQ_VEC_FAULT_VEC n) (p.faultVec % 4096)).wdRestart (n + 1)

/-- Is a timer running, or has it a pending expiry? -/
def Timer.active (t : Timer) : Bool := t.running || t.pend

/-- What the last cycle of a load makes of timer `i` (R356). -/
def Timer.load (t : Timer) (p : Prog) (i : Nat) : Timer :=
  let c := listGet 0 p.tcfg i
  if bit p.carryT i && t.active then { t with cfg := c, pcfg := c, carried := true } else { cfg := c }

/-- What it makes of detector `i` (R357). -/
def Edge.load (e : Edge) (p : Prog) (i : Nat) : Edge :=
  let c := listGet 0 p.ecfg i
  let had := e.latched || e.kept
  if bit p.armE i then
    if e.armed && e.cfg == c then { e with kept := false }
    else { cfg := c, armed := true, latched := had, carried := had, level := e.level }
  else { kept := had, level := e.level }

/-- The mask of the numbers below 8 that fulfil a condition. -/
def maskWhere (f : Nat → Bool) : Nat := maskOf ((List.range 8).filter f)

/-- The slots a cancelled timer marks `POLL` (R356). -/
def pollSlots (t : Timer) (l : List (Nat × OutSlot)) : List (Nat × OutSlot) :=
  l.map (fun p => if bit t.cfg 21 = false ∨ bits t.cfg 18 3 = p.1 then (p.1, { p.2 with poll := true }) else p)

/-- Load program `p`, whose class parameters come from `bundle`, and start it; the masks of timers cancelled and carried are
answered. `code` is what XINFO says of the start: 1 an exchange, 2 a rollback. -/
def State.loadProg (s : State) (n : Nat) (p : Prog) (bundle : Option Nat) (code : Nat) : (Nat × Nat) × State :=
  let q := s.sq n
  let tm (i : Nat) : Timer := tget {} q.timers i
  let ed (i : Nat) : Edge := tget {} q.edges i
  let gone := maskWhere (fun i => (tm i).active && !bit p.carryT i)
  let kept := maskWhere (fun i => (tm i).active && bit p.carryT i)
  let ekept := maskWhere (fun i => (ed i).latched || (ed i).kept)
  let polled := (setBits gone 8).foldl (fun l i => pollSlots (tm i) l) q.slots
  let s1 := (setBits gone 8).foldl (fun (s : State) i => s.seqEvent n 6 i) s
  let s2 := s1.setSq n { s1.sq n with
    timers := tab {} 8 (fun i => (tm i).load p i), edges := tab {} 8 (fun i => (ed i).load p i),
    slots := polled.map (fun x => (x.1, { x.2 with carried := true })),
    xinfo := code + gone * 2 ^ 8 + kept * 2 ^ 16 + ekept * 2 ^ 24 }
  let s3 := s2.setChan n { s2.chan n with bundle }
  ((gone, kept), s3.startProg n p)

/-! ### The end of an exchange (R359) -/

/-- Is flight `k`'s exchange still going on somewhere? -/
def State.xchBusy (s : State) (k : Nat) : Bool :=
  s.seqs.any (fun p => match p.2.xch with | some x => x.flight == some k | none => false)

/-- SEQ_EXCHANGE completes once every channel it names has ended: the worst outcome of a channel (1 exchanged, 2 rolled back,
3 no quiet point, 4 stopped) decides. -/
def State.xchSettle (s : State) (k : Nat) : State :=
  if s.xchBusy k then s
  else match s.flight? k with
    | some f =>
      let has (c : Nat) : Bool := f.units.any (fun p => p.2 == c)
      if has 4 then s.complete k 0x50 0x66 else if has 2 then s.complete k 0x50 0x64
      else if has 3 then s.complete k 0x50 0x65 else s.complete k 0
    | none => s

/-- The exchange on channel `n` ends: bits 0 to 3 of the EXCHANGE event in `how`, and its outcome for the command. -/
def State.xchEnd (s : State) (n how outcome : Nat) : State :=
  match (s.sq n).xch with
  | none => s
  | some x =>
    let data := how + b2n x.load * 16 + x.prog.cls % 16 * 2 ^ 8 + x.prog.slot % 2 * 2 ^ 12 + x.cancelled % 256 * 2 ^ 16
      + x.carried % 256 * 2 ^ 24
    let s1 := (s.setSq n { s.sq n with xch := none }).seqEvent n 7 data
    let s2 := if how = 1 then s1 else s1.faultDue 0x06 n (natLE 4 data)
    match x.flight with
    | some k =>
      (match s2.flight? k with
      | some f => (s2.setFlight k { f with units := f.units ++ [(n, outcome)] }).xchSettle k
      | none => s2)
    | none => s2

/-- The slots in use under R360, once `p` runs on a channel that ran `o`. -/
def State.xchUse (s : State) (o p : Prog) : State :=
  let m (p : Prog) : Nat := if p.base then 0 else 1 <<< (p.slot % 2)
  { s with keep := { s.keep with xchSlots := s.keep.xchSlots ||| m o ||| m p } }

/-- The program that ran before is loaded again, at once and with no entry check (R358). -/
def State.rollback (s : State) (n : Nat) : State :=
  match (s.sq n).xch with
  | none => s
  | some x =>
    let ((g, c), s1) := s.loadProg n x.backProg x.back 2
    s1.setSq n { s1.sq n with xch := some { x with entry := false, rolled := true, age := 0, cancelled := g, carried := c } }

/-- Is channel `n` waiting for its quiet point? -/
def State.xchWaits (s : State) (n : Nat) : Bool := match (s.sq n).xch with | some x => !x.entry && !x.rolled | none => false

/-- Is a quiet point here (R355)? -/
def State.quietDue (s : State) (n : Nat) : Bool :=
  let q := s.sq n
  s.xchWaits n && !q.insvc && !q.inflt && !q.xhold && !q.halted && !q.issued && (q.st == 1 || q.st == 2)

/-- QUIET_POINT (R355, R356): channel `n` loads the new program. -/
def quietPoint (n : Nat) (s : State) : State :=
  match (s.sq n).xch with
  | none => s
  | some x =>
    if s.quietDue n = false then s
    else
      let old := s.program n
      let back := (s.chan n).bundle
      let ((g, c), s1) := (s.xchUse old x.prog).loadProg n x.prog x.bundle 1
      s1.setSq n { s1.sq n with xch := some { x with entry := true, age := 0, cancelled := g, carried := c, back, backProg := old } }

/-- QUIET_TIMEOUT (R355): no quiet point within 1 ms, not counting time halted; the old program stays. -/
def quietTimeout (n : Nat) (s : State) : State :=
  match (s.sq n).xch with
  | some x => if s.xchWaits n ∧ 1000 ≤ x.age then s.xchEnd n 4 3 else s
  | none => s

/-- The entry check is passed (R358): the exchange ends, and the scheduler hands operations again. -/
def State.entryOk (s : State) (n : Nat) : State :=
  match (s.sq n).xch with
  | some x => if x.entry then (s.xchEnd n 1 1).chPump n else s
  | none => s

/-- ENTRY_TIMEOUT (R358): 100 µs pass without ENTRY_OK, and the channel rolls back; or the program put back by a rollback has
run 100 µs, and the exchange ends. -/
def entryTimeout (n : Nat) (s : State) : State :=
  match (s.sq n).xch with
  | some x => if x.age < 100 then s else if x.entry then s.rollback n else if x.rolled then s.xchEnd n 2 2 else s
  | none => s

/-- A removal trigger, TJ_TRIP or an orderly reset abandons every exchange that waits for its quiet point (R362). -/
def State.xchAbandon (s : State) (status : Nat) : State :=
  let ks := (List.range 8).filterMap (fun n => if s.xchWaits n then (s.sq n).xch.bind (·.flight) else none)
  let s1 := ks.foldl (fun (s : State) k => s.complete k status) s
  let s2 := { s1 with seqs := s1.seqs.map (fun (p : Nat × Seq) => (p.1, { p.2 with
    xch := p.2.xch.map (fun x => if ks.any (fun k => x.flight == some k) then { x with flight := none } else x) })) }
  (List.range 8).foldl (fun (s : State) n => if s.xchWaits n then s.xchEnd n 4 3 else s) s2

/-! ### SEQ_EXCHANGE (R354) -/

/-- The refusal of an exchange: status and qualifier. -/
def State.xchCheck (s : State) (mask cls slot : Nat) : Option (Nat × Nat) :=
  let c := s.spbClass (s.get F.FW_SVI_SLOT) slot
  if s.st = stLimited then some (0x41, 0x60)
  else if s.spbCode slot [] ≠ 2 ∨ 2 ≤ c ∨ (c = 1 ∧ s.get F.BOOT_CFG_STRICT_PAIR = 1) then some (0x50, 0x61)
  else match s.readProg slot cls with
    | none => some (0x50, 0x62)
    | some _ =>
      let fits (n d : Nat) : Bool :=
        let v := s.die n d
        bit (s.classMask slot cls) v.cls && decide (v.cls < s.spbClasses slot) && s.descFits slot v.cls v.ident v.jedec
      if (setBits mask 8).all (fun n => (s.diesInUse n).all (fits n)) then none else some (0x50, 0x63)

/-- SEQ_EXCHANGE: the supervisor carries out one at a time. Channels with no die in use count as exchanged. -/
def seqExchange (k : Nat) (s : State) : State :=
  match s.canStart k 0x44 with
  | none => s
  | some f =>
    if s.seqs.any (fun p => p.2.xch.isSome) then s
    else
      let mask := leAt f.bytes 16 1
      let cls := leAt f.bytes 17 1 % 16
      let slot := leAt f.bytes 18 1 % 2
      let s0 := s.startRun k { f with addr := mask + cls * 2 ^ 8 + slot * 2 ^ 12, opsTotal := 0 }
      match s.xchCheck mask cls slot, s.readProg slot cls with
      | some (st, ql), _ => s0.complete k st ql
      | none, none => s0.complete k 0x50 0x62
      | none, some p =>
        let l := (setBits mask 8).filter (fun n => s.diesInUse n ≠ [])
        let s1 := l.foldl (fun (s : State) n => s.setSq n { s.sq n with
          xch := some { flight := some k, prog := p, bundle := some slot } }) s0
        s1.xchSettle k

end Sys2Proof.Machine
end

