-- ==== Sys2Proof/Machine/Sequencer.lean ====
section
/-!
DEFINITION. The channel sequencer machine (ch. 14) with its bus primitives, timers and detectors (ch. 15): registers, Hamper
accesses, special registers, one definition per instruction, machine faults, event delivery and debug halt.
-/

namespace Sys2Proof.Machine

/-- How an instruction ends: it retires, it is a machine fault with a cause of Table 14-10, or it waits at issue. -/
inductive SRes where
  | ok (s : State) | fault (cause : Nat) | waits

/-! ### Registers -/

/-- V`i` of sequencer `n`. -/
def State.sv (s : State) (n i : Nat) : Word := tget 0 (s.sq n).v i

/-- Write V`i`. -/
def State.setV (s : State) (n i : Nat) (r : Word) : State := s.setSq n { s.sq n with v := tset 0 (s.sq n).v i r }

/-- P`i`. -/
def State.ptr (s : State) (n i : Nat) : Nat := (tget 0 (s.sq n).p i).toNat

/-- Write P`i`; bit 29 is 0 (Table 14-6). -/
def State.setPtr (s : State) (n i v : Nat) : State :=
  s.setSq n { s.sq n with p := tset 0 (s.sq n).p i (BitVec.ofNat 32 (putBits v 29 1 0)) }

/-- Write the flags. -/
def State.setFl (s : State) (n f : Nat) : State := s.setSq n { s.sq n with flags := f % 32 }

/-- Jump. -/
def State.setPc (s : State) (n a : Nat) : State := s.setSq n { s.sq n with pc := a % 4096 }

/-- Write a result to V*d* and the flags. -/
def State.alu (s : State) (n w : Nat) (r : Word × Nat) : SRes := .ok ((s.setV n (wD w) r.1).setFl n r.2)

/-- Va, Vb and the flags of a word. -/
def State.ab (s : State) (n w : Nat) : Word × Word × Nat := (s.sv n (wA w), s.sv n (wB w), (s.sq n).flags)

/-! ### Arithmetic (R315 to R320) -/

def semNop (s : State) : SRes := .ok s

def semAdd (n w : Nat) (s : State) : SRes := let (a, b, f) := s.ab n w; s.alu n w (aluAdd f a b 0)

def semAdc (n w : Nat) (s : State) : SRes := let (a, b, f) := s.ab n w; s.alu n w (aluAdd f a b (b2n (bit f 2)))

def semSub (n w : Nat) (s : State) : SRes := let (a, b, f) := s.ab n w; s.alu n w (aluSub f a b 0)

def semSbc (n w : Nat) (s : State) : SRes := let (a, b, f) := s.ab n w; s.alu n w (aluSub f a b (1 - b2n (bit f 2)))

def semAnd (n w : Nat) (s : State) : SRes := let (a, b, f) := s.ab n w; s.alu n w (aluLogic f (a &&& b))

def semOr (n w : Nat) (s : State) : SRes := let (a, b, f) := s.ab n w; s.alu n w (aluLogic f (a ||| b))

def semXor (n w : Nat) (s : State) : SRes := let (a, b, f) := s.ab n w; s.alu n w (aluLogic f (a ^^^ b))

/-- The shift amount in Vb (R318). -/
def amount (b : Word) : Nat := b.toNat % 256

def semShl (n w : Nat) (s : State) : SRes := let (a, b, f) := s.ab n w; s.alu n w (aluShl f a (amount b))

def semShr (n w : Nat) (s : State) : SRes := let (a, b, f) := s.ab n w; s.alu n w (aluShr f a (amount b))

def semSar (n w : Nat) (s : State) : SRes := let (a, b, f) := s.ab n w; s.alu n w (aluSar f a (amount b))

def semRol (n w : Nat) (s : State) : SRes := let (a, b, f) := s.ab n w; s.alu n w (aluRol f a (amount b))

def semRor (n w : Nat) (s : State) : SRes := let (a, b, f) := s.ab n w; s.alu n w (aluRor f a (amount b))

def semMul (n w : Nat) (s : State) : SRes := let (a, b, f) := s.ab n w; s.alu n w (aluMul f a b)

/-- Write quotient and remainder; a division by zero posts DZ while `SEQ_CTL.DZ_EVENT` = 1 (R320, R328). -/
def State.divEnd (s : State) (n w pc : Nat) (r : Word × Word × Nat) : SRes :=
  let s1 := (((s.setV n (wD w) r.1).setV n (wD w + 1) r.2.1).setFl n r.2.2)
  .ok (if bit r.2.2 4 ∧ s.get (F.SEQ_CTL_DZ_EVENT n) = 1 then s1.seqEvent n 5 pc else s1)

def semDivs (n w pc : Nat) (s : State) : SRes := let (a, b, f) := s.ab n w; s.divEnd n w pc (aluDivs f a b)

def semDivu (n w pc : Nat) (s : State) : SRes := let (a, b, f) := s.ab n w; s.divEnd n w pc (aluDivu f a b)

def semCmp (n w : Nat) (s : State) : SRes := let (a, b, f) := s.ab n w; .ok (s.setFl n (aluSub f a b 0).2)

def semTst (n w : Nat) (s : State) : SRes := let (a, b, f) := s.ab n w; .ok (s.setFl n (aluLogic f (a &&& b)).2)

def semNeg (n w : Nat) (s : State) : SRes := let (a, _, f) := s.ab n w; s.alu n w (aluSub f 0 a 0)

def semNot (n w : Nat) (s : State) : SRes := let (a, _, f) := s.ab n w; s.alu n w (aluLogic f (~~~a))

def semMov (n w : Nat) (s : State) : SRes := .ok (s.setV n (wD w) (s.sv n (wA w)))

def semAddi (n w : Nat) (s : State) : SRes := let (a, _, f) := s.ab n w; s.alu n w (aluAdd f a (wSimm w) 0)

def semAndi (n w : Nat) (s : State) : SRes := let (a, _, f) := s.ab n w; s.alu n w (aluLogic f (a &&& BitVec.ofNat 32 (wImm w)))

def semOri (n w : Nat) (s : State) : SRes := let (a, _, f) := s.ab n w; s.alu n w (aluLogic f (a ||| BitVec.ofNat 32 (wImm w)))

def semXori (n w : Nat) (s : State) : SRes := let (a, _, f) := s.ab n w; s.alu n w (aluLogic f (a ^^^ BitVec.ofNat 32 (wImm w)))

/-- SHI: *s* chooses SHL, SHR, SAR or ROR. -/
def semShi (n w : Nat) (s : State) : SRes :=
  let (a, _, f) := s.ab n w
  let k := wImm w % 256
  s.alu n w (match bits w 16 2 with
    | 0 => aluShl f a k
    | 1 => aluShr f a k
    | 2 => aluSar f a k
    | _ => aluRor f a k)

def semCmpi (n w : Nat) (s : State) : SRes := let (a, _, f) := s.ab n w; .ok (s.setFl n (aluSub f a (wSimm w) 0).2)

def semMovi (n w : Nat) (s : State) : SRes := .ok (s.setV n (wD w) (BitVec.ofNat 32 (wImm w)))

def semMovhi (n w : Nat) (s : State) : SRes :=
  .ok (s.setV n (wD w) (BitVec.ofNat 32 (putBits (s.sv n (wD w)).toNat 16 16 (wImm w))))

def semMovs (n w : Nat) (s : State) : SRes := .ok (s.setV n (wD w) (wSimm w))

/-! ### Pointers and the Hamper (R322 to R325) -/

/-- `OFF` of a pointer. -/
def pOff (p : Nat) : Nat := bits p 16 13

/-- `REF` of a pointer. -/
def pRef (p : Nat) : Nat := bits p 0 16

/-- `SPACE` of a pointer: the tag. -/
def pTag (p : Nat) : Bool := bit p 31

/-- An access through P`i` is refused: `LOST`, its count, and STALE_REF where the reference is stale (R324, R261). -/
def State.lost (s : State) (n i r : Nat) : State :=
  let s1 := (s.setPtr n i (s.ptr n i ||| 0x40000000)).addF (F.SEQ_COUNT_LOST n) 1
  if s1.refOk r then s1 else s1.staleRef r 3

/-- Write one store of the write buffer to the Hamper. -/
def State.storeOut (s : State) (n : Nat) (h : HStore) : State :=
  let r := pRef h.ptr
  let b := refBuf r
  if s.refOk r = false then s.lost n h.p r
  else if pTag h.ptr then
    s.setHbuf b ((withIdx h.bytes).foldl (fun (v : HBuf) x => v.tagPut (h.off + x.1) x.2) (s.hbuf b))
  else s.hmpPut b h.off h.bytes

/-- Write every earlier store, in program order (R325). -/
def State.drain (s : State) (n : Nat) : State :=
  let q := s.sq n
  q.wbuf.foldl (fun (s : State) h => s.storeOut n h) (s.setSq n { q with wbuf := [] })

/-- The fault of an access of `size` bytes at `off` of a pointer: RANGE, then ALIGN (R322). -/
def accFault (p off size : Nat) : Option Nat :=
  let a := pOff p + off
  if (if pTag p then 64 else 4096) < a + size then some 4 else if a % size ≠ 0 then some 5 else none

/-- Where a pointer goes: to a place, to a stale reference, or to a fault. -/
inductive PMove where
  | to (ref off : Nat) | lost (ref : Nat) | fault (cause : Nat)
  deriving DecidableEq, Repr

/-- Follow links from offset `off` of buffer `r` (R323), up to `fuel` of them. -/
def State.follow (s : State) (r off : Nat) : Nat → PMove
  | 0 => if off < 4096 then .to r off else .fault 6
  | fuel + 1 =>
    if off < 4096 then .to r off
    else if s.refOk r = false then .lost r
    else match (s.hbuf (refBuf r)).next with
      | some m => if s.refOk m then s.follow m (off - 4096) fuel else .lost m
      | none => if off = 4096 then .to r 4096 else .fault 6

/-- A pointer advanced by `d` bytes (R323). -/
def State.advance (s : State) (p : Nat) (d : Int) : PMove :=
  let a := (pOff p : Int) + d
  if a < 0 then .fault 4
  else if pTag p then (if a ≤ 64 then .to (pRef p) a.toNat else .fault 4)
  else s.follow (pRef p) a.toNat 15

/-- Give P`i` its new place. -/
def State.movePtr (s : State) (n i : Nat) : PMove → SRes
  | .to r off => .ok (s.setPtr n i (putBits (putBits (s.ptr n i) 0 16 r) 16 13 off))
  | .lost r => .ok (s.lost n i r)
  | .fault c => .fault c

/-- PSET. -/
def semPset (n w : Nat) (s : State) : SRes := .ok (s.setPtr n (wPP w) (putBits (s.sv n (wA w)).toNat 30 1 0))

/-- PGET. -/
def semPget (n w : Nat) (s : State) : SRes := .ok (s.setV n (wA w) (BitVec.ofNat 32 (s.ptr n (wPP w))))

/-- PADD. -/
def semPadd (n w : Nat) (s : State) : SRes := s.movePtr n (wPP w) (s.advance (s.ptr n (wPP w)) (wSimm w).toInt)

/-- PTST: Z takes `LOST` once every earlier store is written. -/
def semPtst (n w : Nat) (s : State) : SRes :=
  let s1 := s.drain n
  .ok (s1.setFl n (setFlag (s1.sq n).flags 0 (bit (s1.ptr n (wPP w)) 30)))

/-- An access through pointer `p` at byte `a` meets an error (R262): 1 corrected and counted; 2 double-bit, which in data retires the buffer
when its count reaches 0, and in tag bytes 0 to 13 at once. -/
def State.seqEcc (s : State) (p a ecc : Nat) : State :=
  let b := refBuf (pRef p)
  if s.refOk (pRef p) = false then s
  else if ecc = 1 ∨ pTag p = false then s.hmpEcc b ecc
  else if ecc = 2 ∧ a < 14 then s.hmpRetire b true
  else s

/-- A Hamper load of `size` bytes (R322 to R325): a refused load gives 0. -/
def State.hload (s : State) (n w size : Nat) (x : SeqIn) : SRes :=
  let i := wPM w
  let s1 := s.drain n
  let p := s1.ptr n i
  let a := pOff p + wTarget w
  match accFault p (wTarget w) size, (if wInc w then s1.advance p size else .to (pRef p) (pOff p)) with
  | some c, _ => .fault c
  | none, .fault c => .fault c
  | none, m =>
    let s2 := s1.seqEcc p a x.hmpEcc
    let refused := x.hmpEcc == 2 || !s1.refOk (pRef p)
    let b := refBuf (pRef p)
    let l := if pTag p then sliceB (s1.hbuf b).tag a size else s1.hmpData b a size
    let s3 := if refused then (s2.lost n i (pRef p)).setV n (wD w) 0 else s2.setV n (wD w) (BitVec.ofNat 32 (leNat l))
    if wInc w then s3.movePtr n i m else .ok s3

/-- A Hamper store of `size` bytes: it enters the write buffer, waiting for room (R325). -/
def State.hstore (s : State) (n w size : Nat) : SRes :=
  let i := wPM w
  let p := s.ptr n i
  match accFault p (wTarget w) size, (if wInc w then s.advance p size else .to (pRef p) (pOff p)) with
  | some c, _ => .fault c
  | none, .fault c => .fault c
  | none, m =>
    let h : HStore := { p := i, ptr := p, off := pOff p + wTarget w, bytes := natLE size (s.sv n (wD w)).toNat }
    let s1 := if (s.sq n).wbuf.length < 8 then s
      else match (s.sq n).wbuf with
        | o :: l => (s.setSq n { s.sq n with wbuf := l }).storeOut n o
        | [] => s
    let s2 := s1.setSq n { s1.sq n with wbuf := (s1.sq n).wbuf ++ [h] }
    if wInc w then s2.movePtr n i m else .ok s2

def semLdw (n w : Nat) (x : SeqIn) (s : State) : SRes := s.hload n w 4 x

def semLdh (n w : Nat) (x : SeqIn) (s : State) : SRes := s.hload n w 2 x

def semLdb (n w : Nat) (x : SeqIn) (s : State) : SRes := s.hload n w 1 x

def semStw (n w : Nat) (s : State) : SRes := s.hstore n w 4

def semSth (n w : Nat) (s : State) : SRes := s.hstore n w 2

def semStb (n w : Nat) (s : State) : SRes := s.hstore n w 1

/-! ### Local RAM (R310, R312, R326) -/

/-- A word of local RAM; a word never stored since the first start after a reset is open (R311). -/
def State.lramGet (s : State) (n i : Nat) : Word :=
  tget (BitVec.ofNat 32 (leNat ((List.range 4).map (fun j => BitVec.ofNat 8 (Config.freeByte (s.sq n).lramN (4 * i + j))))))
    (s.sq n).lram i

/-- The address of a local RAM access, or its fault. -/
def lramAddr (a : Word) : Except Nat Nat :=
  if 0x7FC < a.toNat then .error 4 else if a.toNat % 4 ≠ 0 then .error 5 else .ok (a.toNat / 4)

/-- LDL; a double-bit error is a machine fault with cause ECC, a single-bit error is counted. -/
def semLdl (n w : Nat) (x : SeqIn) (s : State) : SRes :=
  match lramAddr (s.sv n (wA w) + wSimm w) with
  | .error c => .fault c
  | .ok i =>
    if x.ramEcc = 2 then .fault 8
    else
      let s1 := if x.ramEcc = 1 then s.addF (F.SEQ_COUNT_ECC_CORR n) 1 else s
      .ok (s1.setV n (wD w) (s.lramGet n i))

/-- STL. -/
def semStl (n w : Nat) (s : State) : SRes :=
  match lramAddr (s.sv n (wA w) + wSimm w) with
  | .error c => .fault c
  | .ok i => .ok (s.setSq n { s.sq n with lram := tput (s.sq n).lram i (s.sv n (wD w)) })

/-! ### Condition sources and candidates (R329, R350) -/

/-- STOP: from a removal trigger, TJ_TRIP or the start of an orderly reset until the next reset. -/
def State.seqStop (s : State) : Bool := s.st == stRemoving || (s.therm.stop && s.st != stTrailhead) || s.rmv.orderly.isSome

/-- The level of a detector's source, the RB lines being `rb`. -/
def State.srcLevel (s : State) (n src rb : Nat) : Bool :=
  let q := s.sq n
  match src with
  | 4 => q.hand.isSome
  | 5 => q.slots.any (fun p => p.2.suspReq)
  | 6 => q.slots.any (fun p => p.2.resReq)
  | 7 => s.seqStop
  | k => bit rb k

/-- A local candidate: kind (1 detector, 2 timer), index, priority, vector, carried. -/
structure Cand where
  kind : Nat
  idx : Nat
  prio : Nat
  vec : Nat
  carried : Bool

/-- The detectors and timers whose delivery is enabled and due, detectors first. -/
def Seq.cands (q : Seq) : List Cand :=
  (q.edges.filter (fun p => p.2.latched && bit p.2.cfg 7)).map
    (fun p => ⟨1, p.1, bits p.2.cfg 8 4, bits p.2.cfg 12 12, p.2.carried⟩) ++
  (q.timers.filter (fun p => p.2.pend && bit p.2.pcfg 16)).map
    (fun p => ⟨2, p.1, bits p.2.pcfg 12 4, bits p.2.pcfg 0 12, p.2.carried⟩)

/-- The best local candidate: the highest priority, the first among equals. -/
def Seq.bestCand (q : Seq) : Option Cand :=
  q.cands.foldl (fun b c => match b with | none => some c | some m => if m.prio < c.prio then some c else some m) none

/-- The router event offered to sequencer `n`. -/
def State.seqOffer (s : State) (n : Nat) : Option Nat := (s.router.offer.find? (fun p => p.1 == n + 1)).map (·.2)

/-- Is any candidate pending? -/
def State.anyCand (s : State) (n : Nat) : Bool := (s.seqOffer n).isSome || !(s.sq n).cands.isEmpty

/-- May a delivery be made at this boundary? -/
def State.deliveryDue (s : State) (n : Nat) : Bool := s.seqOpen n && !(s.sq n).issued && s.anyCand n

/-! ### Special registers (R327, Tables 14-8 and 15-9) -/

/-- The plane part `k` of the handed operation. -/
def State.handPart (s : State) (n k : Nat) : Option OpPart :=
  ((s.sq n).hand.bind s.dop?).bind (fun o => o.parts.find? (fun p => (s.die n o.die).planeOf p.row == k))

/-- HAND. -/
def State.handWord (s : State) (n : Nat) : Nat :=
  match (s.sq n).hand.bind s.dop? with
  | none => 0
  | some o => 1 + o.kind % 8 * 2 + b2n o.cache * 16 + maskOf (o.parts.map (fun p => (s.die n o.die).planeOf p.row)) * 2 ^ 8
      + o.die % 32 * 2 ^ 16 + o.step % 256 * 2 ^ 24

/-- OUT_`k`. -/
def State.outWord (s : State) (n k : Nat) : Nat :=
  match s.slot? n k with
  | none => 0
  | some v => 1 + b2n v.started.isSome * 2 + b2n v.suspended * 4 + b2n v.poll * 8 + v.kind % 8 * 16 + b2n v.carried * 128
      + v.die % 32 * 2 ^ 8 + (match v.started with | some t => min 0xFFFF (s.clock - t) | none => 0) * 2 ^ 16

/-- One bit per slot. -/
def Seq.slotMask (q : Seq) (f : OutSlot → Bool) : Nat := maskOf ((q.slots.filter (fun p => f p.2)).map (·.1))

/-- MFS (R327). CYCLE is an open value: the model does not count core cycles. -/
def State.srRead (s : State) (n a : Nat) : Nat × State :=
  let q := s.sq n
  let c := s.clsPar n q.clsSel
  let hand := q.hand.bind s.dop?
  let v := s.die n q.dieSel
  if a = 0x0B then s.freeBits 32
  else (
    if a = 0x00 then q.flags
    else if a = 0x01 then b2n q.en + b2n q.insvc * 2 + b2n q.inflt * 4
    else if a = 0x02 then q.claim
    else if a = 0x03 then q.edata % 2 ^ 32
    else if a = 0x04 then q.edata / 2 ^ 32
    else if a = 0x05 then q.epc
    else if a = 0x06 then q.eflags
    else if a = 0x07 then q.fltCause
    else if a = 0x08 then q.fltPc
    else if a = 0x09 then q.fltRet
    else if a = 0x0A then q.fflags
    else if a = 0x0C then s.clock % 2 ^ 32
    else if a = 0x0D then n % 8
    else if a = 0x0E then q.stack.length
    else if a = 0x40 then
      s.get (F.CH_IF_RATE n) + s.get (F.CH_IF_PROTO n) * 16 + s.get (F.CH_LIMIT_RB_USE n) * 64 + b2n (s.chHold n) * 128
    else if a = 0x41 then s.handWord n
    else if 0x42 ≤ a ∧ a ≤ 0x45 then ((s.handPart n (a - 0x42)).map (fun p => p.row % 2 ^ 24)).getD 0
    else if a = 0x46 then (hand.map (·.col)).getD 0
    else if a = 0x47 then (hand.map (·.len)).getD 0
    else if 0x48 ≤ a ∧ a ≤ 0x4B then (((s.handPart n (a - 0x48)).bind (·.buf)).getD 0) % 2 ^ 16
    else if 0x50 ≤ a ∧ a ≤ 0x57 then s.outWord n (a - 0x50)
    else if a = 0x58 then q.slotMask (fun _ => true) + q.slotMask (·.poll) * 2 ^ 8 + q.slotMask (·.suspReq) * 2 ^ 16
      + q.slotMask (·.resReq) * 2 ^ 24
    else if 0x60 ≤ a ∧ a ≤ 0x67 then (tget {} q.timers (a - 0x60)).cfg
    else if a = 0x71 then b2n q.xhold
    else if a = 0x72 then q.xinfo
    else if a = 0x73 then q.clsSel
    else if a = 0x74 then c.tr
    else if a = 0x75 then c.tprog
    else if a = 0x76 then c.tbers
    else if a = 0x77 then c.tsus + c.tres * 2 ^ 16
    else if a = 0x78 then c.tfeat
    else if a = 0x79 then c.caps
    else if a = 0x7A then q.dieSel
    else if a = 0x7B then v.cls % 16 + v.planes % 4 * 16 + b2n v.jedec * 64 + b2n (v.state == 1) * 128
    else 0, s)

/-- An operation of the channel on a slot: a slot it does not fit is a machine fault with cause BUS (R351). -/
def busOr : Option State → SRes
  | some s => .ok s
  | none => .fault 7

/-- The end of a read makes an access of Q_10 + n, which may find a pointer mismatch (R237). -/
def State.landSound (s : State) (n x : Nat) : State :=
  if (s.slot? n x).any (fun v => v.kind != 1 && v.kind != 2) then s.viaQ [10 + n % 8] id else s

/-- MTS (R327): a read-only or reserved address is illegal; unnamed bits are not held. -/
def State.srWrite (s : State) (n a v : Nat) (x : SeqIn) : SRes :=
  let q := s.sq n
  if a = 0x00 then .ok (s.setFl n v)
  else if a = 0x05 then .ok (s.setSq n { q with epc := v % 4096 })
  else if a = 0x06 then .ok (s.setSq n { q with eflags := v % 32 })
  else if a = 0x09 then .ok (s.setSq n { q with fltRet := v % 4096 })
  else if a = 0x0A then .ok (s.setSq n { q with fflags := v % 32 })
  else if a = 0x4C then busOr (((s.withPs x.ps).slotTake n (v % 8)).map State.endPs)
  else if a = 0x4D then busOr (s.slotConfirm n (v % 8))
  else if a = 0x4E then (if bits v 4 2 = 3 then busOr ((s.slot? n (v % 8)).map (fun _ => s)) else busOr ((s.landSound n (v % 8)).slotEnd n (v % 8) (bits v 4 2)))
  else if a = 0x4F then busOr (s.slotAck n (v % 8))
  else if a = 0x59 then busOr (s.slotSuspack n (v % 8) (bit v 4))
  else if 0x60 ≤ a ∧ a ≤ 0x67 then
    let t := tget {} q.timers (a - 0x60)
    .ok (s.setSq n { q with timers := tset {} q.timers (a - 0x60) { t with cfg := v % 2 ^ 22 } })
  else if a = 0x70 then .ok (if bit v 0 then s.entryOk n else s)
  else if a = 0x71 then .ok (s.setSq n { q with xhold := bit v 0 })
  else if a = 0x73 then .ok (s.setSq n { q with clsSel := v % 16 })
  else if a = 0x7A then .ok (s.setSq n { q with dieSel := v % 32 })
  else .fault 1

def semMfs (n w : Nat) (s : State) : SRes :=
  let (v, s1) := s.srRead n (wImm w % 256)
  .ok (s1.setV n (wD w) (BitVec.ofNat 32 v))

def semMts (n w : Nat) (x : SeqIn) (s : State) : SRes := s.srWrite n (wImm w % 256) (s.sv n (wA w)).toNat x

/-! ### Control flow, events, watchdog (R321, R328, R330, R331, R334) -/

def semB (n w : Nat) (s : State) : SRes := .ok (if condTrue (s.sq n).flags (wD w) then s.setPc n (wTarget w) else s)

/-- The target in Va (R321). -/
def targetOf (a : Word) : Option Nat := if a.toNat < 4096 then some a.toNat else none

def semBr (n w : Nat) (s : State) : SRes :=
  match targetOf (s.sv n (wA w)) with
  | none => .fault 2
  | some t => .ok (if condTrue (s.sq n).flags (wD w) then s.setPc n t else s)

/-- Push the address of the next instruction and jump. -/
def State.callTo (s : State) (n t : Nat) : SRes :=
  let q := s.sq n
  if 8 ≤ q.stack.length then .fault 3 else .ok (s.setSq n { q with stack := q.pc :: q.stack, pc := t % 4096 })

def semCall (n w : Nat) (s : State) : SRes := if condTrue (s.sq n).flags (wD w) then s.callTo n (wTarget w) else .ok s

def semCallr (n w : Nat) (s : State) : SRes :=
  match targetOf (s.sv n (wA w)) with
  | none => .fault 2
  | some t => s.callTo n t

def semRet (n : Nat) (s : State) : SRes :=
  match (s.sq n).stack with
  | [] => .fault 3
  | a :: l => .ok (s.setSq n { s.sq n with stack := l, pc := a })

/-- RETE (R330): illegal while no event is in service. -/
def semRete (n : Nat) (s : State) : SRes :=
  let q := s.sq n
  if q.insvc = false then .fault 1
  else .ok ((s.setSq n { q with pc := q.epc, flags := q.eflags }).dropService n)

/-- RETF (R332): illegal while no fault handler runs. -/
def semRetf (n : Nat) (s : State) : SRes :=
  let q := s.sq n
  if q.inflt = false then .fault 1 else .ok (s.setSq n { q with pc := q.fltRet, flags := q.fflags, inflt := false })

def semDjnz (n w : Nat) (s : State) : SRes :=
  let r := s.sv n (wD w) - 1
  let s1 := s.setV n (wD w) r
  .ok (if r = 0 then s1 else s1.setPc n (wTarget w))

/-- POST: it waits until every earlier store is written (R325). -/
def semPost (n w : Nat) (s : State) : SRes := .ok ((s.drain n).seqEvent n (wImm w % 4) (s.sv n (wA w)).toNat)

def semEvm (n w : Nat) (s : State) : SRes := .ok (s.setSq n { s.sq n with en := bit w 0 })

/-- WAIT (R331): with a candidate pending it retires, else the sequencer idles with PC at the WAIT. -/
def semWait (n pc : Nat) (s : State) : SRes :=
  if s.anyCand n then .ok (s.setSq n { s.sq n with st := 1 }) else .ok (s.setSq n { s.sq n with st := 2, pc := pc })

def semKick (n : Nat) (s : State) : SRes := .ok (s.wdService (n + 1))

/-- Halt sequencer `n` (R336): its watchdog freezes. -/
def State.haltSeq (s : State) (n : Nat) : State := (s.setSq n { s.sq n with halted := true, haltReq := false }).wdFreeze (n + 1) true

/-- Resume it; the next instruction runs once without breaking (R335). -/
def State.resumeSeq (s : State) (n : Nat) : State :=
  if (s.sq n).halted then ((s.setSq n { s.sq n with halted := false, noBreak := true }).wdFreeze (n + 1) false).chPump n else s

/-- BRK (R337). -/
def semBrk (n : Nat) (s : State) : SRes :=
  .ok (if s.get (F.SEQ_DBG_CFG_BRK_EN n) = 1 ∧ s.seqStop = false then s.haltSeq n else s)

/-! ### Timers and detectors (R348 to R350) -/

/-- Timer `t` of sequencer `n`. -/
def State.timer (s : State) (n t : Nat) : Timer := tget {} (s.sq n).timers t

/-- Set it. -/
def State.setTimer (s : State) (n t : Nat) (v : Timer) : State := s.setSq n { s.sq n with timers := tset {} (s.sq n).timers t v }

/-- Detector `e` of sequencer `n`. -/
def State.edge (s : State) (n e : Nat) : Edge := tget {} (s.sq n).edges e

/-- Set it. -/
def State.setEdge (s : State) (n e : Nat) (v : Edge) : State := s.setSq n { s.sq n with edges := tset {} (s.sq n).edges e v }

def semTset (n w : Nat) (s : State) : SRes :=
  let a := (s.sv n (wA w)).toNat
  let c := bits a 0 24
  if c = 0 ∨ 2 ≤ bits a 24 8 then .fault 1
  else .ok (s.setTimer n (wImm w % 8) { s.timer n (wImm w % 8) with
    running := true, start := c, inUs := bit a 24, left := c, pend := false, carried := false })

def semTstop (n w : Nat) (s : State) : SRes :=
  .ok (s.setTimer n (wImm w % 8) { s.timer n (wImm w % 8) with running := false, pend := false, carried := false })

/-- TGET (R349). The remaining count of a running timer in core cycles is an open value. -/
def semTget (n w : Nat) (s : State) : SRes :=
  let t := s.timer n (wImm w % 8)
  let (c, s1) := if t.running && !t.inUs then
      let (r, s1) := s.freeBits 24
      (r % (t.start + 1), s1)
    else (t.left, s)
  let v := c % 2 ^ 24 + b2n t.running * 2 ^ 24 + b2n t.pend * 2 ^ 25 + b2n t.carried * 2 ^ 26
  let s2 := if t.pend && !bit t.pcfg 16 then s1.setTimer n (wImm w % 8) { t with pend := false, carried := false } else s1
  .ok (s2.setV n (wA w) (BitVec.ofNat 32 v))

/-- Is a source an RB line that the channel ignores (R287)? -/
def State.rbIgnored (s : State) (n src : Nat) : Bool := decide (src < 4) && s.get (F.CH_LIMIT_RB_USE n) == 0

/-- EARM (R350): a latch kept across an exchange is reported now (R357). -/
def semEarm (n w : Nat) (x : SeqIn) (s : State) : SRes :=
  let c := (s.sv n (wA w)).toNat
  let e := s.edge n (wImm w % 8)
  if ecfgOk c = false then .fault 1
  else .ok (s.setEdge n (wImm w % 8) { cfg := c, armed := true, latched := e.kept, carried := e.kept, level := !s.rbIgnored n (c % 32) && s.srcLevel n (c % 32) x.rb })

def semEdis (n w : Nat) (s : State) : SRes :=
  .ok (s.setEdge n (wImm w % 8) { s.edge n (wImm w % 8) with armed := false, latched := false, carried := false, kept := false })

/-- EGET (R350). The level of an RB line that the channel ignores is a free value: no rule gives one. -/
def semEget (n w : Nat) (x : SeqIn) (s0 : State) : SRes :=
  let e := s0.edge n (wImm w % 8)
  let (lv, s) := if s0.rbIgnored n (e.cfg % 32) then s0.freeBits 1 else (b2n (s0.srcLevel n (e.cfg % 32) x.rb), s0)
  let v := b2n e.armed + b2n e.latched * 2 + lv * 4 + b2n e.carried * 8 + b2n e.overrun * 16
  let e1 := { e with overrun := false }
  let e2 := if e.latched && !bit e.cfg 7 then { e1 with latched := false, carried := false } else e1
  .ok ((s.setEdge n (wImm w % 8) e2).setV n (wA w) (BitVec.ofNat 32 v))

/-! ### Bus primitives (R343 to R347) -/

/-- What a primitive other than BIDLE needs: no commit of the channel in hold (it waits), and unless it is BSEL a chip enable. -/
def State.busGo (s : State) (n : Nat) (needCe : Bool) (f : State → SRes) : SRes :=
  if s.chHold n then .waits else if needCe ∧ (s.sq n).ce = none then .fault 7 else f (s.drain n)

/-- Record an act on the bus. -/
def State.busAct (s : State) (n act : Nat) (l : List Byte) : State := s.send (.bus n act l)

def semBcmd (n w : Nat) (s : State) : SRes := s.busGo n true (fun s => .ok (s.busAct n 1 [BitVec.ofNat 8 w]))

def semBadr (n w : Nat) (s : State) : SRes :=
  s.busGo n true (fun s => .ok (s.busAct n 2
    ((natLE 4 (s.sv n (wA w)).toNat ++ natLE 4 (s.sv n (wA w + 1)).toNat).take (wImm w % 8))))

def semBsts (n w : Nat) (x : SeqIn) (s : State) : SRes :=
  s.busGo n true (fun s => .ok ((s.busAct n 5 [BitVec.ofNat 8 w]).setV n (wD w) (BitVec.ofNat 32 (leAt x.bus 0 1))))

/-- BSEL: a CE with no target is a machine fault with cause BUS (R345). -/
def semBsel (n w : Nat) (s : State) : SRes :=
  s.busGo n false (fun s =>
    if bit w 8 then .ok ((s.busAct n 0 []).setSq n { s.sq n with ce := none })
    else if bit (s.get (F.CH_CE_MAP_PRESENT n)) (w % 8) = false then .fault 7
    else .ok ((s.busAct n 0 [BitVec.ofNat 8 (w % 8)]).setSq n { s.sq n with ce := some (w % 8) }))

def semBsetf (n w : Nat) (s : State) : SRes :=
  s.busGo n true (fun s => .ok (s.busAct n 6 (BitVec.ofNat 8 w :: natLE 4 (s.sv n (wA w)).toNat)))

def semBgetf (n w : Nat) (x : SeqIn) (s : State) : SRes :=
  s.busGo n true (fun s => .ok ((s.busAct n 7 [BitVec.ofNat 8 w]).setV n (wD w) (BitVec.ofNat 32 (leAt x.bus 0 4))))

/-- BIDLE: like any bus primitive it starts once every earlier store is written (R325). -/
def semBidle (n : Nat) (s : State) : SRes := .ok (s.drain n)

/-- The faults of a burst of `len` bytes through pointer `p` (R345). -/
def State.burstFault (s : State) (n p len : Nat) : Option Nat :=
  if len = 0 ∨ 32768 < len ∨ (len % 2 = 1 ∧ s.get (F.CH_IF_RATE n) ≠ 0) ∨ pTag p then some 7
  else if 4096 ≤ pOff p then some 4
  else match s.advance p len with | .fault c => some c | _ => none

/-- Put a burst into the chain from offset `off` of buffer `r`; the stale reference it meets on the way, if any. -/
def State.burstPut (s : State) (r off : Nat) (l : List Byte) : Nat → Option Nat × State
  | 0 => (none, s)
  | fuel + 1 =>
    if s.refOk r = false then (some r, s)
    else
      let s1 := s.hmpPut (refBuf r) off (l.take (4096 - off))
      match l.drop (4096 - off), (s.hbuf (refBuf r)).next with
      | [], _ => (none, s1)
      | _, none => (none, s1)
      | rest, some m => s1.burstPut m 0 rest fuel

/-- Take `len` bytes of the chain from offset `off` of buffer `r`, with the stale reference it meets, if any; 0x00 for what a refused access
cannot supply. -/
def State.burstGet (s : State) (r off len : Nat) : Nat → Option Nat × List Byte
  | 0 => (none, [])
  | fuel + 1 =>
    if s.refOk r = false then (some r, List.replicate len 0)
    else
      let k := min len (4096 - off)
      let l := s.hmpData (refBuf r) off k
      match len - k, (s.hbuf (refBuf r)).next with
      | 0, _ => (none, l)
      | _, none => (none, l)
      | rest, some m =>
        let (st, l2) := s.burstGet m 0 rest fuel
        (st, l ++ l2)

/-- The reads in slots of channel `n` whose landing chain holds buffer `r`: codewords. -/
def State.readsInto (s : State) (n r : Nat) : List Nat :=
  (s.chOps n).flatMap (fun p => match p.2.st with
    | .open _ => p.2.parts.filterMap (fun x => match x.use, x.buf with
      | .cw c, some q => if (s.chainRefs q 16).contains r then some c else none
      | _, _ => none)
    | _ => [])

/-- A data burst of a read fills its entry of Q_10 + n, which stays pending (R346). -/
def State.fillEntry (s : State) (n r : Nat) : State :=
  (s.readsInto n r).foldl (fun (s : State) c =>
    if s.qHas (10 + n) (.cw c) then s
    else match s.cw? c with
      | some w => s.viaQ [10 + n] (fun s => s.qPend (10 + n) { flight := w.flight, orig := w.use.origin, bufs := [w.buf], work := .cw c })
      | none => s) s

/-- BDO (R346): the burst always runs to its end; its data is discarded once the pointer is `LOST`. -/
def semBdo (n w : Nat) (x : SeqIn) (s : State) : SRes :=
  s.busGo n true (fun s =>
    let i := wPM w
    let p := s.ptr n i
    let len := (s.sv n (wD w)).toNat
    match s.burstFault n p len with
    | some c => .fault c
    | none =>
      let s1 := (s.fillEntry n (pRef p)).busAct n 4 []
      let (st, s2) := if bit p 30 then (none, s1) else s1.burstPut (pRef p) (pOff p) (sliceB x.bus 0 len) 16
      match st with
      | some r => .ok (s2.lost n i r)
      | none => s2.movePtr n i (s.advance p len))

/-- BDI (R346). A double-bit error in the data is a refused access. -/
def semBdi (n w : Nat) (x : SeqIn) (s : State) : SRes :=
  s.busGo n true (fun s =>
    let i := wPM w
    let p := s.ptr n i
    let len := (s.sv n (wD w)).toNat
    match s.burstFault n p len with
    | some c => .fault c
    | none =>
      let (st, l) := if x.hmpEcc = 2 then (some (pRef p), List.replicate len 0) else s.burstGet (pRef p) (pOff p) len 16
      let s1 := (s.seqEcc p (pOff p) x.hmpEcc).busAct n 3 l
      match st with
      | some r => (s1.lost n i r).movePtr n i (if x.hmpEcc = 2 then s.advance p len else .to (pRef p) (pOff p))
      | none => s1.movePtr n i (s.advance p len))

/-! ### Executing an instruction -/

/-- The operation of an instruction word at address `pc`; PC already names the next instruction. -/
def seqExec (o : SOp) (n w pc : Nat) (x : SeqIn) (s : State) : SRes :=
  match o with
  | .nop => semNop s
  | .add => semAdd n w s
  | .adc => semAdc n w s
  | .sub => semSub n w s
  | .sbc => semSbc n w s
  | .and => semAnd n w s
  | .or => semOr n w s
  | .xor => semXor n w s
  | .shl => semShl n w s
  | .shr => semShr n w s
  | .sar => semSar n w s
  | .rol => semRol n w s
  | .ror => semRor n w s
  | .mul => semMul n w s
  | .divs => semDivs n w pc s
  | .divu => semDivu n w pc s
  | .cmp => semCmp n w s
  | .tst => semTst n w s
  | .neg => semNeg n w s
  | .not => semNot n w s
  | .mov => semMov n w s
  | .addi => semAddi n w s
  | .andi => semAndi n w s
  | .ori => semOri n w s
  | .xori => semXori n w s
  | .shi => semShi n w s
  | .cmpi => semCmpi n w s
  | .movi => semMovi n w s
  | .movhi => semMovhi n w s
  | .movs => semMovs n w s
  | .mfs => semMfs n w s
  | .mts => semMts n w x s
  | .pset => semPset n w s
  | .pget => semPget n w s
  | .padd => semPadd n w s
  | .ptst => semPtst n w s
  | .ldw => semLdw n w x s
  | .ldh => semLdh n w x s
  | .ldb => semLdb n w x s
  | .stw => semStw n w s
  | .sth => semSth n w s
  | .stb => semStb n w s
  | .ldl => semLdl n w x s
  | .stl => semStl n w s
  | .b => semB n w s
  | .br => semBr n w s
  | .call => semCall n w s
  | .callr => semCallr n w s
  | .ret => semRet n s
  | .rete => semRete n s
  | .retf => semRetf n s
  | .djnz => semDjnz n w s
  | .post => semPost n w s
  | .evm => semEvm n w s
  | .wait => semWait n pc s
  | .kick => semKick n s
  | .tset => semTset n w s
  | .tstop => semTstop n w s
  | .tget => semTget n w s
  | .earm => semEarm n w x s
  | .edis => semEdis n w s
  | .eget => semEget n w x s
  | .brk => semBrk n s
  | .bcmd => semBcmd n w s
  | .badr => semBadr n w s
  | .bdo => semBdo n w x s
  | .bdi => semBdi n w x s
  | .bsts => semBsts n w x s
  | .bsel => semBsel n w s
  | .bsetf => semBsetf n w s
  | .bgetf => semBgetf n w x s
  | .bidle => semBidle n s

/-- The sequencer stops (R333): earlier stores are written, and an event it holds ends its service (R487). -/
def State.seqHalt4 (s : State) (n : Nat) : State :=
  let s1 := (s.drain n).dropService n
  s1.setSq n { s1.sq n with st := 4 }

/-- A machine fault with `cause` at address `pc` (R332, R333), or in the entry window of an exchange a rollback, or a stop
(R358). -/
def State.machineFault (s : State) (n cause pc : Nat) : State :=
  let q := s.sq n
  let early := match q.xch with | some x => x.rolled && decide (x.age < 100) | none => false
  let stops := q.inflt || early
  let s1 := s.setSq n { q with
    fltCause := cause, fltPc := pc, fltRet := (pc + 1) % 4096, fflags := q.flags, inflt := true, pc := pc, st := 1, issued := false }
  let s2 := (s1.seqEvent n 4 (cause + pc * 2 ^ 16 + b2n stops * 2 ^ 31)).addF (F.SEQ_COUNT_FAULTS n) 1
  let s3 := ((s2.set (F.SEQ_FAULT_VALID n) 1).set (F.SEQ_FAULT_PC n) pc).set (F.SEQ_FAULT_CAUSE n) cause
  if stops then (if early then (s3.seqHalt4 n).xchEnd n 0xA 4 else s3.seqHalt4 n)
  else match q.xch with
    | some x => if x.entry then (s3.drain n).rollback n else s3.setPc n (s.get (F.SEQ_VEC_FAULT_VEC n))
    | none => s3.setPc n (s.get (F.SEQ_VEC_FAULT_VEC n))

/-- The instruction word the next fetch finds. -/
def State.nextWord (s : State) (n : Nat) : Nat := (progWord (s.sq n).progs (s.sq n).pc).toNat

/-- Execute the instruction at PC, its operation being `o` (none: illegal). A HALT asked for while a primitive waited at issue takes effect at
the boundary after it (R335). -/
def State.seqRun (s : State) (n : Nat) (o : Option SOp) (x : SeqIn) : State :=
  let pc := (s.sq n).pc
  let w := s.nextWord n
  let done (t : State) : State := if (s.sq n).haltReq then t.haltSeq n else t
  if x.fetchEcc = 2 then (s.setSq n { s.sq n with bad := (s.sq n).bad ++ [pc] }).machineFault n 8 pc
  else
    let s0 := if x.fetchEcc = 1 then s.addF (F.SEQ_COUNT_ECC_CORR n) 1 else s
    match o with
    | none => s0.machineFault n 1 pc
    | some o =>
      match seqExec o n w pc x (s0.setSq n { s0.sq n with pc := (pc + 1) % 4096, noBreak := false, issued := false }) with
      | .ok s1 => done s1
      | .fault c => done (s0.machineFault n c pc)
      | .waits => s.setSq n { s.sq n with issued := true }

/-- Is a breakpoint here (R337)? -/
def State.breakHere (s : State) (n : Nat) : Bool :=
  let q := s.sq n
  q.st == 1 && !q.noBreak && !q.issued && !s.seqStop &&
    ((s.get (F.SEQ_DBG_CFG_BP0_EN n) == 1 && s.get (F.SEQ_BKPT_BP0 n) == q.pc)
      || (s.get (F.SEQ_DBG_CFG_BP1_EN n) == 1 && s.get (F.SEQ_BKPT_BP1 n) == q.pc))

/-- May sequencer `n` fetch at this boundary: it runs, and no halt, delivery or quiet point is due? -/
def State.fetchable (s : State) (n : Nat) : Bool :=
  let q := s.sq n
  decide (n < 8) && (q.st == 1 || q.st == 2) && !q.halted && !s.breakHere n && !s.deliveryDue n && !s.quietDue n

/-- One instruction of sequencer `n`, if that is what stands at PC. -/
def State.seqRow (s : State) (n : Nat) (o : SOp) (x : SeqIn) : State :=
  if s.fetchable n ∧ seqDecode (s.nextWord n) = some o then s.seqRun n (some o) x else s

/-- ILLEGAL_INSTRUCTION (R314). -/
def illegalInstruction (n : Nat) (x : SeqIn) (s : State) : State :=
  if s.fetchable n ∧ seqDecode (s.nextWord n) = none then s.seqRun n none x else s

/-! ### Delivery (R329), timers and detectors from outside, debug -/

/-- Begin the service of a delivery: EPC, EFLAGS, CLAIM, and the handler's address. -/
def State.deliverTo (s : State) (n claim edata vec : Nat) : State :=
  let q := s.sq n
  let epc := if q.st = 2 then (q.pc + 1) % 4096 else q.pc
  s.setSq n { q with epc, eflags := q.flags, insvc := true, claim, edata, pc := vec % 4096, st := 1 }

/-- Deliver a local candidate: its expiry or latch is cleared. -/
def State.deliverCand (s : State) (n : Nat) (c : Cand) : State :=
  let s1 := if c.kind = 1 then s.setEdge n c.idx { s.edge n c.idx with latched := false, carried := false }
    else s.setTimer n c.idx { s.timer n c.idx with pend := false, carried := false }
  s1.deliverTo n (0x3FF + c.prio * 2 ^ 16 + c.idx * 2 ^ 20 + c.kind * 2 ^ 24 + b2n c.carried * 2 ^ 28) 0 c.vec

/-- Make the delivery due at this boundary: the best candidate, a router event first among equals; a spurious claim is counted
and the best local candidate delivered instead. -/
def State.deliverBest (s : State) (n : Nat) : State :=
  let c := (s.sq n).bestCand
  let localD (s : State) : State := match c with | some c => s.deliverCand n c | none => s
  match s.seqOffer n with
  | none => localD s
  | some e =>
    if (match c with | some c => decide (s.get (F.EVR_CFG_PRIO e) < c.prio) | none => false) then localD s
    else
      let s0 := { s with router := { s.router with offer := s.router.offer.filter (fun p => p.1 != n + 1) } }
      match s0.evClaim e (n + 1) with
      | (true, s1) =>
        let v := s1.ev e
        s1.deliverTo n (e + v.lprio * 2 ^ 16) v.sdata (bits ((s1.program n).vecBase + 16 * e) 2 12)
      | (false, s1) => localD (s1.addF (F.SEQ_COUNT_SPURIOUS n) 1)

/-- EVENT_DELIVERY (R329). A breakpoint at the boundary halts first (R337). -/
def eventDelivery (n : Nat) (s : State) : State :=
  if n < 8 ∧ s.deliveryDue n ∧ s.breakHere n = false then s.deliverBest n else s

/-- BREAKPOINT_HALT (R337). -/
def breakpointHalt (n : Nat) (s : State) : State := if (s.sq n).halted = false ∧ s.breakHere n then s.haltSeq n else s

/-- TIMER_EXPIRY (R348): timer `t` reaches 0. A timer in microseconds does so when its count has run out; one in core cycles
when the bus clock says so. -/
def timerExpiry (n t : Nat) (s : State) : State :=
  let v := s.timer n t
  let frozen := (s.sq n).halted && s.get (F.SEQ_DBG_CFG_FREEZE_T n) == 1
  if v.running && !frozen && (!v.inUs || v.left == 0) then
    let again := bit v.cfg 17
    s.setTimer n t { v with running := again, left := if again then v.start else 0, pend := true, pcfg := v.cfg }
  else s

/-- EDGE_LATCH (R350): the source of detector `e` has held `level` for its filter time. The level of a condition source is the
state's own. With `RB_USE` = 0 the RB lines are ignored (R287). -/
def edgeLatch (n e : Nat) (level : Bool) (s : State) : State :=
  let v := s.edge n e
  if s.rbIgnored n (v.cfg % 32) then s else
  let lv := if v.cfg % 32 < 4 then level else s.srcLevel n (v.cfg % 32) 0
  let kind := bits v.cfg 5 2
  let fires := if kind = 3 then lv && !v.latched
    else lv != v.level && (kind == 2 || (kind == 0 && lv) || (kind == 1 && !lv))
  let v1 := { v with level := lv }
  s.setEdge n e (if v.armed && fires then (if v.latched then { v1 with overrun := true } else { v1 with latched := true }) else v1)

/-- One instruction, or the delivery due, of a halted sequencer (R335). A primitive that waits at issue goes on once the boundary has passed, and
the sequencer halts again after it. -/
def State.seqStep (s : State) (n : Nat) (x : SeqIn) : State :=
  let q := s.sq n
  let due := q.en && !q.insvc && !q.inflt
  match (if due then q.bestCand else none) with
  | some c => s.deliverCand n c
  | none =>
    let s1 := s.seqRun n (seqDecode (s.nextWord n)) x
    if (s1.sq n).issued then
      let s2 := s1.resumeSeq n
      s2.setSq n { s2.sq n with haltReq := true }
    else s1

/-- A write of SEQ_DBG_CTL of sequencer `n` (R335, R338). -/
def State.seqDbg (s : State) (n : Nat) (v : Word) (x : SeqIn) : State :=
  let q := s.sq n
  let act := bits v.toNat 0 2
  if bits v.toNat 24 8 ≠ 0xD6 ∨ act = 0 then s.fieldError
  else if act = 1 then (if (q.st = 1 ∨ q.st = 2) ∧ q.halted = false ∧ s.seqStop = false then
    (if q.issued then s.setSq n { q with haltReq := true } else s.haltSeq n) else s)
  else if act = 2 then s.resumeSeq n
  else if q.halted ∧ s.seqStop = false then s.seqStep n x
  else s

/-- Every halted sequencer resumes (R338). -/
def State.resumeSeqs (s : State) : State :=
  (List.range 8).foldl (fun (s : State) n =>
    let s1 := s.resumeSeq n
    if (s1.sq n).haltReq then s1.setSq n { s1.sq n with haltReq := false } else s1) s

/-- The register that SEQ_DBG_RSEL names (R336). -/
def State.dbgRead (s : State) (n r : Nat) : Nat :=
  let q := s.sq n
  if q.halted = false then 0
  else if r < 16 then (s.sv n r).toNat
  else if r < 20 then s.ptr n (r - 16)
  else if r = 20 then q.flags
  else if r = 21 then q.pc
  else 0

/-- A write of SEQ_DBG_RDATA: only while halted. -/
def State.dbgWrite (s : State) (n r : Nat) (v : Word) : State :=
  let q := s.sq n
  if q.halted = false then s.fieldError
  else if r < 16 then s.setV n r v
  else if r < 20 then s.setPtr n (r - 16) v.toNat
  else if r = 20 then s.setFl n v.toNat
  else if r = 21 then s.setPc n v.toNat
  else s.fieldError

end Sys2Proof.Machine
end

