-- ==== Sys2Proof/Machine/SeqRows.lean ====
section
/-!
DEFINITION. One definition for each sequencer instruction and for each write of a special register that has a row of its own
(ch. 14, 15): sequencer `n` executes it when it stands at PC and the sequencer may fetch; else nothing happens.
-/

namespace Sys2Proof.Machine

/-- SEQ_NOP (R315). -/
def seqNop (n : Nat) (x : SeqIn) (s : State) : State := s.seqRow n .nop x

/-- ADD (R317). -/
def seqAdd (n : Nat) (x : SeqIn) (s : State) : State := s.seqRow n .add x

/-- ADC (R317). -/
def seqAdc (n : Nat) (x : SeqIn) (s : State) : State := s.seqRow n .adc x

/-- SUB (R317). -/
def seqSub (n : Nat) (x : SeqIn) (s : State) : State := s.seqRow n .sub x

/-- SBC (R317). -/
def seqSbc (n : Nat) (x : SeqIn) (s : State) : State := s.seqRow n .sbc x

/-- AND (R315). -/
def seqAnd (n : Nat) (x : SeqIn) (s : State) : State := s.seqRow n .and x

/-- OR (R315). -/
def seqOr (n : Nat) (x : SeqIn) (s : State) : State := s.seqRow n .or x

/-- XOR (R315). -/
def seqXor (n : Nat) (x : SeqIn) (s : State) : State := s.seqRow n .xor x

/-- SHL (R318). -/
def seqShl (n : Nat) (x : SeqIn) (s : State) : State := s.seqRow n .shl x

/-- SHR (R318). -/
def seqShr (n : Nat) (x : SeqIn) (s : State) : State := s.seqRow n .shr x

/-- SAR (R318). -/
def seqSar (n : Nat) (x : SeqIn) (s : State) : State := s.seqRow n .sar x

/-- ROL (R318). -/
def seqRol (n : Nat) (x : SeqIn) (s : State) : State := s.seqRow n .rol x

/-- ROR (R318). -/
def seqRor (n : Nat) (x : SeqIn) (s : State) : State := s.seqRow n .ror x

/-- MUL (R319). -/
def seqMul (n : Nat) (x : SeqIn) (s : State) : State := s.seqRow n .mul x

/-- DIVS (R320). -/
def seqDivs (n : Nat) (x : SeqIn) (s : State) : State := s.seqRow n .divs x

/-- DIVU (R320). -/
def seqDivu (n : Nat) (x : SeqIn) (s : State) : State := s.seqRow n .divu x

/-- CMP (R317). -/
def seqCmp (n : Nat) (x : SeqIn) (s : State) : State := s.seqRow n .cmp x

/-- TST (R316). -/
def seqTst (n : Nat) (x : SeqIn) (s : State) : State := s.seqRow n .tst x

/-- NEG (R317). -/
def seqNeg (n : Nat) (x : SeqIn) (s : State) : State := s.seqRow n .neg x

/-- NOT (R315). -/
def seqNot (n : Nat) (x : SeqIn) (s : State) : State := s.seqRow n .not x

/-- MOV (R315). -/
def seqMov (n : Nat) (x : SeqIn) (s : State) : State := s.seqRow n .mov x

/-- ADDI (R317). -/
def seqAddi (n : Nat) (x : SeqIn) (s : State) : State := s.seqRow n .addi x

/-- ANDI (R315). -/
def seqAndi (n : Nat) (x : SeqIn) (s : State) : State := s.seqRow n .andi x

/-- ORI (R315). -/
def seqOri (n : Nat) (x : SeqIn) (s : State) : State := s.seqRow n .ori x

/-- XORI (R315). -/
def seqXori (n : Nat) (x : SeqIn) (s : State) : State := s.seqRow n .xori x

/-- SHI (R318). -/
def seqShi (n : Nat) (x : SeqIn) (s : State) : State := s.seqRow n .shi x

/-- CMPI (R317). -/
def seqCmpi (n : Nat) (x : SeqIn) (s : State) : State := s.seqRow n .cmpi x

/-- MOVI (R315). -/
def seqMovi (n : Nat) (x : SeqIn) (s : State) : State := s.seqRow n .movi x

/-- MOVHI (R315). -/
def seqMovhi (n : Nat) (x : SeqIn) (s : State) : State := s.seqRow n .movhi x

/-- MOVS (R315). -/
def seqMovs (n : Nat) (x : SeqIn) (s : State) : State := s.seqRow n .movs x

/-- MFS (R327). -/
def seqMfs (n : Nat) (x : SeqIn) (s : State) : State := s.seqRow n .mfs x

/-- MTS (R327). -/
def seqMts (n : Nat) (x : SeqIn) (s : State) : State := s.seqRow n .mts x

/-- PSET (R322). -/
def seqPset (n : Nat) (x : SeqIn) (s : State) : State := s.seqRow n .pset x

/-- PGET (R322). -/
def seqPget (n : Nat) (x : SeqIn) (s : State) : State := s.seqRow n .pget x

/-- PADD (R323). -/
def seqPadd (n : Nat) (x : SeqIn) (s : State) : State := s.seqRow n .padd x

/-- PTST (R324). -/
def seqPtst (n : Nat) (x : SeqIn) (s : State) : State := s.seqRow n .ptst x

/-- LDW (R322). -/
def seqLdw (n : Nat) (x : SeqIn) (s : State) : State := s.seqRow n .ldw x

/-- LDH (R322). -/
def seqLdh (n : Nat) (x : SeqIn) (s : State) : State := s.seqRow n .ldh x

/-- LDB (R322). -/
def seqLdb (n : Nat) (x : SeqIn) (s : State) : State := s.seqRow n .ldb x

/-- STW (R325). -/
def seqStw (n : Nat) (x : SeqIn) (s : State) : State := s.seqRow n .stw x

/-- STH (R325). -/
def seqSth (n : Nat) (x : SeqIn) (s : State) : State := s.seqRow n .sth x

/-- STB (R325). -/
def seqStb (n : Nat) (x : SeqIn) (s : State) : State := s.seqRow n .stb x

/-- LDL (R326). -/
def seqLdl (n : Nat) (x : SeqIn) (s : State) : State := s.seqRow n .ldl x

/-- STL (R326). -/
def seqStl (n : Nat) (x : SeqIn) (s : State) : State := s.seqRow n .stl x

/-- B (R321). -/
def seqB (n : Nat) (x : SeqIn) (s : State) : State := s.seqRow n .b x

/-- BR (R321). -/
def seqBr (n : Nat) (x : SeqIn) (s : State) : State := s.seqRow n .br x

/-- CALL (R321). -/
def seqCall (n : Nat) (x : SeqIn) (s : State) : State := s.seqRow n .call x

/-- CALLR (R321). -/
def seqCallr (n : Nat) (x : SeqIn) (s : State) : State := s.seqRow n .callr x

/-- RET (R321). -/
def seqRet (n : Nat) (x : SeqIn) (s : State) : State := s.seqRow n .ret x

/-- RETE (R330). -/
def seqRete (n : Nat) (x : SeqIn) (s : State) : State := s.seqRow n .rete x

/-- RETF (R332). -/
def seqRetf (n : Nat) (x : SeqIn) (s : State) : State := s.seqRow n .retf x

/-- DJNZ (R321). -/
def seqDjnz (n : Nat) (x : SeqIn) (s : State) : State := s.seqRow n .djnz x

/-- POST (R328). -/
def seqPost (n : Nat) (x : SeqIn) (s : State) : State := s.seqRow n .post x

/-- EVM (R330). -/
def seqEvm (n : Nat) (x : SeqIn) (s : State) : State := s.seqRow n .evm x

/-- WAIT (R331). -/
def seqWait (n : Nat) (x : SeqIn) (s : State) : State := s.seqRow n .wait x

/-- KICK (R334). -/
def seqKick (n : Nat) (x : SeqIn) (s : State) : State := s.seqRow n .kick x

/-- TSET (R348). -/
def seqTset (n : Nat) (x : SeqIn) (s : State) : State := s.seqRow n .tset x

/-- TSTOP (R348). -/
def seqTstop (n : Nat) (x : SeqIn) (s : State) : State := s.seqRow n .tstop x

/-- TGET (R349). -/
def seqTget (n : Nat) (x : SeqIn) (s : State) : State := s.seqRow n .tget x

/-- EARM (R350). -/
def seqEarm (n : Nat) (x : SeqIn) (s : State) : State := s.seqRow n .earm x

/-- EDIS (R350). -/
def seqEdis (n : Nat) (x : SeqIn) (s : State) : State := s.seqRow n .edis x

/-- EGET (R350). -/
def seqEget (n : Nat) (x : SeqIn) (s : State) : State := s.seqRow n .eget x

/-- BRK (R337). -/
def seqBrk (n : Nat) (x : SeqIn) (s : State) : State := s.seqRow n .brk x

/-- BCMD (R343). -/
def seqBcmd (n : Nat) (x : SeqIn) (s : State) : State := s.seqRow n .bcmd x

/-- BADR (R343). -/
def seqBadr (n : Nat) (x : SeqIn) (s : State) : State := s.seqRow n .badr x

/-- BDO (R346). -/
def seqBdo (n : Nat) (x : SeqIn) (s : State) : State := s.seqRow n .bdo x

/-- BDI (R346). -/
def seqBdi (n : Nat) (x : SeqIn) (s : State) : State := s.seqRow n .bdi x

/-- BSTS (R343). -/
def seqBsts (n : Nat) (x : SeqIn) (s : State) : State := s.seqRow n .bsts x

/-- BSEL (R343). -/
def seqBsel (n : Nat) (x : SeqIn) (s : State) : State := s.seqRow n .bsel x

/-- BSETF (R343). -/
def seqBsetf (n : Nat) (x : SeqIn) (s : State) : State := s.seqRow n .bsetf x

/-- BGETF (R343). -/
def seqBgetf (n : Nat) (x : SeqIn) (s : State) : State := s.seqRow n .bgetf x

/-- BIDLE (R343). -/
def seqBidle (n : Nat) (x : SeqIn) (s : State) : State := s.seqRow n .bidle x

/-! ### Writes of the special registers that act (R351, R352, R358)

The row is the write itself, by whatever instruction of the program makes it; `seqMts` is that instruction whole. -/

/-- Does sequencer `n` execute instructions? -/
def State.executes (s : State) (n : Nat) : Bool :=
  decide (n < 8) && ((s.sq n).st == 1 || (s.sq n).st == 2) && !(s.sq n).halted

/-- A write that acts on a slot: one the slot does not fit is a machine fault with cause BUS (R351). -/
def State.slotWrite (s : State) (n : Nat) (r : Option State) : State :=
  if s.executes n then
    match r with
    | some s1 => s1
    | none => s.machineFault n 7 (s.sq n).pc
  else s

/-- A write of TAKE: the handed operation moves into slot `x`; `o` is how a PS write it needs ends (R306, R307, R351). -/
def srTake (n x : Nat) (o : List PsOutcome) (s : State) : State := s.slotWrite n (((s.withPs o).slotTake n (x % 8)).map State.endPs)

/-- A write of CONFIRM: slot `x` is started (R351). -/
def srConfirm (n x : Nat) (s : State) : State := s.slotWrite n (s.slotConfirm n (x % 8))

/-- A write of OPEND: slot `x` is closed with outcome `oc`, 0 passed, 1 failed, 2 abandoned; 3 has no meaning (R351). -/
def srOpend (n x oc : Nat) (s : State) : State :=
  s.slotWrite n (if oc < 3 then s.slotEnd n (x % 8) oc else (s.slot? n (x % 8)).map (fun _ => s))

/-- A write of ACK: `POLL` of slot `x` is cleared (R358). -/
def srAck (n x : Nat) (s : State) : State := s.slotWrite n (s.slotAck n (x % 8))

/-- A write of SUSPACK: slot `x` is reported suspended or resumed (R352). -/
def srSuspack (n x : Nat) (susp : Bool) (s : State) : State := s.slotWrite n (s.slotSuspack n (x % 8) susp)

/-- A write of ENTRY_OK: the entry check is passed (R358). -/
def srEntryOk (n : Nat) (s : State) : State := if s.executes n then s.entryOk n else s

end Sys2Proof.Machine
end

