-- ==== Sys2Proof/Machine/Patterns.lean ====
section
/-!
DEFINITION. Pattern runs and their checkers (R522 to R528), interruption (R530), and memory self-test (R529).
-/

namespace Sys2Proof.Machine

/-! ### Sequences and the checker (Table 23-1, R526) -/

/-- Degree and second tap of a PRBS. -/
def prbsTaps (q : Nat) : Nat × Nat := if q = 0 then (7, 6) else if q = 1 then (9, 5) else if q = 2 then (15, 14) else if q = 3 then (23, 18) else (31, 28)

/-- The bits a checker loads as its state: the degree, one bit for the clock pattern. -/
def seqDegree (q : Nat) : Nat := if q = 5 then 1 else (prbsTaps q).1

/-- The bit that follows a state, latest bit first. -/
def seqNext (q : Nat) (reg : List Bool) : Bool :=
  if q = 5 then !(reg.headD true) else listGet false reg ((prbsTaps q).1 - 1) != listGet false reg ((prbsTaps q).2 - 1)

/-- The first `n` bits of a sequence from the all-ones state (R523). -/
def seqBitsFrom (q : Nat) : Nat → List Bool → List Bool
  | 0, _ => []
  | n + 1, reg => let b := seqNext q reg; b :: seqBitsFrom q n ((b :: reg).take (seqDegree q))

/-- The state of a generator that has been advanced by `n` bits from its start: all ones; for the clock pattern, the one from which it sends
a 1 first (R523). -/
def genState (q : Nat) : Nat → List Bool
  | 0 => List.replicate (seqDegree q) (q != 5)
  | n + 1 => let reg := genState q n; (seqNext q reg :: reg).take (seqDegree q)

/-- The states in which the generators of a run start: one, or those of DQ_0 to DQ_7, DQ_*j* advanced by 64 × *j* bits (R523). -/
def genStates (q lines : Nat) : List (List Bool) := (List.range lines).map (fun j => genState q (64 * j))

/-- The `n` bits a generator sends, advanced by `skip` bits before the run: 64 × *j* on DQ_*j* (R523); the clock pattern starts
with 1. -/
def genBits (q skip n : Nat) : List Bool :=
  (seqBitsFrom q (skip + n) (List.replicate (seqDegree q) (q != 5))).drop skip

/-- What one received bit does: the checker, and what it adds to the bits compared, the errors and the losses of sync. -/
def Checker.step (q : Nat) (c : Checker) (b : Bool) : Checker × (Nat × (Nat × Nat)) :=
  if c.reg.length < seqDegree q then ({ c with reg := b :: c.reg }, (0, 0, 0))
  else
    let p := seqNext q c.reg
    if c.sync then
      let errs := if b = p then c.errs else (c.pos :: c.errs).take 32
      let recent := errs.filter (fun e => decide (c.pos < e + 256))
      let lost := decide (32 ≤ recent.length)
      (if lost then {} else { c with reg := (p :: c.reg).take (seqDegree q), pos := c.pos + 1, errs := recent },
        (1, b2n (b != p), b2n lost))
    else if b = p then
      ({ c with reg := (b :: c.reg).take (seqDegree q), good := c.good + 1, sync := decide (64 ≤ c.good + 1) }, (0, 0, 0))
    else ({}, (0, 0, 0))

/-- A checker over received bits, with the sums and whether it was ever in sync. -/
def Checker.feed (q : Nat) (c : Checker) (l : List Bool) : (Checker × Bool) × (Nat × (Nat × Nat)) :=
  l.foldl (fun (a : (Checker × Bool) × (Nat × (Nat × Nat))) b =>
    let (c', (x, y, z)) := a.1.1.step q b
    ((c', a.1.2 || c'.sync), (a.2.1 + x, (a.2.2.1 + y, a.2.2.2 + z)))) ((c, c.sync), (0, 0, 0))

/-! ### Runs -/

/-- The run on a target. -/
def State.tpRun? (s : State) (t : Nat) : Option TpRun := (s.test.runs.find? (fun p => p.1 == t)).map (·.2)

/-- Set a run. -/
def State.setTpRun (s : State) (t : Nat) (v : TpRun) : State := { s with test := { s.test with runs := tput s.test.runs t v } }

/-- The sampled TMODE level (R51). -/
def State.tmode (s : State) : Bool := bit s.aon.straps 7

/-- Is the link on a cascade lane up? In pair topology one link takes both lanes. -/
def State.clUp (s : State) (k : Nat) : Bool :=
  if s.get F.CASC_CFG_TOPO = 1 ∨ k = 0 then s.casc.cl0.state == 6 else s.casc.cl1.state == 6

/-- The dies of channel `n` that are in use, by index. -/
def State.inUse (s : State) (n : Nat) : List Nat := ((s.chan n).dies.filter (fun p => p.2.state == 1)).map (·.1)

/-- Is the target available (R524, R537)? `tap` says that the run comes through TP_ACCESS; with TMODE = 1 only such a run may use a lane
(R51). -/
def State.tpAvailable (s : State) (t mode : Nat) (tap : Bool) : Bool :=
  if t < 4 then if s.tmode then tap else !bit s.agl.active t && !s.pcieMode
  else if t < 0x20 then !s.clUp (t - 0x10) && (tap || !s.tmode)
  else (s.chan (t - 0x20)).vclass != 0 && (mode != 1 || s.inUse (t - 0x20) != [])

/-- Generation of a lane run and its preset (R523): AGL1 uses the fixed de-emphasis, reported as preset 0. -/
def State.tpLane (s : State) (t : Nat) : Nat × Nat :=
  let g := if t < 4 then s.get F.AGL_CFG_GEN_MAX else s.get F.CASC_CFG_GEN_MAX
  (g, if g = 2 then s.get F.AGL_EQ_START2 else if g = 3 then s.get F.AGL_EQ_START3 else 0)

/-- A channel run may start once no started operation is left on the channel (R525). -/
def State.tpQuiet (s : State) (t : Nat) : Bool := decide (t < 0x20) || (s.startedOps.filter (fun p => p.2.ch == t - 0x20)).isEmpty

/-- Begin a run on an available, idle target: its counters start again. -/
def State.tpBegin (s : State) (t pattern dur : Nat) (flight : Option Nat) : State :=
  let lines := if t < 0x20 ∨ pattern / 16 = 1 then 1 else 8
  let s1 := s.setTpRun t { pattern, start := s.clock, dur, flight, waits := !s.tpQuiet t, chk := List.replicate lines {} }
  let s2 := (((((((s1.set F.TP_STAT_CODE 1 t).set F.TP_STAT_NOSYNC 0 t).set F.TP_STAT_SYNC 0 t).set F.TP_ERRS_ERRS 0 t).set
    F.TP_BITS_LO_BITS 0 t).set F.TP_BITS_HI_BITS 0 t).set F.TP_SYNC_LOSSES 0 t)
  let (g, p) := if t < 0x20 then s.tpLane t else (s.get (F.CH_IF_RATE (t - 0x20)), s.get (F.CH_IF_PROTO (t - 0x20)))
  s2.send (.pattern t pattern g p (genStates (pattern % 16) lines))

/-- Add to the 48-bit count of compared bits, the errors and the losses, all saturating. -/
def State.tpAdd (s : State) (t bits errs losses : Nat) : State :=
  let b := min (2 ^ 48 - 1) (s.get F.TP_BITS_LO_BITS t + s.get F.TP_BITS_HI_BITS t * 2 ^ 32 + bits)
  (((s.set F.TP_BITS_LO_BITS (b % 2 ^ 32) t).set F.TP_BITS_HI_BITS (b / 2 ^ 32) t).addF F.TP_ERRS_ERRS errs t).addF
    F.TP_SYNC_LOSSES losses t

/-- The bits of a sequence as the bytes a data burst carries, least significant bit first. -/
def bitsToBytes : Nat → List Bool → List Byte
  | 0, _ => []
  | n + 1, l => BitVec.ofNat 8 (maskOf ((withIdx (l.take 8)).filterMap (fun p => if p.2 then some p.1 else none))) :: bitsToBytes n (l.drop 8)

/-- Is it a run over the cache registers of dies (R528)? -/
def TpRun.overDies (r : TpRun) (t : Nat) : Bool := decide (0x20 ≤ t) && r.pattern / 16 == 1

/-- The die of the next pass, and its bytes: the dies in use in turn. -/
def State.tpDie (s : State) (n : Nat) (r : TpRun) : Option (Nat × Nat) :=
  match s.inUse n with
  | [] => none
  | l => let d := listGet 0 l (r.passes % l.length); some (d, min 16384 (s.die n d).pageBytes)

/-- The run has its Hamper buffers: they are asked for under owner TEST, and waited for (R248, R256; their number is log entry 139). -/
def State.tpBufs (s : State) (t : Nat) (r : TpRun) : TpRun × State :=
  if r.bufs ≠ [] then (r, s)
  else match r.bufWait with
    | some w =>
      (match s.hmp.granted.find? (fun g => g.1 == w) with
      | some (_, l) => ({ r with bufs := l, bufWait := none }, { s with hmp := { s.hmp with granted := tdel s.hmp.granted w } })
      | none => (r, s))
    | none =>
      match s.hmpRequest 0x0D (moves (((s.tpDie (t - 0x20) r).map (·.2)).getD 1)) false true with
      | (.granted l, s1) => ({ r with bufs := l }, s1)
      | (.waits w, s1) => ({ r with bufWait := some w }, s1)
      | (.none, s1) => (r, s1)

/-- The next pass of a run over dies is presented to the ledger, as an operation of priority 7 (R278, R528). -/
def State.tpAsk (s : State) (t : Nat) : State :=
  match s.tpRun? t with
  | none => s
  | some r =>
    if r.overDies t = false ∨ r.waits ∨ (r.op.bind s.dop?).isSome then s
    else
      let (r1, s1) := s.tpBufs t r
      match s1.tpDie (t - 0x20) r1 with
      | none => s1.setTpRun t r1
      | some (d, b) =>
        if r1.bufs = [] then s1.setTpRun t r1
        else
          let o : DieOp := { ch := t - 0x20, kind := 5, die := d, parts := [⟨0, .cal 0, none, none⟩], prioFix := 7, arr := s1.clock, len := b, st := .granted }
          { (s1.setDop s1.nextOp o).setTpRun t { r1 with op := some s1.nextOp } with nextOp := s1.nextOp + 1 }

/-- One die pass of the cache-register test (R528) on die `d`, which takes the next `b` bytes of the sequence. -/
def State.tpPass (s : State) (n d b : Nat) (r : TpRun) : State :=
  let act (s : State) (a : Nat) (x : List Byte) : State := s.send (.bus n a x)
  let s1 := act (act (act s 0 [BitVec.ofNat 8 (d / 4)]) 1 [0x80]) 2 [0, 0, 0, 0, 0]
  let s2 := act s1 3 (bitsToBytes b (genBits (r.pattern % 16) r.bits (8 * b)))
  act (act (act (act s2 1 [0x05]) 2 [0, 0]) 1 [0xE0]) 1 [0xFF]

/-- The bits `l` read back in a die pass. It is made once the ledger has admitted it; one that does not reach sync counts all its bits as
errors (R528). -/
def State.tpDieIn (s0 : State) (t : Nat) (l : List Bool) : State :=
  let s := s0.tpAsk t
  match s.tpRun? t with
  | none => s
  | some r =>
    match r.op, r.op.bind s.dop? with
    | some i, some o =>
      if o.st ≠ .admitted then s
      else
        let ((_, ever), (b, (e, z))) := Checker.feed (r.pattern % 16) {} l
        let s1 := (s.tpPass (t - 0x20) o.die o.len r).opErase i
        let s2 := if ever then s1.tpAdd t b e z else s1.tpAdd t (8 * o.len) (8 * o.len) z
        let s3 := s2.setTpRun t { r with passes := r.passes + 1, bits := r.bits + 8 * o.len, op := none, synced := r.synced || ever }
        (s3.set F.TP_STAT_SYNC (b2n ever) t).tpAsk t
    | _, _ => s

/-- A channel run that waited begins once the started operations have ended (R525). -/
def State.tpGo (s : State) (t : Nat) : State :=
  match s.tpRun? t with
  | some r => if r.waits ∧ s.tpQuiet t then s.setTpRun t { r with waits := false, start := s.clock } else s
  | none => s

/-- CHECKER_SYNC (R526): received bits reach the checkers of a target, one list per lane, DQ line or, in the die cache-register
test, die pass. -/
def State.tpFeed (s : State) (t : Nat) (rx : List (List Bool)) : State :=
  let s := s.tpGo t
  match (s.tpRun? t).filter (fun r => !r.waits) with
  | none => s
  | some r =>
    let q := r.pattern % 16
    if r.overDies t then rx.foldl (fun (s : State) l => s.tpDieIn t l) (s.tpAsk t)
    else
      let l := (r.chk.zip (rx ++ List.replicate r.chk.length [])).map (fun p => p.1.feed q p.2)
      let sum (f : Nat × (Nat × Nat) → Nat) : Nat := l.foldl (fun n x => n + f x.2) 0
      let s1 := s.tpAdd t (sum (·.1)) (sum (·.2.1)) (sum (·.2.2))
      let chk := l.map (fun x => x.1.1)
      (s1.setTpRun t { r with chk, synced := r.synced || l.any (fun x => x.1.2) }).set F.TP_STAT_SYNC (b2n (chk.any (·.sync))) t

/-- A run ends (R527, R530): its code, and the status of its TEST_PATTERN. A lane then re-enters DETECT.QUIET, which is where a lane
out of the link already is; a channel schedules again. -/
def State.tpEnd (s : State) (t code status : Nat) : State :=
  match s.tpRun? t with
  | none => s
  | some r =>
    let sa := match r.op with | some i => s.opErase i | none => s
    let sb := r.bufs.foldl (fun (s : State) b => s.hmpRelease b 0x0D) (match r.bufWait with | some w => waitWithdraw w sa | none => sa)
    let s1 := { sb with test := { sb.test with runs := tdel sb.test.runs t } }
    let s2 := s1.set F.TP_STAT_CODE code t
    let s3 := if r.synced then s2 else (s2.set F.TP_ERRS_ERRS 0xFFFFFFFF t).set F.TP_STAT_NOSYNC 1 t
    let errs := s3.get F.TP_ERRS_ERRS t
    let s4 := s3.postBit F.TP_EVT_SRC 360 0 (t + 256 * b2n (!r.synced) + errs * 2 ^ 32)
    match r.flight with
    | some k => s4.complete k status 0 (if status = 0 then errs else 0)
    | none => s4

/-- Is the run's duration over, and has each die been taken at least once (R528)? -/
def State.tpOver (s : State) (t : Nat) (r : TpRun) : Bool :=
  r.dur != 0 && !r.waits && decide (r.start + r.dur ≤ s.clock) && (!r.overDies t || decide ((s.inUse (t - 0x20)).length ≤ r.passes))

/-- TP_RUN_END (R527): the duration of the run on target `t` has elapsed; `rx` are bits received before. -/
def tpRunEnd (t : Nat) (rx : List (List Bool)) (s : State) : State :=
  let s1 := s.tpFeed t rx
  match s1.tpRun? t with
  | some r => if s1.tpOver t r then s1.tpEnd t 2 0 else s1
  | none => s1

/-- TEST_PATTERN (R524): the supervisor holds it while its target runs. `rx` are the bits received as the run goes on. -/
def testPattern (k : Nat) (rx : List (List Bool)) (s : State) : State :=
  match s.canStart k 0x50 with
  | none => s
  | some f =>
    let t := leAt f.bytes 16 1
    let p := leAt f.bytes 17 1
    if (s.tpRun? t).isSome then s
    else
      let s1 := s.startRun k f
      if 0x20 ≤ t ∧ s.st = stLimited ∧ 2 < s.get (F.CH_IF_RATE (t - 0x20)) then s1.complete k 0x41
      else if s.tpAvailable t (p / 16) false = false then s1.complete k 0x12
      else (s1.tpBegin t p (leAt f.bytes 20 4) (some k)).tpFeed t rx

/-- START of TP_CTL by path `p` on target `t` (R524). -/
def State.tpStart (s : State) (p : Path) (t : Nat) (rx : List (List Bool)) : State :=
  let pat := s.get F.TP_CFG_PATTERN t
  if (s.tpRun? t).isSome ∨ s.tpAvailable t (pat / 16) (p == .tap) = false then s.set F.TP_STAT_CODE 4 t
  else if 0x20 ≤ t ∧ s.st = stLimited ∧ 2 < s.get (F.CH_IF_RATE (t - 0x20)) then s.set F.TP_STAT_CODE 5 t
  else (s.tpBegin t pat (s.get F.TP_CFG_DUR_MS t * 1000) none).tpFeed t rx

/-- A write of TP_CTL. -/
def State.tpCtl (s : State) (p : Path) (v : Word) (rx : List (List Bool)) : State :=
  let t := bits v.toNat 16 8
  let a := bits v.toNat 0 2
  if bits v.toNat 24 8 ≠ 0x7C ∨ patternTarget t = false ∨ a = 0 ∨ a = 3 then s.fieldError
  else if a = 1 then s.tpStart p t rx
  else (s.tpFeed t rx).tpEnd t 3 0

/-! ### Self-test (R529) -/

/-- A self-test is asked for by a path, or by JTAG BIST_RUN. -/
def State.bistStart (s : State) (mask : Nat) (allowed : Bool) : State :=
  if s.test.bist.isSome then s
  else if !allowed then s.set F.BIST_STAT_CODE 2
  else
    let s1 := ((s.set F.BIST_STAT_CODE 0).set F.BIST_STAT_FAILED 0).set F.BIST_STAT_DONE 0
    { s1 with test := { s1.test with bist := some { mask, start := s.clock } } }

/-- A write of BIST_CTL: only in SERVICE_ONLY and from the service port. -/
def State.bistCtl (s : State) (p : Path) (v : Word) : State :=
  if bits v.toNat 24 8 ≠ 0xB1 then s.fieldError
  else if bit v.toNat 8 then s.bistStart (bits v.toNat 0 8) (s.st == stServiceOnly && p == .sp)
  else s

/-- A channel issues ONFI RESET to the die it was testing (R530). -/
def State.tpDieReset (s : State) (t : Nat) : State :=
  match (s.tpRun? t).bind (fun r => r.op.bind s.dop?) with
  | some o => if o.st = .admitted then s.onfiReset o.ch (o.die / 4) else s
  | none => s

/-- R530: every run and every self-test stops; TEST_PATTERN completes with `status`. -/
def State.testsStop (s : State) (status : Nat) : State :=
  ((s.test.runs.map (·.1)).foldl (fun (s : State) t => (s.tpDieReset t).tpEnd t 6 status) s).bistCut

end Sys2Proof.Machine
end

