-- ==== Sys2Proof/Machine/Settle.lean ====
section
/-!
DEFINITION. What removal, a thermal trip and an orderly reset share: settling work in hand (Table 3-3, R449, R500), the ONFI RESET of
operations that have not ended (R66, R501), entry to REMOVING (R55 to R57), and the start and end of an orderly reset (R66).
-/

namespace Sys2Proof.Machine

/-! ### Settling work in hand -/

/-- Programs and erases that have started and not ended. -/
def State.mediaStarted (s : State) : List (Nat × DieOp) := s.startedOps.filter (fun p => p.2.writes)

/-- How many programs and erases of flight `k` are started. -/
def State.startedParts (s : State) (k : Nat) : Nat :=
  s.mediaStarted.foldl (fun n p => n + (p.2.parts.filter (fun x => s.useFlight x.use == some k)).length) 0

/-- Settle the command in flight `k`, whose unstarted work is not done (Table 3-3): `st` is the status of the closure. A command whose
exchange is past its quiet point goes on (R362), and so does one all of whose operations have started. -/
def State.settleFlight (st : Nat) (s : State) (k : Nat) : State :=
  match s.flight? k with
  | none => s
  | some f =>
    let idle := match f.phase with | .ready => true | .parked _ => true | _ => false
    if idle || s.xchBusy k then s
    else
      let n := s.startedParts k
      if f.mutates = false ∨ n = 0 then s.complete k st
      else if f.opsDone + n < f.opsTotal ∨ leAt f.bytes 0 1 = 0x23 then s.failFlight k st 0
      else s

/-- No new work, and settlement of what is in hand, closing with `st`: 0x31 ABORTED_REMOVAL, 0x32 ABORTED_THERMAL, 0x33
ABORTED_RESET. -/
def State.stopWork (s : State) (st : Nat) : State :=
  let s1 := (((s.xchAbandon st).norInterrupt st).testsStop st).calAbort
  let s2 := (s1.host.flights.map (·.1)).foldl (State.settleFlight st) s1
  let s3 := (s2.cws.map (·.1)).foldl State.cwAbandon s2
  ((s3.dropOps (fun _ => true)).resumeAll).resumeSeqs

/-! ### ONFI RESET of operations that have not ended (R66, R501, R502) -/

/-- Flight `k` has an operation that is reset: its unfinished operations are in doubt with this cause (R218). -/
def State.inDoubtFlight (cause : Nat) (s : State) (k : Nat) : State :=
  match s.flight? k with
  | some f => (s.idlAdd (f.inDoubt cause)).setFlight k { f with fails := 1, status := 0x23, qual := 0 }
  | none => s

/-- Reset every target that holds a started program or erase: the commands become IN_DOUBT, the operations end. -/
def State.resetMedia (s : State) (cause : Nat) : State :=
  let l := s.mediaStarted
  let ks := (l.flatMap (fun p => p.2.parts.filterMap (fun x => s.useFlight x.use))).dedup
  let s1 := ks.foldl (State.inDoubtFlight cause) (s.addF F.RMV_STAT_RESET_OPS l.length)
  let s2 := ((l.map (fun p => (p.2.ch, p.2.die / 4))).dedup).foldl (fun (s : State) t => s.onfiReset t.1 t.2) s1
  l.foldl (fun (s : State) p => match s.dop? p.1 with
    | some o => (s.slotDrop p.1 o).opEnd p.1 1
    | none => s) s2

/-! ### Ends of commits (R123 to R128) -/

/-- Report an ending or a request of a commit of group `g`: 1 APPLIED, 2 PAIR_MISMATCH, 3 DISCARDED, 4 CANCELLED, 5 PENDING. -/
def State.commitReport (s : State) (g result row : Nat) : State :=
  let s1 := (((s.set F.CMT_STAT_GROUP g).set F.CMT_STAT_RESULT result).set F.CMT_STAT_FIRST_PAIR row)
  let s2 := if result = 1 then s1.set F.CMT_STAT_SEQ (s1.get F.CMT_STAT_SEQ + 1) else s1
  let r := s2.reg (0x85 + g / 8)
  s2.setReg (0x85 + g / 8) (BitVec.ofNat 32 (putBits r.toNat (4 * (g % 8)) 4 result))

/-- A commit of group `g` ends: nothing is pending or in hold, and COMMIT_DONE is posted. -/
def State.commitEnd (s : State) (g result : Nat) : State :=
  let s1 := { s with port := { s.port with pend := tdel s.port.pend g, hold := s.port.hold.filter (· != g) } }
  let s2 := s1.commitReport g result 0
  s2.post 7 (g + result * 256 + s2.get F.CMT_STAT_SEQ * 65536)

/-- Removal and orderly resets stop training and tracking, and nothing lands (Table 20-4). -/
def State.calStop (s : State) : State :=
  { s with
    cal := { s.cal with jobs := [], tracks := [], acts := [], autoFrom := none }
    chans := s.chans.map (fun (p : Nat × Chan) => (p.1, { p.2 with training := false, tries := [] })) }

/-! ### Removal (R55 to R57) -/

/-- Is the logic die out of reset: has its Trailhead begun? -/
def State.live (s : State) : Bool := s.trail.step != 0

/-- The master's C_CTL frame of an action to member `m` (Table 22-2). -/
def State.cascCtl (s : State) (action m : Nat) (h payload : List Byte) : State :=
  s.cascSend 0x35 m (natLE 1 action ++ [0] ++ sliceB h 0 8) payload

/-- The master tells its joined members of its removal; to those whose link is not in L0 it owes REMOVE (R519, Table 22-5). -/
def State.cascRemoveAll (s : State) : State :=
  if s.cascRole ≠ 1 then s
  else
    let up := (s.lnk (s.cascLane 1)).state == 6
    if up then ((s.casc.members.filter (fun p => p.2.joined)).map (·.1)).foldl (fun (s : State) m => s.cascCtl 4 m [] []) s
    else { s with casc := { s.casc with removeOwed := [1, 2, 3] } }

/-- Enter REMOVING (R55): `src` is the code of `RMV_STAT.SRC`, `reason` that of `GLB_QUAL.REASON`. The marker is written first
(R56). Leaving TRAILHEAD creates queue pair 0, whichever state follows (R88, R180). -/
def State.removalStart (s : State) (src reason : Nat) : State :=
  let trail := s.st == stTrailhead
  let s1 := s.writeHeader (s.headerBits ||| 1)
  let s1 := s1.setState stRemoving reason
  let s1 := if trail then s1.createPair0 else s1
  let s2 := (((s1.set F.RMV_STAT_SRC src).set F.RMV_STAT_PHASE 1).set F.RMV_STAT_ARMED 0).post 6 0
  let s3 := { s2 with
    agl := { s2.agl with tx := s2.agl.tx.filter TxItem.afterRemoval }
    rmv := { s2.rmv with orderly := none }, therm := { s2.therm with grace := false }
    trail := { s2.trail with abandoned := s2.trail.abandoned || trail }
    router := { s2.router with hfq := [], offer := [] }
    port := { s2.port with
      lockSp := { s2.port.lockSp with openGroups := 0 }, lockHost := { s2.port.lockHost with openGroups := 0 } }
    host := { s2.host with flights := s2.host.flights.map (fun (p : Nat × Flight) =>
      (p.1, if p.2.fails ≠ 0 ∧ p.2.status = 0x33 ∧ p.2.phase ≠ FPhase.ready then { p.2 with status := 0x31 } else p.2)) } }
  let s4 := (((s3.post 5 src).stopWork 0x31).calStop).closeStreams (fun _ => true)
  let s5 := ((s4.port.pend.map (·.1)).foldl (fun (s : State) g => s.commitEnd g 4) s4).sessionsClose.keyClear
  let s6 := (s5.hmp.waits.filter (fun w => w.owner == 6 || w.owner == 8 || w.owner == 9)).foldl (fun (s : State) w => waitWithdraw w.id s) s5
  ((s6.fcSet true true).cascRemoveAll).set F.RMV_STAT_PHASE 2

/-! ### Orderly resets (R66) -/

/-- The code of a cause in `RST_CAUSE.LAST`. -/
def causeCode : Cause → Nat
  | .thermal => 4
  | .soft => 5
  | .host => 6
  | .cascade => 7

/-- Write the DONE records that are still owed: class R commands whose completion was not posted. -/
def State.logRemaining (s : State) : State :=
  s.host.flights.foldl (fun (s : State) p =>
    if p.2.phase = .ready ∧ p.2.mutates = false ∧ p.2.journalled ∧ p.2.logOpen then s.logRewrite p.1 3 else s) s

/-- Has step 5 of the Trailhead been done, so that the Logbook runs? -/
def State.logRuns (s : State) : Bool := s.trail.done.contains 5

/-- Has work in hand been settled: no started program or erase, no word in progress, no exchange past its quiet point? -/
def State.settled (s : State) : Bool :=
  s.mediaStarted == [] && (match s.keep.norOp with | some op => op.erase | none => true)
    && s.host.flights.all (fun p => p.2.phase == .ready || !s.xchBusy p.1)

/-- The logging phase of an orderly reset: the records still owed and the SETTLED entry. Before step 5 of the Trailhead the Logbook does not
run, and the next Trailhead closes what is open (R73). -/
def State.logSettled (s : State) (c : Cause) : State :=
  if s.logRuns then
    let s1 := s.logRemaining
    (s1.logNew (fun q => s1.kindEntry q 4 (causeCode c) 0)).2
  else s

/-- An orderly reset whose work in hand has settled: the logging phase, and the reset. -/
def State.orderlyTry (s : State) : State :=
  match s.rmv.orderly with
  | some c => if s.settled then (s.logSettled c).resetNow [causeCode c] false else s
  | none => s

/-- An orderly reset is requested (R66). REMOVING takes precedence, and one that is settling goes on. -/
def State.orderlyStart (s : State) (c : Cause) : State :=
  if s.live = false ∨ s.st = stRemoving ∨ s.rmv.orderly.isSome then s
  else
    let s1 := { s with rmv := { s.rmv with orderly := some c, orderlyFrom := s.clock } }
    (((s1.stopWork 0x33).calStop).set F.RMV_STAT_RESET_OPS 0).orderlyTry

end Sys2Proof.Machine
end

