-- ==== Sys2Proof/Machine/Calibration.lean ====
section
/-!
DEFINITION. Calibration (ch. 20): the rates a channel may run (R289 to R293), training and its results (R469, R470), tracking
(R475, R476), staleness (R477), snapshots in PS (R461, R478, R479), imports (R480), and the rows of the chapter.
-/

namespace Sys2Proof.Machine

/-! ### Rates (R289, R290, R293) -/

/-- Does Table 13-2 allow a protocol and rate at a class (1: 1.2 V, 2: 1.8 V)? -/
def ifAllowed (cls proto rate : Nat) : Bool :=
  if cls = 2 then (proto == 0 && rate == 0) || (proto == 1 && decide (1 ≤ rate ∧ rate ≤ 5))
  else if cls = 1 then (proto == 0 && rate == 0) || (proto == 1 && decide (1 ≤ rate ∧ rate ≤ 2)) || (decide (2 ≤ proto) && decide (1 ≤ rate ∧ rate ≤ 13))
  else false

/-- Is the running state the one of the ROM baseline programs (R83)? -/
def State.baseline (s : State) : Bool := s.get F.FW_SPB_LOADED == 0

/-- Does channel `n` run the ROM baseline program (R83), be it after a load that rolled back (R361)? -/
def State.baseChan (s : State) (n : Nat) : Bool := s.baseline || (s.chan n).bundle.isNone

/-- The protocol of channel `n` for its dies and state: JESD230 0b11; ONFI NV-DDR2 at 1.8 V and for the baseline, else NV-DDR3. -/
def State.protoFor (s : State) (n : Nat) : Nat :=
  match s.diesInUse n with
  | d :: _ => if (s.die n d).jedec then 3 else if (s.chan n).vclass = 2 ∨ s.baseChan n then 1 else 2
  | [] => 0

/-- May channel `n` run a protocol and rate with its dies (R293)? -/
def State.rateOk (s : State) (n proto rate : Nat) : Bool :=
  ifAllowed (s.chan n).vclass proto rate && (s.diesInUse n).all (fun d => bit (s.die n d).rates rate)
    && decide (rate ≤ s.get (F.CH_LIMIT_RATE_MAX n)) && (decide (rate < 12) || s.get (F.CH_LIMIT_EXT_EN n) == 1)
    && (!s.baseChan n || decide (rate ≤ 2))

/-- The rates channel `n` tries, highest first, none below the baseline's unless nothing else is allowed. -/
def State.ratesFor (s : State) (n : Nat) : List Nat :=
  let l := ([13, 12, 11, 10, 9, 8, 7, 6, 5, 4, 3, 2, 1].filter (fun r => s.rateOk n (s.protoFor n) r))
  if l.any (fun r => decide (2 ≤ r)) then l.filter (fun r => decide (2 ≤ r)) else l

/-- The rate in force. -/
def State.rate (s : State) (n : Nat) : Nat := s.get (F.CH_IF_RATE n)

/-- Rates with per-bit deskew (Table 20-1). -/
def State.fast (s : State) (n : Nat) : Bool := decide (7 ≤ s.rate n ∧ s.rate n ≤ 13)

/-- Targets (CE indices) with a die in use. -/
def State.targets (s : State) (n : Nat) : List Nat := ((s.diesInUse n).map (· / 4)).dedup

/-! ### Values (R468, R470, R472) -/

/-- Write a calibration register as R470 sets out: the staged value follows unless it differs from the active one. -/
def State.writeCal (s : State) (a w : Nat) (v : Word) : State :=
  let same := s.stagedReg a w = s.reg a w
  let s1 := s.setReg a v w
  if same then s1.setStaged a v w else s1

/-- Write the five registers of target `ce` of channel `n`. -/
def State.writeTarget (s : State) (n ce : Nat) (vals : List Word) : State :=
  (withIdx (vals.take 5)).foldl (fun (s : State) p => s.writeCal (0x2F81 + p.1) (n * 8 + ce) (if p.1 = 4 then p.2 &&& 0x7FFFFFFF else p.2)) s

/-- The junction in whole °C as a signed byte. -/
def State.junctionByte (s : State) : Nat := ofSigned 8 (s.junction / 16)

/-- `TEMP` of channel `n` in 1/16 °C. -/
def State.chTemp (s : State) (n : Nat) : Int := toSigned 8 (s.get (F.CAL_CH_TEMP n)) * 16

/-! ### Staleness (R477) -/

/-- The cause for which channel `n` is stale, 0 for none. -/
def State.staleCause (s : State) (n : Nat) : Nat :=
  let late := match s.cal.tracks.find? (fun p => p.1 == n) with
    | some (_, t) => decide (s.get F.CAL_TRACK_STALE_MS * 1000 < s.clock - t.since)
    | none => false
  if s.fast n = false then 0
  else if late then 1
  else if s.cal.badEye.contains n then 2
  else if (2 * s.get F.CAL_CFG_DT * 16 : Nat) < (s.junction - s.chTemp n).natAbs then 3
  else 0

/-- Bring channel `n`'s staleness up to date; a change posts CAL_STALE (R481). -/
def State.staleEval (s : State) (n : Nat) : State :=
  let c := s.staleCause n
  let now := c != 0
  if (s.chan n).stale = now then s
  else (s.setChan n { s.chan n with stale := now }).chEvent n 7 (b2n now + 2 * c)

/-- Lanes that run and use the lane fields: active ones at AGL2 or AGL3 (R471). -/
def State.eqLanes (s : State) : List Nat := if 2 ≤ s.agl.gen then setBits s.agl.active 4 else []

/-- A lane is stale from the moment the junction differs from its `TEMP` by more than 2 × `DT`, until an adaptation lands. -/
def State.laneStale (s : State) : State :=
  let far := decide ((2 * s.get F.CAL_CFG_DT * 16 : Nat) < (s.junction - toSigned 8 (s.get F.CAL_LN_TEMP) * 16).natAbs)
  let m := if far then maskOf s.eqLanes else 0
  let old := s.get F.CAL_LN_STALE
  if old ||| m = old then s else (s.set F.CAL_LN_STALE (old ||| m)).set F.CAL_EVT_LANE_STALE 1

/-- Is any channel or lane stale? -/
def State.anyStale (s : State) : Bool := s.chans.any (fun p => p.2.stale) || s.get F.CAL_LN_STALE != 0

/-! ### Actions of CAL_CTL (one result per path) -/

/-- Set a path's calibration result. -/
def State.calResult (s : State) (w code : Nat) (busy : Bool) : State := (s.set F.CAL_RES_CODE code w).set F.CAL_RES_BUSY (b2n busy) w

/-- Channel `n` has ended its part of the action of path `p`. -/
def State.actPart (s : State) (p : Path) (n : Nat) (trained : Bool) : State :=
  let w := pathNum p
  match s.cal.acts.find? (fun x => x.1 == w) with
  | none => s
  | some (_, a) =>
    let a1 := { a with left := a.left.filter (· != n), trained := a.trained || trained }
    if a1.left ≠ [] then { s with cal := { s.cal with acts := tput s.cal.acts w a1 } }
    else
      let code := if a1.imp && a1.trained then 7 else 1
      let s1 := ({ s with cal := { s.cal with acts := tdel s.cal.acts w } }).calResult w code false
      if code = 7 then s1.set F.CAL_EVT_IMPORT_REJECT 1 else s1

/-! ### Training (R469, R470, R293) -/

/-- Values are in force on channel `n` from now: their temperature, age, rate and path. -/
def State.landed (s : State) (n temp path : Nat) : State :=
  let s1 := ((s.set (F.CAL_CH_TEMP n) temp).set (F.CAL_CH_RATE n) (s.rate n)).set (F.CAL_CH_PATH n) path
  { s1 with cal := { s1.cal with
    since := tput s1.cal.since n s1.clock, tracks := tdel s1.cal.tracks n, badEye := s1.cal.badEye.filter (· != n) } }

/-- The width of the narrowest window of a target: 0 where a bit has none. -/
def eyeWidth (e : Eye) : Nat :=
  if e.rd.length < 8 ∨ e.wr.length < 8 then 0
  else ((e.rd.take 8 ++ e.wr.take 8).map (fun w => w.2 + 1 - w.1)).foldl min 256

/-- The centre of a window (R469). -/
def eyeCentre (w : Nat × Nat) : Nat := (w.1 + w.2) / 2 % 256

/-- The register that holds the deskew of four bits. -/
def deskewWord (l : List (Nat × Nat)) : Word := BitVec.ofNat 32 (leAt (l.map (fun w => BitVec.ofNat 8 (eyeCentre w))) 0 4)

/-- The five calibration registers of channel `n`'s target as a measurement at `rate` sets them: the gate and DQS delays, and at rate codes 0x7
to 0xD the reference level and the deskew; below, these stay (R469). -/
def State.eyeVals (s : State) (n rate : Nat) (e : Eye) : List Word :=
  let now (i : Nat) : Word := s.reg (0x2F81 + i) (n * 8 + e.ce)
  if 7 ≤ rate then [deskewWord (e.rd.take 4), deskewWord (e.rd.drop 4), deskewWord (e.wr.take 4), deskewWord (e.wr.drop 4), e.dqs &&& 0x7FFFFFFF]
  else [now 0, now 1, now 2, now 3, BitVec.ofNat 32 (putBits e.dqs.toNat 24 7 (bits (now 4).toNat 24 7))]

/-- Does a training of channel `n` at `rate` pass: are the gate and DQS delays of every target found and, at rate codes 0x7 to 0xD, is every
window wide enough (R469)? -/
def State.trainOk (s : State) (n rate : Nat) (res : List Eye) : Bool :=
  (s.targets n).all (fun ce => res.any (fun e => e.ce == ce && e.found && decide (7 ≤ rate → s.get F.CAL_CFG_MIN_EYE ≤ eyeWidth e)))

/-- Write the results of a training at `rate`. -/
def State.trainWrite (s : State) (n rate : Nat) (res : List Eye) : State :=
  res.foldl (fun (s : State) e => if (s.targets n).contains e.ce then s.writeTarget n e.ce (s.eyeVals n rate e) else s) s

/-- Load the mode of channel `n` into the active and staged fields (R293). -/
def State.setMode (s : State) (n proto rate : Nat) : State :=
  (s.setBoth (F.CH_IF_PROTO n) proto).setBoth (F.CH_IF_RATE n) rate

/-- The training of step 7 on channel `n` ends at the rate tried: on a failure the next lower one is tried (R293). After the last one
the channel runs at that rate with what was found. -/
def State.trailTrained (s : State) (n : Nat) (res : List Eye) : State :=
  let c := s.chan n
  match c.tries with
  | [] => s
  | r :: rest =>
    if s.trainOk n r res ∨ rest = [] then
      let s1 := ((s.setMode n (s.protoFor n) r).trainWrite n r res).setChan n { c with training := false, tries := [], state := 3 }
      (s1.landed n s1.junctionByte (if s1.baseChan n then 3 else 2)).homeAll n
    else s.setChan n { c with tries := rest }

/-- TRAINING_END (R469): the training of channel `n` ends, with what it found at each target. -/
def trainingEnd (n : Nat) (res : List Eye) (s : State) : State :=
  if (s.chan n).training = false ∨ s.st = stRemoving then s
  else if s.st = stTrailhead then (if s.therm.stop then s else s.trailTrained n res)
  else match s.cal.jobs.find? (fun p => p.1 == n) with
    | none => s
    | some (_, j) =>
      let ok := s.trainOk n (s.rate n) res
      let s1 := { s.setChan n { s.chan n with training := false } with cal := { s.cal with jobs := s.cal.jobs.eraseP (fun p => p.1 == n) } }
      let s2 := if ok then (s1.trainWrite n (s1.rate n) res).landed n s1.junctionByte (if s1.baseChan n then 3 else 2)
        else { s1 with cal := { s1.cal with badEye := if s1.cal.badEye.contains n then s1.cal.badEye else n :: s1.cal.badEye } }
      ((s2.staleEval n).chEvent n 6 (b2n ok + s2.rate n * 256)).actPart j.path n true

/-! ### Snapshots (R461, Table 20-3) -/

/-- Offset of snapshot slot `k`. -/
def snapOff (k : Nat) : Nat := 0x90000 + 0x8000 * k

/-- The header and body at a PS offset, as far as the header says. -/
def State.snapAt (s : State) (off : Nat) : List Byte := s.psRead off (64 + min 32704 (s.psLE (off + 4) 4))

/-- Does an image pass the length and CRC checks of R461? -/
def snapOk (l : List Byte) : Bool :=
  let n := leAt l 4 4
  decide (1 ≤ n ∧ n ≤ 32704) && allZero (sliceB l 13 51) && leAt l 8 4 == crc32 (sliceB l 12 (52 + n))

/-- Does snapshot slot `k` pass? One whose header or body was not written whole does not (R461, R464). -/
def State.snapPass (s : State) (k : Nat) : Bool :=
  s.psWhole (snapOff k) && s.psWhole (snapOff k + 64) && snapOk (s.snapAt (snapOff k))

/-- The snapshot in use: the valid slot with the higher generation. -/
def State.snapUse (s : State) : Option (List Byte) :=
  pickCopy (s.snapAt (snapOff 0)) (s.snapAt (snapOff 1)) (s.snapPass 0) (s.snapPass 1)

/-- Write a snapshot with the next generation, body first and header last (R461); true when it is in PS. -/
def State.snapWrite (s : State) (level : Nat) (body : List Byte) : Bool × State :=
  let a := s.snapAt (snapOff 0)
  let b := s.snapAt (snapOff 1)
  let ga := leAt a 0 4
  let gb := leAt b 0 4
  let (k, g) : Nat × Nat := match s.snapPass 0, s.snapPass 1 with
    | true, true => if genAbove ga gb then (1, (ga + 1) % 2 ^ 32) else (0, (gb + 1) % 2 ^ 32)
    | true, false => (1, (ga + 1) % 2 ^ 32)
    | false, true => (0, (gb + 1) % 2 ^ 32)
    | false, false => (0, 1)
  let tail := natLE 1 level ++ natLE 51 0
  let (ok, s1) := s.psWrite (snapOff k + 64) body
  if ok then s1.psWrite (snapOff k) (natLE 4 g ++ natLE 4 body.length ++ natLE 4 (crc32 (tail ++ body)) ++ tail) else (false, s1)

/-- `CH_CE_MAP` of channel `n` as a word. -/
def State.ceMap (s : State) (n : Nat) : Nat := (s.reg (0x1005 + 512 * n)).toNat

/-- READ ID bytes of target `ce`, 0 if absent. -/
def State.targetId (s : State) (n ce : Nat) : List Byte := sliceB (s.die n (4 * ce)).ident 0 8

/-- The body of a snapshot (Table 20-3). -/
def State.snapBody (s : State) : List Byte :=
  let w (a win : Nat) : List Byte := natLE 4 (s.reg a win).toNat
  s.uid
    ++ (List.range 8).flatMap (fun c => natLE 4 (s.ceMap c) ++ (List.range 8).flatMap (fun t => s.targetId c t))
    ++ (List.range 8).flatMap (fun c =>
      natLE 1 (s.rate c) ++ natLE 1 (s.get (F.CH_IF_PROTO c)) ++ natLE 1 (s.chan c).vclass ++ natLE 1 (b2n (s.diesInUse c != []))
        ++ natLE 1 (s.get (F.CAL_CH_TEMP c)) ++ natLE 11 0
        ++ (List.range 8).flatMap (fun t => (List.range 5).flatMap (fun r => w (0x2F81 + r) (c * 8 + t)) ++ natLE 4 0))
    ++ (List.range 8).flatMap (fun c => (List.range 8).flatMap (fun t => w 0x2F86 (c * 8 + t)))
    ++ (List.range 4).flatMap (fun k => (List.range 2).flatMap (fun g => w 0x2FC1 ((g + 2) * 4 + k)))
    ++ natLE 16 0

/-- Does the image's body match channel `n` as it is, at rate `rate` (R478)? -/
def State.snapMatches (s : State) (b : List Byte) (n rate : Nat) : Bool :=
  let o := 552 + 208 * n
  leAt b (8 + 68 * n) 4 == s.ceMap n && (List.range 8).all (fun t => sliceB b (12 + 68 * n + 8 * t) 8 == s.targetId n t)
    && leAt b (o + 2) 1 == (s.chan n).vclass && leAt b o 1 == rate && bit (leAt b (o + 3) 1) 0

/-- Take the values of channel `n` from an image's body; `write` writes one register. -/
def State.snapTake (s : State) (b : List Byte) (n : Nat) (write : State → Nat → Nat → Word → State) : State :=
  (List.range 8).foldl (fun (s : State) t =>
    let s1 := (List.range 5).foldl (fun (s : State) r =>
      write s (0x2F81 + r) (n * 8 + t) (BitVec.ofNat 32 (leAt b (568 + 208 * n + 24 * t + 4 * r) 4))) s
    write s1 0x2F86 (n * 8 + t) (BitVec.ofNat 32 (leAt b (2216 + 32 * n + 4 * t) 4))) s

/-- Both values of a register at once, as the Trailhead loads it. -/
def writeBoth (s : State) (a w : Nat) (v : Word) : State := (s.setReg a v w).setStaged a v w

/-- SAVE (R479), the store answering `o`: its code. -/
def State.calSave (s : State) (o : List PsOutcome) : Nat × State :=
  if s.st ≠ stReady then (2, s)
  else if s.chans.any (fun p => p.2.training) || s.anyStale then (3, s)
  else
    let (ok, s1) := (s.withPs o).snapWrite (s.get F.SVI_MAN_0_CAL_LEVEL) s.snapBody
    if ok then (1, s1.set F.CAL_EVT_SAVED 1) else (6, s1.set F.CAL_EVT_SAVE_FAIL 1)

/-- RETRAIN of the channels in a mask for path `p`: each waits for its boundary. -/
def State.calRetrain (s : State) (p : Path) (mask : Nat) : State :=
  let l := (setBits mask 8).filter (fun n => s.diesInUse n != [])
  let s1 := (setBits mask 8).foldl (fun (s : State) n => s.set (F.CAL_CH_HOST_SET n) 0) s
  if l = [] then s1.calResult (pathNum p) 1 false
  else ({ s1 with cal := { s1.cal with
    jobs := s1.cal.jobs ++ l.map (fun n => (n, ({ path := p } : CalJob))), acts := tput s1.cal.acts (pathNum p) { left := l } } }).calResult
      (pathNum p) 0 true

/-- IMPORT (R480) for path `p`, the store answering `o`. -/
def State.calImport (s : State) (p : Path) (o : List PsOutcome) : State :=
  let w := pathNum p
  let off := s.get F.CAL_IMPORT_OFFSET * 64
  let l := s.snapAt (0xE0000 + off)
  let n := leAt l 4 4
  let body := l.drop 64
  let reject (c : Nat) : State := (s.calResult w c false).set F.CAL_EVT_IMPORT_REJECT 1
  if snapOk l = false ∨ leAt l 12 1 ≠ s.get F.SVI_MAN_0_CAL_LEVEL ∨ 0x20000 < off + 64 + n then reject 4
  else if sliceB body 0 8 ≠ s.uid then reject 5
  else
    let (ok, s1) := (s.withPs o).snapWrite (leAt l 12 1) (sliceB body 0 n)
    if ok = false then (s1.calResult w 6 false).set F.CAL_EVT_SAVE_FAIL 1
    else
      let s2 := s1.set F.CAL_EVT_SAVED 1
      let chs := (List.range 8).filter (fun c => s2.diesInUse c != [])
      let rate (c : Nat) : Nat := (s2.ratesFor c).headD 0
      if chs = [] then s2.calResult w 1 false
      else ({ s2 with cal := { s2.cal with
        jobs := s2.cal.jobs ++ chs.map (fun c =>
          (c, ({ path := p, imp := true, image := if s2.snapMatches body c (rate c) then some body else none } : CalJob)))
        acts := tput s2.cal.acts w { left := chs, imp := true } } }).calResult w 0 true

/-- A write of CAL_CTL, but for the lanes of RETRAIN. While the path's action runs, a further action of the path does nothing. -/
def State.calCtl (s : State) (p : Path) (v : Word) (o : List PsOutcome) : State :=
  let a := bits v.toNat 0 3
  let mask := bits v.toNat 16 8
  let w := pathNum p
  if bits v.toNat 24 8 ≠ 0xCA ∨ a = 0 ∨ 5 ≤ a then s.fieldError
  else if s.get F.CAL_RES_BUSY w = 1 then s
  else if a = 1 then let (c, s1) := s.calSave o; s1.calResult w c false
  else if a = 2 then s.calRetrain p mask
  else if a = 3 then s.calImport p o
  else ((setBits mask 8).foldl (fun (s : State) n => s.set (F.CAL_CH_HOST_SET n) 0) s).calResult w 1 false

/-! ### The boundary of a channel (R475, R478, R480) -/

/-- A waiting tracking result lands. -/
def State.trackLand (s : State) (n : Nat) : State :=
  match s.cal.tracks.find? (fun p => p.1 == n) with
  | none => s
  | some (_, t) =>
    (((s.writeTarget n t.ce t.vals).landed n s.junctionByte (s.get (F.CAL_CH_PATH n))).addF (F.CAL_CH_UPDATES n) 1).staleEval n

/-- The next job of channel `n`: the values of a matching image land, any other job starts a training. -/
def State.jobStart (s : State) (n : Nat) : State :=
  match s.cal.jobs.find? (fun p => p.1 == n) with
  | none => s
  | some (_, j) =>
    match j.image with
    | some b =>
      let s1 := { s with cal := { s.cal with jobs := s.cal.jobs.eraseP (fun p => p.1 == n) } }
      let s2 := (s1.snapTake b n State.writeCal).landed n (leAt b (552 + 208 * n + 4) 1) 1
      ((s2.homeAll n).staleEval n).actPart j.path n false
    | none => s.setChan n { s.chan n with training := true }

/-- Channel `n` is at its boundary. -/
def State.calBoundary (s : State) (n : Nat) : State :=
  if s.works = false ∨ s.therm.stop ∨ (s.chan n).training then s else (s.trackLand n).jobStart n

/-! ### Rows -/

/-- Is a tracking measurement of channel `n` due (R475)? -/
def State.trackDue (s : State) (n : Nat) : Bool :=
  let last := max (tget 0 s.cal.trackAt n) (tget 0 s.cal.since n)
  let p := s.get F.CAL_TRACK_PERIOD_MS
  (p != 0 && decide (p * 1000 ≤ s.clock - last))
    || decide ((s.get F.CAL_CFG_DT * 16 : Nat) ≤ (s.junction - s.chTemp n).natAbs)

/-- TRACKING_MEASUREMENT (R475): channel `n` measures the target of CE `ce`, finding `dqs` and `wins`; `boundary` says that its boundary is right then. A result that differs waits for the boundary; a window below `MIN_EYE` makes the channel stale. -/
def trackingMeasurement (n ce : Nat) (dqs : Option Word) (wins : List (Nat × Nat)) (boundary : Bool) (s : State) : State :=
  let e := Eye.of ce dqs wins
  if s.get F.CAL_CFG_TRACK_EN = 0 ∨ s.fast n = false ∨ s.get (F.CAL_CH_HOST_SET n) = 1 ∨ s.works = false ∨ s.therm.stop
      ∨ (s.chan n).training ∨ s.chHold n ∨ (s.targets n).contains e.ce = false ∨ s.trackDue n = false ∨ 8 ≤ n then s
  else
    let s0 := { s with cal := { s.cal with trackAt := tput s.cal.trackAt n s.clock } }
    let vals := s.eyeVals n (s.rate n) e
    if e.found = false ∨ eyeWidth e < s.get F.CAL_CFG_MIN_EYE then
      ({ s0 with cal := { s0.cal with badEye := if s0.cal.badEye.contains n then s0.cal.badEye else n :: s0.cal.badEye } }).staleEval n
    else
      let s1 := { s0 with cal := { s0.cal with badEye := s0.cal.badEye.filter (· != n) } }
      let same := (withIdx vals).all (fun p => s1.reg (0x2F81 + p.1) (n * 8 + e.ce) == p.2)
      let s2 := if same then s1
        else { s1 with cal := { s1.cal with tracks := tput s1.cal.tracks n { ce := e.ce, vals, since := s1.clock } } }
      let s3 := if boundary then s2.calBoundary n else s2
      s3.staleEval n

/-- STALE_TIMEOUT (R477): a tracking result of channel `n` has waited for longer than `STALE_MS`. -/
def staleTimeout (n : Nat) (s : State) : State := if 8 ≤ n then s else s.staleEval n

/-- LANE_ADAPTATION (R471): the receiver of host lane `k` has adapted to `v` at the generation in use, and the value lands at an ALN.
-/
def laneAdaptation (k : Nat) (v : Word) (s : State) : State :=
  if s.agl.state ≠ 6 ∨ s.eqLanes.contains k = false then s
  else
    let v1 := BitVec.ofNat 32 (v.toNat - bits v.toNat 5 3 * 32)
    let s1 := s.writeCal 0x2FC1 (s.agl.gen * 4 + k) v1
    (s1.set F.CAL_LN_TEMP s1.junctionByte).clearF F.CAL_LN_STALE (1 <<< k)

/-- AUTO_SAVE (R479): the save that is due after a trained Trailhead is made once no channel is stale. -/
def autoSave (o : List PsOutcome) (s : State) : State :=
  match s.cal.autoFrom with
  | none => s
  | some _ =>
    if s.get F.CAL_CFG_AUTO_SAVE = 0 ∨ s.chans.any (fun p => p.2.stale) then s
    else
      let r := s.calSave o
      { r.2 with cal := { r.2.cal with autoFrom := none } }

end Sys2Proof.Machine
end

