-- ==== Sys2Proof/Machine/Thermal.lean ====
section
/-!
DEFINITION. Temperature and supply monitors (R497 to R505): samples, levels, thermal grace and THERMAL_HOLD.
-/

namespace Sys2Proof.Machine

/-! ### Sensors (R497, R473, R474) -/

/-- A sensor after a sample: `raw` is its reading in 1/16 °C, or none when its conversion did not complete; `trim` its offset. -/
def Sensor.sample (v : Sensor) (raw : Option Int) (trim : Int) : Sensor :=
  let x := (raw.getD 0) + trim
  let bad := raw.isNone || decide (x < -640 ∨ 2400 < x)
  let r := match raw with | some _ => ofSigned 16 x | none => v.reading
  if bad then { v with bad := v.bad + 1, good := 0, failed := v.failed || decide (3 ≤ v.bad + 1), reading := r }
  else { v with bad := 0, good := v.good + 1, failed := v.failed && decide (v.good + 1 < 100), reading := r }

/-- Sensor `i`. -/
def State.sensor (s : State) (i : Nat) : Sensor := tget {} s.therm.sensors i

/-- Sample the ten sensors: those that fail now post SENS_FAIL. -/
def State.sensors (s : State) (raw : List (Option Int)) : State :=
  (List.range 10).foldl (fun (s : State) i =>
    let v := s.sensor i
    let v1 := v.sample (listGet none raw i) (tget 0 s.trail.trims i)
    let s1 := { s with therm := { s.therm with sensors := tset {} s.therm.sensors i v1 } }
    if v1.failed && !v.failed then s1.post 13 i else s1) s

/-- The junction and the sensor that gives it: the highest corrected reading among the sensors that completed a conversion and had not
failed before the sample nor fail at it, plus 5 °C without a trim record; 125 °C when every logic-die sensor has failed. None when no
reading counts: the junction then stays as it was. -/
def State.junctionNow (s0 s : State) (raw : List (Option Int)) : Option (Int × Nat) :=
  if (List.range 9).all (fun i => (s.sensor i).failed) then some (2000, s.get F.THERM_STAT_HOT)
  else
    let l := (List.range 10).filter (fun i => (listGet none raw i).isSome && !(s0.sensor i).failed && !(s.sensor i).failed)
    let best := l.foldl (fun (b : Option (Int × Nat)) i =>
      let x := toSigned 16 (s.sensor i).reading
      match b with
      | some (y, _) => if y < x then some (x, i) else b
      | none => some (x, i)) none
    best.map (fun p => (p.1 + (if s.get F.CAL_STAT_TRIM_SRC = 0 then 80 else 0), p.2))

/-! ### Levels (R498) -/

/-- The threshold of a level in 1/16 °C. -/
def State.levelAt (s : State) (l : Nat) : Int :=
  if l = 1 then s.get F.THERM_CFG_WARN * 16 else if l = 2 then s.get F.THERM_CFG_TRIP * 16 else 2000

/-- The highest level whose threshold, lowered by `h`, the junction is not below. -/
def State.levelFor (s : State) (tj h : Int) : Nat :=
  if s.levelAt 3 - h ≤ tj then 3 else if s.levelAt 2 - h ≤ tj then 2 else if s.levelAt 1 - h ≤ tj then 1 else 0

/-- The level after a sample. -/
def State.levelNext (s : State) (tj : Int) : Nat :=
  let cur := s.get F.GLB_STAT_THERM
  let h : Int := s.get F.THERM_CFG_HYST * 16
  let up := s.levelFor tj 0
  if cur < up then up else if 0 < cur ∧ tj < s.levelAt cur - h then s.levelFor tj h else cur

/-- ALERT_N is asserted: by parking (R63), or by the level (R498). -/
def State.alertN (s : State) : Bool := s.balls.alert || (s.get F.THERM_CTL_ALERT_EN == 1 && decide (2 ≤ s.get F.GLB_STAT_THERM))

/-! ### Grace and THERMAL_HOLD (R500 to R503) -/

/-- Enter THERMAL_HOLD: open streams post STREAM_ERR with ABORTED_THERMAL and close (R410). -/
def State.thermalHold (s : State) (reason : Nat) : State :=
  let l := s.map.streams.filter (fun p => p.2.state == 1)
  let s1 := l.foldl (fun (s : State) p => s.streamStop p.1 (s.stream p.1).w 0x32) s
  (s1.closeStreams (fun _ => true)).setState stThermalHold reason

/-- Grace ends: operations that have not ended are reset (R501), at TJ_CRIT with cause 0x4 (R502); THERMAL_HOLD follows, or the reset
of an orderly reset in hand (R504). -/
def State.graceFinish (s : State) (crit : Bool) : State :=
  let n := s.mediaStarted.length
  let s1 := (s.resetMedia (if crit then 4 else 3)).set F.THERM_HIST_RESETS (min 255 n)
  let s2 := { s1.post 2 (min 255 n + 256 * b2n crit) with therm := { s1.therm with grace := false } }
  if s2.rmv.orderly.isSome then s2.orderlyTry else s2.thermalHold (if crit then 7 else 6)

/-- TJ_TRIP in READY or LIMITED (R500). While an orderly reset settles, only grace starts. -/
def State.tjTrip (s : State) : State :=
  let s1 := { s with therm := { s.therm with
    stop := true, grace := true, graceFrom := s.clock, graceMs := s.get F.THERM_CTL_GRACE } }
  if s.rmv.orderly.isSome then s1 else s1.stopWork 0x32

/-- What the junction does in each state (R500 to R504). -/
def State.thermAct (s : State) (tj : Int) : State :=
  let trip := decide (s.levelAt 2 ≤ tj)
  let crit := decide (2000 ≤ tj)
  let cool := decide (tj < 1520)
  if s.st = stReady ∨ s.st = stLimited then
    let s1 := if trip && !s.therm.stop then s.tjTrip else s
    if crit && s1.therm.grace then s1.graceFinish true else s1
  else if s.st = stThermalHold then
    let c := if cool then s.therm.cool + 1 else 0
    let s1 := { s with therm := { s.therm with cool := c } }
    if 10 ≤ c then s1.orderlyStart .thermal else s1
  else if s.st = stRemoving then
    if crit && s.mediaStarted != [] then
      let n := s.mediaStarted.length
      ((s.resetMedia 4).set F.THERM_HIST_RESETS (min 255 n)).post 2 (min 255 n + 256)
    else s
  else if trip && !s.therm.stop then
    (({ s with therm := { s.therm with stop := true } }).norInterrupt 0x32).testsStop 0x32
  else if cool then { s with therm := { s.therm with stop := false } }
  else s

/-! ### Supply monitors (R505) -/

/-- Nominal voltage of rail `r` of Table 21-5 in mV; 0 for a group classed unpowered. -/
def State.nominal (s : State) (r : Nat) : Nat :=
  if r < 5 then listGet 0 [750, 850, 1200, 1800, 1800] r
  else match (s.chan (2 * (r - 5))).vclass with | 1 => 1200 | 2 => 1800 | _ => 0

/-- Rail `r` reads `mv`, trimmed; `low` says that it has been below 95 % of nominal for 2 µs or longer. -/
def State.railSample (s : State) (r mv : Nat) (low : Bool) : State :=
  let x := ((mv : Int) + tget 0 s.trail.trims (12 + r)).toNat
  let s1 := { s with therm := { s.therm with rails := tset 0 s.therm.rails r x } }
  let was := bit (s.get F.SUP_STAT_WARN) r
  let under := decide (x * 100 < s.nominal r * 95)
  if under && low && !was then (s1.orF F.SUP_STAT_WARN (1 <<< r)).post 14 r
  else if !under && was then s1.clearF F.SUP_STAT_WARN (1 <<< r)
  else s1

/-! ### Rows -/

/-- SENSOR_SAMPLE (R497 to R505): `raw` are the readings of the ten sensors, `mv` the nine rails, `low` the rails that have been below
95 % of nominal for 2 µs. A pending commit of group THERMAL applies first. Staleness follows the junction (R477). -/
def sensorSample (raw : List (Option Int)) (mv : List Nat) (low : Nat) (s : State) : State :=
  if s.live = false ∨ s.balls.clocksGated then s
  else
    let s1 := s.sensors raw
    let s2 := if s1.port.pend.any (fun p => p.1 == 0x0E) then (s1.setReg 0x0581 (s1.stagedReg 0x0581)).commitEnd 0x0E 1 else s1
    let (tj, hot) := (s.junctionNow s1 raw).getD (s2.junction, s2.get F.THERM_STAT_HOT)
    let fails := maskOf ((List.range 10).filter (fun i => (s2.sensor i).failed))
    let s3 := ((s2.set F.THERM_STAT_TJ (ofSigned 16 tj)).set F.THERM_STAT_HOT hot).set F.THERM_STAT_SENS_FAIL fails
    let s4 := if toSigned 16 (s3.get F.THERM_HIST_PEAK) < tj then s3.set F.THERM_HIST_PEAK (ofSigned 16 tj) else s3
    let cur := s4.get F.GLB_STAT_THERM
    let next := s4.levelNext tj
    let s5 := if next = cur then s4
      else ((s4.set F.GLB_STAT_THERM next).set F.GLB_EVT_THERM_CHG 1).post 1 (next + ofSigned 16 tj * 65536)
    let s6 := if cur < 2 ∧ 2 ≤ next then s5.addF F.THERM_HIST_TRIPS 1 else s5
    let s7 := (withIdx (mv.take 9)).foldl (fun (s : State) p => s.railSample p.1 p.2 (bit low p.1)) s6
    let s8 := ((List.range 8).foldl State.staleEval s7).laneStale
    s8.thermAct tj

/-- GRACE_END (R501, Table 21-3): thermal grace ends, `GRACE` ms after the sample that found TJ_TRIP. -/
def graceEnd (s : State) : State :=
  if s.therm.grace && decide (s.therm.graceFrom + s.therm.graceMs * 1000 ≤ s.clock) then s.graceFinish false else s

end Sys2Proof.Machine
end

