-- ==== Sys2Proof/Machine/Commit.lean ====
section
/-!
DEFINITION. Staging and commit (ch. 05, R122 to R128): the registers of each commit group (Table 5-8), the pair tables of the
chapters, what applying a group does to its block, and the rows COMMIT_APPLY, COMMIT_HOLD and LEDGER_UPDATE.
-/

namespace Sys2Proof.Machine

/-! ### The registers of a group -/

/-- The commit group of the register under key `k` (Table 5-8): a channel's registers lie in its own pages and in the windows of
its calibration targets. -/
def groupOfKey (k : Nat) : Option Nat :=
  match regDef? (k % 0x4000) with
  | some d => match d.group with
    | some 2 => some (2 + (if d.win = .cal then k / 0x4000 / 8 else (k % 0x4000 / 64 - 0x40) / 8))
    | g => g
  | none => none

/-- The bits of its RS fields. -/
def RegDef.rsMask (d : RegDef) : Nat :=
  d.fields.foldl (fun m f => if f.ty = .rs then m ||| ((2 ^ f.width - 1) <<< f.lo) else m) 0

/-- The same for the register under key `k`. -/
def rsMaskOf (k : Nat) : Nat :=
  match regDef? (k % 0x4000) with
  | some d => d.rsMask
  | none => 0

/-- The keys of group `g` under which something is stored: no other register of the group differs from its reset values. -/
def State.groupKeys (s : State) (g : Nat) : List Nat :=
  let l := (s.regs.map (·.1)).filter (fun k => groupOfKey k == some g)
  l ++ (s.staged.map (·.1)).filter (fun k => groupOfKey k == some g && !l.contains k)

/-- The active value under a key. -/
def State.active (s : State) (k : Nat) : Nat := (tget (regReset k) s.regs k).toNat

/-- The staged value under a key. -/
def State.stagedAt (s : State) (k : Nat) : Nat := (tget (regReset k) s.staged k).toNat

/-- The keys of group `g` whose staged value differs from the active one. -/
def State.dirtyKeys (s : State) (g : Nat) : List Nat :=
  (s.groupKeys g).filter (fun k => (s.active k &&& rsMaskOf k) != (s.stagedAt k &&& rsMaskOf k))

/-- `v` with the bits of `m` taken from `x`. -/
def underMask (v m x : Nat) : Word := BitVec.ofNat 32 ((v &&& (0xFFFFFFFF ^^^ m)) ||| (x &&& m))

/-- Every staged value of these registers becomes active. -/
def State.activate1 (s : State) (l : List Nat) : State :=
  l.foldl (fun (s : State) k => { s with
    regs := tset (regReset k) s.regs k (underMask (s.active k) (rsMaskOf k) (s.stagedAt k)) }) s

/-- Every staged value of these registers takes the active value. -/
def State.unstage (s : State) (l : List Nat) : State :=
  l.foldl (fun (s : State) k => { s with
    staged := tset (regReset k) s.staged k (underMask (s.stagedAt k) (rsMaskOf k) (s.active k)) }) s

/-- Is a commit of group `g` pending? -/
def State.commitPending (s : State) (g : Nat) : Bool := s.port.pend.any (fun p => p.1 == g)

/-! ### Pair tables -/

/-- The lowest row of a list whose condition fails. -/
def firstFail (l : List (Nat × Bool)) : Option Nat := (l.find? (fun p => !p.2)).map (·.1)

/-- The rows of group `g`'s pair table that its staged values meet, ascending. -/
def State.pairs (s : State) (g : Nat) : List (Nat × Bool) :=
  if g = 0 then
    let w := 2 ^ (s.getStaged F.AGL_CFG_WIDTH_MAX)
    let en := s.getStaged F.AGL_LANE_LANE_EN
    let low := 2 ^ w - 1
    let high := low * 2 ^ (4 - w)
    [(0, en &&& low == low || (s.getStaged F.AGL_CFG_REV_EN == 1 && en &&& high == high))]
  else if g = 1 then
    (List.range 16).map (fun v => (v, s.getStaged F.CASC_CFG_TOPO == 0 || decide (s.getStaged (F.CASC_VOL_DEV_MASK v) < 4)))
      ++ [(0x10, s.getStaged F.CASC_RATION_SHARE == 0 || s.getStaged F.CASC_RATION_W % 16 != 0)]
  else if g < 10 then
    let n := g - 2
    let p := s.getStaged (F.CH_IF_PROTO n)
    let r := s.getStaged (F.CH_IF_RATE n)
    [(0, ifAllowed 1 p r || ifAllowed 2 p r), (1, decide (r < 7) || s.getStaged (F.CH_DRV_ODT n) != 0)]
  else if g = 10 then
    (List.range 16).map (fun c =>
      let pb := s.get (F.CW_LAYOUT_PAGE_BYTES c)
      (c, pb == 0 || decide (cwBytes (s.getStaged (F.CW_LAYOUT_RATE c)) * (s.getStaged (F.CW_LAYOUT_CPP_M1 c) + 1) ≤ pb)))
    ++ (List.range 16).map (fun c =>
      (0x10 + c, decide (s.getStaged (F.RTY_CLASS_BASE c) + s.getStaged (F.RTY_CLASS_COUNT c) ≤ 0x3F)))
  else if g = 11 then
    let kind (v : Nat) : Nat := s.getStaged F.VOL_CFG_KIND v
    (List.range 16).map (fun v => (v, kind v != 2 || s.getStaged F.VOL_CFG_COMP v == 0))
      ++ (List.range 16).map (fun v => (0x10 + v, kind v != 2 || s.getStaged F.VOL_CFG_ENC v == 0))
      ++ (List.range 16).map (fun v => (0x20 + v, kind v != 2 || s.getStaged F.VOL_SAVE_BLK_COUNT v != 0))
      ++ (List.range 16).map (fun v => (0x30 + v, kind v != 1 || s.getStaged F.VOL_LEN_LEN v != 0))
  else if g = 12 then
    (List.range 4).map (fun k => (k, s.getStaged F.INF_CFG_ZSTD_EN == 1 || s.getStaged (F.INF_DICT_LEN_LEN k) == 0))
  else if g = 13 then
    [(0, decide (s.getStaged F.RATION_CFG_REFILL_MW ≤ s.getStaged F.RATION_CFG_BURST_MJ * 1000))]
  else [(0, decide (s.getStaged F.THERM_CFG_WARN < s.getStaged F.THERM_CFG_TRIP))]

/-! ### Shares of the supply budget (R517) -/

/-- `W`*m* of CASC_RATION. -/
def State.weight (s : State) (m : Nat) : Nat := bits (s.get F.CASC_RATION_W) (4 * m) 4

/-- The share of device `m` in each of the master's three values. -/
def State.shareOf (s : State) (m : Nat) : Nat × (Nat × Nat) :=
  let joined := (s.casc.members.filter (fun p => p.2.joined)).map (·.1)
  let sum := (0 :: joined).foldl (fun n k => n + s.weight k) 0
  let part (x : Nat) : Nat := if sum = 0 then 0 else x * s.weight m / sum
  (max 1 (part (s.get F.RATION_CFG_REFILL_MW)), (max 1 (part (s.get F.RATION_CFG_BURST_MJ)), part (s.get F.RATION_HU_HU_ENERGY)))

/-- The master sends each joined member its share, and takes its own. -/
def State.cascShare (s : State) : State :=
  if s.cascRole ≠ 1 then s
  else if s.get F.CASC_RATION_SHARE = 0 then { s with rt := { s.rt with share := none } }
  else
    let s1 := { s with rt := { s.rt with share := some (s.shareOf 0) } }
    ((s1.casc.members.filter (fun p => p.2.joined)).map (·.1)).foldl (fun (s : State) m =>
      let x := s.shareOf m
      s.cascCtl 7 m [] (natLE 2 x.1 ++ natLE 1 x.2.1 ++ [0] ++ natLE 2 x.2.2 ++ [0, 0])) s1

/-! ### Applying a group -/

/-- Are the lanes of the host link trained? -/
def State.lanesTrained (s : State) : Bool := decide (6 ≤ s.agl.state ∧ s.agl.state ≤ 0xB)

/-- Did one of these keys change whose address satisfies `c`? -/
def touched (l : List Nat) (c : Nat → Bool) : Bool := l.any (fun k => c (k % 0x4000))

/-- Apply a LANES commit: below the running generation the device asks for RETRAIN (Table 6-14). -/
def State.applyLanes (s : State) : State :=
  let s1 := s.activate1 (s.dirtyKeys 0)
  if s1.lanesTrained ∧ s1.get F.AGL_CFG_GEN_MAX < s1.agl.gen then s1.linkFrame 0 0x15 [2] else s1

/-- Apply a CASCADE commit. -/
def State.applyCascade (s : State) : State := (s.activate1 (s.dirtyKeys 1)).cascShare

/-- Apply the new mode of channel `n`, or return to the mode that was in force (R294). `accept` says that every die takes the timing
mode; `res` is what training finds. -/
def State.applyMode (s : State) (n proto rate : Nat) (accept : Bool) (res : List Eye) : State :=
  let p := s.get (F.CH_IF_PROTO n)
  let r := s.rate n
  if s.rateOk n p r && accept && s.trainOk n r res then
    ((s.trainWrite n r res).landed n s.junctionByte (if s.baseChan n then 3 else 2)).staleEval n
  else (s.setMode n proto rate).chEvent n 2 (rate + proto * 16)

/-- Apply a commit of channel `n` (R294, R472, R476). -/
def State.applyChan (s : State) (n : Nat) (accept : Bool) (res : List Eye) : State :=
  let l := s.dirtyKeys (2 + n)
  let proto := s.get (F.CH_IF_PROTO n)
  let rate := s.rate n
  let ofs := (s.diesInUse n).map (fun d => (d, s.dieOfs n d))
  let s1 := s.activate1 l
  let cal := touched l (fun a => decide (0x2F81 ≤ a ∧ a ≤ 0x2F86))
  let s2 := if cal then { s1.set (F.CAL_CH_HOST_SET n) 1 with cal := { s1.cal with tracks := tdel s1.cal.tracks n } } else s1
  let mode := s2.get (F.CH_IF_PROTO n) ≠ proto ∨ s2.rate n ≠ rate
  let s3 := if mode then s2.applyMode n proto rate accept res else s2
  ofs.foldl (fun (s : State) d => if s.dieOfs n d.1 = d.2 then s else s.homeSet n d.1) s3

/-- Apply a CODEC commit (R384). -/
def State.applyCodec (s : State) : State :=
  let l := s.dirtyKeys 10
  let s1 := (s.activate1 l).set F.CODEC_TBL_SRC (if l = [] then s.get F.CODEC_TBL_SRC else 2)
  if touched l (fun a => decide (0x2650 ≤ a ∧ a < 0x26C0)) then s1.clearLearn else s1

/-- Apply a STREAMS commit (R404). -/
def State.applyStreams (s : State) : State :=
  let l := s.dirtyKeys 11
  let s1 := s.activate1 l
  let drop (v : Nat) : Bool := (s.get F.VOL_CFG_MODE v == 1 && s1.get F.VOL_CFG_MODE v == 0)
    || s.reg 0x2783 v != s1.reg 0x2783 v || s.get F.VOL_CFG_KIND v != s1.get F.VOL_CFG_KIND v
  let s2 := s1.set F.MAP_TBL_SRC (if l = [] then s.get F.MAP_TBL_SRC else 2)
  ((List.range 16).filter drop).foldl (fun (s : State) v => s.mapDrop v) s2

/-- Apply an INFLATE commit (R400). -/
def State.applyInflate (s : State) : State :=
  let l := s.dirtyKeys 12
  let s1 := (s.activate1 l).set F.MAP_TBL_SRC (if l = [] then s.get F.MAP_TBL_SRC else 2)
  ((List.range 4).filter (fun d => l.contains (0x2A03 + d) || l.contains (0x2A07 + d))).foldl (fun (s : State) d => s.dictClear d) s1

/-- Every staged value of group `g` becomes active, with what its block does then. -/
def State.applyGroup (s : State) (g : Nat) (accept : Bool) (res : List Eye) : State :=
  if g = 0 then s.applyLanes
  else if g = 1 then s.applyCascade
  else if g < 10 then s.applyChan (g - 2) accept res
  else if g = 10 then s.applyCodec
  else if g = 11 then s.applyStreams
  else if g = 12 then s.applyInflate
  else if g = 13 then (s.activate1 (s.dirtyKeys 13)).cascShare
  else s.activate1 (s.dirtyKeys g)

/-- A pending commit of group `g` applies now, with no operand of its own (not for a channel). -/
def State.commitNow (s : State) (g : Nat) : State :=
  if s.commitPending g then (s.applyGroup g true []).commitEnd g 1 else s

/-! ### CMT_CTL (R123, R124, R127) -/

/-- Does the boundary of a group come at once (Table 5-8)? -/
def State.atOnce (s : State) (g : Nat) : Bool := (g == 0 && !s.lanesTrained) || (g == 1 && s.cascRole == 0)

/-- A commit of group `g` is requested. -/
def State.commitRequest (s : State) (g : Nat) : State :=
  match firstFail (s.pairs g) with
  | some row => s.commitReport g 2 row
  | none =>
    if s.dirtyKeys g = [] then s.commitEnd g 1
    else
      let s1 := ({ s with port := { s.port with pend := tput s.port.pend g s.clock } }).commitReport g 5 0
      if s1.atOnce g then s1.commitNow g else s1

/-- A discard of group `g`. -/
def State.commitDiscard (s : State) (g : Nat) : State := (s.unstage (s.groupKeys g)).commitEnd g 3

/-- Would a write of CMT_CTL answer BUSY (R124)? -/
def State.cmtBusy (s : State) (v : Word) : Bool :=
  bits v.toNat 24 8 == 0x3C && bits v.toNat 8 2 == 1 && decide (bits v.toNat 0 5 < 0x0F) && s.commitPending (bits v.toNat 0 5)

/-- A write of CMT_CTL. -/
def State.cmtCtl (s : State) (v : Word) : State :=
  let g := bits v.toNat 0 5
  let a := bits v.toNat 8 2
  if bits v.toNat 24 8 ≠ 0x3C ∨ 0x0F ≤ g ∨ a = 0 ∨ a = 3 then s.fieldError
  else if a = 1 then (if s.commitPending g then s else s.commitRequest g)
  else s.commitDiscard g

/-! ### Rows -/

/-- Does a codeword hold an engine, or wait in a retry or soft step (the boundary of CODEC)? -/
def Cw.inCodec (w : Cw) : Bool :=
  w.engine.isSome || ((w.step != 0 || w.soft != 0) && (w.phase == .reading || w.phase == .landed || w.phase == .softWait))

/-- Has a channel with a changed `CH_IF` operations that have started? -/
def State.modeWaits (s : State) (n : Nat) : Bool :=
  (s.getStaged (F.CH_IF_PROTO n) != s.get (F.CH_IF_PROTO n) || s.getStaged (F.CH_IF_RATE n) != s.rate n)
    && s.startedOps.any (fun p => p.2.ch == n)

/-- Can the boundary of group `g` be here (Table 5-8)? RATION and THERMAL apply with LEDGER_UPDATE and SENSOR_SAMPLE. -/
def State.boundaryOk (s : State) (g : Nat) : Bool :=
  if g = 0 then s.agl.state == 6
  else if g = 1 then (s.casc.cl0.state == 6 || s.casc.cl1.state == 6)
    && [s.casc.cl0, s.casc.cl1].all (fun l => decide (l.state ≤ 6 ∨ 0xB < l.state))
  else if g < 10 then !(s.chan (g - 2)).training && !(s.tpHolds (g - 2)) && !s.modeWaits (g - 2)
  else if g = 10 then s.cws.all (fun p => !p.2.inCodec)
  else if g = 11 then s.map.faults.isEmpty
  else if g = 12 then s.contexts.isEmpty
  else false

/-- COMMIT_APPLY (R125): the boundary of group `g`. At a channel's boundary calibration results land too, whether or not a commit is
pending. `accept` and `res` are what the dies answer to a new mode (R294): that they take it, and what training finds. -/
def commitApply (g : Nat) (accept : Bool) (res : List Eye) (s : State) : State :=
  if s.boundaryOk g = false then s
  else
    let s1 := if s.commitPending g then (s.applyGroup g accept res).commitEnd g 1 else s
    if 2 ≤ g ∧ g < 10 then s1.calBoundary (g - 2) else s1

/-- COMMIT_HOLD (R126): `HOLD_AFTER` milliseconds have passed since the request of group `g`. A channel resumes its suspended
operations (R303). -/
def commitHold (g : Nat) (s : State) : State :=
  let h := s.get F.CMT_CFG_HOLD_AFTER
  match s.port.pend.find? (fun p => p.1 == g) with
  | none => s
  | some (_, t) =>
    if h = 0 ∨ s.clock - t < h * 1000 ∨ 0x0D ≤ g ∨ s.port.hold.contains g then s
    else
      let held := s.contexts
      let s1 := { s with port := { s.port with hold := s.port.hold ++ [g] } }
      if 2 ≤ g ∧ g < 10 then
        (s1.chOps (g - 2)).foldl (fun (s : State) p => if p.2.suspended then s.suspAsk p.2 false else s) s1
      else if g = 12 then { s1 with map := { s1.map with held := held } }
      else s1

/-- LEDGER_UPDATE (R276): a pending commit of group RATION applies, then the ledger is updated. `vT` is the voltage at ISNS_T in mV,
`diff` the differential reading in units of 10 µV, `onDie` the energy sensed on die, in units of 1/256 µJ. -/
def ledgerUpdate (vT : Nat) (diff : Int) (onDie : Nat) (s : State) : State :=
  ledgerMove vT diff onDie (if s.rt.on then s.commitNow 0x0D else s)

end Sys2Proof.Machine
end

