-- ==== Sys2Proof/Machine/Shown.lean ====
section
/-!
DEFINITION. The read-only fields that show the state of an engine: what each reads, from the register tables of the chapters. A field
that is not named here reads as the register store holds it.
-/

namespace Sys2Proof.Machine

/-- The low 32 bits of a number and the bits above them. -/
def loWord (v : Nat) : Nat := v % 2 ^ 32

/-- Bits 63 to 32 of a number. -/
def hiWord (v : Nat) : Nat := v / 2 ^ 32 % 2 ^ 32

/-- Word `k` of bytes, byte 4`k` in bits [7:0]. -/
def wordAt (l : List Byte) (k : Nat) : Nat := leAt l (4 * k) 4

/-- The mask of the keys of a table that satisfy `c`, from key `lo` on, `n` of them. -/
def maskKeys {α : Type} (l : List (Nat × α)) (lo n : Nat) (c : α → Bool) : Nat :=
  maskOf (((l.filter (fun p => decide (lo ≤ p.1 ∧ p.1 < lo + n) && c p.2)).map (fun p => p.1 - lo)))

/-- ID, GLB and UPTIME (page 0x00). -/
def State.shown00 (s : State) (a : Nat) : List (Fld × Nat) :=
  if a = 0x01 then [(F.ID_REV_FORM, b2n s.formB)]
  else if a = 0x02 then [(F.ID_UID_LO_UID, wordAt s.uid 0)]
  else if a = 0x03 then [(F.ID_UID_HI_UID, wordAt s.uid 1)]
  else if a = 0x04 then [(F.ID_CAPS_PCIE, b2n s.formB)]
  else if a = 0x08 then
    [(F.GLB_STAT_IN_DOUBT, b2n (s.get F.IDL_STAT_COUNT != 0)), (F.GLB_STAT_PRSNT, b2n (!s.aon.prsntN)),
     (F.GLB_STAT_HOLDUP_OK, b2n s.aon.holdupOk), (F.GLB_STAT_STALE_CAL, b2n s.anyStale),
     (F.GLB_STAT_ERASE_INCOMPLETE, b2n s.eraseIncomplete)]
  else if a = 0x0B then [(F.UPTIME_LO_UPTIME, loWord s.clock)]
  else if a = 0x0C then [(F.UPTIME_HI_UPTIME, hiWord s.clock)]
  else []

/-- The lock groups that are locked down from OTP (R118). -/
def State.lockOtp (s : State) : Nat := s.otpLE 5 0 2 % 2 ^ 14

/-- The lock groups that are locked down: from OTP, for the session, and groups 0x07 and 0x08 while SEALED (R118, R437). -/
def State.lockedDown (s : State) : Nat := (s.lockOtp ||| s.port.session ||| (if s.lifecycle = 3 then 0x180 else 0)) % 2 ^ 14

/-- The service port, access control and commits (pages 0x01 and 0x02). -/
def State.shown01 (s : State) (a : Nat) : List (Fld × Nat) :=
  if a = 0x40 then [(F.SP_CFG_MODE, b2n (bit s.aon.straps 5)), (F.SP_CFG_I2C_ADDR, 0x2C + bits s.aon.straps 3 2)]
  else if a = 0x44 then [(F.UNL_STAT_HOST_OPEN, s.port.lockHost.openGroups), (F.UNL_STAT_SP_OPEN, s.port.lockSp.openGroups)]
  else if a = 0x45 then
    [(F.UNL_FAIL_HOST_BARRED, b2n (8 ≤ s.port.lockHost.fails)), (F.UNL_FAIL_HOST_FAILS, s.port.lockHost.fails),
     (F.UNL_FAIL_SP_BARRED, b2n (8 ≤ s.port.lockSp.fails)), (F.UNL_FAIL_SP_FAILS, s.port.lockSp.fails)]
  else if a = 0x48 then [(F.ACC_LOCK_LOCKED, s.lockedDown)]
  else if a = 0x4A then [(F.ACC_LOCK_OTP_GROUPS, s.lockOtp)]
  else if a = 0x82 then [(F.CMT_PEND_GROUPS, maskOf (s.port.pend.map (·.1)))]
  else if a = 0x83 then [(F.CMT_DIRTY_GROUPS, maskOf ((List.range 15).filter (fun g => s.dirtyKeys g != [])))]
  else []

/-- Reset evidence, images and islands (pages 0x03 to 0x07). -/
def State.shown03 (s : State) (a : Nat) : List (Fld × Nat) :=
  if a = 0xCA then [(⟨0xCA, 0, 8⟩, s.aon.straps)]
  else if a = 0xCB then [(F.RMV_STAT_INFLIGHT, seqCount s.startedOps)]
  else if 0x141 ≤ a ∧ a < 0x159 then
    let k := a - 0x141
    [(⟨a, 0, 32⟩, wordAt (Config.romKeyHash (k / 12)) (k % 12))]
  else if a = 0x180 then
    let held := s.st == stThermalHold
    let off := s.rmv.parked || s.live == false
    [(F.ISL_STAT_CH, if off then 0 else 0xFF), (F.ISL_STAT_ISL, if off then 0 else if held then 0x0F else 0xFF)]
  else []

/-- The Event Router and the watchdogs (pages 0x08 to 0x15), for path window `w`. -/
def State.shown08 (s : State) (a w : Nat) : List (Fld × Nat) :=
  let n := s.get F.EVR_SEL_SRC w
  let e := s.ev n
  let d := if e.pend then e.data else if e.insvc.isSome then e.sdata else 0
  if a = 0x200 then
    [(F.EVR_STAT_SVC_NEST, s.svcNest.length), (F.EVR_STAT_HF_FILL, s.router.hfq.length),
     (F.EVR_STAT_PENDING, (s.router.src.filter (fun p => p.2.pend)).length)]
  else if a = 0x202 then [(F.EVR_SVC_VEC_VEC_BASE, if s.trail.found then Config.sviVecBase % 2 ^ 32 else 0)]
  else if a = 0x204 then
    [(F.EVR_INFO_PEND, b2n e.pend), (F.EVR_INFO_INSVC, b2n e.insvc.isSome), (F.EVR_INFO_HF_COPY, b2n e.hf),
     (F.EVR_INFO_OVR, b2n e.ovr), (F.EVR_INFO_HOLDER, e.insvc.getD 0xF), (F.EVR_INFO_LPRIO, if e.insvc.isSome then e.lprio else 0)]
  else if a = 0x205 then [(F.EVR_DATA_LO_DATA, loWord d)]
  else if a = 0x206 then [(F.EVR_DATA_HI_DATA, hiWord d)]
  else if 0x240 ≤ a ∧ a < 0x24C then [(⟨a, 0, 32⟩, maskKeys s.router.src (32 * (a - 0x240)) 32 (fun e => e.pend))]
  else if 0x24C ≤ a ∧ a < 0x258 then [(⟨a, 0, 32⟩, maskKeys s.router.src (32 * (a - 0x24C)) 32 (fun e => e.insvc.isSome))]
  else if a = 0x500 then
    [(F.WD_STAT_FROZEN, maskOf ((List.range 9).filter (fun k => (s.wd k).frozen))),
     (F.WD_STAT_RUN, maskOf ((List.range 9).filter (fun k => (s.wd k).run && s.wdEnabled k && !(s.wd k).frozen)))]
  else if a = 0x502 then
    let v := s.wd (s.get F.WD_SEL_WD w)
    [(F.WD_INFO_ELAPSED, min 0xFFFF (v.elapsed / 10)), (F.WD_INFO_OPEN, b2n (v.min ≤ v.elapsed)), (F.WD_INFO_FIRST, b2n v.first)]
  else []

/-- Thermal and supply monitors (pages 0x16 and 0x17). -/
def State.shown16 (s : State) (a w : Nat) : List (Fld × Nat) :=
  if a = 0x585 then
    let v := s.sensor (s.get F.THERM_SENS_SEL_SENSOR w)
    [(F.THERM_SENS_FAIL, b2n v.failed), (F.THERM_SENS_READING, v.reading)]
  else if a = 0x586 then
    [(F.SUP_STAT_CLASS, (List.range 4).foldl (fun v g => v + (s.chan (2 * g)).vclass % 4 * 4 ^ g) 0)]
  else if a = 0x588 then [(F.SUP_V_MV, tget 0 s.therm.rails (s.get F.SUP_V_SEL_RAIL w))]
  else []

/-- Are CMD credits being granted (R153)? -/
def State.cmdOpen (s : State) : Bool := s.agl.state == 6 && s.st != stTrailhead && s.st != stRemoving

/-- The host link and the PCI Express endpoint (pages 0x18 to 0x23). -/
def State.shown18 (s : State) (a : Nat) : List (Fld × Nat) :=
  let l := s.agl
  let up := decide (6 ≤ l.state ∧ l.state ≤ 0xA)
  if a = 0x600 then
    [(F.AGL_STAT_POL_INV, l.pol), (F.AGL_STAT_ACTIVE, l.active), (F.AGL_STAT_CMD_OPEN, b2n s.cmdOpen),
     (F.AGL_STAT_REVERSED, b2n l.reversed), (F.AGL_STAT_UP, b2n up), (F.AGL_STAT_WIDTH, l.width), (F.AGL_STAT_GEN, l.gen),
     (F.AGL_STAT_STATE, l.state)]
  else if a = 0x640 then
    [(F.AGL_CRED_CMD_OUT, (l.cmdLimit + 4096 - l.cmdUsed) % 4096), (F.AGL_CRED_CTL_AVAIL, min 0xFF l.ctlAvail),
     (F.AGL_CRED_RDAT_AVAIL, l.rdatAvail)]
  else if a = 0x641 then [(F.AGL_EQ_RES_GEN_FAILED, l.failed), (F.AGL_EQ_RES_PRESET, if l.gen ≤ 1 then 0 else l.presets)]
  else if a = 0x800 then
    let c := s.pcie
    [(F.PCIE_STAT_PLL_FAIL, b2n c.pllFail), (F.PCIE_STAT_LTSSM, c.ltssm), (F.PCIE_STAT_L1SS, c.l1ss), (F.PCIE_STAT_DL_UP, b2n c.dlUp),
     (F.PCIE_STAT_SPEED, c.speed), (F.PCIE_STAT_WIDTH, c.width), (F.PCIE_STAT_DSTATE, if c.d3 then 3 else 0)]
  else []

/-- Host queues and the Logbook (pages 0x24 to 0x2D). -/
def State.shown24 (s : State) (a w q : Nat) : List (Fld × Nat) :=
  let v := s.qp q
  let st (x : QpState) : Nat := match x with | .absent => 0 | .active => 1 | .deleting => 2
  if a = 0x900 then [(F.HQ_STAT_SLOTS_FREE, 4096 - s.slotsUsed), (F.HQ_STAT_INFLIGHT, s.host.flights.length)]
  else if a = 0x909 then
    [(F.QP_STATE_SQ_FILL, v.fill), (F.QP_STATE_SQ_TAIL, v.tail), (F.QP_STATE_SQ_HEAD, v.head), (F.QP_STATE_BOUND, b2n v.bound),
     (F.QP_STATE_STATE, st v.st)]
  else if a = 0x90A then
    [(F.QP_CQ_STATE_PHASE, b2n v.phase), (F.QP_CQ_STATE_CQ_HEAD, v.cqHead), (F.QP_CQ_STATE_CQ_TAIL, v.cqTail)]
  else if a = 0x90C then [(F.QP_COUNT_HELD, v.ready.length), (F.QP_COUNT_INFLIGHT, (s.flightsOf q).length)]
  else if a = 0x940 then [(F.QP_ACTIVE_LO_ACTIVE, maskKeys s.host.qps 0 32 (fun v => v.st != .absent))]
  else if a = 0x941 then [(F.QP_ACTIVE_HI_ACTIVE, maskKeys s.host.qps 32 32 (fun v => v.st != .absent))]
  else if a = 0xB00 then
    [(F.LOG_STAT_PREV_DEGRADED, b2n s.aon.prevDegraded), (F.LOG_STAT_DEGRADED, b2n s.log.degraded), (F.LOG_STAT_NEWEST, s.log.newest)]
  else if a = 0xB01 then [(F.LOG_SEQ_SEQ, s.log.newestSeq)]
  else if a = 0xB02 then
    [(F.LOG_COUNT_HORIZON, s.log.horizon.length), (F.LOG_COUNT_OPEN, (s.host.flights.filter (fun p => p.2.logOpen)).length)]
  else if 0xB06 ≤ a ∧ a < 0xB0A then
    let i := s.get F.IDL_SEL_INDEX w
    [(⟨a, 0, 32⟩, if i < s.get F.IDL_STAT_COUNT then wordAt (s.idlEntry i) (a - 0xB06) else 0)]
  else if a = 0xB41 then [(F.LOG_SHADOW_FILL, s.log.shadowFill)]
  else []

/-- Hamper and the queue fabric (pages 0x30 to 0x3F). -/
def State.shown30 (s : State) (a w q : Nat) : List (Fld × Nat) :=
  let o := s.get F.OWN_SEL_OWNER w
  let v := s.fq q
  let d := fqDepth q
  let rdy := min v.vis v.ring.length
  if a = 0xC00 then
    [(F.HMP_STAT_RETIRED, min 0xFF s.hmpRetired), (F.HMP_STAT_WAITERS, s.hmp.waits.length),
     (F.HMP_STAT_STATE, b2n s.hmp.low + 2 * b2n s.hmp.crit), (F.HMP_STAT_FREE, s.hmpFree)]
  else if a = 0xC04 then [(F.OWN_STAT_HELD, s.hmpHeld o), (F.OWN_STAT_PEAK, tget 0 s.hmp.peak o)]
  else if a = 0xC05 then
    match s.hmp.oldest.find? (fun p => p.1 == o) with
    | some (_, x) => [(F.OWN_AGE_VALID, 1), (F.OWN_AGE_OLDEST, x.1), (F.OWN_AGE_AGE, min 0xFFFF x.2)]
    | none => []
  else if a = 0xE00 then
    [(F.FAB_STAT_SPILL_BUFS, s.fqs.foldl (fun n p => n + p.2.bufs.length) 0), (F.FAB_STAT_FC1, b2n s.balls.fc1),
     (F.FAB_STAT_FC0, b2n s.balls.fc0)]
  else if a = 0xE03 then
    [(F.FQ_INFO_SPILL, b2n (fqSpill q)), (F.FQ_INFO_MODE, fqMode q), (F.FQ_INFO_WIDTH, Nat.log2 (fqW q) - 3),
     (F.FQ_INFO_PWIDTH, Nat.log2 (fqPW q) - 2), (F.FQ_INFO_DEPTH, d)]
  else if a = 0xE04 then
    [(F.FQ_PTR_WR, (v.rd + v.ring.length) % (2 * d)), (F.FQ_PTR_VIS, (v.rd + rdy) % (2 * d)), (F.FQ_PTR_RD, v.rd % (2 * d))]
  else if a = 0xE05 then
    [(F.FQ_FILL_SPILLED, v.spill.length), (F.FQ_FILL_PENDING, v.ring.length - rdy + v.parts.length), (F.FQ_FILL_READY, rdy)]
  else if a = 0xE0A then [(F.FQ_WMSTATE_LO_STATE, maskKeys s.fqs 0 32 (fun v => v.wm))]
  else if a = 0xE0B then [(F.FQ_WMSTATE_HI_STATE, maskKeys s.fqs 32 16 (fun v => v.wm))]
  else []

/-- The ledger (page 0xC4). -/
def State.shownC4 (s : State) (a : Nat) : List (Fld × Nat) :=
  if a = 0x3100 then
    [(F.RATION_STAT_ENABLED, b2n s.rt.on), (F.RATION_STAT_ISNS_OK, b2n s.rt.isns), (F.RATION_STAT_DERATED, b2n s.rt.derated),
     (F.RATION_STAT_HU_READY, b2n (s.aon.holdupOk && decide (0 < s.rt.avail))),
     (F.RATION_STAT_BLOCKING, maskOf ((List.range 8).filter (fun n => (s.chOps n).any (fun p => p.2.blocking && p.2.st == .granted))))]
  else if a = 0x3101 then [(F.RATION_BAL_BALANCE, ofSigned 32 s.rt.bal)]
  else if a = 0x3104 then [(F.RATION_HU_STAT_HU_OPS, s.huOps), (F.RATION_HU_STAT_HU_OUT, (s.huOut + 255) / 256)]
  else []

/-- Channel `n` (page 0x40 + 8`n`), offset `o`. -/
def State.shown40 (s : State) (n o w : Nat) : List (Fld × Nat) :=
  let c := s.chan n
  let d := s.get (F.CH_DIE_SEL_DIE n) w
  let v := s.die n d
  if o = 0 then
    let st := if s.rmv.parked then 5 else if s.chHold n then 4 else if c.training then 2 else c.state
    [(F.CH_STAT_STARTED n, seqCount (s.startedOps.filter (fun p => p.2.ch == n))), (F.CH_STAT_DIES n, (s.diesInUse n).length),
     (F.CH_STAT_CLASS_V n, c.vclass), (F.CH_STAT_RATE n, s.rate n), (F.CH_STAT_PROTO n, s.get (F.CH_IF_PROTO n)), (F.CH_STAT_STATE n, st)]
  else if o = 7 then
    [(F.CH_DIE_INFO_STATE n, v.state), (F.CH_DIE_INFO_CLASS n, v.cls), (F.CH_DIE_INFO_PLANES n, v.planes), (F.CH_DIE_INFO_EXT n, v.ext),
     (F.CH_DIE_INFO_JEDEC n, b2n v.jedec), (F.CH_DIE_INFO_SUSP n, b2n (v.state == 1 && bit (s.diePar n d).caps 0)),
     (F.CH_DIE_INFO_TMO n, v.tmo)]
  else if o = 8 then [(F.CH_DIE_ID_LO_ID n, wordAt v.ident 0)]
  else if o = 9 then [(F.CH_DIE_ID_HI_ID n, wordAt v.ident 1)]
  else if o = 0xB then
    [(F.GUARD_STAT_TOTAL n, s.guardList.length), (F.GUARD_STAT_OPEN n, (s.guardList.filter (fun p => leAt p.2 0 1 % 8 == n)).length)]
  else []

/-- Sequencer `n` (pages 0x80 + 2`n` and 0x81 + 2`n`), register `o` of the pair of pages. -/
def State.shown80 (s : State) (n o w : Nat) : List (Fld × Nat) :=
  let q := s.sq n
  if o = 0 then
    let waits := match q.xch with | some x => x.entry || x.rolled || s.quietDue n | none => false
    let st := if q.st = 4 then 4 else if q.halted then 3 else if waits then 5 else q.st
    [(F.SEQ_STAT_PC n, if q.st = 4 then q.fltPc else q.pc), (F.SEQ_STAT_RSTK n, q.stack.length), (F.SEQ_STAT_INFLT n, b2n q.inflt),
     (F.SEQ_STAT_INSVC n, b2n q.insvc), (F.SEQ_STAT_EN n, b2n q.en), (F.SEQ_STAT_STATE n, st)]
  else if o = 0x47 then
    let a := s.get (F.SEQ_PMEM_SEL_ADDR n) w
    [(F.SEQ_PMEM_DATA_WORD n, if q.bad.contains a then 0 else (progWord q.progs a).toNat)]
  else []

/-- The codec (pages 0x90 and 0x98). -/
def State.shown90 (s : State) (a w : Nat) : List (Fld × Nat) :=
  if a = 0x2400 then
    [(F.CODEC_STAT_RETRYING, min 0xFF (s.cws.filter (fun p => (p.2.step != 0 || p.2.soft != 0) && p.2.phase != .done)).length),
     (F.CODEC_STAT_SOFT_WAIT, min 0xF (s.cws.filter (fun p => p.2.phase == .softWait)).length),
     (F.CODEC_STAT_BUSY, maskOf ((List.range 4).filter (fun e => s.cws.any (fun p => p.2.phase == .busy e))))]
  else if a = 0x2602 then [(F.RTY_LEARN_STEP, (s.die (s.get F.RTY_LEARN_SEL_CH w) (s.get F.RTY_LEARN_SEL_DIE w)).learn)]
  else []

/-- MAP, streams and INFLATE (pages 0x9C to 0xAB). -/
def State.shown9C (s : State) (a w : Nat) : List (Fld × Nat) :=
  let t := s.get F.STR_SEL_STREAM w
  let x := s.stream t
  if a = 0x2700 then
    [(F.MAP_STAT_FAULTS, s.map.faults.length), (F.MAP_STAT_DIRTY, (s.map.pages.filter (fun p => p.dirty)).length),
     (F.MAP_STAT_CACHED, s.map.pages.length)]
  else if 0x2740 ≤ a ∧ a < 0x2750 then
    let v := a - 0x2740
    [(⟨a, 27, 1⟩, s.get F.VOL_CFG_MODE v), (⟨a, 26, 1⟩, b2n (s.volKeyed v)), (⟨a, 17, 9⟩, (s.map.pages.filter (fun p => p.vol == v)).length)]
  else if a = 0x2900 then [(F.STR_STAT_OPEN, maskKeys s.map.streams 0 32 (fun x => x.state == 1))]
  else if a = 0x2904 then
    [(F.STR_INFO_0_STATE, x.state), (F.STR_INFO_0_VOL, x.vol), (F.STR_INFO_0_QID, x.qid), (F.STR_INFO_0_TAG, x.tag)]
  else if a = 0x2905 then [(F.STR_INFO_1_W, x.w)]
  else if a = 0x2906 then [(F.STR_INFO_2_CREDIT, x.credit), (F.STR_INFO_2_RESIDENT, x.resident.length)]
  else if a = 0x2907 then [(F.STR_INFO_3_END, x.stop)]
  else if a = 0x2A00 then
    [(F.INF_STAT_DICT, maskOf ((List.range 4).filter (fun d => s.dictCode d == 1))), (F.INF_STAT_BUSY, 2 ^ s.contexts.length - 1)]
  else []

/-- SECURE (page 0xAC). -/
def State.shownAC (s : State) (a w : Nat) : List (Fld × Nat) :=
  let volOf (k : Nat) : Nat := match s.prot.slots.find? (fun p => p.1 == k) with | some (_, x) => x.1 | none => 0
  let vols (lo : Nat) : Nat := (List.range 8).foldl (fun v i => v + volOf (lo + i) % 16 * 16 ^ i) 0
  if a = 0x2B00 then
    [(F.PROT_STAT_SES_BEGUN, maskKeys s.prot.sessions 0 4 (fun x => x.st == 1)),
     (F.PROT_STAT_SES_AUTH, maskKeys s.prot.sessions 0 4 (fun x => x.st == 2)),
     (F.PROT_STAT_REENROLS, countBits (s.otpLE 6 1 1) 8), (F.PROT_STAT_LIFECYCLE, s.lifecycle)]
  else if a = 0x2B04 then [(F.KEY_STAT_LOADED, maskKeys s.prot.slots 0 16 (fun _ => true))]
  else if a = 0x2B05 then [(F.KEY_BIND_LO_VOLS, vols 0)]
  else if a = 0x2B06 then [(F.KEY_BIND_HI_VOLS, vols 8)]
  else if a = 0x2B08 then
    match s.impRecord with
    | some l => [(F.IMP_REC_REC_OK, 1), (F.IMP_REC_DIES, impDies l)]
    | none => []
  else if a = 0x2B0A then [(F.CTR_LO_VALUE, loWord (s.ctrValue (s.get F.CTR_SEL_INDEX w)))]
  else if a = 0x2B0B then [(F.CTR_HI_VALUE, hiWord (s.ctrValue (s.get F.CTR_SEL_INDEX w)))]
  else if 0x2B0C ≤ a ∧ a < 0x2B14 then [(⟨a, 0, 32⟩, if 2 ≤ s.lifecycle then wordAt s.impHash (a - 0x2B0C) else 0)]
  else if 0x2B14 ≤ a ∧ a < 0x2B24 then [(⟨a, 0, 32⟩, if 1 ≤ s.lifecycle then wordAt s.devPub (a - 0x2B14) else 0)]
  else []

/-- The keep die's stores (pages 0xB4 to 0xB8). -/
def State.shownB4 (s : State) (a w : Nat) : List (Fld × Nat) :=
  let c := s.get F.NOR_WEAR_SEL_SECTOR w
  let main (o : Nat) : Nat := maskOf ((List.range 32).filter (fun j => s.keep.norWp.contains (0x41 + o + j)))
  if a = 0x2D00 then
    let sus := match s.keep.norOp with | some op => op.suspended | none => false
    let kind := match s.keep.norOp with | some op => if op.erase then 2 else 1 | none => 0
    let sec := match s.keep.norOp with | some op => if op.erase then op.sector else 0xFF | none => 0xFF
    [(F.NOR_STAT_PEND, s.norPend), (F.NOR_STAT_OP_SECTOR, sec), (F.NOR_STAT_SUSPENDED, b2n sus),
     (F.NOR_STAT_BUSY, b2n s.keep.norOp.isSome), (F.NOR_STAT_OP, kind)]
  else if a = 0x2D04 then [(F.NOR_WEAR_OVER, b2n (ratedErases c ≤ s.norWear c)), (F.NOR_WEAR_COUNT, s.norWear c)]
  else if a = 0x2D06 then
    [(F.NOR_PW_STAT_STATE, if s.retired then 5 else match s.activeEntry with | some k => k + 1 | none => 0)]
  else if a = 0x2D07 then [(F.NOR_PROT_0_PSEC, s.otpLE 9 8 1)]
  else if a = 0x2D08 then [(F.NOR_PROT_1_MSEC_LO, s.otpLE 9 9 4)]
  else if a = 0x2D09 then [(F.NOR_PROT_2_MSEC_HI, s.otpLE 9 13 4)]
  else if a = 0x2D0A then [(F.NOR_WP_0_PSEC, maskOf ((List.range 8).filter (fun k => s.keep.norWp.contains k)))]
  else if a = 0x2D0B then [(F.NOR_WP_1_MSEC_LO, main 0)]
  else if a = 0x2D0C then [(F.NOR_WP_2_MSEC_HI, main 32)]
  else if a = 0x2D81 then
    let n := s.get F.OTP_SEL_SLOT w
    [(F.OTP_DATA_DATA, if n = 1 then 0 else s.otpLE n (4 * s.get F.OTP_SEL_WORD w) 4)]
  else if a = 0x2D85 then [(F.OTP_LOCKS_LOCKED, s.keep.otpLocks)]
  else []

/-- Calibration (pages 0xBC to 0xBF). -/
def State.shownBC (s : State) (a : Nat) : List (Fld × Nat) :=
  if a = 0x2F00 then
    [(F.CAL_STAT_TRAINING, maskKeys s.chans 0 8 (fun c => c.training)), (F.CAL_STAT_STALE_CH, maskKeys s.chans 0 8 (fun c => c.stale)),
     (F.CAL_STAT_STALE_LN, s.get F.CAL_LN_STALE), (F.CAL_STAT_SNAP1_OK, b2n (s.snapPass 1)),
     (F.CAL_STAT_SNAP0_OK, b2n (s.snapPass 0))]
  else if a = 0x2F06 ∨ a = 0x2F07 then
    let l := s.snapAt (snapOff (a - 0x2F06))
    if s.snapPass (a - 0x2F06) then [(⟨a, 31, 1⟩, 1), (⟨a, 16, 8⟩, leAt l 12 1), (⟨a, 0, 16⟩, leAt l 0 2)] else []
  else if 0x2F40 ≤ a ∧ a < 0x2F48 then
    let n := a - 0x2F40
    let age := match s.cal.since.find? (fun p => p.1 == n) with | some (_, t) => min 0xFF ((s.clock - t) / 100000) | none => 0
    [(F.CAL_CH_AGE n, age), (F.CAL_CH_STALE n, b2n (s.chan n).stale)]
  else []

/-- The cascade and tests (pages 0xC8 to 0xCC). -/
def State.shownC8 (s : State) (a w : Nat) : List (Fld × Nat) :=
  let m := tget {} s.casc.members (s.get F.CASC_MSEL_MEMBER w)
  let joined := maskKeys s.casc.members 0 4 (fun v => v.joined)
  if a = 0x3200 then
    let pair := s.get F.CASC_CFG_TOPO == 1
    let up0 := s.casc.cl0.state == 6
    let up1 := if pair then up0 else s.casc.cl1.state == 6
    let own := if s.cascRole = 1 then joined + b2n s.works else if s.cascRole = 2 then b2n s.casc.accepted else 0
    [(F.CASC_STAT_EPOCH, s.casc.epoch), (F.CASC_STAT_CL1_UP, b2n up1), (F.CASC_STAT_CL0_UP, b2n up0), (F.CASC_STAT_JOINED, own)]
  else if a = 0x3203 then
    [(F.CASC_MINFO_SVI_VER, m.sviVer), (F.CASC_MINFO_REASON, m.reason), (F.CASC_MINFO_STATE, m.state), (F.CASC_MINFO_FORM, b2n m.form),
     (F.CASC_MINFO_JOINED, b2n m.joined)]
  else if a = 0x3306 then
    let run (l : List Nat) : Nat := maskOf ((List.range l.length).filter (fun i => s.test.runs.any (fun r => r.1 == listGet 0 l i)))
    [(F.TP_RUNNING_CL, run [0x10, 0x11]), (F.TP_RUNNING_CH, run [0x20, 0x21, 0x22, 0x23, 0x24, 0x25, 0x26, 0x27]),
     (F.TP_RUNNING_LN, run [0, 1, 2, 3])]
  else []

/-- The fields of the register at address `a` that show an engine: `p` is the path that reads, `w` the window it reaches. -/
def State.shown (s : State) (p : Path) (a w : Nat) : List (Fld × Nat) :=
  let pg := a / 64
  let pw := pathNum p
  if pg = 0 then s.shown00 a
  else if pg < 3 then s.shown01 a
  else if pg < 8 then s.shown03 a
  else if pg < 0x16 then s.shown08 a pw
  else if pg < 0x18 then s.shown16 a pw
  else if pg < 0x24 then s.shown18 a
  else if pg < 0x30 then s.shown24 a pw w
  else if pg < 0x40 then s.shown30 a pw w
  else if pg < 0x80 then (if pg % 8 = 0 then s.shown40 ((pg - 0x40) / 8) (a % 64) pw else [])
  else if pg < 0x90 then s.shown80 ((pg - 0x80) / 2) (a % 128) pw
  else if pg < 0x9C then s.shown90 a pw
  else if pg < 0xAC then s.shown9C a pw
  else if pg < 0xB4 then s.shownAC a pw
  else if pg < 0xBC then s.shownB4 a pw
  else if pg < 0xC4 then s.shownBC a
  else if pg < 0xC8 then s.shownC4 a
  else s.shownC8 a pw

/-- What the register holds for a reader: the stored word with the shown fields in their places. -/
def State.showWord (s : State) (p : Path) (a w : Nat) : Nat :=
  (s.shown p a w).foldl (fun v f => putBits v f.1.lo f.1.width f.2) (s.reg a w).toNat

end Sys2Proof.Machine
end

