-- ==== Sys2Proof/Machine/Power.lean ====
section
/-!
DEFINITION. Supplies, resets, presence and removal: the events of chapters 2 and 3 (R43 to R68).
-/

namespace Sys2Proof.Machine

/-! ### Supplies and power-on reset (R43 to R45) -/

/-- Is VDD_KEEP (rail 4 of Table 21-5) valid, so that AON runs? -/
def State.keepValid (s : State) : Bool := s.aon.rails.contains 4

/-- AON at power-on reset: its registers and its time base start anew; the input levels are what they are (R65, Table 3-4). -/
def State.aonReset (s : State) : State :=
  { s with
    clock := 0, regs := s.regs.filter (fun p => !(decide (0xC0 ≤ p.1) && decide (p.1 < 0x100)))
    aon := { s.aon with
      por := false, straps := 0, sampled := false, logDegraded := false, prevDegraded := false, validFrom := 0, presFrom := 0, xtal := false
      causes := [], causesAt := none } }

/-- SUPPLY_RAIL_VALID (R43): a monitored rail rises above 90 % of nominal, or the crystal oscillator, which AON starts once VDD_KEEP is
valid, is stable. VDD_KEEP becoming valid is the power-on reset of AON (Table 3-4). Rails 5 to 8 of Table 21-5 are the group rails, which
power-on reset does not watch: their outputs leave high impedance (R46). -/
def supplyRailValid (r : Supply) (s : State) : State :=
  match r with
  | .rail r =>
    if 5 ≤ r then { s with balls := { s.balls with vccqLow := s.balls.vccqLow.filter (· != r - 5) } }
    else if s.aon.rails.contains r then s
    else
      let s1 := if r = 4 then s.aonReset else s
      { s1 with aon := { s1.aon with rails := r :: s1.aon.rails, validFrom := s1.clock } }
  | .xtal =>
    if s.aon.xtal ∨ s.aon.rails.contains 4 = false then s else { s with aon := { s.aon with xtal := true, validFrom := s.clock } }

/-- POR_RELEASE (R43): internal power-on reset is released 1 ms after all monitored rails are valid and the crystal is stable. After a
power-on the evidence is what the AON registers hold at reset: POR set, LAST 0 and RST_TIME 0 (R69). -/
def porRelease (s : State) : State :=
  if s.aon.por = false ∧ (List.range 5).all (fun r => s.aon.rails.contains r) ∧ s.aon.xtal ∧ s.aon.validFrom + 1000 ≤ s.clock then
    { s with aon := { s.aon with por := true } }
  else s

/-- VDD_KEEP is lost: a word program in progress leaves its word undetermined (Table 19-3). -/
def State.norLoss (s : State) : State :=
  match s.keep.norOp with
  | some op =>
    match op.erase, op.words with
    | false, (a, _) :: _ =>
      let (n, s1) := s.takeFree
      s1.norPut a ((List.range 8).map (fun i => BitVec.ofNat 8 (Config.freeByte n i)))
    | _, _ => s
  | none => s

/-- VDD_KEEP_LOSS (R45): AON and KMEM lose their state, the logic die is held in reset, the contents of the stores stay. -/
def vddKeepLoss (s : State) : State :=
  if s.keepValid then
    let s0 := match s.keep.norOp with
      | some op => if op.erase then s.norReset else s.norLoss
      | none => s
    let s1 := s0.logicReset
    let s2 := { s1 with test := {}, keep := s1.keep.afterPor }
    { s2.aonReset with
      regs := [], aon := { s2.aonReset.aon with rails := s.aon.rails.filter (· != 4) } }
  else s

/-- BROWNOUT (R45): a monitored rail has been below 85 % of nominal for 2 µs. The logic die is held in reset until power-on reset is
released again. Without VDD_KEEP the rail is no longer valid, and nothing records it. A group rail is not monitored: its outputs go to high
impedance (R46). -/
def brownout (rail : Nat) (s : State) : State :=
  let drop (s : State) : State := { s with aon := { s.aon with por := false, rails := s.aon.rails.filter (· != rail) } }
  if rail = 4 then vddKeepLoss s
  else if 5 ≤ rail then { s with balls := { s.balls with vccqLow := (rail - 5) :: s.balls.vccqLow.filter (· != rail - 5) } }
  else if s.aon.rails.contains rail then drop (if s.keepValid then s.resetNow [8] true else s)
  else s

/-- RESET_N_LOW (R44): RESET_N has been low for 1 µs: a pin reset in any device state (Table 2-15), also while power-on reset holds the logic
die. Without VDD_KEEP there is no AON to record it. -/
def resetNLow (s : State) : State :=
  let s1 := if s.keepValid && s.aon.resetN then s.resetNow [1] true else s
  { s1 with aon := { s1.aon with resetN := false } }

/-- RESET_N_RISE (R44): the Trailhead may start. -/
def resetNRise (s : State) : State := { s with aon := { s.aon with resetN := true } }

/-! ### Orderly resets (R66) -/

/-- ORDERLY_RESET (R66): a SOFT, HOST or CASCADE reset is requested, or the one in hand has come to its end. THERMAL is requested by the
samples of the junction (R504). -/
def orderlyReset (cause : Cause) (s : State) : State :=
  if s.rmv.orderly.isSome then s.orderlyTry
  else match cause with
    | .thermal => s
    | .cascade => if s.cascRole = 2 then s.orderlyStart .cascade else s
    | c => s.orderlyStart c

/-- ORDERLY_RESET_LIMIT (R66): 20 ms after the request, what has not ended receives an ONFI RESET. -/
def orderlyResetLimit (s : State) : State :=
  if s.rmv.orderly.isSome ∧ s.rmv.orderlyFrom + 20000 ≤ s.clock then (s.resetMedia 2).orderlyTry else s

/-! ### Presence (R53) -/

/-- Do both removal inputs say that the device is present? -/
def State.present (s : State) : Bool := !s.aon.prsntN && s.aon.pwrFailN

/-- PRESENCE_INPUT_CHANGE (R53): the levels of PRSNT_N and PWR_FAIL_N; a change restarts the count. -/
def presenceInputChange (prsntN pwrFailN : Bool) (s : State) : State :=
  if s.aon.prsntN = prsntN ∧ s.aon.pwrFailN = pwrFailN then s
  else { s with aon := { s.aon with prsntN, pwrFailN, presFrom := s.clock } }

/-- PRESENCE_ARMED (R53): present for 1.0 ms, in any device state. -/
def presenceArmed (s : State) : State :=
  if s.keepValid && s.present && s.get F.RMV_STAT_ARMED == 0 && decide (s.aon.presFrom + 1000 ≤ s.clock) then
    let s1 := s.set F.RMV_STAT_ARMED 1
    if s.live && !s.balls.clocksGated then s1.post 6 1 else s1
  else s

/-! ### Removal (R55 to R64) -/

/-- REMOVAL (R55 to R57): an input has been changed for 400 ns with presence armed; of both in one sample PRSNT_N is recorded
(Table 3-6). -/
def removal (prsnt pwrFail : Bool) (s : State) : State :=
  if s.live && s.get F.RMV_STAT_ARMED == 1 && s.st != stRemoving && (prsnt || pwrFail) then
    let s1 := { s with aon := { s.aon with
      prsntN := s.aon.prsntN || prsnt, pwrFailN := s.aon.pwrFailN && !pwrFail, presFrom := s.clock } }
    if prsnt then s1.removalStart 1 8 else s1.removalStart 2 9
  else s

/-- LOGGING_PHASE (R59): settling has ended, and the remaining records are written. -/
def loggingPhase (s : State) : State :=
  if s.st = stRemoving ∧ s.get F.RMV_STAT_PHASE = 2 ∧ s.settled then
    (if s.logRuns then s.logRemaining else s).set F.RMV_STAT_PHASE 3
  else s

/-- Every link's lanes fall into electrical idle. -/
def State.lanesOff (s : State) : State :=
  { s with
    agl := { s.agl with state := 0 }, balls := { s.balls with lanesIdle := true }, rmv := { s.rmv with lanesStarted := false }
    casc := { s.casc with cl0 := { s.casc.cl0 with state := 0 }, cl1 := { s.casc.cl1 with state := 0 } }
    pcie := { s.pcie with ltssm := 0, dlUp := false } }

/-- PARK (R56, R59, R63, R493): the marker is cleared, the park record written, and the device parks. A removal that came before step 5
of the Trailhead leaves both to the next Trailhead. -/
def park (s : State) : State :=
  if s.st = stRemoving ∧ s.get F.RMV_STAT_PHASE = 3 then
    let s1 := if s.logRuns then
        let s0 := s.writeHeader (s.headerBits &&& 2)
        (s0.logNew (fun q => s0.kindEntry q 3 (s0.get F.RMV_STAT_SRC) 0)).2
      else s
    let s2 := (s1.set F.RMV_STAT_PHASE 4).lanesOff
    { s2 with
      rmv := { s2.rmv with parked := true, parkedFrom := s2.clock }
      balls := { s2.balls with ceHigh := true, wpLow := true, clocksGated := true, alert := s2.get F.RMV_CFG_PARK_ALERT == 1 }
      wds := s2.wds.map (fun (p : Nat × Watchdog) => (p.1, { p.2 with run := false })) }
  else s

/-- REJOIN_RESET (R64): parked, and present for 10 ms since then. -/
def rejoinReset (s : State) : State :=
  if s.rmv.parked && s.present && decide (max s.rmv.parkedFrom s.aon.presFrom + 10000 ≤ s.clock) then s.resetNow [5] false else s

/-- PLL_FAIL (R48, Table 2-15): the reference-clock PLL of PCI Express does not lock; the lanes stay in electrical idle. -/
def pllFail (s : State) : State :=
  if s.live && s.pcieMode && bit s.aon.straps 6 then
    ({ s with pcie := { s.pcie with pllFail := true, ltssm := 0 } }).setLanes
  else s

end Sys2Proof.Machine
end

