-- ==== Sys2Proof/Machine/Trailhead.lean ====
section
/-!
DEFINITION. The Trailhead (ch. 04): its steps as the table's rows, from the sampling of the straps to the device state it ends in.
A step begins with its first row, and `BOOT_PROG.STEP` shows the last step begun (log entry 134).
-/

namespace Sys2Proof.Machine

/-- Does the Trailhead go on: begun, not ended by a removal? -/
def State.trailOn (s : State) : Bool := s.live && s.st == stTrailhead && !s.trail.abandoned

/-- Has step `k` been done? -/
def State.did (s : State) (k : Nat) : Bool := s.trail.done.contains k

/-- Step `k` is done. -/
def State.didStep (s : State) (k : Nat) : State := { s with trail := { s.trail with done := k :: s.trail.done } }

/-- Step `k` begins. -/
def State.setStep (s : State) (k : Nat) : State := ({ s with trail := { s.trail with step := k } }).set F.BOOT_PROG_STEP k

/-! ### Step 1: straps and groups (R40, R41, R49, R50) -/

/-- The class of a group's rail in mV: 1 for 1.2 V, 2 for 1.8 V, 0 unpowered (R40). -/
def vccqClass (mv : Nat) : Nat := if 1080 ≤ mv ∧ mv ≤ 1320 then 1 else if 1620 ≤ mv ∧ mv ≤ 1980 then 2 else 0

/-- Report the straps (R50): `straps` has HMODE in bits [1:0], CASC_EN, CASC_ID in [4:3], SP_MODE, REFCK_EN and TMODE, as STRAP_RAW. -/
def State.showStraps (s : State) : State :=
  let v := s.aon.straps
  let en := bit v 2
  let cid := bits v 3 2
  let s1 := s.setReg 0x00CA (BitVec.ofNat 32 v)
  ((s1.set F.GLB_STAT_HOST_MODE (if s.formB ∧ v % 4 = 1 then 1 else 0)).set F.GLB_STAT_CASC_ID cid).set F.GLB_STAT_CASC_ROLE
    (if en then (if cid = 0 then 1 else 2) else 0)

/-- TRAILHEAD_START (R44, R49, R84): power-on reset is released and RESET_N is high. `straps` are the levels at the straps, `vccq` the
group rails in mV, `start` what step 1 finds: it tests the SVC SRAM (R529) and posts BIST_DONE
with memory 0's result (log entry 135). -/
def trailheadStart (straps : Nat) (vccq : List Nat) (start : StartIn) (s : State) : State :=
  if s.aon.por = false ∨ s.aon.resetN = false ∨ s.live then s
  else
    let s1 := if s.aon.sampled then s else { s with aon := { s.aon with straps := straps % 256, sampled := true } }
    let s2 := { s1 with trail := { ({} : Trail) with step := 1, start := s1.clock } }
    let s3 := (List.range 8).foldl (fun (s : State) n => s.setChan n { s.chan n with vclass := vccqClass (listGet 0 vccq (n / 2)) }) s2
    let s4 := { s3 with rt := { s3.rt with isns := !(decide (start.isns.1 < 50) && decide (start.isns.2 < 50)) } }
    let s5 := (((s4.set F.RMV_STAT_SRC 0).set F.RMV_STAT_PHASE 0).set F.RMV_STAT_RESET_OPS 0).set F.SP_PAGE_PAGE 0
    (((s5.showStraps).setStep 1).setState stTrailhead 0).post 361 (if start.sramBad then 1 + 3 * 256 else 1 * 256)

/-! ### Step 2: the keep die (R73, R74, R92, R462, R473) -/

/-- The trim record in slot `k` of PSEC_6, when its magic and CRC pass. -/
def State.trimSlot (s : State) (k : Nat) : Option (List Byte) :=
  let l := s.norBytes (0x18000 + 256 * k) 256
  if l.take 4 = [0x54, 0x52, 0x4D, 0x31] ∧ leAt l 252 4 = crc32 (l.take 252) then some l else none

/-- The trim record in use (R473). -/
def State.trimRecord (s : State) : Option (List Byte) :=
  (List.range 64).foldl (fun b k => match b, s.trimSlot k with
    | none, x => x
    | some l, some m => if genAbove (leAt m 4 4) (leAt l 4 4) then some m else some l
    | some l, none => some l) none

/-- Load the trims, or the defaults of R474. -/
def State.trimLoad (s : State) : State :=
  match s.trimRecord with
  | some l =>
    let sg (o : Nat) : Int := toSigned 16 (leAt l o 2)
    let t := ((List.range 11).map (fun i => (i, sg (16 + 2 * i)))) ++ [(11, (leAt l 38 2 : Int))]
      ++ ((List.range 6).map (fun i => (12 + i, sg (40 + 2 * i))))
    let slot := ((List.range 64).find? (fun k => s.trimSlot k == some l)).getD 0
    let s1 := ({ s with trail := { s.trail with trims := t.filter (fun p => p.2 != 0) } }).set F.CAL_STAT_TRIM_SRC 1
    (s1.set F.TRIM_STAT_VERSION (leAt l 8 2)).set F.TRIM_STAT_SLOT slot
  | none => (s.set F.CAL_STAT_TRIM_SRC 0).set F.CAL_EVT_TRIM_DEFAULT 1

/-- How many slots of PSEC_6 read 0xFF in every byte. -/
def State.trimFree (s : State) : State :=
  s.set F.TRIM_STAT_FREE ((List.range 64).filter (fun k => (s.norBytes (0x18000 + 256 * k) 256).all (· == 0xFF))).length

/-- The journal writer scans PSEC_7 (R456). -/
def State.jnlScan (s : State) : State :=
  let slot (k : Nat) : List Byte := s.norBytes (0x1C000 + 32 * k) 32
  let full := (List.range 512).filter (fun k => !(slot k).all (· == 0xFF))
  let torn := full.filter (fun k => leAt (slot k) 30 2 != crc16 ((slot k).take 30))
  (s.set F.JNL_STAT_NEXT (full.foldl (fun n k => max n (k + 1)) 0)).set F.JNL_STAT_TORN (min 0xFF torn.length)

/-- Record 2 of PS: the saved RMV_CFG. -/
def rmvRecord : PairRec := ⟨0x82100, 32⟩

/-- Its check: HOLD_TIME from 0x0A to 0xC8, nothing else set (R460). -/
def rmvOk (l : List Byte) : Bool :=
  copyOk l && decide (0x0A ≤ leAt l 8 1 ∧ leAt l 8 1 ≤ 0xC8) && decide (leAt l 9 1 < 2) && allZero (l.drop 10)

/-- Record 3 of PS: IMP_CFG. -/
def impCfgRecord : PairRec := ⟨0x82200, 32⟩

/-- Its check. -/
def impCfgOk (l : List Byte) : Bool := copyOk l && decide (leAt l 9 1 < 16) && allZero (l.drop 12)

/-- RMV_CFG after a POR, and IMP_CFG, from PS. -/
def State.cfgLoad (s : State) : State :=
  let s1 := match s.copyInUse rmvRecord rmvOk with
    | some l => if s.get F.RST_CAUSE_LAST = 0 then s.setReg 0x00CC (BitVec.ofNat 32 (leAt l 8 2)) else s
    | none => s
  match s1.copyInUse impCfgRecord impCfgOk with
  | some l => s1.setReg 0x2B80 (BitVec.ofNat 32 (leAt l 8 4))
  | none => s1

/-- How many copies of record `r` fail their check (R460). -/
def State.recordBad (s : State) (r : Nat) : Nat :=
  let two (a b : Bool) : Nat := b2n (!a) + b2n (!b)
  match r with
  | 0 => s.badCopies bootRecord bootOk
  | 1 => s.badCopies epochRecord epochOk
  | 2 => s.badCopies rmvRecord rmvOk
  | 3 => s.badCopies impCfgRecord impCfgOk
  | 4 => s.badCopies norRecord norRecordOk
  | 5 => two (s.costPass 0) (s.costPass 1)
  | 6 => s.badCopies rationRecord rationOk
  | 7 => s.badCopies codecRecord codecOk
  | 8 => s.badCopies volRecord volOk
  | 9 => s.badCopies groupRecord groupOk
  | 10 => two (s.impPass 0) (s.impPass 1)
  | _ => two (s.snapPass 0) (s.snapPass 1)

/-- PS_STAT as the Trailhead finds the records, before anything is rewritten. -/
def State.psCheck (s : State) : State :=
  (s.set F.PS_STAT_ONE_BAD (maskOf ((List.range 12).filter (fun r => s.recordBad r == 1)))).set F.PS_STAT_BOTH_BAD
    (maskOf ((List.range 12).filter (fun r => s.recordBad r == 2)))

/-- Guard entries that are neither free nor valid are rewritten as free (R462). -/
def State.guardRepair (s : State) : State :=
  let bad := (List.range 1024).filter (fun i => !s.psWhole (0x8C000 + 16 * i) || (!allZero (s.guardBytes i) && !crc16Ok (s.guardBytes i)))
  bad.foldl (fun (s : State) i => ((s.guardWrite i (natLE 16 0)).2).orF F.PS_STAT_ONE_BAD 16) s

/-- The fresh erase of an ERASE_INCOMPLETE sector (R74, R445), before work that a reset left waiting for the array. -/
def State.freshErase (s : State) : State :=
  if s.therm.stop then s else
  let boot : List NorOp := if s.norPend = 0xFF then [] else [{ origin := .boot, erase := true, sector := s.norPend }]
  let s1 := { s with keep := { s.keep with norStopped := false, norQueue := boot ++ s.keep.norQueue } }
  s1.norNext s1.keep.norQueue.length

/-- KEEP_BUS_UP (R84 step 2): the records of the keep die are read and a pending sector is erased afresh; the store answers `o` to the
first write. Above TJ_TRIP a fresh erase waits (R449), and step 3 waits for its end. Sequencers start the ROM baseline program for step 6.
A fresh erase that was stopped is begun again. -/
def keepBusUp (o : List PsOutcome) (s : State) : State :=
  if s.trailOn = false ∨ (s.norPend ≠ 0xFF ∧ s.therm.stop) then s
  else if s.did 2 = false then
    let s1 := (((((s.bootLoad).epochLoad).trimLoad).cfgLoad).psCheck).rationLoad.mapLoad.codecLoad.trimFree.jnlScan
    let s2 := (((s1.withPs o).guardRepair).freshErase).endPs
    let s3 := (List.range 8).foldl (fun (s : State) n =>
      let s1 := s.startProg n basePrg
      if (s1.chan n).vclass = 0 then s1 else s1.setChan n { s1.chan n with state := 1 }) s2
    (s3.didStep 2).setStep 2
  else if s.keep.norOp.isNone then ((s.withPs o).freshErase).endPs
  else s

/-! ### The end of the Trailhead (R27, R88, R180) -/

/-- The state leaves TRAILHEAD: queue pair 0 is created, and RESET_EVID is posted after any reset other than POR. -/
def State.trailLeave (s : State) (st reason compat : Nat) : State :=
  let s1 := (s.set F.BOOT_RES_TRAIL_US (min 0xFFFF (s.clock - s.trail.start))).set F.GLB_STAT_COMPAT compat
  let s2 := (s1.setState st reason).createPair0.cmdRaise.joinSend.fcEval
  let c := (s2.reg 0x00C0).toNat
  if bits c 12 4 = 0 then s2 else s2.post 15 (bits c 0 9 + bits c 12 4 * 2 ^ 16 + bits c 16 9 * 2 ^ 32)

/-- With both SVI slots rejected and step 5 done, the device enters SERVICE_ONLY (R79), but for TMODE (R51). -/
def State.serviceOnly (s : State) : State :=
  if s.trailOn && s.did 3 && s.did 5 && !s.trail.found && !bit s.aon.straps 7 then s.trailLeave stServiceOnly 1 3 else s

/-! ### Steps 3 and 4: images (R79 to R82, R87) -/

/-- Show the manifest of the running SVI. -/
def State.showSvi (s : State) (i : Nat) : State :=
  let m (a n : Nat) : Nat := s.norLE (sviBase i + a) n
  let s1 := ((s.set F.FW_SVI_VALID 1).set F.FW_SVI_SLOT i).set F.FW_SVI_SVI_VER (m 8 2)
  let s2 := (((s1.set F.SVI_MAN_0_CAL_LEVEL (m 5 1)).set F.SVI_MAN_0_LEVEL_MAX (m 7 1)).set F.SVI_MAN_0_LEVEL_MIN (m 6 1)).set
    F.SVI_MAN_0_TESTED_COUNT (m 0x0E 1)
  let s3 := ((s2.set F.SVI_MAN_1_STEP_MASK (m 0x0C 2)).set F.SVI_MAN_1_EPOCH (m 0x0A 2)).set F.BOOT_RES_SVI_SLOT i
  (List.range 4).foldl (fun (s : State) k => (s.set (F.SVI_TESTED_EVEN k) (m (0x10 + 4 * k) 2)).set (F.SVI_TESTED_ODD k) (m (0x12 + 4 * k) 2)) s3

/-- The ROM loads the SVI of slot `i`, and step 3 is done. -/
def State.sviUse (s : State) (i : Nat) : State :=
  ({ (s.showSvi i).didStep 3 with trail := { (s.didStep 3).trail with found := true } }).setStep 3

/-- SVI_SELECTION (R79): the preferred slot first, the other only if it is rejected. `badReads` are the eNOR reads that fail, numbered
as `sviCode` says. It waits for a fresh erase. -/
def sviSelection (badReads : List Nat) (s : State) : State :=
  if s.trailOn = false ∨ s.did 2 = false ∨ s.did 3 ∨ s.keep.norOp.isSome ∨ s.norPend ≠ 0xFF then s
  else
    let a := s.get F.BOOT_CFG_PREF_SVI
    let ca := s.sviCode a badReads true
    let s1 := s.setSlotStat a (s.sviVer a ca) (if ca = 2 then 1 else ca)
    if ca = 2 then s1.sviUse a
    else
      let b := 1 - a
      let cb := s.sviCode b badReads true
      let s2 := s1.setSlotStat b (s.sviVer b cb) (if cb = 2 then 1 else cb)
      if cb = 2 then s2.sviUse b else ((s2.setStep 3).didStep 3).serviceOnly

/-- The SPB slot that R80 chooses, with its class, among the valid ones; disagreeing slots are last. -/
def State.bestSpb (s : State) (v : Nat) (codes : List Nat) : Option (Nat × Nat) :=
  let p := s.get F.BOOT_CFG_PREF_SPB
  let l := ([p, 1 - p].filter (fun i => listGet 0 codes i == 2)).map (fun i => (i, s.spbClass v i))
  l.foldl (fun b x => match b with
    | none => some x
    | some y => if x.2 < 2 ∧ x.2 < y.2 then some x else b) none

/-- The status code of SPB slot `i` once slot `used` is loaded, or withheld (Table 4-6). -/
def spbShown (code cls : Nat) (used withheld : Bool) : Nat :=
  if code ≠ 2 then code
  else if cls = 2 then 9
  else if cls = 3 then 0xA
  else if withheld then 0xC
  else if used then (if cls = 0 then 1 else 0xB) else 2

/-- Each channel with a die in use exchanges from the ROM baseline to its class program, once steps 4 and 6 have both ended (R361). -/
def State.trailLoad (s : State) : State :=
  if s.get F.FW_SPB_LOADED = 0 then s
  else
    let slot := s.get F.BOOT_RES_SPB_SLOT
    (List.range 8).foldl (fun (s : State) n => match s.diesInUse n with
      | d :: _ => match s.readProg slot (s.die n d).cls with
        | some p => s.setSq n { s.sq n with xch := some { prog := p, bundle := some slot, load := true } }
        | none => s
      | [] => s) s

/-- The class of a die on a channel whose program, if it has one, is `prog` (R340). -/
def State.classOf (s : State) (slot : Nat) (prog : Option Nat) (v : Die) : Option Nat :=
  (List.range (s.spbClasses slot)).find? (fun c => s.descFits slot c v.ident v.jedec &&
    (match prog with | some p => s.progIndex slot c == p | none => true))

/-- Give the candidate dies of channel `n` (left as Unclassed by discovery) their classes, in ascending order. -/
def State.classifyChan (s : State) (n : Nat) : State :=
  let slot := if s.get F.FW_SPB_LOADED = 1 then some (s.get F.BOOT_RES_SPB_SLOT) else none
  let r := (s.chan n).dies.foldl (fun (a : Option Nat × List (Nat × Die)) p =>
    if p.2.state ≠ 2 then (a.1, a.2 ++ [p])
    else match slot with
      | none => (a.1, a.2 ++ [(p.1, { p.2 with state := 1, cls := 0 })])
      | some i => match s.classOf i a.1 p.2 with
        | some c => (some (s.progIndex i c), a.2 ++ [(p.1, { p.2 with state := 1, cls := c })])
        | none => (a.1, a.2 ++ [p])) (none, [])
  let inUse := r.2.filter (fun p => p.2.state == 1)
  let s1 := s.setChan n { s.chan n with dies := r.2, state := if inUse = [] then 0 else (s.chan n).state }
  let s2 := inUse.foldr (fun p (s : State) => s.set (F.CW_LAYOUT_PAGE_BYTES p.2.cls) p.2.pageBytes) s1
  if (s.chan n).vclass = 0 then s2 else s2.chEvent n 5 inUse.length

/-- Step 4 of discovery on every channel, once the dies are known and the bundle is chosen; the load of R361 follows, and the codec
settings are loaded for the page sizes found. -/
def State.classify (s : State) : State :=
  if s.trail.classified ∨ s.did 6 = false ∨ !(s.did 4 || (s.did 3 && !s.trail.found)) then s
  else
    let s1 := (List.range 8).foldl State.classifyChan { s with trail := { s.trail with classified := true } }
    if s1.st = stTrailhead then (s1.codecLoad).trailLoad else s1

/-- SPB_SELECTION (R80 to R82, R87, R492): both slots are examined, the attempt is counted (the store answers `o`), and control passes to
the supervisor. -/
def spbSelection (badReads : List Nat) (o : List PsOutcome) (s : State) : State :=
  if s.trailOn = false ∨ s.trail.found = false ∨ s.did 4 then s
  else
    let v := s.get F.FW_SVI_SLOT
    let codes := [s.spbCode 0 badReads, s.spbCode 1 badReads]
    let strict := s.get F.BOOT_CFG_STRICT_PAIR = 1
    let best := s.bestSpb v codes
    let (used, withheld) : Option Nat × Bool := match best with
      | some (i, 0) => (some i, false)
      | some (i, 1) => if strict then (none, true) else (some i, false)
      | _ => (none, false)
    let s1 := (List.range 2).foldl (fun (s : State) i =>
      let c := listGet 0 codes i
      s.setSlotStat (2 + i) (s.spbVer i c) (spbShown c (s.spbClass v i) (used == some i) withheld)) s
    let s2 := match used with
      | some i => (((s1.set F.FW_SPB_LOADED 1).set F.FW_SPB_SPB_LEVEL (s1.norLE (spbBase i + 5) 1)).set F.FW_SPB_SPB_VER
          (s1.norLE (spbBase i + 6) 2)).set F.BOOT_RES_SPB_SLOT i
      | none => s1
    let s3 := match best with
      | some (i, 1) => s2.faultDue 0x01 (if withheld then 0xC else 0xB) (natLE 2 (s.get F.FW_SVI_SVI_VER) ++ natLE 2 (s.norLE (spbBase i + 6) 2))
      | _ => s2
    let (b, (x, y)) := s3.bootRec
    let s4 := ((s3.withPs o).bootWrite b (if v = 0 then min 3 (x + 1) else x) (if v = 1 then min 3 (y + 1) else y)).2
    (((s4.setStep 4).didStep 4).wdRestart 0).classify

/-! ### Steps 5 and 6 (R72, R216, R292) -/

/-- LOGBOOK_RECOVERY (R73, R216): step 5, the store answering `o` to its first write. -/
def logbookRecovery (o : List PsOutcome) (s : State) : State :=
  if s.trailOn = false ∨ s.did 2 = false ∨ s.did 5 then s
  else ((((s.setStep 5).withPs o).recover).endPs.didStep 5).serviceOnly

/-- Does discovery go on: in the Trailhead, or in SERVICE_ONLY reached meanwhile? -/
def State.discovers (s : State) : Bool := (s.trailOn || s.st == stServiceOnly) && s.did 2 && !s.therm.stop && !s.did 6

/-- DIE_READY_WAIT_END (R72): every fitted die shows ready, or 10 ms have passed; every target gets an ONFI RESET. -/
def dieReadyWaitEnd (s : State) : State :=
  if s.discovers = false ∨ s.trail.waited then s
  else
    let l := ((List.range 8).filter (fun n => (s.chan n).vclass != 0)).flatMap (fun n => (List.range 8).map (fun c => (n, c)))
    let s1 := if s.st = stTrailhead then s.setStep 6 else s
    l.foldl (fun (s : State) t => s.onfiReset t.1 t.2) { s1 with trail := { s1.trail with waited := true } }

/-- The extended rates a target advertises (R291), as bits 0 and 1. -/
def targetExt (t : FoundTarget) (cls : Nat) : Nat :=
  let b (i : Nat) : Byte := listGet 0 t.ext i
  let x := (List.range 7).foldl (fun (v : Byte) i => v ^^^ b i) 0
  if t.ext.take 4 = [0x55, 0x5A, 0x58, 0x54] ∧ t.ext.length = 8 ∧ b 7 = x ∧ (b 4).toNat ≠ 0 ∧ (b 4).toNat < 4 ∧ bit t.rates 11 ∧ cls = 1
  then (b 4).toNat else 0

/-- A die of a target, before its class is known: `first` is the protocol of the lowest-numbered present CE. -/
def targetDie (t : FoundTarget) (cls : Nat) (first : Bool) : Die :=
  let e := targetExt t cls
  { state := if t.pageOk = false then 3 else if t.jedec != first then 4 else if t.jedec && cls != 1 then 5 else 2
    planes := if t.planes = 4 then 2 else if t.planes = 2 then 1 else 0, ext := e, jedec := t.jedec, lunReset := t.lunReset
    ident := sliceB t.ident 0 8, rates := t.rates % 2 ^ 12 + e * 2 ^ 12, pageBytes := t.pageBytes, pages := t.pages, blocks := t.blocks }

/-- The LUN count of a target; a bad parameter page gives one. -/
def targetLuns (t : FoundTarget) : Nat := if t.pageOk = false then 1 else if t.luns = 2 then 2 else if t.luns = 4 then 4 else 1

/-- What discovery finds on channel `n`. -/
def State.discoverChan (s : State) (n : Nat) (found : List FoundTarget) : State :=
  let l := (List.range 8).filterMap (fun c => found.find? (fun t => t.ch == n && t.ce == c))
  let cls := (s.chan n).vclass
  let first := match l with | t :: _ => t.jedec | [] => false
  if cls = 0 then s
  else
    let dies := l.flatMap (fun t => (List.range (targetLuns t)).map (fun i => (4 * t.ce + i, targetDie t cls first)))
    let s1 := s.setChan n { s.chan n with dies }
    let code (t : FoundTarget) : Nat := if (targetLuns t) = 4 then 3 else (targetLuns t)
    (s1.set (F.CH_CE_MAP_PRESENT n) (maskOf (l.map (·.ce)))).set (F.CH_CE_MAP_LUNS n) (l.foldl (fun v t => v + code t * 4 ^ t.ce) 0)

/-- DIE_DISCOVERY (R291, R292): step 6 on every powered channel, `found` being what answers. -/
def dieDiscovery (found : List FoundTarget) (s : State) : State :=
  if s.discovers = false ∨ s.trail.waited = false then s
  else (((List.range 8).foldl (fun (s : State) n => s.discoverChan n found) s).didStep 6).classify

/-! ### Step 7: calibration (R85, R293, R478) -/

/-- The snapshot that R85 lets step 7 restore. -/
def State.restorable (s : State) : Option (List Byte) :=
  if s.get F.BOOT_CFG_FORCE_TRAIN = 1 ∨ s.baseline then none
  else match s.snapUse with
    | some l =>
      let b := l.drop 64
      if leAt l 12 1 = s.get F.SVI_MAN_0_CAL_LEVEL ∧ sliceB b 0 8 = s.uid then some b else none
    | none => none

/-- Restore channel `n` from a snapshot's body at a rate. -/
def State.restoreChan (s : State) (b : List Byte) (n rate : Nat) : State :=
  let s1 := (s.setMode n (s.protoFor n) rate).snapTake b n writeBoth
  let s2 := (s1.landed n (leAt b (552 + 208 * n + 4) 1) 1).setChan n { s1.chan n with state := 3 }
  (s2.orF F.CAL_STAT_RESTORED (1 <<< n)).homeAll n

/-- The lanes start from a snapshot's values (R478). -/
def State.restoreLanes (s : State) (b : List Byte) : State :=
  ((List.range 4).foldl (fun (s : State) k => (List.range 2).foldl (fun (s : State) g =>
    writeBoth s 0x2FC1 ((g + 2) * 4 + k) (BitVec.ofNat 32 (leAt b (2472 + 8 * k + 4 * g) 4))) s) s).set F.CAL_LN_RESTORED 15

/-- CAL_RESTORE_OR_TRAIN (R85, R293, R478): step 7 begins; `verify` are the channels whose verify reads pass. Channels that are not
restored train. -/
def calRestoreOrTrain (verify : Nat) (s : State) : State :=
  if s.trailOn = false ∨ s.did 4 = false ∨ s.trail.classified = false ∨ s.did 7 ∨ s.therm.stop ∨ s.seqs.any (fun p => p.2.xch.isSome)
  then s
  else
    let snap := s.restorable
    let s7 := (s.setStep 7).didStep 7
    let s0 := match snap with | some b => s7.restoreLanes b | none => s7
    let l := (List.range 8).filter (fun n => s.diesInUse n != [])
    let takes (n : Nat) : Bool := match snap, s.ratesFor n with
      | some b, r :: _ => s.snapMatches b n r && bit verify n
      | _, _ => false
    let s1 := l.foldl (fun (s : State) n => match snap, takes n, s.ratesFor n with
      | some b, true, r :: _ => s.restoreChan b n r
      | _, _, tries => s.setChan n { s.chan n with training := tries != [], tries, state := 3 }) s0
    s1.set F.BOOT_RES_CAL_PATH (if s.baseline then 3 else if snap.isSome && l.all takes then 1 else 2)

/-! ### Step 8 (R86) -/

/-- The reason that the code of one SPB slot gives: 2 level outside the range, 3 SVI below the minimum, 4 withheld, 5 not valid. -/
def spbReason (code : Nat) : Nat := if code = 9 then 2 else if code = 0xA then 3 else if code = 0xC then 4 else 5

/-- The reason of the state that the SPB slots' codes give (Table 4-4, R81): that of the preferred slot if it is valid, so also when the
other is withheld (log entry 121), else that of the other. -/
def State.compatReason (s : State) : Nat :=
  let p := s.get F.BOOT_CFG_PREF_SPB
  let r (i : Nat) : Nat := spbReason (s.get (F.SPB_STAT_CODE i))
  if r p ≠ 5 then r p else r (1 - p)

/-- What step 8 does before the state changes: the ledger (R269), the epoch counters (R86), the attempt counts and a master's epoch (R512). `rng` and
`o` are as for `trailheadFinish`. -/
def State.trailLast (s : State) (rng : Bool) (o : List PsOutcome) : State :=
  let s1 := (s.setStep 8).ledgerEnable s.rt.isns
  let s2 := ((s1.withPs o).epochRaise false (s.get F.SVI_MAN_1_EPOCH)).2
  let s3 := if s.baseline then s2 else (s2.epochRaise true (s.norLE (spbBase (s.get F.BOOT_RES_SPB_SLOT) + 0x0A) 2)).2
  let s4 := ((s3.bootWrite s3.bootRec.1 0 0).2).endPs
  if s4.cascRole ≠ 1 then s4
  else if rng then
    let (n, s') := s4.takeFree
    { s' with casc := { s'.casc with epoch := leNat (Config.entropy n 2) % 65535 + 1 } }
  else s4.protEvent 7 0

/-- The state in which the Trailhead is left (Table 4-4, R82). -/
def State.trailEnd (s : State) : State :=
  if s.baseline then s.trailLeave stLimited s.compatReason 2
  else s.trailLeave stReady 0 (if s.get (F.SPB_STAT_CODE (s.get F.BOOT_RES_SPB_SLOT)) = 0xB then 1 else 0)

/-- TRAILHEAD_FINISH (R86, R180, R269, R512): step 8. `rng` says that the entropy source passes its tests, when a master takes its epoch
(R417), and `o` answers the writes of the epoch counters. -/
def trailheadFinish (rng : Bool) (o : List PsOutcome) (s : State) : State :=
  if s.trailOn = false ∨ s.did 7 = false ∨ s.did 5 = false ∨ bit s.aon.straps 7 ∨ s.therm.stop ∨ s.chans.any (fun p => p.2.training) then s
  else
    let s6 := (s.trailLast rng o).trailEnd
    if s6.st = stReady ∧ s6.get F.BOOT_RES_CAL_PATH = 2 then { s6 with cal := { s6.cal with autoFrom := some s6.clock } } else s6

/-- LANE_TRAINING_START (R54): presence is armed and the lane step is reached. Lanes stay idle with TMODE = 1 (R51); a member's host lanes
(R3) and PCI Express lanes without their PLL or with PERST_N low stay idle too. -/
def laneTrainingStart (s : State) : State :=
  if s.live = false ∨ s.get F.RMV_STAT_ARMED = 0 ∨ s.rmv.lanesStarted ∨ s.st = stRemoving ∨ bit s.aon.straps 7 then s
  else
    let s1 := ({ s with rmv := { s.rmv with lanesStarted := true } }).setLanes
    let start (b : Bool) (l : Link) : Link := if b then { l with state := 1 } else l
    let pair := s.get F.CASC_CFG_TOPO = 1
    { s1 with
      agl := start (!s1.pcieMode && s1.cascRole != 2) s1.agl
      pcie := { s1.pcie with adv := (s1.reg 0x0840).toNat }
      casc := { s1.casc with
        cl0 := start (decide (s1.cascRole ≠ 0 ∧ (pair ∨ s1.cascRole = 2))) s1.casc.cl0
        cl1 := start (decide (s1.cascRole ≠ 0 ∧ ¬ pair)) s1.casc.cl1 } }

/-- IMAGE_ACTIVATE (R91, R553): `badReads` are the eNOR reads that fail; the store answers `o`. -/
def imageActivate (k : Nat) (badReads : List Nat) (o : List PsOutcome) (s : State) : State :=
  match s.canStart k 0x43 with
  | none => s
  | some f =>
    let s1 := (s.startRun k { f with opsTotal := 1 }).logStarted k
    let (c, s2) := (s1.withPs o).activate (leAt f.bytes 16 1 % 4) badReads
    if c = 1 then ((s2.endPs).logOpDone k).complete k 0 0 1
    else if c = 0xE then s2.endPs.complete k 0x50 0x47
    else s2.endPs.complete k 0x14

end Sys2Proof.Machine
end

