-- ==== Sys2Proof/Machine/RegAccess.lean ====
section
/-!
DEFINITION. Parameter space as the paths reach it (ch. 00, 05): the level and lock group of each page (R114, Tables 5-7 and 5-9), the
lock groups (R115 to R120), reading a register with its side effects, and writing one field by field (R7 to R9) or through the
register's own action.
-/

namespace Sys2Proof.Machine

/-! ### Pages (Tables 5-7, 5-9) -/

/-- Is the page expert? -/
def pageExpert (g : Nat) : Bool :=
  if g < 0x10 then g = 5 ∨ g = 7 ∨ 0x0A ≤ g
  else if g < 0x18 then g < 0x14 ∨ g = 0x15 ∨ g = 0x17
  else if g < 0x20 then 0x1A ≤ g
  else if g < 0x24 then 0x21 ≤ g
  else if g < 0x2C then 0x26 ≤ g
  else if g < 0x30 then 0x2D ≤ g
  else if g < 0x38 then 0x31 ≤ g
  else if g < 0x40 then 0x39 ≤ g
  else if g < 0x80 then g % 8 ≠ 0
  else if g < 0x90 then g % 2 = 1
  else if g < 0x98 then 0x92 ≤ g
  else if g < 0x9C then 0x99 ≤ g
  else if g < 0xA4 then 0x9E ≤ g
  else if g < 0xA8 then 0xA5 ≤ g
  else if g < 0xAC then 0xA9 ≤ g
  else if g < 0xB4 then 0xAE ≤ g
  else if g < 0xB8 then 0xB5 ≤ g
  else if g < 0xBC then 0xB9 ≤ g
  else if g < 0xC4 then 0xBE ≤ g
  else if g < 0xC8 then 0xC5 ≤ g
  else if g < 0xCC then 0xC9 ≤ g
  else if g < 0xD0 then 0xCD ≤ g
  else false

/-- The lock group of a page. -/
def pageGroup (g : Nat) : Nat :=
  if g < 0x08 then 0 else if g < 0x18 then 1 else if g < 0x24 then 2 else if g < 0x40 then 3 else if g < 0x80 then 4
  else if g < 0x90 then 5 else if g < 0x9C then 6 else if g < 0xAC then 7 else if g < 0xB4 then 8 else if g < 0xBC then 9
  else if g < 0xC4 then 0xA else if g < 0xC8 then 0xB else if g < 0xCC then 0xC else 0xD

/-- Is the page one of the PCI Express shadow, which the UZ4816-C does not have (R2)? -/
def State.absentPage (s : State) (g : Nat) : Bool := !s.formB && decide (0x20 ≤ g ∧ g < 0x24)

/-- Is the page one that TP_ACCESS reaches (R533)? -/
def tapPage (g : Nat) : Bool := g = 0 ∨ g = 3 ∨ g = 0xB6 ∨ 0xCC ≤ g ∧ g ≤ 0xCF

/-! ### Lock groups (R115 to R119) -/

/-- The lock groups of a path: the service port and the host have their own. -/
def State.lockOf (s : State) (p : Path) : LockPath := if p = .host then s.port.lockHost else s.port.lockSp

/-- Set them. -/
def State.setLock (s : State) (p : Path) (l : LockPath) : State :=
  if p = .host then { s with port := { s.port with lockHost := l } } else { s with port := { s.port with lockSp := l } }

/-- The key of group `g` (R115). -/
def unlockKey (g : Nat) : Nat := 0x4E550000 + 0x100 * g + (0xFF - g)

/-- UNLOCK with a lock byte and a key (R115, R116, R118): the code of Table 5-5. -/
def State.unlock (s : State) (p : Path) (b key : Nat) : Nat × State :=
  let l := s.lockOf p
  let g := bits b 0 7
  if bit b 7 then
    if key ≠ 0 ∨ (0x0D < g ∧ g ≠ 0x7F) then (5, s)
    else (0, s.setLock p { l with openGroups := if g = 0x7F then 0 else putBits l.openGroups g 1 0 })
  else if 0x0D < g then (5, s)
  else if 8 ≤ l.fails ∨ bit s.lockedDown g then (9, s)
  else if key = unlockKey g then (0, s.setLock p { l with openGroups := putBits l.openGroups g 1 1, fails := 0 })
  else (9, s.setLock p { l with fails := l.fails + 1 })

/-- A write of UNL_REQ: UNLOCK with the path's latched key, which is then 0 (R119). The supervisor needs no lock groups (R120). -/
def State.unlReq (s : State) (p : Path) (v : Word) : Nat × State :=
  if p = .svc ∨ p = .tap then (0, s)
  else
    let r := s.unlock p (bits v.toNat 0 8) (s.lockOf p).key
    (r.1, r.2.setLock p { r.2.lockOf p with key := 0 })

/-- A write of UNL_KEY. -/
def State.unlKey (s : State) (p : Path) (v : Word) : State :=
  if p = .svc ∨ p = .tap then s else s.setLock p { s.lockOf p with key := v.toNat }

/-- Groups that are locked down close at once on both paths (R117, R118). -/
def State.closeLocked (s : State) : State :=
  let keep (o : Nat) : Nat := o &&& (0x3FFF ^^^ s.lockedDown)
  { s with port := { s.port with
    lockSp := { s.port.lockSp with openGroups := keep s.port.lockSp.openGroups }
    lockHost := { s.port.lockHost with openGroups := keep s.port.lockHost.openGroups } } }

/-- A write of ACC_LOCK_SET (R118): the groups named are locked down. -/
def State.accLockSet (s : State) (v : Word) : State :=
  if bits v.toNat 24 8 ≠ 0x96 then s.fieldError
  else ({ s with port := { s.port with session := s.port.session ||| bits v.toNat 0 14 } }).closeLocked

/-- Does a write answer LOCKED (R114, R119, R120, R533)? -/
def State.writeLocked (s : State) (p : Path) (a : Nat) : Bool :=
  let g := a / 64
  let expert := pageExpert g && !s.absentPage g
  let shut := expert && (!bit (s.lockOf p).openGroups (pageGroup g) || bit s.lockedDown (pageGroup g))
  match p with
  | .sp => shut
  | .host => s.get F.ACC_CTL_HOST_WR == 0 || (g == 1 && a != 0x46 && a != 0x47 && a != 0x49)
      || (expert && s.get F.ACC_CTL_HOST_EXPERT == 0) || shut
  | .svc => a == 0x43 || a == 0x49 || a == 0x4A
  | .tap => !tapPage g

/-! ### Reading -/

/-- The window of a register for a path. -/
def State.winFor (s : State) (p : Path) (a : Nat) : Nat :=
  match regDef? a with
  | some d => s.winOf d.win p
  | none => 0

/-- What one field of a register reads (R7). -/
def State.fieldRead (s : State) (p : Path) (a w : Nat) (f : FieldDef) : Nat :=
  match f.ty with
  | .wo => 0
  | .rs => bits (s.stagedReg a w).toNat f.lo f.width
  | _ => bits (s.showWord p a w) f.lo f.width

/-- What a register reads, without the effects of the read: reserved bits and registers read 0 (R8). -/
def State.regValue (s : State) (p : Path) (a : Nat) : Nat :=
  if s.absentPage (a / 64) then 0
  else match regDef? a with
    | none => 0
    | some d => d.fields.foldl (fun v f => v + s.fieldRead p a (s.winOf d.win p) f * 2 ^ f.lo) 0

/-- The register whose value a read of a low half latches. -/
def latchedHigh (a : Nat) : Option Nat :=
  if a = 0x0B ∨ a = 0xC2 ∨ a = 0xC5 ∨ a = 0xC7 ∨ a = 0x205 ∨ a = 0x2B0A ∨ a = 0x3303 then some (a + 1) else none

/-- Clear the RX fields of a register that has been read (R111). -/
def State.clearRx (s : State) (p : Path) (a : Nat) : State :=
  match regDef? a with
  | none => s
  | some d =>
    let w := s.winOf d.win p
    let s1 := d.fields.foldl (fun (s : State) f => if f.ty = .rx then s.set ⟨a, f.lo, f.width⟩ 0 w else s) s
    if a = 0xC04 then { s1 with hmp := { s1.hmp with peak := tdel s1.hmp.peak (s.get F.OWN_SEL_OWNER (pathNum p)) } }
    else if a = 0x204 then
      let n := s.get F.EVR_SEL_SRC (pathNum p)
      s1.setEv n { s1.ev n with ovr := false }
    else s1

/-- A read of a register by a path, with its effects: latched halves, RX fields, and the registers that read a store. -/
def State.regRead (s : State) (p : Path) (a : Nat) : Nat × State :=
  if s.absentPage (a / 64) then (0, s)
  else if a = 0x2D43 then s.norRdata p
  else if a = 0x2E03 then s.psDataRead p
  else if 0x2000 ≤ a ∧ a < 0x2400 ∧ a % 128 = 0x45 then
    (s.dbgRead ((a - 0x2000) / 128) (s.get ⟨a - 1, 0, 5⟩ (pathNum p)), s)
  else
    let v := s.regValue p a
    let s1 := s.clearRx p a
    let k := a * 4 + pathNum p
    let bad := decide (0x2000 ≤ a ∧ a < 0x2400 ∧ a % 128 = 0x47)
      && (s.sq ((a - 0x2000) / 128)).bad.contains (s.get ⟨a - 1, 0, 12⟩ (pathNum p))
    let s2 := if bad then s1.fieldError else s1
    match latchedHigh a with
    | some h => (v, { s2 with port := { s2.port with latchHi := tput s2.port.latchHi (h * 4 + pathNum p) (s.regValue p h) } })
    | none =>
      match s2.port.latchHi.find? (fun x => x.1 == k) with
      | some (_, x) => (x, { s2 with port := { s2.port with latchHi := tdel s2.port.latchHi k } })
      | none => (v, s2)

/-! ### Writing -/

/-- A write to one field (R7, R9). -/
def State.fieldWrite (s : State) (a w v : Nat) (f : FieldDef) : State :=
  let x := bits v f.lo f.width
  let fld : Fld := ⟨a, f.lo, f.width⟩
  let legal := decide (f.vmin ≤ x ∧ x ≤ f.vmax)
  match f.ty with
  | .rw | .wo => if legal then s.set fld x w else s.fieldError
  | .rs => if legal then s.setStagedF fld x w else s.fieldError
  | .w1c => s.clearF fld x w
  | .ro | .rx => s

/-- A write to a register whose fields only hold values. Under PCI Express the registers of the Agilnu Link keep their reset values
(R130). -/
def State.regStore (s : State) (p : Path) (a : Nat) (v : Nat) : State :=
  match regDef? a with
  | none => s
  | some d =>
    if s.pcieMode ∧ 0x600 ≤ a ∧ a < 0x800 then s else d.fields.foldl (fun (t : State) f => t.fieldWrite a (s.winOf d.win p) v f) s

/-- A write of BOOT_CFG goes through to the boot record; it reads what PS then holds (R553). -/
def State.bootCfgWrite (s : State) (v : Word) : State :=
  let (b, (x, y)) := s.bootRec
  (s.bootWrite (putBits b 2 2 (bits v.toNat 2 2)) x y).2

/-- A write of RST_CTL (R68): SAVE_RMV first, then SOFT. -/
def State.rstCtl (s : State) (v : Word) : State :=
  if bits v.toNat 24 8 ≠ 0xC3 then s.fieldError
  else
    let s1 := if bit v.toNat 1 then (s.writePair rmvRecord rmvOk (natLE 4 (bits (s.reg 0xCC).toNat 0 9))).2 else s
    if bit v.toNat 0 then s1.orderlyStart .soft else s1

/-- A write of IMG_CTL (R91). -/
def State.imgCtl (s : State) (v : Word) (bad : List Nat) : State :=
  if bits v.toNat 24 8 ≠ 0x5A then s.fieldError else (s.activate (bits v.toNat 0 2) bad).2

/-- A write of EPOCH_SET (R92). -/
def State.epochSet (s : State) (v : Word) : State :=
  if bits v.toNat 24 8 ≠ 0xA5 then s.fieldError else (s.epochRaise (bit v.toNat 16) (bits v.toNat 0 16)).2

/-- A write of FAULT_STAT: 1 written to VALID clears the latch words and DROPPED (R71). -/
def State.faultStat (s : State) (v : Word) : State :=
  if bit v.toNat 0 then
    (List.range 8).foldl (fun (s : State) k => s.set (F.FAULT_LATCH_DATA k) 0) ((s.set F.FAULT_STAT_VALID 0).set F.FAULT_STAT_DROPPED 0)
  else s

/-- A store that marks a table as changed since loading when a value differs: the register that shows it is `src`. -/
def State.storeMarked (s : State) (p : Path) (a v : Nat) (src : Fld) : State :=
  let s1 := s.regStore p a v
  if s1.regs = s.regs then s1 else s1.set src 2

/-- The registers that act, and those whose writes have rules of their own: the state after the write, none for the others. -/
def State.regActs (s : State) (p : Path) (a : Nat) (v : Word) (x : RegIn) : Option State :=
  let n := v.toNat
  if a < 0x400 then
    if a = 0x46 then some (s.unlKey p v)
    else if a = 0x47 then some (s.unlReq p v).2
    else if a = 0x43 then some (if p = .sp then s.regStore p a n else s)
    else if a = 0x49 then some (s.accLockSet v)
    else if a = 0x80 then some (s.cmtCtl v)
    else if a = 0xCD then some (s.rstCtl v)
    else if a = 0xCE then some (s.faultStat v)
    else if a = 0x100 then some (s.bootCfgWrite v)
    else if a = 0x107 then some (s.imgCtl v x.bad)
    else if a = 0x140 then some (s.epochSet v)
    else if 0x240 ≤ a ∧ a < 0x24C then some (s.evrClear (a - 0x240) v)
    else if 0x280 ≤ a then some (s.evrCfg (a - 0x280) v)
    else none
  else if a < 0x1000 then
    if a = 0x400 then some (s.evrPostWrite p v)
    else if 0x540 ≤ a ∧ a < 0x549 then some (s.wdCfg (a - 0x540) v)
    else if a = 0x549 then some (s.wdCtl v)
    else if a = 0x907 then some (s.qpCtl p v)
    else if a = 0xB0A then some (s.idlClrWrite v)
    else if a = 0xB40 then some (s.logInjectWrite v)
    else if a = 0xC02 then some (s.hmpThr v)
    else if 0xC40 ≤ a ∧ a < 0xC50 then some (s.ownLimitWrite (a - 0xC40) v)
    else if a = 0xC50 then some (s.hmpCtl v)
    else if a = 0xE06 then some (s.fqWmSet p v)
    else if a = 0xE42 then some (s.fqInjectWrite v)
    else if 0xE0C ≤ a ∧ a ≤ 0xE10 then some (s.regStore p a n).fcEval
    else none
  else if a < 0x2B00 then
    if 0x2000 ≤ a ∧ a < 0x2400 ∧ a % 128 = 0x41 then some (s.seqDbg ((a - 0x2000) / 128) v x.seq)
    else if 0x2000 ≤ a ∧ a < 0x2400 ∧ a % 128 = 0x45 then
      some (s.dbgWrite ((a - 0x2000) / 128) (s.get ⟨a - 1, 0, 5⟩ (pathNum p)) v)
    else if a = 0x2490 then some (s.codecCtl v)
    else if a = 0x2704 then some (s.mapCtl v)
    else if a = 0x2902 then some (s.storeMarked p a n F.MAP_TBL_SRC)
    else if a = 0x2908 then some (s.strCtl p v)
    else if a = 0x2A0B then some (s.infCtl v)
    else none
  else if a < 0x3000 then
    if a = 0x2B02 then some (s.protCtl v x.rng).closeLocked
    else if a = 0x2B80 then some (if 2 ≤ s.lifecycle then s.fieldError else s.regStore p a n)
    else if a = 0x2D03 then some (if sectorCode (bits n 0 8) then s.regStore p a n else s.fieldError)
    else if a = 0x2D49 then some (s.norCtlWrite p v)
    else if a = 0x2D83 then some (s.otpCtlWrite p v).closeLocked
    else if a = 0x2E03 then some (s.psDataWrite p v)
    else if a = 0x2F04 then some (s.calCtl p v x.ps)
    else none
  else if a = 0x3141 ∨ a = 0x3142 then some (s.storeMarked p a n F.RATION_TBL_SRC)
  else if a = 0x3143 then some (s.rationCtl v x.means)
  else if a = 0x3252 then some (s.regStore p a (n / 4 * 4))
  else if a = 0x3300 then some (if patternTarget (bits n 0 8) then s.regStore p a n else s.fieldError)
  else if a = 0x3340 then some (
    if patternOk (bits n 0 8) then s.regStore p a n
    else (s.regStore p a (putBits n 0 8 (s.get F.TP_CFG_PATTERN (s.winFor p a)))).fieldError)
  else if a = 0x3341 then some (s.tpCtl p v x.rx)
  else if a = 0x3342 then some (s.bistCtl p v)
  else none

/-- Would a write answer BUSY (R124, R383)? -/
def State.writeBusy (s : State) (p : Path) (a : Nat) (v : Word) : Bool :=
  (match regDef? a with
    | some d => d.rsMask != 0 && (match groupOfKey (regKey a (s.winOf d.win p)) with | some g => s.commitPending g | none => false)
    | none => false)
    || (a == 0x80 && s.cmtBusy v)
    || (a == 0x2490 && bits v.toNat 24 8 == 0x6C && bits v.toNat 0 2 == 2 && s.commitPending 0x0A)

/-- The code that refuses a write, 0 for none (Table 5-5). -/
def State.writeRefused (s : State) (p : Path) (a : Nat) (v : Word) : Nat :=
  if s.writeLocked p a then 8 else if s.absentPage (a / 64) then 0 else if s.writeBusy p a v then 0xA else 0

end Sys2Proof.Machine
end

