-- ==== Sys2Proof/Machine/Members.lean ====
section
/-!
DEFINITION. The members of a cascade as the master keeps them: the loss of a member and its settlement (R520), and the resets that
CASC_CTL orders (R521).
-/

namespace Sys2Proof.Machine

/-- What the master keeps of member `m`. -/
def State.member (s : State) (m : Nat) : Member := tget {} s.casc.members m

/-- Set it. -/
def State.setMember (s : State) (m : Nat) (v : Member) : State :=
  { s with casc := { s.casc with members := tset {} s.casc.members m v } }

/-- The first ALB that a stream still needs from device `m`: not resident, in the window or after it. A stream whose volume lies wholly
on other devices needs none. -/
def State.streamNeeds (s : State) (v : Stream) (m : Nat) : Option Nat :=
  (List.range 2048).findSome? (fun i =>
    let a := v.w + i
    if a < v.stop ∧ (s.placeOf v.vol a).1 = m ∧ v.resident.all (fun x => x.1 != a) then some a else none)

/-- The streams that need device `m` stop with INTERNAL_ERROR (R409, R520). -/
def State.streamsLost (s : State) (m : Nat) : State :=
  (s.map.streams.filter (fun p => p.2.state == 1)).foldl (fun (s : State) p =>
    match s.streamNeeds p.2 m with
    | some a => s.streamStop p.1 a 0x50
    | none => s) s

/-- Is the bound command in flight `k` a duplicate of one of these (Table 22-5)? -/
def State.repeatsOne (s : State) (k : Nat) (l : List Nat) : Bool :=
  match s.flight? k with
  | some f => l.any (fun j => match s.flight? j with
      | some g => g.qid == f.qid && g.tag == f.tag && g.gen == f.gen && g.fprint == f.fprint
      | none => false)
  | none => false

/-- End a bound command whose member is lost: class R INTERNAL_ERROR, class M IN_DOUBT, with DUP for a duplicate (R520, R201). -/
def State.boundLost (s : State) (k : Nat) (dup : Bool) : State :=
  match s.flight? k with
  | some f => if f.mutates then (s.setFlight k { f with dup }).complete k 0x23 else s.complete k 0x50
  | none => s

/-- The exchanges open with member `m`, as commands in flight: READ_ALBs, then bound commands in the order they were sent. -/
def State.runsOf (s : State) (m : Nat) : List Nat × List Nat :=
  let l := s.casc.runs.filter (fun r => r.dev == m)
  ((l.filterMap (fun r => match r.use with | .host k _ => some k | _ => none)).dedup,
   l.filterMap (fun r => match r.use with | .cmd k => some k | _ => none))

/-- Member `m` is lost (R520), with a reason of Table 22-4. -/
def State.loseMember (s : State) (m reason : Nat) : State :=
  if s.cascRole ≠ 1 ∨ s.joined m = false then s
  else
    let (hosts, cmds) := s.runsOf m
    let dups := ((List.range cmds.length).filter (fun i =>
      s.repeatsOne (listGet 0 cmds i) (cmds.take i))).map (fun i => listGet 0 cmds i)
    let s1 := s.setMember m { s.member m with joined := false, reason }
    let s2 := hosts.foldl (fun (s : State) k => s.complete k 0x50) s1
    let s3 := cmds.foldl (fun (s : State) k => s.boundLost k (dups.contains k)) s2
    let s4 := s3.streamsLost m
    let s5 := { s4 with casc := { s4.casc with runs := s4.casc.runs.filter (fun r => r.dev != m) } }
    ((s5.addF F.CASC_COUNT_LOSSES 1).postBit F.CASC_EVT_SRC 352 1 (m + reason * 256)).cascShare

/-- The members that are joined. -/
def State.joinedMembers (s : State) : List Nat := [1, 2, 3].filter (fun m => s.joined m)

/-- Every member whose path is down is lost. -/
def State.loseAll (s : State) (reason : Nat) : State := s.joinedMembers.foldl (fun (s : State) m => s.loseMember m reason) s

/-- RESET to member `m`, which is then lost (R521). -/
def State.resetOne (s : State) (m : Nat) : State := (s.cascCtl 3 m [] []).loseMember m 7

/-- A write of CASC_CTL: a wrong key, a reserved action or member performs nothing and reports a field error; on a device that is not the
master it has no effect. -/
def State.cascCtlWrite (s : State) (v : Word) : State :=
  let n := v.toNat
  if bits n 24 8 ≠ 0xC7 then s.fieldError
  else if bits n 8 2 = 2 then (if s.cascRole = 1 then s.joinedMembers.foldl State.resetOne s else s)
  else if bits n 8 2 = 1 ∧ bits n 0 2 ≠ 0 then (if s.cascRole = 1 then s.resetOne (bits n 0 2) else s)
  else s.fieldError

end Sys2Proof.Machine
end

