-- ==== Sys2Proof/Machine/Agl.lean ====
section
/-!
DEFINITION. The Agilnu Link (ch. 06): training (R139 to R143), sequence numbers and retry (R148 to R151), credits (R152, R153), low
power (R160, R161), and the cascade links, which work alike (R508, R509). Link 0 is the host link; 1 is the cascade link on CL_0 (in
pair topology, the one link), 2 that on CL_1.
-/

namespace Sys2Proof.Machine

/-! ### What a link is made of (R142, R507, R508) -/

/-- How many lanes a link has. -/
def State.laneCount (s : State) (l : Nat) : Nat := if l = 0 then 4 else if s.get F.CASC_CFG_TOPO = 1 then 2 else 1

/-- The pattern target that a lane of a link is: LN_*k* is `k`, CL_*k* is 0x10 + `k` (R523). -/
def laneTarget (l k : Nat) : Nat := if l = 0 then k else 0x10 + (l - 1) + k

/-- The lanes that take part in detection: the ones enabled, less those that a pattern run holds (R525). -/
def State.laneMask (s : State) (l : Nat) : Nat :=
  let m := if l = 0 then s.get F.AGL_LANE_LANE_EN else 2 ^ s.laneCount l - 1
  maskOf ((setBits m 4).filter (fun k => (s.tpRun? (laneTarget l k)).isNone))

/-- The widest width allowed. -/
def State.widthMax (s : State) (l : Nat) : Nat := if l = 0 then 2 ^ s.get F.AGL_CFG_WIDTH_MAX else s.laneCount l

/-- The highest generation allowed. -/
def State.genMax (s : State) (l : Nat) : Nat := if l = 0 then s.get F.AGL_CFG_GEN_MAX else s.get F.CASC_CFG_GEN_MAX

/-- Does this end act as the host side (R508)? -/
def State.upperEnd (s : State) (l : Nat) : Bool := l = 2 || (l = 1 && s.get F.CASC_CFG_TOPO == 1 && s.cascRole == 1)

/-- The generations advertised: up to the highest allowed, less those marked failed (R140). Bit `k` is AGL`k`+1. -/
def State.genSup (s : State) (l : Nat) : Nat :=
  maskOf ((List.range (s.genMax l)).filter (fun g => !bit (s.lnk l).failed g))

/-- The physical lane of logical lane `j`. -/
def physLane (rev : Bool) (j : Nat) : Nat := if rev then 3 - j else j

/-- The physical lanes of a width. -/
def lanesFor (rev : Bool) (w : Nat) : List Nat := (List.range w).map (physLane rev)

/-- The widest of ×4, ×2 and ×1 allowed whose lanes are all in the mask `m` (R142); 0 for none. -/
def bestWidth (rev : Bool) (mx m : Nat) : Nat :=
  ([4, 2, 1].find? (fun w => decide (w ≤ mx) && (lanesFor rev w).all (bit m))).getD 0

/-- The code of a width in `AGL_STAT.WIDTH`. -/
def widthCode (w : Nat) : Nat := if w = 4 then 2 else if w = 2 then 1 else 0

/-- Is the state L0, L1 or RECOVERY? -/
def Link.up (v : Link) : Bool := v.state == 6 || (decide (7 ≤ v.state) && decide (v.state ≤ 0xA))

/-! ### Ordered sets sent -/

/-- The XOR of bytes. -/
def xorBytes (l : List Byte) : Byte := l.foldl (· ^^^ ·) 0

/-- The 16 bytes of a TS1 (0x4A) or TS2 (0x45). -/
def tsBytes (t : TsSet) (typ : Nat) : List Byte :=
  let b := natLE 1 typ ++ natLE 1 t.lane ++ natLE 1 t.width ++ natLE 1 (t.genSup % 8 + b2n t.chg * 128) ++ natLE 1 t.target
    ++ natLE 1 (t.preset % 16 + t.phase % 4 * 16 + b2n t.usePreset * 64) ++ natLE 1 t.role ++ natLE 1 (b2n t.loopback)
    ++ (List.range 7).flatMap (fun _ => natLE 1 typ)
  b ++ [xorBytes b]

/-- The logical number and the width that this end sends on physical lane `k`: in CONFIG the host side proposes the best width and the device
echoes what the host proposed; afterwards those of the width in use (R139). -/
def State.laneNumber (s : State) (l k : Nat) : Option (Nat × Nat) :=
  let v := s.lnk l
  if v.state < 5 then none
  else if v.state = 5 ∧ s.upperEnd l = false then (v.echo.find? (fun p => p.1 == k)).map (·.2)
  else
    let w := if v.state = 5 then bestWidth v.reversed (s.widthMax l) v.trained else widthLanes v.width
    ((List.range w).find? (fun j => physLane v.reversed j == k)).map (fun j => (j, w))

/-- The set this end sends on lane `k` (R139, R140): its role is 0x02, or 0x03 on a cascade link. -/
def State.ownSet (s : State) (l k : Nat) : TsSet :=
  let v := s.lnk l
  let n := s.laneNumber l k
  let ask := s.upperEnd l && v.chgTo != 0
  { lane := (n.map (·.1)).getD 0xF7, width := (n.map (·.2)).getD 0xF7, genSup := s.genSup l, chg := ask,
    target := if ask then v.chgTo else 0, role := if l = 0 then 2 else 3,
    preset := if v.gen = 2 then s.get F.AGL_EQ_START2 else if v.gen = 3 then s.get F.AGL_EQ_START3 else 0 }

/-- Send the ordered sets of the present training state, one on each lane that takes part. -/
def State.sendSets (s : State) (l : Nat) : State :=
  let v := s.lnk l
  let typ := if v.state = 3 ∨ v.state = 7 ∨ v.state = 8 then 0x4A else if v.state = 4 ∨ v.state = 5 ∨ v.state = 9 then 0x45 else 0
  if typ = 0 then s
  else (setBits v.trained 4).foldl (fun (s : State) k => s.setOn l typ (tsBytes (s.ownSet l k) typ) k) s

/-- Send EIOS on every active lane. -/
def State.sendEios (s : State) (l : Nat) : State := s.setAll l 0x66 (List.replicate 16 0x66)

/-- Send 16 IDL bytes on each lane of the width (Table 6-7). -/
def State.sendIdl (s : State) (l : Nat) : State := s.wire l (List.replicate (16 * widthLanes (s.lnk l).width) 0)

/-! ### Moves between states (Table 6-7) -/

/-- A link on its way to DETECT.QUIET: numbers, credits and marks start afresh, what is queued stays (R148, R153, R141). -/
def Link.quiet (v : Link) : Link := { state := 1, tx := v.tx, dreqs := v.dreqs, ctlAt := v.ctlAt, phy := v.phy }

/-- The link goes to DETECT.QUIET. A pending LANES commit applies at once (Table 6-11); with a cascade link down the members on its path
are lost (R520), and a member uses its own energy fields (R517) and joins again (R511). -/
def State.toQuiet (s : State) (l : Nat) : State :=
  let s1 := s.setLnk l (s.lnk l).quiet
  if l = 0 then s1.commitNow 0
  else if s.cascRole = 1 then s1.loseAll 6
  else if l = 1 then { s1 with casc := { s1.casc with accepted := false, joinAt := none }, rt := { s1.rt with share := none } }
  else s1

/-- Link-down (R143): counted but in REMOVING (R133), and an orderly HOST reset outside TRAILHEAD and REMOVING. -/
def State.linkDown (s : State) (l : Nat) : State :=
  let s1 := s.toQuiet l
  if l ≠ 0 ∨ s.st = stRemoving then s1
  else
    let s2 := (s1.addF F.AGL_ERR_1_LINK_DOWNS 1).set F.AGL_EVT_LINK_DOWN 1
    if s.st = stTrailhead then s2 else s2.orderlyStart .host

/-- A link on its way to RECOVERY.LOCK; `chg` is the generation to change to, 0 for none. -/
def Link.lock (v : Link) (chg : Nat) : Link := { v with state := 7, cnt := [], chgTo := chg, newRate := false, pm := 0 }

/-- From L0 to RECOVERY.LOCK. -/
def State.linkRecover (s : State) (l chg : Nat) : State :=
  let s1 := s.setLnk l ((s.lnk l).lock chg)
  let s2 := if l = 0 then (s1.addF F.AGL_ERR_1_RECOVERIES 1).set F.AGL_EVT_RECOVERY 1 else s1
  s2.sendSets l

/-- Set an event bit of the host link. -/
def State.aglEvt (s : State) (l : Nat) (f : Fld) : State := if l = 0 then s.set f 1 else s

/-- The present generation fails: it is marked, and the link returns to the rate before (R141). -/
def State.genFails (s : State) (l : Nat) : State :=
  let v := s.lnk l
  let s1 := s.setLnk l { v with
    state := 7, cnt := [], newRate := false, gen := v.prevGen, failed := v.failed ||| (1 <<< (v.gen - 1)), presets := 0 }
  ((s1.aglEvt l F.AGL_EVT_EQ_FAIL).aglEvt l F.AGL_EVT_RATE_CHG).sendSets l

/-- RECOVERY.IDLE: TS2, then IDL bytes (Table 6-7). -/
def State.toIdle (s : State) (l : Nat) : State :=
  ((s.setLnk l { s.lnk l with state := 9, cnt := [] }).sendSets l).sendIdl l

/-- Locking is done: equalisation on the first entry to an AGL2 or AGL3 rate, else RECOVERY.IDLE. -/
def State.locked (s : State) (l : Nat) : State :=
  let v := s.lnk l
  let eq := decide (2 ≤ v.gen) && !bit v.eqDone (v.gen - 1)
  if eq then (s.setLnk l { v with state := 8, cnt := [] }).sendSets l else s.toIdle l

/-- Continue at a width (R142). -/
def State.narrow (s : State) (l w : Nat) : State :=
  let v := s.lnk l
  let m := maskOf (lanesFor v.reversed w)
  (s.setLnk l { v with width := widthCode w, active := m, trained := m }).aglEvt l F.AGL_EVT_WIDTH_DOWN

/-! ### Cascade credits granted (R509) -/

/-- Grant `h` CHDR and `d` CDAT units on a cascade link, and say so. -/
def State.cascGrant (s : State) (l h d : Nat) : State :=
  let v := s.lnk l
  let a := (v.cmdLimit + h) % 4096
  let b := (v.datLimit + d) % 4096
  let s1 := s.setLnk l { v with cmdLimit := a, datLimit := b }
  let s2 := if h = 0 then s1 else s1.linkFrame l 0x13 ([4] ++ natLE 2 a)
  if d = 0 then s2 else s2.linkFrame l 0x13 ([5] ++ natLE 2 b)

/-- What a cascade link does on entry to L0: grants as many units as the device likes, up to 2,048 ahead (two free values), JOIN from a
member (R511), and REMOVE from a master in REMOVING (Table 22-5). -/
def State.cascUp (s : State) (l : Nat) (fresh : Bool) : State :=
  let s1 := if fresh then
      let (a, t) := s.freeBits 11
      let (b, t) := t.freeBits 11
      t.cascGrant l (a + 1) (b + 1)
    else s
  let s2 := if l = 1 then s1.joinSend else s1
  let owed := s2.casc.removeOwed
  (owed.foldl (fun (s : State) m => s.cascCtl 4 m [] []) { s2 with casc := { s2.casc with removeOwed := [] } })

/-- Entry to L0; `fresh` from CONFIG, where every link is at AGL1 (R140). -/
def State.enterL0 (s : State) (l : Nat) (fresh : Bool) : State :=
  let v := s.lnk l
  let s1 := s.setLnk l { v with state := 6, cnt := [], ts := 0, newRate := false, gen := if fresh then 1 else v.gen }
  let s2 := if fresh then s1.aglEvt l F.AGL_EVT_LINK_UP else s1
  let s3 := if l = 0 then s2.cmdRaise else s2.cascUp l fresh
  s3.linkFlush l ((s3.lnk l).tx.length + 1)

/-! ### Training rows -/

/-- AGL_DETECT_QUIET_END (Table 6-7): receiver detection finds receivers on the lanes `found`. -/
def aglDetectQuietEnd (l found : Nat) (s : State) : State :=
  let v := s.lnk l
  let m := maskOf ((setBits found (s.laneCount l)).filter (bit (s.laneMask l)))
  if l < 3 ∧ v.state = 1 ∧ m ≠ 0 then (s.setLnk l { v with state := 3, trained := m, pol := 0, cnt := [] }).sendSets l else s

/-- Count the sets received in a row on each lane of those that take part. -/
def Link.countRow (v : Link) (lanes : List Nat) : Link :=
  { v with cnt := (setBits v.trained 4).filterMap (fun k => if lanes.contains k then some (k, tget 0 v.cnt k + 1) else none) }

/-- Count the sets received on each lane. -/
def Link.countAll (v : Link) (lanes : List Nat) : Link :=
  { v with cnt := (setBits v.trained 4).map (fun k => (k, tget 0 v.cnt k + b2n (lanes.contains k))) }

/-- The lanes on which at least eight sets have been counted. -/
def Link.eight (v : Link) : Nat := maskOf ((setBits v.trained 4).filter (fun k => decide (8 ≤ tget 0 v.cnt k)))

/-- CONFIG: do the lane numbers and widths received agree with what this end sends for a width? -/
def agrees (sets : List (Nat × TsSet)) (rev : Bool) (w : Nat) : Bool :=
  w != 0 && (List.range w).all (fun j =>
    sets.any (fun p => p.1 == physLane rev j && p.2.lane == j && p.2.width == w))

/-- POLL.ACTIVE: polarity is corrected, and eight sets in a row on a lane lead on. -/
def State.tsPoll (s : State) (l : Nat) (sets : List (Nat × TsSet)) : State :=
  let v := ((s.lnk l).countRow (sets.map (·.1)))
  let v1 := { v with pol := v.pol ||| maskOf ((sets.filter (fun p => p.2.inv)).map (·.1)) }
  let v2 := if v1.eight ≠ 0 then { v1 with state := 4, cnt := [], ts := 0 } else v1
  (s.setLnk l v2).sendSets l

/-- POLL.CONFIG: one TS2 is sent for each received; after eight received and sixteen sent the link goes on with the lanes that trained. -/
def State.tsPollConfig (s : State) (l : Nat) (two : Bool) (sets : List (Nat × TsSet)) : State :=
  if two = false then s.sendSets l
  else
    let v := (s.lnk l).countAll (sets.map (·.1))
    let v1 := { v with ts := v.ts + 1 }
    let v2 := if v1.eight ≠ 0 ∧ 16 ≤ v1.ts then { v1 with state := 5, cnt := [], ts := 0, trained := v1.eight } else v1
    (s.setLnk l v2).sendSets l

/-- The width of the link in CONFIG: the host side's own; at the device the one the host proposes, when that is ×1, ×2 or ×4, at most
`WIDTH_MAX`, and all its lanes trained; 0 for none. -/
def State.configWidth (s : State) (l : Nat) (rev : Bool) (sets : List (Nat × TsSet)) : Nat :=
  let t := (s.lnk l).trained
  if s.upperEnd l then bestWidth rev (s.widthMax l) t
  else match sets.find? (fun p => p.2.lane == 0) with
    | some (_, x) =>
      if (x.width = 1 ∨ x.width = 2 ∨ x.width = 4) ∧ x.width ≤ s.widthMax l ∧ (lanesFor rev x.width).all (bit t) then x.width else 0
    | none => 0

/-- CONFIG: the host's numbers show whether the lanes are reversed. The device echoes the numbers and the width it can use, and two agreeing
TS2 settle width and lanes (R139, R142); IDL bytes follow. -/
def State.tsConfig (s : State) (l : Nat) (two : Bool) (sets : List (Nat × TsSet)) : State :=
  let v := s.lnk l
  let rev := l == 0 && s.get F.AGL_CFG_REV_EN == 1 && sets.any (fun p => p.1 == 3 && p.2.lane == 0)
  let w := s.configWidth l rev sets
  let good := two && agrees sets rev w
  let echo := (sets.filter (fun p => p.2.width == w && decide (p.2.lane < w) && physLane rev p.2.lane == p.1)).map (fun p =>
    (p.1, (p.2.lane, w)))
  let v1 : Link := { v with
    ts := if good then v.ts + 1 else 0, reversed := rev, echo, partner := ((sets.map (fun p => p.2.genSup)).head?).getD v.partner }
  let v2 := if 2 ≤ v1.ts then { v1 with width := widthCode w, active := maskOf (lanesFor rev w) } else v1
  let s1 := (s.setLnk l v2).sendSets l
  if v1.ts = 2 then s1.sendIdl l else s1

/-- RECOVERY.LOCK: a change request that is followed is answered with EIOS (R140); else eight sets in a row on every active lane lock. -/
def State.tsLock (s : State) (l : Nat) (sets : List (Nat × TsSet)) : State :=
  let v := s.lnk l
  let ask := sets.find? (fun p => p.2.chg && p.2.target != 0 && p.2.target != v.gen && bit (s.genSup l) (p.2.target - 1))
  let v0 : Link := { v with partner := ((sets.map (fun p => p.2.genSup)).head?).getD v.partner }
  if s.upperEnd l ∧ v.chgTo ≠ 0 then
    (if v.cnt = [] then ((s.setLnk l (Link.countRow { v0 with trained := v.active } (sets.map (·.1)))).sendSets l).sendEios l else s)
  else if v.chgTo ≠ 0 then s
  else match (if s.upperEnd l then none else ask) with
    | some (_, t) => ((s.setLnk l { v0 with chgTo := t.target }).sendSets l).sendEios l
    | none =>
      let v1 := Link.countRow { v0 with trained := v.active } (sets.map (·.1))
      let s1 := (s.setLnk l v1).sendSets l
      if v1.eight = v.active ∧ v.active ≠ 0 then s1.locked l else s1

/-- A TS1 or TS2 is received on some lanes (R139, R140, R142). In L0 a TS1 shows that the other end is in RECOVERY. -/
def State.tsIn (s : State) (two : Bool) (l : Nat) (given : List (Nat × TsSet)) : State :=
  let v := s.lnk l
  let sets := given.filter (fun p => bit v.trained p.1)
  if 3 ≤ l ∨ sets = [] then s
  else if v.state = 3 then s.tsPoll l sets
  else if v.state = 4 then s.tsPollConfig l two sets
  else if v.state = 5 then s.tsConfig l two sets
  else if v.state = 6 ∧ two = false then (s.linkRecover l 0).tsLock l sets
  else if v.state = 7 then s.tsLock l sets
  else s

/-- TS1 (R139). -/
def ts1 (l : Nat) (sets : List (Nat × TsSet)) (s : State) : State := s.tsIn false l sets

/-- TS2 (R139). -/
def ts2 (l : Nat) (sets : List (Nat × TsSet)) (s : State) : State := s.tsIn true l sets

/-- AGL_TRAINING_TIMEOUT (Table 6-7). In RECOVERY.LOCK the link goes on at a narrower width that still locks (R142). -/
def aglTrainingTimeout (l : Nat) (s : State) : State :=
  let v := s.lnk l
  if 3 ≤ l then s
  else if v.state = 3 ∨ v.state = 4 ∨ v.state = 5 then s.toQuiet l
  else if v.state = 7 then
    let w := bestWidth v.reversed 4 (v.eight &&& v.active)
    if w ≠ 0 ∧ v.chgTo = 0 then (s.narrow l w).locked l
    else if v.newRate then s.genFails l
    else s.linkDown l
  else if v.state = 8 then s.genFails l
  else if v.state = 9 then s.linkDown l
  else s

/-- IDL_BYTES_RECEIVED (Table 6-7): 16 IDL bytes have been received, in CONFIG after two agreeing TS2 or in RECOVERY.IDLE. -/
def idlBytesReceived (l : Nat) (s : State) : State :=
  let v := s.lnk l
  if l < 3 ∧ v.state = 5 ∧ 2 ≤ v.ts then s.enterL0 l true
  else if l < 3 ∧ v.state = 9 then s.enterL0 l false
  else s

/-- The sets of an equalisation phase leave on every active lane: `f` sets the preset fields of lane `k`. -/
def State.eqSets (s : State) (l phase : Nat) (f : Nat → TsSet → TsSet) : State :=
  (setBits (s.lnk l).active 4).foldl (fun (s : State) k =>
    s.setOn l 0x4A (tsBytes (f k { s.ownSet l k with phase }) 0x4A) k) s

/-- EQUALISATION (R141): `asks` are the host presets that the device tries in phase 2, the best last; `asked` those that the host asks
of each lane of the device in phase 3; `ok` that every phase ends in time. The device announces its starting preset in phase 0, locks with
it in phase 1, asks in phase 2 and applies what it is asked in phase 3. -/
def equalisation (l : Nat) (asks asked : List Nat) (ok : Bool) (s : State) : State :=
  let v := s.lnk l
  if 3 ≤ l ∨ v.state ≠ 8 then s
  else if ok = false then s.genFails l
  else
    let tries := if s.get F.AGL_EQ_FIXED = 1 then [] else asks.take 9
    let s1 := (s.eqSets l 0 (fun _ t => t)).eqSets l 1 (fun _ t => t)
    let s2 := tries.foldl (fun (s : State) p => s.eqSets l 2 (fun _ t => { t with usePreset := true, preset := p })) s1
    let s3 := s2.eqSets l 3 (fun k t => { t with preset := listGet 0 asked k % 8 })
    let ps := (List.range 4).foldl (fun n k => n + (if bit v.active k then listGet 0 asked k % 8 else 0) * 16 ^ k) 0
    (s3.setLnk l { s3.lnk l with eqDone := v.eqDone ||| (1 <<< (v.gen - 1)), presets := ps }).toIdle l

/-- SKP (R138): fill of the elastic buffer, which holds no state of the machine. -/
def skp (_l : Nat) (s : State) : State := s

/-- ALN (R138): in L0 the lane alignment set at which a LANES commit applies; on the cascade links, a CASCADE commit. -/
def aln (l : Nat) (s : State) : State :=
  if l = 0 ∧ s.agl.state = 6 then s.commitNow 0
  else if (l = 1 ∨ l = 2) ∧ (s.lnk l).state = 6 ∧ s.boundaryOk 1 then s.commitNow 1
  else s

/-- The 16 bytes of an ALN. -/
def alnBytes (n : Nat) : List Byte :=
  let b : List Byte := [0x78] ++ natLE 1 n ++ List.replicate 13 0x78
  b ++ [xorBytes b]

/-- The best generation that both ends of a link advertise. -/
def State.bestGen (s : State) (l : Nat) : Nat := ([3, 2, 1].find? (fun g => bit (s.genSup l &&& (s.lnk l).partner) (g - 1))).getD 1

/-- SKP_ALN_INTERVAL (R138): the transmitter sends SKP and ALN in turn on every active lane. The upper end of a cascade link then asks for
the best generation of both ends (R140, R508). -/
def skpAlnInterval (l : Nat) (s : State) : State :=
  let v := s.lnk l
  if 3 ≤ l ∨ v.state ≠ 6 then s
  else
    let set : List Byte := if v.alnTurn then alnBytes v.alnCnt else List.replicate 12 0xAA ++ [0xE1, 0, 0, 0]
    let v1 := { v with alnTurn := !v.alnTurn, alnCnt := if v.alnTurn then (v.alnCnt + 1) % 256 else v.alnCnt }
    let s1 := (s.setLnk l v1).setAll l (if v.alnTurn then 0x78 else 0xAA) set
    if s.upperEnd l ∧ v.gen < s.bestGen l then s1.linkRecover l (s.bestGen l) else s1

/-- Is a frame queued for link `l`: one that waits in it; for the host also the rest of a command's data, a completion that can be posted, or a
host-forward event? -/
def State.linkQueued (s : State) (l : Nat) : Bool :=
  !(s.lnk l).tx.isEmpty || (l == 0 && (
    s.host.flights.any (fun p => p.2.phase != .ready && decide (p.2.sent < p.2.out.length)) || !s.router.hfq.isEmpty
      || s.host.qps.any (fun p => p.2.st != .absent && p.2.bound && (p.2.cqTail + 1) % p.2.cqDepth != p.2.cqHead
        && p.2.ready.any (fun c => !c.silent))))

/-- EIOS (R160, Table 6-7): a change of rate takes place, or the link enters L1 or L2. The device leaves L1 at once for a frame that was queued
meanwhile (R161). -/
def eios (l : Nat) (s : State) : State :=
  let v := s.lnk l
  if 3 ≤ l then s
  else if v.state = 7 ∧ v.chgTo ≠ 0 then
    ((s.setLnk l { v with gen := v.chgTo, prevGen := v.gen, chgTo := 0, newRate := true, cnt := [], presets := 0 }).aglEvt l F.AGL_EVT_RATE_CHG).sendSets l
  else if v.state = 6 ∧ v.pm ≠ 0 then
    let s1 := s.setLnk l { v with state := if v.pm = 1 then 0xA else 0xB, pm := 0 }
    if v.pm = 1 ∧ s.linkQueued l then s1.leaveL1 l else s1
  else s

/-- EIEOS (R161): the other end leaves L1. -/
def eieos (l : Nat) (s : State) : State :=
  if l < 3 ∧ (s.lnk l).state = 0xA then (s.setLnk l ((s.lnk l).lock 0)).sendSets l else s

/-- ELECTRICAL_IDLE_EXIT (Table 6-7): in L2 a receiver leaves idle. Leaving L2 is not link-down (R143). -/
def electricalIdleExit (l : Nat) (s : State) : State := if l < 3 ∧ (s.lnk l).state = 0xB then s.toQuiet l else s

/-! ### Sequence numbers (R148, R149) -/

/-- What the number of a frame says. -/
inductive SeqSays where
  | expected | again | other
  deriving DecidableEq, Repr

/-- Compare a frame's number with the one expected. -/
def Link.says (v : Link) (seq : Nat) : SeqSays :=
  if seq = v.rx then .expected else if (v.rx + 4096 - seq % 4096) % 4096 ≤ 2048 then .again else .other

/-- The number of the last frame accepted: 4,095 before any has been (DESIGN CHOICE, log entry 125). -/
def Link.lastRx (v : Link) : Nat := (v.rx + 4095) % 4096

/-- Send ACK or NAK (0x11, 0x12), which acknowledges what has been accepted. -/
def State.ackSend (s : State) (l typ : Nat) : State :=
  let v := s.lnk l
  (s.setLnk l { v with unacked := 0 }).linkFrame l typ (natLE 2 v.lastRx)

/-- A frame with a number arrives (R148): true when it is accepted. A repeat is acknowledged, any other is answered with NAK. The
16th frame (`COALESCE`) forces an ACK. -/
def State.rxFrame (s : State) (l seq : Nat) : Bool × State :=
  let v := s.lnk l
  if 3 ≤ l ∨ v.state ≠ 6 then (false, s)
  else match v.says seq with
    | .again => (false, s.ackSend l 0x11)
    | .other => (false, s.ackSend l 0x12)
    | .expected =>
      let s1 := s.setLnk l { v with rx := (v.rx + 1) % 4096, unacked := v.unacked + 1 }
      (true, if s.get F.AGL_REPLAY_COALESCE ≤ v.unacked + 1 then s1.ackSend l 0x11 else s1)

/-- Count a malformed frame of the host link (R147). -/
def State.malformed (s : State) (l : Nat) : State :=
  if l = 0 then (s.addF F.AGL_ERR_1_MALFORMED 1).set F.AGL_EVT_MALFORMED 1 else s

/-- A register frame of the host link needs a CMD unit (R153): true when it has one. -/
def State.cmdTake (s : State) : Bool × State :=
  let v := s.agl
  if (v.cmdLimit + 4096 - v.cmdUsed) % 4096 = 0 then
    (false, (s.addF F.AGL_ERR_1_CREDIT_VIOL 1).set F.AGL_EVT_CREDIT_VIOL 1)
  else (true, { s with agl := { v with cmdUsed := (v.cmdUsed + 1) % 4096 } })

/-- MALFORMED_FRAME (R147, R510): it is acknowledged, discarded and counted. `seq` is none for a link frame; a register frame has used
its CMD unit. -/
def malformedFrame (l typ : Nat) (seq : Option Nat) (s : State) : State :=
  if 3 ≤ l ∨ (s.lnk l).state ≠ 6 then s
  else match seq with
    | none => s.malformed l
    | some n =>
      match s.rxFrame l n with
      | (true, s1) => (if l = 0 ∧ (typ = 0x21 ∨ typ = 0x22) then s1.cmdTake.2 else s1).malformed l
      | (false, s1) => s1

/-- FRAMING_ERROR (R144): NAK and RECOVERY.LOCK. -/
def framingError (l : Nat) (s : State) : State :=
  if 3 ≤ l ∨ (s.lnk l).state ≠ 6 then s
  else ((if l = 0 then s.addF F.AGL_ERR_0_CRC_ERRS 1 else s).ackSend l 0x12).linkRecover l 0

/-- FRAME_CRC_FAIL (R148): the frame is discarded and answered with NAK; what of a cascade frame is in Q_43 is rewound (R230). -/
def frameCrcFail (l : Nat) (s : State) : State :=
  if 3 ≤ l ∨ (s.lnk l).state ≠ 6 then s else (if l = 0 then s.addF F.AGL_ERR_0_CRC_ERRS 1 else s.fqRewindQ 43).ackSend l 0x12

/-- ACK_TIMER (R149). -/
def ackTimer (l : Nat) (s : State) : State :=
  if l < 3 ∧ (s.lnk l).state = 6 ∧ 0 < (s.lnk l).unacked then s.ackSend l 0x11 else s

/-! ### Acknowledgements received, replay (R149 to R151) -/

/-- Send frames again, with their numbers; to the host, in REMOVING, only those that may leave then (R133). -/
def State.resend (s : State) (l : Nat) (fs : List (Nat × TxItem)) : State :=
  (fs.filter (fun p => l != 0 || s.st != stRemoving || p.2.afterRemoval)).foldl (fun (s : State) p => s.sendFrame l p.1 p.2) s

/-- Count a replay of the host link. -/
def State.countReplay (s : State) (l : Nat) : State := if l = 0 then s.addF F.AGL_ERR_0_REPLAYS 1 else s

/-- Frames up to and including `seq` are acknowledged; none when that number is not outstanding. -/
def Link.acked (v : Link) (seq : Nat) : Option Link :=
  if v.retry.any (fun p => p.1 == seq) then
    some { v with retry := (v.retry.dropWhile (fun p => p.1 != seq)).drop 1, tries := 0, recov := 0 }
  else none

/-- ACK (R149, R150). -/
def aglAck (l seq : Nat) (s : State) : State :=
  if 3 ≤ l ∨ (s.lnk l).state ≠ 6 then s
  else match (s.lnk l).acked seq with
    | some v => (s.setLnk l v).linkFlush l (v.tx.length + 1)
    | none => s.malformed l

/-- NAK (R149, R150): every frame after `seq` is sent again. -/
def aglNak (l seq : Nat) (s : State) : State :=
  if 3 ≤ l ∨ (s.lnk l).state ≠ 6 then s
  else match (s.lnk l).acked seq with
    | some v => (((s.setLnk l v).countReplay l).resend l v.retry).linkFlush l (v.tx.length + 1)
    | none => s.malformed l

/-- REPLAY_TIMER (R150): replay, and after `REPLAY_MAX` replays without progress RECOVERY.LOCK; the third such entry leads to DETECT.QUIET. -/
def replayTimer (l : Nat) (s : State) : State :=
  let v := s.lnk l
  if 3 ≤ l ∨ v.state ≠ 6 ∨ v.retry = [] then s
  else if v.tries < s.get F.AGL_REPLAY_REPLAY_MAX then
    ((s.setLnk l { v with tries := v.tries + 1 }).countReplay l).resend l v.retry
  else
    let s1 := (s.setLnk l { v with tries := 0, recov := v.recov + 1 }).linkRecover l 0
    if v.recov < 2 then s1 else s1.linkDown l

/-! ### Credits received and granted (R152) -/

/-- CREDIT (R152): the class's cumulative limit: CTL and RDAT on the host link, CHDR and CDAT on a cascade link. Another class is one
that this end grants: malformed. -/
def aglCredit (l cls limit : Nat) (s : State) : State :=
  let v := s.lnk l
  let a := if l = 0 then 2 else 4
  if 3 ≤ l ∨ v.state ≠ 6 then s
  else if cls = a then (s.setLnk l { v with ctlLimit := limit % 4096 }).linkFlush l (v.tx.length + 1)
  else if cls = a + 1 then (s.setLnk l { v with rdatLimit := limit % 4096 }).linkFlush l (v.tx.length + 1)
  else s.malformed l

/-- CREDIT_REFRESH (R152): the limits granted are sent again. -/
def creditRefresh (l : Nat) (s : State) : State :=
  let v := s.lnk l
  if 3 ≤ l ∨ v.state ≠ 6 then s
  else if l = 0 then (if s.st = stTrailhead then s else s.linkFrame 0 0x13 ([1] ++ natLE 2 v.cmdLimit))
  else (s.linkFrame l 0x13 ([4] ++ natLE 2 v.cmdLimit)).linkFrame l 0x13 ([5] ++ natLE 2 v.datLimit)

/-! ### Power states and LINK_CTL (R159, R160) -/

/-- A PM request for state `p` (1 L1, 2 L2). -/
def State.pmRequest (s : State) (l p : Nat) : State :=
  let v := s.lnk l
  let on := if p = 1 then s.get F.AGL_PM_L1_EN else s.get F.AGL_PM_L2_EN
  if 3 ≤ l ∨ v.state ≠ 6 then s
  else if v.pm ≠ 0 then s.linkFrame l 0x14 [if v.pm = p then 3 else 4]
  else if on = 1 ∧ v.retry = [] ∧ s.linkQueued l = false then ((s.setLnk l { v with pm := p }).linkFrame l 0x14 [3]).sendEios l
  else s.linkFrame l 0x14 [4]

/-- ENTER_L1 (R160). -/
def enterL1 (l : Nat) (s : State) : State := s.pmRequest l 1

/-- ENTER_L2 (R160). -/
def enterL2 (l : Nat) (s : State) : State := s.pmRequest l 2

/-- LINK_CTL frames that follow within 1 µs are one (R159): true for the first. -/
def State.ctlFirst (s : State) (l : Nat) : Bool × State :=
  let v := s.lnk l
  (match v.ctlAt with | some t => decide (1 < s.clock - t) | none => true, s.setLnk l { v with ctlAt := some s.clock })

/-- LINK_CTL_RESET (R159): an orderly HOST reset, ignored in REMOVING. Only the host sends it. -/
def linkCtlReset (s : State) : State :=
  if s.agl.state ≠ 6 then s
  else match s.ctlFirst 0 with
    | (true, s1) => s1.orderlyStart .host
    | (false, s1) => s1

/-- LINK_CTL_RETRAIN (R159). -/
def linkCtlRetrain (l : Nat) (s : State) : State :=
  if 3 ≤ l ∨ (s.lnk l).state ≠ 6 then s
  else match s.ctlFirst l with
    | (true, s1) => s1.linkRecover l 0
    | (false, s1) => s1

end Sys2Proof.Machine
end

