-- ==== Sys2Proof/Machine/Cascade.lean ====
section
/-!
DEFINITION. The cascade (ch. 22): frames received and forwarded (R508 to R510), joining (R511, R512), runs and bound commands (R514,
R515), shares (R517), events (R518), REMOVE (R519), PING and PONG (R520).
-/

namespace Sys2Proof.Machine

/-! ### Frames -/

/-- A frame received passes Q_43: its header with the first bytes, and its payload, which stands in a buffer until HOST has taken it. -/
def State.cascLand (s : State) (n : Nat) : State :=
  let s1 := s.qPassN 43 {} (1 + (n + 63) / 64)
  if n = 0 then s1
  else match s1.hmpRequest 0x0B 1 false false with
    | (.granted l, s2) => l.foldl (fun (s : State) r => s.hmpRelease r 0x0B) s2
    | (_, s2) => s2

/-- A cascade transaction frame arrives: true when it is accepted and is for this device. Its credits are granted again. A member sends
a frame for another device on by its other link, within LINK (R508). A `DST` or `SRC` whose upper bits are set is malformed (R510). LINK takes
no frame for this device while Q_43, where these go, has no credit for it, or CASCADE has no buffer for its payload (R15, R256). -/
def State.cascRx (s : State) (h : CHead) (typ : Nat) (hdr payload : List Byte) : Bool × State :=
  let mine := h.dst == s.cascId
  if h.l ≠ 1 ∧ h.l ≠ 2 then (false, s)
  else if mine && !s.qSound 43 then (false, s.fqReset 43)
  else if mine && (!s.qOpen 43 1 0 || (payload != [] && !s.hmpRoom 0x0B 1)) then (false, s)
  else match s.rxFrame h.l h.seq with
    | (false, s1) => (false, s1)
    | (true, s1) =>
      let s2 := (if mine then s1.cascLand payload.length else s1).cascGrant h.l 1 (if typ = 0x31 then 0 else (payload.length + 63) / 64)
      if 3 < h.dst ∨ 3 < h.src then (false, s2.malformed h.l)
      else if mine then (true, s2)
      else if s.cascRole = 2 ∧ s.get F.CASC_CFG_TOPO ≠ 1 then
        (false, s2.linkSend (3 - h.l) { typ, hdr := natLE 1 h.dst ++ natLE 1 h.src ++ sliceB hdr 0 10, payload })
      else (false, s2)

/-- A C_CTL frame for a device of role `role`. -/
def State.cascCtlRx (s : State) (h : CHead) (role action : Nat) (hdr payload : List Byte) : Bool × State :=
  let r := s.cascRx h 0x35 ([BitVec.ofNat 8 action, 0] ++ hdr) payload
  (r.1 && s.cascRole == role, r.2)

/-! ### Joining (R511, R512) -/

/-- The reason to refuse a JOIN (Table 22-4), 0 for none. -/
def State.joinRefusal (s : State) (m : Nat) (uid : List Byte) (sviVer st epoch : Nat) : Nat :=
  if s.joined m ∧ (s.member m).uid ≠ uid then 1
  else if epoch ≠ 0 then 2
  else if st ≠ stReady ∧ st ≠ stLimited then 3
  else if sviVer ≠ s.get F.FW_SVI_SVI_VER then 4
  else 0

/-- JOIN_ACK to member `m`. -/
def State.joinAckSend (s : State) (m reason : Nat) : State :=
  s.cascCtl 2 m [] (natLE 2 s.casc.epoch ++ natLE 1 (b2n (reason == 0)) ++ natLE 1 reason)

/-- JOIN (R511, R512, Table 22-5): withheld in TRAILHEAD. -/
def cascJoin (h : CHead) (uid : List Byte) (sviVer state form epoch : Nat) (s : State) : State :=
  let payload := sliceB uid 0 8 ++ natLE 2 sviVer ++ natLE 1 state ++ natLE 1 form ++ natLE 2 epoch ++ [0, 0]
  match s.cascCtlRx h 1 1 [] payload with
  | (false, s1) => s1
  | (true, s1) =>
    let m := h.src
    if s1.st = stTrailhead ∨ m = 0 ∨ 3 < m then s1
    else
      let r := s1.joinRefusal m uid sviVer state epoch
      let v := s1.member m
      let v1 := { v with sviVer, state, form := form % 2 == 1, reason := if r = 0 then v.reason else r }
      let s2 := (s1.setMember m (if r = 0 then { v1 with joined := true, uid, pongAt := s1.clock } else v1)).joinAckSend m r
      let s3 := if r = 0 then (s2.cascShare).postBit F.CASC_EVT_SRC 352 0 (m + state * 256)
        else if r = 2 then (s2.addF F.CASC_COUNT_REFUSED 1).cascCtl 3 m [] []
        else s2.addF F.CASC_COUNT_REFUSED 1
      if s3.st = stRemoving then s3.cascCtl 4 m [] [] else s3

/-- JOIN_REPEAT (R511): 1 ms after the last JOIN without JOIN_ACK. -/
def cascJoinRepeat (s : State) : State :=
  match s.casc.joinAt with
  | some t => if 1000 ≤ s.clock - t then s.joinSend else s
  | none => s

/-- JOIN_ACK (R511): an accepted member records the master's epoch. -/
def cascJoinAck (h : CHead) (epoch : Nat) (accepted : Bool) (reason : Nat) (s : State) : State :=
  match s.cascCtlRx h 2 2 [] (natLE 2 epoch ++ natLE 1 (b2n accepted) ++ natLE 1 reason) with
  | (true, s1) =>
    if accepted then { s1 with casc := { s1.casc with joinAt := none, accepted := true, epoch := epoch % 65536 } }
    else { s1 with casc := { s1.casc with joinAt := none } }
  | (false, s1) => s1

/-- CASCADE_RESET_ORDER (R512): a member that receives RESET performs an orderly reset with cause CASCADE. -/
def cascadeResetOrder (h : CHead) (s : State) : State :=
  match s.cascCtlRx h 2 3 [] [] with
  | (true, s1) => s1.orderlyStart .cascade
  | (false, s1) => s1

/-- REMOVE (R519): a member enters REMOVING with the master's `RMV_STAT.SRC` and `GLB_QUAL.REASON`. -/
def cascRemove (h : CHead) (src reason : Nat) (s : State) : State :=
  match s.cascCtlRx h 2 4 [] [] with
  | (true, s1) => if s1.live = false ∨ s1.st = stRemoving then s1 else s1.removalStart (src % 4) (reason % 16)
  | (false, s1) => s1

/-! ### PING, PONG and loss (R520) -/

/-- PING_TIMER (R520): every 100 µs. -/
def cascPingTimer (s : State) : State :=
  if s.cascRole = 1 ∧ 100 ≤ s.clock - s.casc.pingAt then
    s.joinedMembers.foldl (fun (s : State) m => s.cascCtl 5 m [] []) { s with casc := { s.casc with pingAt := s.clock } }
  else s

/-- PING (R520): a member answers PONG. -/
def cascPing (h : CHead) (s : State) : State :=
  match s.cascCtlRx h 2 5 [] [] with
  | (true, s1) => s1.cascCtl 6 0 [] []
  | (false, s1) => s1

/-- PONG (R520). -/
def cascPong (h : CHead) (s : State) : State :=
  match s.cascCtlRx h 1 6 [] [] with
  | (true, s1) => if s1.joined h.src then s1.setMember h.src { s1.member h.src with pongAt := s1.clock } else s1
  | (false, s1) => s1

/-- MEMBER_LOST (R520): no PONG within 500 µs, or (`down`) a link on the member's path goes to DETECT.QUIET; `beyond` are the members
beyond it on the chain. -/
def memberLost (m : Nat) (down : Bool) (beyond : List Nat) (s : State) : State :=
  if s.joined m = false ∨ (down = false ∧ s.clock - (s.member m).pongAt < 500) then s
  else beyond.foldl (fun (s : State) j => s.loseMember j 6) (s.loseMember m (if down then 6 else 5))

/-- SHARE (R517): in use from the next ledger update. -/
def cascShare (h : CHead) (refill burst hu : Nat) (s : State) : State :=
  match s.cascCtlRx h 2 7 [] (natLE 2 refill ++ natLE 1 burst ++ [0] ++ natLE 2 hu ++ [0, 0]) with
  | (true, s1) => { s1 with rt := { s1.rt with share := some (refill % 65536, (burst % 256, hu % 65536)) } }
  | (false, s1) => s1

/-! ### Runs and commands at a member (R514, R515) -/

/-- An index for a command of the master: one of the in-flight table, or, when that is full, the next number after those in use. -/
def State.cascFlight (s : State) : Nat := s.freeFlight.getD (s.host.flights.foldl (fun n p => max n (p.1 + 1)) 1024)

/-- What the device state says of work for the master: REMOVING, SERVICE_ONLY and a thermal stop end it (R519). -/
def State.cascRefusal (s : State) : Option (Nat × Nat) :=
  if s.st = stRemoving then some (0x31, 0)
  else if s.st = stServiceOnly then some (0x40, 1)
  else if s.st = stThermalHold ∨ s.therm.stop then some (0x32, 0)
  else none

/-- Record that flight `k` is exchange `xid` of the master. -/
def State.setXid (s : State) (k xid : Nat) : State :=
  { s with casc := { s.casc with xids := tput s.casc.xids k xid }, host := { s.host with takes := s.host.takes + 1 } }

/-- The 64 bytes of a READ_ALB that stand for a VOL_READ. -/
def volReadBytes (vol alb count : Nat) : List Byte :=
  [1] ++ List.replicate 15 0 ++ natLE 1 vol ++ [0, 0, 0] ++ natLE 4 alb ++ natLE 2 count ++ List.replicate 38 0

/-- C_REQ_VOL_READ (R514): the member reads the run in hardware, without journalling. Its priority is that of a pair numbered 64 + `PRIO`,
which stands for the master's. -/
def cReqVolRead (h : CHead) (xid prio vol alb count : Nat) (s : State) : State :=
  let r := s.cascRx h 0x31 (cReqHeader 1 xid prio vol alb) (natLE 4 count)
  if r.1 = false ∨ s.cascRole ≠ 2 then r.2
  else
    let s1 := r.2
    let q := 64 + prio % 8
    let k := s1.cascFlight
    let s2 := (s1.setQp q { prio := prio % 8 }).setXid k xid
    let s3 := s2.setFlight k { s2.newFlight q (volReadBytes vol alb count) with mutates := false }
    match s3.cascRefusal with
    | some (st, ql) => s3.complete k st ql
    | none => readAlb k s3

/-- C_REQ_CMD (R515): the member executes a bound command as from its own queue pair with that `QID` and `GEN` (steps 4 and 5 of R194). -/
def cReqCmd (h : CHead) (xid prio : Nat) (cmd : List Byte) (s : State) : State :=
  let r := s.cascRx h 0x31 (cReqHeader 2 xid prio 0 0) cmd
  if r.1 = false ∨ s.cascRole ≠ 2 then r.2
  else
    let s1 := r.2
    let q := bits (leAt cmd 4 1) 0 6
    let c := sliceB cmd 0 4 ++ [0, 0] ++ sliceB cmd 6 58
    let k := s1.cascFlight
    let s2 := if (s1.qp q).st = .absent then s1.setQp q { s1.qp q with gen := leAt cmd 5 1, prio := prio % 8 } else s1
    let s3 := s2.setXid k xid
    let f := s3.newFlight q c
    match s3.cascRefusal with
    | some (st, ql) => (s3.setFlight k f).complete k st ql
    | none => s3.admitCmd q k c f

/-! ### Data -/

/-- The member that runs the bound command in flight `k`, and its exchange number. -/
def State.boundRun (s : State) (k : Nat) : Option CRun :=
  s.casc.runs.find? (fun r => match r.use with | .cmd j => j == k | _ => false)

/-- C_DATA frames for bytes from `off` on, the last marked. -/
def State.cDataSend (s : State) (dst xid off : Nat) (data : List Byte) (last : Bool) : State :=
  let l := cutAt 512 (data.length / 512 + 1) 0 data
  (withIdx l).foldl (fun (s : State) p =>
    let e := last && p.1 + 1 == l.length
    s.cascSend 0x32 dst ([0, 0] ++ natLE 2 xid ++ natLE 1 (b2n e) ++ [0] ++ natLE 4 (off + p.2.1)) p.2.2) s

/-- Host data for the command in flight `k` arrives (R157, R515): true when it is the next of a range asked for. A range that is complete
goes on to the member of a bound command. -/
def State.dataIn (s : State) (k off : Nat) (data : List Byte) : Bool × State :=
  match s.flight? k, s.agl.dreqs.find? (fun d => d.flight == k && !d.dead && d.off + d.got == off && decide (d.got + data.length ≤ d.len)) with
  | some f, some d =>
    let d1 := { d with got := d.got + data.length }
    let full := d1.got == d.len
    let f1 := { f with data := writeBytes 0 f.data off data, got := f.got + data.length }
    let dreqs := s.agl.dreqs.filterMap (fun x =>
      if x.flight = k ∧ x.off = d.off ∧ x.since = d.since then (if full then none else some d1) else some x)
    let s1 := ({ s with agl := { s.agl with dreqs } }).setFlight k f1
    (true, match s.boundRun k with
      | some r => if full then s1.cDataSend r.dev r.xid d.off (readBytes 0 f1.data d.off d.len) true else s1
      | none => s1)
  | _, _ => (false, s)

/-- C_DATA (R514, R515): at the master the data of a run or of a bound command, at a member the host data of one. -/
def cData (h : CHead) (xid off : Nat) (last : Bool) (data : List Byte) (s : State) : State :=
  let hdr := [0, 0] ++ natLE 2 xid ++ natLE 1 (b2n last) ++ [0] ++ natLE 4 off
  match s.cascRx h 0x32 hdr data with
  | (false, s1) => s1
  | (true, s1) =>
    if s1.cascRole = 1 then
      { s1 with casc := { s1.casc with runs := s1.casc.runs.map (fun (r : CRun) =>
        if r.dev = h.src ∧ r.xid = xid then { r with data := writeBytes 0 r.data off data, got := max r.got (off + data.length) } else r) } }
    else match s1.casc.xids.find? (fun p => p.2 == xid) with
      | some (k, _) => (s1.dataIn k off data).2
      | none => s1

/-- The run of a READ_ALB ends: its ALBs, the flags of its member (R514). -/
def State.runEnds (s : State) (k : Nat) (r : CRun) (offs : List Nat) (e : List Byte) : State :=
  match s.flight? k with
  | none => s
  | some f =>
    let st := leAt e 8 1
    let s1 := s.setFlight k { f with lim := f.lim || bit (leAt e 10 1) 1, stale := f.stale || bit (leAt e 10 1) 3 }
    let data (i : Nat) : List Byte := if sevOf st ≤ 1 then readBytes 0 r.data (4096 * i) 4096 else []
    s1.partsDone k r.dev st (leAt e 9 1) 0 ((withIdx offs).map (fun p => (p.2, data p.1)))

/-- C_CPL (R514, R515): a run ends, or the completion of a bound command is posted after its data. -/
def cCpl (h : CHead) (xid : Nat) (entry : List Byte) (s : State) : State :=
  match s.cascRx h 0x33 ([0, 0] ++ natLE 2 xid) entry with
  | (false, s1) => s1
  | (true, s1) =>
    match s1.casc.runs.find? (fun r => r.dev == h.src && r.xid == xid) with
    | none => s1
    | some r =>
      let s2 := { s1 with casc := { s1.casc with runs := s1.casc.runs.filter (fun x => !(x.dev == h.src && x.xid == xid)) } }
      let st := leAt entry 8 1
      match r.use with
      | .host k offs => s2.runEnds k r offs entry
      | .stream t albs =>
        (withIdx albs).foldl (fun (s : State) p =>
          s.toQ36 { t, a := p.2, st, data := if sevOf st ≤ 1 then readBytes 0 r.data (4096 * p.1) 4096 else [] }) s2
      | .cmd k =>
        match s2.flight? k with
        | none => s2
        | some f => (s2.setFlight k { f with raw := entry }).deliver k st (leAt entry 9 1) (leAt entry 0 4) (readBytes 0 r.data 0 r.got)

/-- C_EVT (R518): the master posts member `m`'s event as source 353 + `m`. -/
def cEvt (h : CHead) (source prio : Nat) (data : List Byte) (s : State) : State :=
  match s.cascRx h 0x34 ([0, 0] ++ natLE 2 source ++ natLE 1 prio) data with
  | (false, s1) => s1
  | (true, s1) =>
    if s1.cascRole ≠ 1 ∨ h.src = 0 then s1
    else s1.postBit F.CASC_EVT_SRC 352 (1 + h.src)
      (source % 1024 + prio % 16 * 2 ^ 16 + h.src % 4 * 2 ^ 20 + leAt data 0 4 * 2 ^ 32)

/-- C_DREQ (R515): the master is to fetch a range of host data for a bound command; its DREQ follows. -/
def cDreq (h : CHead) (xid off len : Nat) (s : State) : State :=
  match s.cascCtlRx h 1 8 (natLE 2 xid) (natLE 4 off ++ natLE 4 len) with
  | (false, s1) => s1
  | (true, s1) =>
    match s1.casc.runs.find? (fun r => r.dev == h.src && r.xid == xid) with
    | some { use := .cmd k, .. } =>
      (match s1.flight? k with
      | some f => s1.setFlight k { f with want := max f.want (off + len) }
      | none => s1)
    | _ => s1

end Sys2Proof.Machine
end

