-- ==== Sys2Proof/Machine/Actions.lean ====
section
/-!
DEFINITION. Writing a register with every effect of the write, and the rows that name one action of a register each: a write of the
register whose bits spell the action, by a path that reaches it.
-/

namespace Sys2Proof.Machine

/-! ### A register write (R7 to R9, R114 to R124, Table 5-5) -/

/-- Is a field error pending, and nothing else of a write in hand? -/
def State.beginWrite (s : State) (x : RegIn) : State :=
  { s with keep := { s.keep with psNext := x.ps, otpNext := x.ps }, port := { s.port with fieldErr := false } }

/-- A write is over: its code is 7 for a field error, 0 otherwise. -/
def State.endWrite (s : State) : Nat × State :=
  (if s.port.fieldErr then 7 else 0,
   { s with keep := { s.keep with psNext := [], otpNext := [] }, port := { s.port with fieldErr := false } })

/-- A write of register `a` that nothing refuses: its code (Table 5-5) and its effect. -/
def State.regWrite (s : State) (p : Path) (a : Nat) (v : Word) (x : RegIn) : Nat × State :=
  let s0 := s.beginWrite x
  if a = 0x47 then ((s0.unlReq p v).1, (s0.unlReq p v).2.endWrite.2)
  else if a = 0x3204 then (s0.cascCtlWrite v).endWrite
  else ((s0.regActs p a v x).getD (s0.regStore p a v.toNat)).endWrite

/-- A write of register `a` by a path: refused, discarded (R2), or performed. -/
def State.pathWrite (s : State) (p : Path) (a : Nat) (v : Word) (x : RegIn) : Nat × State :=
  let c := s.writeRefused p a v
  if c ≠ 0 then (c, s) else if s.absentPage (a / 64) then (0, s) else s.regWrite p a v x

/-- Does the path reach register `a` now: the service port outside TRAILHEAD and REMOVING (R88, R106), the host while commands run,
the supervisor and the TAP while the logic die runs? With TMODE = 1 only the TAP reaches a page beyond 0x00 (R51). -/
def State.pathServes (s : State) (p : Path) (a : Nat) : Bool :=
  s.live && (match p with
    | .sp => s.st != stTrailhead && s.st != stRemoving
    | .host => s.works
    | .svc => !s.tmode || decide (a < 64)
    | .tap => true)

/-- A write of register `a` by a path, when its bits spell the action (`c`) and the path reaches parameter space. -/
def State.act (s : State) (c : Bool) (p : Path) (a : Nat) (v : Word) (x : RegIn) : State :=
  if c && s.pathServes p a then (s.pathWrite p a v x).2 else s

/-- Registers whose writes have a behaviour of their own, but for those that only hold values. -/
def State.plainReg (s : State) (p : Path) (a : Nat) (v : Word) (x : RegIn) : Bool :=
  decide (a < 0x4000) && a != 0x3204 && (s.regActs p a v x).isNone

/-- REGISTER_WRITE (R7): a register with no behaviour of its own. -/
def registerWrite (p : Path) (addr : Nat) (v : Word) (x : RegIn) (s : State) : State := s.act (s.plainReg p addr v x) p addr v x

/-! ### Rows of one action each -/

/-- RST_CTL_SOFT (R68). -/
def rstCtlSoft (p : Path) (v : Word) (x : RegIn) (s : State) : State := s.act (bit v.toNat 0) p 0xCD v x

/-- RST_CTL_SAVE_RMV (R68). -/
def rstCtlSaveRmv (p : Path) (v : Word) (x : RegIn) (s : State) : State := s.act (bit v.toNat 1) p 0xCD v x

/-- FAULT_STAT_CLEAR (R71). -/
def faultStatClear (p : Path) (v : Word) (x : RegIn) (s : State) : State := s.act (bit v.toNat 0) p 0xCE v x

/-- UNL_REQ (R119). -/
def unlReq (p : Path) (v : Word) (x : RegIn) (s : State) : State := s.act (true) p 0x47 v x

/-- UNL_KEY (R119). -/
def unlKey (p : Path) (v : Word) (x : RegIn) (s : State) : State := s.act (true) p 0x46 v x

/-- ACC_LOCK_SET (R118). -/
def accLockSet (p : Path) (v : Word) (x : RegIn) (s : State) : State := s.act (true) p 0x49 v x

/-- CMT_COMMIT (R123). -/
def cmtCommit (p : Path) (v : Word) (x : RegIn) (s : State) : State := s.act (bits v.toNat 8 2 == 1) p 0x80 v x

/-- CMT_DISCARD (R127). -/
def cmtDiscard (p : Path) (v : Word) (x : RegIn) (s : State) : State := s.act (bits v.toNat 8 2 == 2) p 0x80 v x

/-- IMG_CTL_ACTIVATE (R91). -/
def imgCtlActivate (p : Path) (v : Word) (x : RegIn) (s : State) : State := s.act (true) p 0x107 v x

/-- EPOCH_SET (R92). -/
def epochSet (p : Path) (v : Word) (x : RegIn) (s : State) : State := s.act (true) p 0x140 v x

/-- BOOT_CFG_WRITE (R553). -/
def bootCfgWrite (p : Path) (v : Word) (x : RegIn) (s : State) : State := s.act (true) p 0x100 v x

/-- QP_CREATE (R182). -/
def qpCreate (p : Path) (v : Word) (x : RegIn) (s : State) : State := s.act (bits v.toNat 0 3 == 1) p 0x907 v x

/-- QP_DELETE (R183). -/
def qpDelete (p : Path) (v : Word) (x : RegIn) (s : State) : State := s.act (bits v.toNat 0 3 == 2) p 0x907 v x

/-- SET_PRIO (R205). -/
def qpSetPrio (p : Path) (v : Word) (x : RegIn) (s : State) : State := s.act (bits v.toNat 0 3 == 3) p 0x907 v x

/-- BIND (R182). -/
def qpBind (p : Path) (v : Word) (x : RegIn) (s : State) : State := s.act (bits v.toNat 0 3 == 4) p 0x907 v x

/-- IDL_CLR (R219). -/
def idlClr (p : Path) (v : Word) (x : RegIn) (s : State) : State := s.act (true) p 0xB0A v x

/-- LOG_INJECT (R220). -/
def logInject (p : Path) (v : Word) (x : RegIn) (s : State) : State := s.act (true) p 0xB40 v x

/-- FQ_INJECT (R238). -/
def fqInject (p : Path) (v : Word) (x : RegIn) (s : State) : State := s.act (true) p 0xE42 v x

/-- FQ_WM_WRITE (R240). -/
def fqWmWrite (p : Path) (v : Word) (x : RegIn) (s : State) : State := s.act (true) p 0xE06 v x

/-- HMP_THR_WRITE (R255). -/
def hmpThrWrite (p : Path) (v : Word) (x : RegIn) (s : State) : State := s.act (true) p 0xC02 v x

/-- OWN_LIMIT_WRITE (R252). -/
def ownLimitWrite (p : Path) (k : Nat) (v : Word) (x : RegIn) (s : State) : State := s.act (decide (k < 16)) p (0xC40 + k) v x

/-- HMP_RELEASE_OWNER (R259). -/
def hmpReleaseOwner (p : Path) (v : Word) (x : RegIn) (s : State) : State := s.act (bits v.toNat 8 2 == 1) p 0xC50 v x

/-- HMP_SCAN_NOW (R263). -/
def hmpScanNow (p : Path) (v : Word) (x : RegIn) (s : State) : State := s.act (bits v.toNat 8 2 == 2) p 0xC50 v x

/-- HMP_FREE_ORPHANS (R265). -/
def hmpFreeOrphans (p : Path) (v : Word) (x : RegIn) (s : State) : State := s.act (bits v.toNat 8 2 == 3) p 0xC50 v x

/-- RATION_SAVE (R273). -/
def rationSave (p : Path) (v : Word) (x : RegIn) (s : State) : State := s.act (bits v.toNat 0 2 == 1) p 0x3143 v x

/-- RATION_DEFAULTS (R272). -/
def rationDefaults (p : Path) (v : Word) (x : RegIn) (s : State) : State := s.act (bits v.toNat 0 2 == 2) p 0x3143 v x

/-- CALIBRATE (R275). -/
def rationCalibrate (p : Path) (v : Word) (x : RegIn) (s : State) : State := s.act (bits v.toNat 0 2 == 3) p 0x3143 v x

/-- CAL_SAVE (R479). -/
def calSave (p : Path) (v : Word) (x : RegIn) (s : State) : State := s.act (bits v.toNat 0 3 == 1) p 0x2F04 v x

/-- CAL_RETRAIN (R469). -/
def calRetrain (p : Path) (v : Word) (x : RegIn) (s : State) : State := s.act (bits v.toNat 0 3 == 2) p 0x2F04 v x

/-- CAL_IMPORT (R480). -/
def calImport (p : Path) (v : Word) (x : RegIn) (s : State) : State := s.act (bits v.toNat 0 3 == 3) p 0x2F04 v x

/-- CLEAR_HOST (R476). -/
def clearHost (p : Path) (v : Word) (x : RegIn) (s : State) : State := s.act (bits v.toNat 0 3 == 4) p 0x2F04 v x

/-- SEQ_DBG_HALT (R335). -/
def seqDbgHalt (p : Path) (n : Nat) (v : Word) (x : RegIn) (s : State) : State := s.act (decide (n < 8) && bits v.toNat 0 2 == 1) p (0x2041 + 128 * n) v x

/-- SEQ_DBG_RESUME (R335). -/
def seqDbgResume (p : Path) (n : Nat) (v : Word) (x : RegIn) (s : State) : State := s.act (decide (n < 8) && bits v.toNat 0 2 == 2) p (0x2041 + 128 * n) v x

/-- SEQ_DBG_STEP (R335). -/
def seqDbgStep (p : Path) (n : Nat) (v : Word) (x : RegIn) (s : State) : State := s.act (decide (n < 8) && bits v.toNat 0 2 == 3) p (0x2041 + 128 * n) v x

/-- SEQ_DBG_RDATA_WRITE (R336). -/
def seqDbgRdataWrite (p : Path) (n : Nat) (v : Word) (x : RegIn) (s : State) : State := s.act (decide (n < 8)) p (0x2045 + 128 * n) v x

/-- CODEC_SAVE (R383). -/
def codecSave (p : Path) (v : Word) (x : RegIn) (s : State) : State := s.act (bits v.toNat 0 2 == 1) p 0x2490 v x

/-- CODEC_DEFAULTS (R383). -/
def codecDefaults (p : Path) (v : Word) (x : RegIn) (s : State) : State := s.act (bits v.toNat 0 2 == 2) p 0x2490 v x

/-- CLEAR_LEARN (R384). -/
def clearLearn (p : Path) (v : Word) (x : RegIn) (s : State) : State := s.act (bits v.toNat 0 2 == 3) p 0x2490 v x

/-- MAP_SAVE (R387). -/
def mapSave (p : Path) (v : Word) (x : RegIn) (s : State) : State := s.act (bits v.toNat 8 3 == 1) p 0x2704 v x

/-- INVALIDATE (R393). -/
def mapInvalidate (p : Path) (v : Word) (x : RegIn) (s : State) : State := s.act (bits v.toNat 8 3 == 2) p 0x2704 v x

/-- REBUILD (R403). -/
def mapRebuild (p : Path) (v : Word) (x : RegIn) (s : State) : State := s.act (bits v.toNat 8 3 == 3) p 0x2704 v x

/-- STR_CLOSE_ONE (R410). -/
def strCloseOne (p : Path) (v : Word) (x : RegIn) (s : State) : State := s.act (bits v.toNat 8 2 == 1) p 0x2908 v x

/-- STR_CLOSE_ALL (R410). -/
def strCloseAll (p : Path) (v : Word) (x : RegIn) (s : State) : State := s.act (bits v.toNat 8 2 == 2) p 0x2908 v x

/-- INF_LOAD (R400). -/
def infLoad (p : Path) (v : Word) (x : RegIn) (s : State) : State := s.act (bits v.toNat 8 2 == 1) p 0x2A0B v x

/-- PROVISION (R416). -/
def protProvision (p : Path) (v : Word) (x : RegIn) (s : State) : State := s.act (bits v.toNat 0 3 == 1) p 0x2B02 v x

/-- WRAP (R425). -/
def protWrap (p : Path) (v : Word) (x : RegIn) (s : State) : State := s.act (bits v.toNat 0 3 == 2) p 0x2B02 v x

/-- SEAL (R437). -/
def protSeal (p : Path) (v : Word) (x : RegIn) (s : State) : State := s.act (bits v.toNat 0 3 == 3) p 0x2B02 v x

/-- KEY_CLEAR (R424). -/
def keyClear (p : Path) (v : Word) (x : RegIn) (s : State) : State := s.act (bits v.toNat 0 3 == 4) p 0x2B02 v x

/-- SES_CLOSE (R419). -/
def sesClose (p : Path) (v : Word) (x : RegIn) (s : State) : State := s.act (bits v.toNat 0 3 == 5) p 0x2B02 v x

/-- NOR_CTL_PROGRAM (R443). -/
def norCtlProgram (p : Path) (v : Word) (x : RegIn) (s : State) : State := s.act (bits v.toNat 0 4 == 1) p 0x2D49 v x

/-- NOR_CTL_PROGRAM_CLEAR (R443). -/
def norCtlProgramClear (p : Path) (v : Word) (x : RegIn) (s : State) : State := s.act (bits v.toNat 0 4 == 2) p 0x2D49 v x

/-- NOR_CTL_ERASE (R445). -/
def norCtlErase (p : Path) (v : Word) (x : RegIn) (s : State) : State := s.act (bits v.toNat 0 4 == 3) p 0x2D49 v x

/-- NOR_CTL_WP (R453). -/
def norCtlWp (p : Path) (v : Word) (x : RegIn) (s : State) : State := s.act (bits v.toNat 0 4 == 4) p 0x2D49 v x

/-- NOR_CTL_PROTECT (R452). -/
def norCtlProtect (p : Path) (v : Word) (x : RegIn) (s : State) : State := s.act (bits v.toNat 0 4 == 5) p 0x2D49 v x

/-- PW_CHANGE (R452). -/
def norCtlPwChange (p : Path) (v : Word) (x : RegIn) (s : State) : State := s.act (bits v.toNat 0 4 == 6) p 0x2D49 v x

/-- RETIRE (R452). -/
def norCtlRetire (p : Path) (v : Word) (x : RegIn) (s : State) : State := s.act (bits v.toNat 0 4 == 7) p 0x2D49 v x

/-- OTP_PROGRAM (R458). -/
def otpProgram (p : Path) (v : Word) (x : RegIn) (s : State) : State := s.act (bits v.toNat 0 2 == 1) p 0x2D83 v x

/-- OTP_LOCK (R458). -/
def otpLock (p : Path) (v : Word) (x : RegIn) (s : State) : State := s.act (bits v.toNat 0 2 == 2) p 0x2D83 v x

/-- PS_DATA_WRITE (R465). -/
def psDataWrite (p : Path) (v : Word) (x : RegIn) (s : State) : State := s.act (true) p 0x2E03 v x

/-- EVR_POST (R483). -/
def evrPost (p : Path) (v : Word) (x : RegIn) (s : State) : State := s.act (true) p 0x400 v x

/-- EVR_PEND_CLEAR (R483). -/
def evrPendClear (p : Path) (k : Nat) (v : Word) (x : RegIn) (s : State) : State := s.act (decide (k < 12)) p (0x240 + k) v x

/-- EVR_CFG_WRITE (R488). -/
def evrCfgWrite (p : Path) (n : Nat) (v : Word) (x : RegIn) (s : State) : State := s.act (decide (n < 384)) p (0x280 + n) v x

/-- WD_CTL_WRITE (R494). -/
def wdCtlWrite (p : Path) (v : Word) (x : RegIn) (s : State) : State := s.act (true) p 0x549 v x

/-- TP_START (R524). -/
def tpStart (p : Path) (v : Word) (x : RegIn) (s : State) : State := s.act (bits v.toNat 0 2 == 1) p 0x3341 v x

/-- TP_STOP (R527). -/
def tpStop (p : Path) (v : Word) (x : RegIn) (s : State) : State := s.act (bits v.toNat 0 2 == 2) p 0x3341 v x

/-- BIST_CTL_RUN (R529). -/
def bistCtlRun (p : Path) (v : Word) (x : RegIn) (s : State) : State := s.act (bit v.toNat 8) p 0x3342 v x

/-- RESET_MEMBER (R521). -/
def resetMember (p : Path) (v : Word) (x : RegIn) (s : State) : State := s.act (bits v.toNat 8 2 == 1) p 0x3204 v x

/-- RESET_ALL (R521). -/
def resetAll (p : Path) (v : Word) (x : RegIn) (s : State) : State := s.act (bits v.toNat 8 2 == 2) p 0x3204 v x

/-- NOR_RDATA_READ (R448): a read of NOR_RDATA_LO. -/
def norRdataRead (p : Path) (s : State) : State := if s.pathServes p 0x2D43 then (s.regRead p 0x2D43).2 else s

end Sys2Proof.Machine
end

