-- ==== Sys2Proof/Machine/ServicePort.lean ====
section
/-!
DEFINITION. The service port (R93 to R113): requests as whole frames, their answers and status bytes, the 2-wire port's held response.
-/

namespace Sys2Proof.Machine

/-- Is the port the 2-wire port (R93)? -/
def State.twoWire (s : State) : Bool := bit s.aon.straps 5

/-- The status byte (Table 5-4). -/
def State.spStatus (s : State) (code : Nat) : Nat :=
  code + b2n (s.port.lockSp.openGroups != 0) * 32 + b2n (!s.port.pend.isEmpty) * 64 + b2n (s.regValue .sp 0x09 != 0) * 128

/-- The bytes of a response (R103, R105): a status code, data words. -/
def State.spResponse (s : State) (code : Nat) (data : List Nat) : List Byte :=
  let b := natLE 1 (s.spStatus code) ++ data.flatMap (natLE 4)
  b ++ natLE 1 (crc8 b)

/-- A response leaves behind its marker (R96, R101). The filler bytes 0xFF on either side are as many as the host clocks (log entry 140). -/
def State.spSend (s : State) (r : List Byte) : State := s.send (.spReply (0x5A :: r))

/-- A transaction is complete: the response is sent, or held for read transfers (R101). Nothing leaves once a reset has begun (R113). -/
def State.spAnswer (s : State) (code : Nat) (data : List Nat) : State :=
  if s.live = false then s
  else
    let r := s.spResponse code data
    let s1 := { s with port := { s.port with reply := r } }
    if s.twoWire then { s1 with port := { s1.port with held := some r } } else s1.spSend r

/-- A transaction's code before its own arguments are looked at (Table 5-5): 0 for none. `status` says that it is GET_STATUS, `bytes` are
the request bytes that the CRC covers. -/
def State.spGate (s : State) (status : Bool) (bytes : List Byte) (crc : Byte) : Nat :=
  if s.st = stTrailhead ∧ status = false then 1
  else if s.st = stRemoving ∧ status = false then 2
  else if crc8 bytes ≠ crc.toNat then 3
  else 0

/-- Answer a refusal: `n` data words that were not read. CRC errors are counted (R106). -/
def State.spRefuse (s : State) (code n : Nat) : State :=
  (if code = 3 then s.addF F.SP_ERR_CRC_ERRS 1 else s).spAnswer code (List.replicate n 0)

/-- The register at an offset of the current page. -/
def State.spReg (s : State) (off : Nat) : Nat := s.get F.SP_PAGE_PAGE * 64 + off

/-- READ (R102, R108). -/
def spRead (off crc : Byte) (s : State) : State :=
  if s.live = false then s
  else
    let c := s.spGate false [0xA1, off] crc
    if c ≠ 0 then s.spRefuse c 1
    else if 0x40 ≤ off.toNat then s.spRefuse 5 1
    else
      let (v, s1) := s.regRead .sp (s.spReg off.toNat)
      s1.spAnswer 0 [v]

/-- GET_STATUS (R110). -/
def spGetStatus (off crc : Byte) (s : State) : State :=
  if s.live = false then s
  else
    let c := s.spGate true [0xA6, off] crc
    if c ≠ 0 then s.spRefuse c 1
    else if 0x40 ≤ off.toNat then s.spRefuse 5 1
    else
      let (v, s1) := s.regRead .sp off.toNat
      s1.spAnswer 0 [v]

/-- The bytes of a data word (R104). -/
def wordBytes (w : Word) : List Byte := natLE 4 w.toNat

/-- WRITE (R102, R108). -/
def spWrite (off : Byte) (data : Word) (crc : Byte) (x : RegIn) (s : State) : State :=
  if s.live = false then s
  else
    let c := s.spGate false ([0xA2, off] ++ wordBytes data) crc
    if c ≠ 0 then s.spRefuse c 0
    else if 0x40 ≤ off.toNat then s.spRefuse 5 0
    else
      let (e, s1) := s.pathWrite .sp (s.spReg off.toNat) data x
      s1.spAnswer e []

/-- Read registers in ascending order (R109). -/
def State.readRun (s : State) (p : Path) (a : Nat) : Nat → List Nat × State
  | 0 => ([], s)
  | n + 1 =>
    let (v, s1) := s.regRead p a
    let (l, s2) := s1.readRun p (a + 1) n
    (v :: l, s2)

/-- BURST_READ (R109). -/
def spBurstRead (off n crc : Byte) (s : State) : State :=
  if s.live = false then s
  else
    let c := s.spGate false [0xA3, off, n] crc
    if c ≠ 0 then s.spRefuse c n.toNat
    else if 0x40 ≤ off.toNat ∨ n = 0 ∨ 0x40 < off.toNat + n.toNat then s.spRefuse 5 n.toNat
    else
      let (l, s1) := s.readRun .sp (s.spReg off.toNat) n.toNat
      s1.spAnswer 0 l

/-- The code of several, in the order of Table 5-5. -/
def worstCode (l : List Nat) : Nat := ([5, 8, 9, 0xA, 7].find? (fun c => l.contains c)).getD 0

/-- Write registers in ascending order: the codes. -/
def State.writeRun (s : State) (p : Path) (x : RegIn) : Nat → List Word → List Nat × State
  | _, [] => ([], s)
  | a, v :: l =>
    let (c, s1) := if s.absentPage (a / 64) then (0, s) else s.regWrite p a v x
    let (cs, s2) := s1.writeRun p x (a + 1) l
    (c :: cs, s2)

/-- Registers written in one access: refused as a whole when one of them is LOCKED or BUSY, else written in ascending order. -/
def State.burstWrite (s : State) (p : Path) (a : Nat) (l : List Word) (x : RegIn) : Nat × State :=
  let c := worstCode ((withIdx l).map (fun q => s.writeRefused p (a + q.1) q.2))
  if c ≠ 0 then (c, s)
  else
    let r := s.writeRun p x a l
    (worstCode r.1, r.2)

/-- A FRAME_ERR response is made and counted (R100, R101, R106). -/
def State.frameErr (s : State) : State := s.addF F.SP_ERR_FRAME_ERRS 1

/-- BURST_WRITE (R109). A request whose words are not `n` is not of its length: on the 2-wire port FRAME_ERR says so, and the 4-wire port
ends the request with its last word. The 2-wire port takes no more than 260 bytes, so that a request of more than 64 words never has its
length there (R100). -/
def spBurstWrite (off n : Byte) (data : List Word) (crc : Byte) (x : RegIn) (s : State) : State :=
  if s.live = false ∨ data.length ≠ n.toNat then s
  else if s.twoWire ∧ 260 < 4 + 4 * data.length then s.frameErr.spAnswer 6 []
  else
    let c := s.spGate false ([0xA4, off, n] ++ data.flatMap wordBytes) crc
    if c ≠ 0 then s.spRefuse c 0
    else if 0x40 ≤ off.toNat ∨ n = 0 ∨ 0x40 < off.toNat + n.toNat then s.spRefuse 5 0
    else
      let (e, s1) := s.burstWrite .sp (s.spReg off.toNat) data x
      s1.spAnswer e []

/-- SET_PAGE (R108). -/
def spSetPage (page crc : Byte) (s : State) : State :=
  if s.live = false then s
  else
    let c := s.spGate false [0xA5, page] crc
    if c ≠ 0 then s.spRefuse c 0 else (s.set F.SP_PAGE_PAGE page.toNat).spAnswer 0 []

/-- UNLOCK (R115 to R118). -/
def spUnlock (lock : Byte) (key : Word) (crc : Byte) (s : State) : State :=
  if s.live = false then s
  else
    let c := s.spGate false ([0xA7, lock] ++ wordBytes key) crc
    if c ≠ 0 then s.spRefuse c 0
    else
      let (e, s1) := s.unlock .sp lock.toNat key.toNat
      s1.spAnswer e []

/-- BAD_OPCODE (R98): an opcode that Table 5-2 does not list ends the request. -/
def spBadOpcode (op : Byte) (s : State) : State :=
  if s.live = false ∨ (0xA1 ≤ op.toNat ∧ op.toNat ≤ 0xA7) then s
  else s.spRefuse (if s.st = stTrailhead then 1 else if s.st = stRemoving then 2 else 4) 0

/-- Is the opcode one of Table 5-2? -/
def spListed (op : Byte) : Bool := decide (0xA1 ≤ op.toNat ∧ op.toNat ≤ 0xA7)

/-- The length of the request that begins so (Table 5-2): none while it is not known, or for an opcode that is not listed. -/
def spLength (l : List Byte) : Option Nat :=
  match l with
  | [] => none
  | op :: r =>
    if op = 0xA1 ∨ op = 0xA5 ∨ op = 0xA6 then some 3
    else if op = 0xA2 ∨ op = 0xA7 then some 7
    else if op = 0xA3 then some 4
    else if op = 0xA4 then (r[1]?).map (fun n => 4 + 4 * n.toNat)
    else none

/-- A request of its whole length, performed. -/
def State.spPerform (s : State) (l : List Byte) : State :=
  let b (i : Nat) : Byte := BitVec.ofNat 8 (leAt l i 1)
  let w (i : Nat) : Word := BitVec.ofNat 32 (leAt l i 4)
  let op := leAt l 0 1
  if op = 0xA1 then spRead (b 1) (b 2) s
  else if op = 0xA2 then spWrite (b 1) (w 2) (b 6) {} s
  else if op = 0xA3 then spBurstRead (b 1) (b 2) (b 3) s
  else if op = 0xA4 then
    spBurstWrite (b 1) (b 2) ((List.range (b 2).toNat).map (fun i => w (3 + 4 * i))) (b (3 + 4 * (b 2).toNat)) {} s
  else if op = 0xA5 then spSetPage (b 1) (b 2) s
  else if op = 0xA6 then spGetStatus (b 1) (b 2) s
  else spUnlock (b 1) (w 2) (b 6) s

/-- SP_FRAME_ABORT (R98): SP_CS_N rises after these bytes of a 4-wire frame. Before the last request bit the frame is discarded and counted;
after it the transaction is performed; an opcode that is not listed has ended the request. -/
def spFrameAbort (bytes : List Byte) (s : State) : State :=
  if s.live = false ∨ s.twoWire then s
  else if (bytes.head?).any (fun op => !spListed op) then spBadOpcode (bytes.headD 0) s
  else match spLength bytes with
    | some n => if n ≤ bytes.length then s.spPerform (bytes.take n) else s.frameErr
    | none => s.frameErr

/-- FRAME_ERR (R100): a 2-wire write transfer of these bytes, 260 at most, when they are not of their opcode's length. -/
def spFrameErr (bytes : List Byte) (s : State) : State :=
  if s.live = false ∨ s.twoWire = false then s
  else if (bytes.head?).any (fun op => !spListed op) then spBadOpcode (bytes.headD 0) s
  else if spLength bytes = some bytes.length ∧ bytes.length ≤ 260 then s.spPerform bytes
  else s.frameErr.spAnswer 6 []

/-- SP_READ_TRANSFER (R101): the held response again, or FRAME_ERR. -/
def spReadTransfer (s : State) : State :=
  if s.live = false ∨ s.twoWire = false then s
  else match s.port.held with
    | some r => s.spSend r
    | none =>
      let s1 := s.frameErr
      s1.spSend (s1.spResponse 6 [])

end Sys2Proof.Machine
end

