-- ==== Sys2Proof/Machine/HostAccess.lean ====
section
/-!
DEFINITION. What the host reaches through its link: REG_ACCESS (R119), memory window 0 (R155, R165), register frames, and the data of
commands in both directions (R156, R157, R163, R168, R170).
-/

namespace Sys2Proof.Machine

/-! ### REG_ACCESS (R119) -/

/-- The status that a code of Table 5-5 gives REG_ACCESS. -/
def accessStatus (c : Nat) : Nat :=
  if c = 8 ∨ c = 9 then 0x14 else if c = 5 then 0x12 else if c = 7 then 0x11 else if c = 0xA then 0x40 else 0

/-- Has an access caused PS, eNOR or OTP work, or a die operation? -/
def State.mediaMoved (s t : State) : Bool :=
  t.keep.ps != s.keep.ps || t.keep.nor != s.keep.nor || t.keep.otp != s.keep.otp || t.keep.norOp != s.keep.norOp
    || t.keep.norQueue != s.keep.norQueue || t.nextOp != s.nextOp

/-- A burst written for flight `k`: STARTED is recorded before the first PS, eNOR, OTP or die operation it causes (R17). -/
def State.burstStarted (s : State) (k a : Nat) (l : List Word) (x : RegIn) : Nat × State :=
  let r := s.burstWrite .host a l x
  if s.mediaMoved r.2 then (s.logStarted k).burstWrite .host a l x else r

/-- REG_ACCESS (R119): up to eight registers, read or written as one burst. -/
def regAccess (k : Nat) (x : RegIn) (s : State) : State :=
  match s.canStart k 0x30 with
  | none => s
  | some f =>
    let a := leAt f.bytes 17 1 * 64 + leAt f.bytes 18 1
    let n := leAt f.bytes 19 1
    let s1 := s.startRun k f
    if bit (leAt f.bytes 16 1) 0 then
      let (c, s2) := s1.burstStarted k a ((List.range n).map (fun i => BitVec.ofNat 32 (leAt f.bytes (32 + 4 * i) 4))) x
      s2.complete k (accessStatus c) c
    else
      let (l, s2) := s1.readRun .host a n
      s2.deliver k 0 0 (l.headD 0) (l.flatMap (natLE 4))

/-! ### Memory window 0 (Table 7-4) -/

/-- The DW at an offset of the window as it reads: none where the mode defines nothing. -/
def State.winRead (s : State) (o : Nat) : Option Nat :=
  if o = 0 then some (s.regValue .host 0x00)
  else if o = 4 then some (s.regValue .host 0x01)
  else if o = 8 then some (s.regValue .host 0x08)
  else if o = 0xC then some (s.regValue .host 0x09)
  else if (0x100 ≤ o ∧ o < 0x300) ∨ (0x1000 ≤ o ∧ o < 0x2000) then some 0
  else if s.pcieMode = false then none
  else if o = 0x10 then some (match s.pcie.fifo with | e :: _ => e.src + e.prio * 2 ^ 16 + 2 ^ 31 | [] => 0)
  else if o = 0x14 then some (s.pcie.popped % 2 ^ 32)
  else if o = 0x18 then some (s.pcie.popped / 2 ^ 32 % 2 ^ 32)
  else if o = 0x1C then some s.pcie.lost
  else if 0x2000 ≤ o ∧ o < 0x2200 then
    some (s.msixLE (o - 0x2000) 4)
  else if o = 0x3000 then some (s.pcie.pba % 2 ^ 32)
  else if o = 0x3004 then some (s.pcie.pba / 2 ^ 32)
  else none

/-- The effect of reading a DW of the window: EVT_POP pops, EVT_LOST clears (R167). -/
def State.winReadActs (s : State) (o : Nat) : State :=
  if s.pcieMode = false then s
  else if o = 0x10 then
    match s.pcie.fifo with
    | e :: l => { s with pcie := { s.pcie with fifo := l, popped := e.data } }
    | [] => s
  else if o = 0x1C then { s with pcie := { s.pcie with lost := 0 } }
  else s

/-- Read `n` DWs of the window in ascending order. -/
def State.winReads (s : State) (o : Nat) : Nat → List (Option Nat) × State
  | 0 => ([], s)
  | n + 1 =>
    let v := s.winRead o
    let (l, s2) := (s.winReadActs o).winReads (o + 4) n
    (v :: l, s2)

/-- Vectors that are pending and no longer masked are sent (R172). -/
def State.pbaFlush (s : State) : State :=
  (List.range 32).foldl (fun (s : State) v =>
    if bit s.pcie.pba v && s.msixOn && !s.msixMasked v then
      ({ s with pcie := { s.pcie with pba := putBits s.pcie.pba v 1 0 } }).hostSend { typ := 0x30, addr := v }
    else s) s

/-- Write a DW of the window. `mm` says that the copies of the pair's pointers differ on this access (R188). -/
def State.winWrite (s : State) (o : Nat) (v : Word) (mm : Bool) : State :=
  if o = 0xC then s.regStore .host 0x09 v.toNat
  else if 0x100 ≤ o ∧ o < 0x200 then sqDoorbell ((o - 0x100) / 4) v mm s
  else if 0x200 ≤ o ∧ o < 0x300 then cqHeadDoorbell ((o - 0x200) / 4) v mm s
  else if s.pcieMode ∧ 0x2000 ≤ o ∧ o < 0x2200 then
    let l := if o % 16 = 12 then natLE 4 (v.toNat % 2) else wordBytes v
    ({ s with pcie := { s.pcie with msix := (withIdx l).foldl (fun (m : List (Nat × Byte)) (p : Nat × Byte) =>
      tset (if (o + p.1) % 16 = 12 then (1 : Byte) else 0) m (o + p.1 - 0x2000) p.2) s.pcie.msix } }).pbaFlush
  else s

/-- A write of DWs from `o` on, within one block of 64 bytes: to a submission port it is one write of the port (R185). -/
def State.winWrites (s : State) (o : Nat) (l : List Word) (mm : Bool) : State :=
  if 0x1000 ≤ o ∧ o < 0x2000 then submissionPortWrite ((o - 0x1000) / 64) (o % 64) (l.flatMap wordBytes) mm s
  else (withIdx l).foldl (fun (s : State) p => s.winWrite (o + 4 * p.1) p.2 mm) s

/-! ### Register frames of the Agilnu Link (R153, R155) -/

/-- HOST takes register writes from Q_0 in order (R16), unless a command holds it at step 3 (R256); each takes effect and returns its CMD
unit (R153). -/
def State.hostPump (s : State) : State :=
  iterate (fun (s : State) => match s.qFront 0 with
    | some e => if s.host.flights.any (fun p => p.2.step3) then s else
      (match e.work with
      | .reg a mm => ((s.qTake 0).winWrites a ((List.range (e.vb / 4)).map (fun i => BitVec.ofNat 32 (leAt e.data (4 * i) 4))) mm).cmdReturn
      | _ => (s.qTake 0).cmdReturn)
    | none => s) (s.fq 0).vis s

/-- What waited behind the entries of queue `q` goes on: register writes (Q_0), cascade frames to send (Q_44). -/
def State.queuePump (s : State) (q : Nat) : State :=
  if q = 0 then s.hostPump
  else if q = 44 then [1, 2].foldl (fun (s : State) l => s.linkFlush l (s.lnk l).tx.length) s
  else s

/-- A register write is packed into one entry of Q_0, with `USER` its address and `VB` the length of its payload (R227). -/
def State.q0Put (s : State) (addr : Nat) (l : List Word) (mm : Bool) : State :=
  let d := l.flatMap wordBytes
  let v := (s.fq 0).append 0 { data := sliceB d 0 64, user := addr, vb := d.length, work := .reg addr mm, done := true }
  (s.fqPut 0 v).hostPump

/-- REG_WR (R155): malformed unless it lies within a block of 64 bytes on a word boundary; discarded without a CMD unit (R153). While Q_0 has
no credit LINK takes no frame for it (R15). -/
def regWr (seq addr : Nat) (data : List Word) (mm : Bool) (s : State) : State :=
  s.viaQ [0] (fun s =>
    if s.qCan 0 1 0 = false then s
    else match s.rxFrame 0 seq with
    | (false, s1) => s1
    | (true, s1) =>
      match s1.cmdTake with
      | (false, s2) => s2
      | (true, s2) =>
        if addr % 4 ≠ 0 ∨ data = [] ∨ 64 < addr % 64 + 4 * data.length then s2.malformed 0 else s2.q0Put addr data mm)

/-- REG_RD (R155): answered by one REG_RSP, in order behind the writes before it; in REMOVING with `STATUS` 0x02, where a word is not defined
with 0x01, both with zero data. -/
def regRd (seq addr rtag rlen : Nat) (s : State) : State :=
  s.viaQ [0] (fun s0 =>
    let s := s0.hostPump
    if s.qOpen 0 1 0 = false then s
    else match s.rxFrame 0 seq with
    | (false, s1) => s1
    | (true, s1) =>
      match s1.cmdTake with
      | (false, s2) => s2
      | (true, s2) =>
        if addr % 4 ≠ 0 ∨ rlen = 0 ∨ 16 < rlen then s2.malformed 0
        else
          let rsp (st : Nat) (l : List Nat) : TxItem := { typ := 0x23, hdr := natLE 1 rtag ++ natLE 1 st, payload := l.flatMap (natLE 4) }
          let gone := List.replicate rlen 0
          if s2.st = stRemoving then s2.hostSend (rsp 2 gone)
          else if s2.rmv.orderly.isSome then s2
          else
            let r := (s2.qPass 0 {}).winReads addr rlen
            if r.1.any Option.isNone then (s2.hostSend (rsp 1 gone)).cmdReturn
            else (r.2.hostSend (rsp 0 (r.1.filterMap id))).cmdReturn)

/-! ### Data to the host (R156, R168) -/

/-- The host address of a command's data under PCI Express: AUTH output goes to `OUT_PTR`. -/
def Flight.outPtr (f : Flight) : Nat :=
  if leAt f.bytes 0 1 = 0x20 ∨ leAt f.bytes 0 1 = 0x21 then leAt f.bytes 56 8 else leAt f.bytes 8 8

/-- Bytes of output after which nothing follows: the length that a read asked for, else all that there is. -/
def Flight.lastAt (f : Flight) : Nat := if f.want ≠ 0 ∧ (leAt f.bytes 0 1 = 1 ∨ leAt f.bytes 0 1 = 2) then f.outLen else f.out.length

/-- The next frame or write of a command's data: its bytes, and the item. -/
def State.dataItem (s : State) (f : Flight) : Nat × TxItem :=
  let left := f.out.length - f.sent
  let a := f.outPtr + f.sent
  let n := if s.pcieMode then min left (s.dataMax - a % s.dataMax) else min left 512
  let last := f.sent + n == f.lastAt
  let d := sliceB f.out f.sent n
  if s.pcieMode then (n, { typ := 0x26, payload := d, addr := a })
  else
    let pad := (4 - n % 4) % 4
    (n, { typ := 0x26, payload := d ++ List.replicate pad 0,
          hdr := natLE 1 f.qid ++ [0] ++ natLE 2 f.tag ++ natLE 4 f.sent ++ natLE 1 (b2n last) ++ natLE 1 pad ++ [0, 0] })

/-- `n` bytes of flight `k`'s data have left: a move of 4,096 bytes that is over returns its charge (R276); after the last byte of a command
all of whose parts have ended, it completes. Data through a stale lane marks it (R196). -/
def State.dataLeft (s : State) (k n : Nat) (lanes : Bool) : State :=
  match s.flight? k with
  | none => s
  | some f =>
    let f1 := { f with sent := f.sent + n, stale := f.stale || (lanes && s.get F.CAL_LN_STALE != 0) }
    let s1 := s.setFlight k f1
    let s2 := if f.sent / 4096 < f1.sent / 4096 ∨ f.out.length ≤ f1.sent then s1.chargeEnd (.xfer k) else s1
    if f1.sent < f.out.length ∨ f.got < f.want then s2 else s2.complete k f.status f.qual f.result

/-- DATA_TRANSMIT (R156, R168, R514): the next data of the command in flight `k` leaves, once the ledger has admitted its move and the link
can take it; at a member, to the master as C_DATA. -/
def dataTransmit (k : Nat) (s : State) : State :=
  match s.flight? k with
  | none => s
  | some f =>
    if f.out.length ≤ f.sent ∨ f.phase = .ready ∨ f.xadm * 4096 ≤ f.sent ∨ s.st = stRemoving then s
    else match s.casc.xids.find? (fun p => p.1 == k) with
      | some (_, x) =>
        let n := min 512 (f.out.length - f.sent)
        (s.cDataSend 0 x f.sent (sliceB f.out f.sent n) (f.sent + n == f.lastAt)).dataLeft k n false
      | none =>
        let (n, i) := s.dataItem f
        if s.hostCanSend i then (s.hostSend i).dataLeft k n true else s.hostWake

/-! ### Data from the host (R157, R163, R168) -/

/-- Bytes of host data that a command takes (Table 8-3). -/
def State.dataNeed (s : State) (f : Flight) : Nat :=
  let op := leAt f.bytes 0 1
  if op = 0x10 then leAt f.bytes 19 1 * s.rawPage f
  else if op = 0x12 then 8 * leAt f.bytes 24 2
  else if op = 0x20 then 400
  else if op = 0x21 then 96
  else if op = 0x22 then 404
  else if op = 0x41 then leAt f.bytes 24 4
  else 0

/-- The next range to ask for: at most 4,096 bytes, under PCI Express at most Max_Read_Request_Size and within a block of 4,096. -/
def State.nextRange (s : State) (f : Flight) (need : Nat) : Nat :=
  let n := min 4096 (need - f.asked)
  if s.pcieMode then
    let a := leAt f.bytes 8 8 + f.asked
    min n (min (128 <<< bits (s.cfgLE 0x78 2) 12 3) (4096 - a % 4096))
  else n

/-- A free tag of the 32, or 256 with Extended Tag Field Enable. -/
def State.freeTag (s : State) : Option Nat :=
  (List.range (if bit (s.cfgLE 0x78 2) 8 then 256 else 32)).find? (fun t => s.agl.dreqs.all (fun d => d.tag != t))

/-- Note a range asked for. -/
def State.noteRange (s : State) (k : Nat) (f : Flight) (n tag : Nat) : State :=
  let s1 := s.setFlight k { f with asked := f.asked + n }
  { s1 with agl := { s1.agl with dreqs := s1.agl.dreqs ++ [({ flight := k, off := f.asked, len := n, tag, since := s.clock, sq := f.qid, ctag := f.tag } : Dreq)] } }

/-- DREQ (R157, R168, R515): the next range of host data of the command in flight `k` is asked for, once the ledger has admitted the move
and its Hamper buffers are allocated. A member asks its master. -/
def dreq (k : Nat) (s : State) : State :=
  match s.flight? k with
  | none => s
  | some f =>
    let need := if (s.boundRun k).isSome then f.want else s.dataNeed f
    let member := s.casc.xids.find? (fun p => p.1 == k)
    let n := s.nextRange f need
    let ok := f.phase = .accepted ∨ (s.boundRun k).isSome
    if need ≤ f.asked ∨ ¬ ok ∨ f.fails ≠ 0 ∨ s.works = false then s
    else if member.isNone ∧ f.xadm * 4096 ≤ f.asked then
      (if s.rt.reqs.any (fun r => match r with | .xfer j _ => j == k | _ => false) then s else s.askXfer k 1)
    else match s.getBufs 9 k (moves (f.asked + n)) with
      | (false, s1) => s1
      | (true, s1) =>
        let f1 := (s1.flight? k).getD f
        match member with
        | some (_, x) =>
          (s1.noteRange k f1 n 0).cascSend 0x35 0 ([8, 0] ++ natLE 2 x) (natLE 4 f.asked ++ natLE 4 n)
        | none =>
          let tag := s.freeTag
          let i : TxItem := { typ := 0x27, addr := leAt f.bytes 8 8 + f.asked,
                              hdr := natLE 1 f.qid ++ [0] ++ natLE 2 f.tag ++ natLE 4 f.asked ++ natLE 2 n ++ [0, 0] }
          if s1.hostCanSend i = false then s1.hostWake
          else if s.pcieMode ∧ tag.isNone then s1
          else (s1.noteRange k f1 n (tag.getD 0)).hostSend i

/-- Host data that crossed a stale lane marks its command (R196). -/
def State.laneMark (s : State) (k : Nat) : State :=
  match s.flight? k with
  | some f => if s.get F.CAL_LN_STALE ≠ 0 then s.setFlight k { f with stale := true } else s
  | none => s

/-- Data for the range `d`, whose command has ended, is dropped; the range is over when all of it has come. -/
def State.dataDrop (s : State) (d : Dreq) (n : Nat) : State :=
  { s with agl := { s.agl with dreqs := s.agl.dreqs.filterMap (fun x =>
    if x = d then (if d.len ≤ d.got + n then none else some { d with got := d.got + n }) else some x) } }

/-- Data of a range: of the command that asked for it, or dropped when that has ended. A range that is complete ends its move (R276), and
HOST has its reference through Q_24. -/
def State.rangeIn (s : State) (d : Dreq) (data : List Byte) : State :=
  if d.dead then s.dataDrop d data.length
  else
    let s1 := ((s.dataIn d.flight (d.off + d.got) data).2).laneMark d.flight
    if d.len ≤ d.got + data.length then (s1.chargeEnd (.xfer d.flight)).qPass 24 { flight := some d.flight } else s1

/-- WDATA (R157): the next bytes of an outstanding range; for no outstanding DREQ, or with a length that Table 6-9 does not allow, it is
malformed. While Q_24 has no credit LINK takes none (R15). -/
def wdata (seq sq tag off pad : Nat) (data : List Byte) (s : State) : State :=
  s.viaQ [24] (fun s =>
    if s.qOpen 24 1 0 = false then s
    else match s.rxFrame 0 seq with
    | (false, s1) => s1
    | (true, s1) =>
      let n := data.length
      let d := data.take (n - pad)
      if n % 4 ≠ 0 ∨ n = 0 ∨ 512 < n ∨ 3 < pad then s1.malformed 0
      else match s1.agl.dreqs.find? (fun x =>
          x.sq == sq && x.ctag == tag && x.off + x.got == off && decide (x.got + d.length ≤ x.len)) with
        | some x => s1.rangeIn x d
        | none => s1.malformed 0)

/-- The data transfer of a command failed (R157, R170): ABORTED_HOST; die operations that have started run to their end. Ranges still
outstanding stay so until their data has come or is overdue. -/
def State.dataFail (s : State) (k ql : Nat) : State :=
  ({ s with agl := { s.agl with
    dreqs := s.agl.dreqs.map (fun (d : Dreq) => if d.flight = k then { d with dead := true } else d) } }).failFlight k 0x30 ql

/-- A range is over. -/
def State.rangeOver (s : State) (d : Dreq) : State := { s with agl := { s.agl with dreqs := s.agl.dreqs.erase d } }

/-- DREQ_DATA_TIMEOUT (R157): a range of flight `k` is not complete 1 ms after its DREQ. -/
def dreqDataTimeout (k : Nat) (s : State) : State :=
  match s.agl.dreqs.find? (fun d => d.flight == k && decide (1000 ≤ s.clock - d.since)) with
  | some d =>
    if s.pcieMode ∧ s.casc.xids.all (fun p => p.1 != k) then s
    else if d.dead then s.rangeOver d
    else (s.rangeOver d).dataFail k 7
  | none => s

end Sys2Proof.Machine
end

