-- ==== Sys2Proof/Machine/Pcie.lean ====
section
/-!
DEFINITION. The PCI Express endpoint (ch. 07). Where the chapter leaves the standard to speak (R162, R164), the registers of
configuration space are those of PCI Express Base Specification 4.0 for the options of Table 7-1 (PRESUMED).
-/

namespace Sys2Proof.Machine

/-! ### Configuration space (R164) -/

/-- What a DW of configuration space always reads (Tables 7-2 and 7-3). -/
def State.cfgFixed (s : State) (a : Nat) : Nat :=
  let adv := s.pcie.adv
  let speed := bits adv 0 3
  let width := 2 ^ bits adv 4 2
  if a = 0x00 then 0x48166A7E
  else if a = 0x04 then 0x00100000
  else if a = 0x08 then 0x018000B0
  else if a = 0x10 then 0x4
  else if a = 0x2C then 0x00016A7E
  else if a = 0x34 then 0x40
  else if a = 0x40 then 0x00035001
  else if a = 0x44 then 0x8
  else if a = 0x50 then 0x001F7011
  else if a = 0x54 then 0x2000
  else if a = 0x58 then 0x3000
  else if a = 0x70 then 0x00020010
  else if a = 0x74 then 0x8022
  else if a = 0x7C then speed + width * 16 + b2n (bit adv 7) * 0x800 + 0x18000 + 0x400000
  else if a = 0x94 then 0x10013
  else if a = 0x9C then (2 ^ speed - 1) * 2
  else if a = 0x100 then 0x14820001
  else if a = 0x148 then 0x15810003
  else if a = 0x14C then leNat (s.uid.take 4)
  else if a = 0x150 then leNat (s.uid.drop 4)
  else if a = 0x158 then 0x17010019
  else if a = 0x164 ∨ a = 0x168 then 0x7F007F00
  else if a = 0x170 then 0x1A010026
  else if a = 0x190 then 0xF0F0F0F0
  else if a = 0x1A0 then 0x1C010027
  else if a = 0x1C0 then 0x0001001E
  else if a = 0x1C4 then (if bit adv 8 then 0x1F else 0) + 10 * 256 + 0x10000 + 4 * 2 ^ 19
  else 0

/-- The bits of a DW of configuration space that software writes. -/
def cfgMask (a : Nat) : Nat :=
  if a = 0x04 then 0x0546
  else if a = 0x0C ∨ a = 0x3C then 0xFF
  else if a = 0x10 then 0xFFFF0000
  else if a = 0x14 then 0xFFFFFFFF
  else if a = 0x50 then 0xC0000000
  else if a = 0x78 then 0x79FF
  else if a = 0x80 then 0x2CB
  else if a = 0x98 then 0x1F
  else if a = 0xA0 then 0xFFBF
  else if a = 0x108 ∨ a = 0x10C then 0x17F010
  else if a = 0x114 then 0x31C1
  else if 0x1A8 ≤ a ∧ a < 0x1B8 then 0xFF7F
  else if a = 0x1C8 then 0xE3FF000F
  else if a = 0x1CC then 0xFB
  else 0

/-- Does the link run at 16.0 GT/s in L0, so that lanes can be margined? -/
def State.margins (s : State) : Bool := s.pcie.dlUp && s.pcie.speed == 4 && s.pcie.ltssm == 3

/-- The margining status of lane `k` (R164): the answer of the device's receiver to the command in the lane's control register. Which steps,
offsets and rates it supports, and the errors it counts, are its own. -/
def State.marginStatus (s : State) (k : Nat) : Nat :=
  let c := s.cfgLE (0x1A8 + 4 * k) 2
  let rcv := c % 8
  let typ := bits c 3 3
  let load := bits c 8 8
  let own := Config.marginAnswer k c
  if s.margins = false ∨ bit c 6 then 0
  else if typ = 7 then c % 2 ^ 16
  else if typ = 1 ∧ rcv = 6 ∧ 0x88 ≤ load ∧ load ≤ 0x90 then c % 256 + (if load = 0x88 then 7 + own % 4 * 8 else own % 128) * 256
  else if typ = 2 ∧ (rcv = 6 ∨ rcv = 0) ∧ (load = 0x0F ∨ load = 0x55 ∨ 0xC0 ≤ load) then c % 2 ^ 16
  else if (typ = 3 ∨ typ = 4) ∧ rcv = 6 then c % 256 + own % 256 * 256
  else 0

/-- The live bits of a DW of configuration space: power state, status and error bits, the link. -/
def State.cfgLive (s : State) (a : Nat) : Nat :=
  if a = 0x04 then s.pcie.pciSta % 2 ^ 16 * 2 ^ 16
  else if a = 0x44 then (if s.pcie.d3 then 3 else 0)
  else if a = 0x78 then (s.pcie.devSta % 16 + b2n (!s.agl.dreqs.isEmpty) * 32) * 2 ^ 16
  else if a = 0x80 then
    (s.pcie.speed + (if s.pcie.dlUp then 2 ^ s.pcie.width else 0) * 16 + b2n (bit s.aon.straps 6) * 0x1000) * 2 ^ 16
  else if a = 0x104 then s.pcie.aerUncor
  else if a = 0x110 then s.pcie.aerCor
  else if a = 0x118 then s.pcie.firstErr % 32
  else if 0x11C ≤ a ∧ a < 0x12C then listGet 0 s.pcie.hdrLog ((a - 0x11C) / 4)
  else if a = 0x1A4 then b2n s.margins * 2 ^ 16
  else if 0x1A8 ≤ a ∧ a < 0x1B8 then s.marginStatus ((a - 0x1A8) / 4) * 2 ^ 16
  else 0

/-- A DW of configuration space. -/
def State.cfgRead (s : State) (a : Nat) : Nat := s.cfgFixed a ||| (s.cfgLE a 4 &&& cfgMask a) ||| s.cfgLive a

/-- Requests that waited are issued. -/
def State.pcieFlush (s : State) : State :=
  if s.pcieCanSend then
    s.agl.tx.foldl (fun (s : State) i => s.pcieAwake.tlpSend (s.pcieMsg i)) { s with agl := { s.agl with tx := [] } }
  else s

/-- Clear bits of `v` that are 1 in `w`. -/
def clearBits (n v w : Nat) : Nat := v &&& ((2 ^ n - 1) ^^^ (w % 2 ^ n))

/-- Write a DW of configuration space under byte enables. -/
def State.cfgWrite (s : State) (a be : Nat) (v : Word) : State :=
  let en := (List.range 4).foldl (fun m i => if bit be i then m + 0xFF * 256 ^ i else m) 0
  let w := v.toNat &&& en
  let old := s.cfgLE a 4
  let m := cfgMask a &&& en
  let l := natLE 4 ((old &&& ((2 ^ 32 - 1) ^^^ m)) ||| (v.toNat &&& m))
  let p := { s.pcie with cfg := (withIdx l).foldl (fun c q => tset (pcieCfgReset (a + q.1)) c (a + q.1) q.2) s.pcie.cfg }
  let p1 := if a = 0x44 ∧ bit be 0 then { p with d3 := v.toNat % 4 == 3 || (p.d3 && v.toNat % 4 != 0) }
    else if a = 0x04 then { p with pciSta := clearBits 16 p.pciSta (w / 2 ^ 16) }
    else if a = 0x78 then { p with devSta := clearBits 16 p.devSta (w / 2 ^ 16) }
    else if a = 0x104 then { p with aerUncor := clearBits 32 p.aerUncor w }
    else if a = 0x110 then { p with aerCor := clearBits 32 p.aerCor w }
    else p
  (({ s with pcie := p1 }).pcieFlush).pbaFlush

/-! ### Errors (R176) -/

/-- The four DWs of a received TLP's header as the header log takes them: its first DW and its address; the rest, which the commands do not
carry, are free values. -/
def State.tlpHeader (s : State) (first addr : Nat) : List Nat × State :=
  let (v, s1) := s.freeBits 32
  ([first, v, addr / 2 ^ 32, addr % 2 ^ 32], s1)

/-- Signal an uncorrectable error that is not advisory: ERR_FATAL (2) or ERR_NONFATAL (1), with Signaled System Error under SERR# Enable. -/
def State.errSend (s : State) (kind : Nat) (serr : Bool) : State :=
  let s1 := if serr then { s with pcie := { s.pcie with pciSta := s.pcie.pciSta ||| 0x4000 } } else s
  s1.send (.err kind)

/-- Log an uncorrectable error by its AER bit, and signal it as the control bits direct. A non-fatal error that a completion answers is
advisory. The first error that is not masked keeps its pointer and its TLP's header until software clears it. An Unsupported Request is
signalled only under Unsupported Request Reporting Enable or SERR# Enable. -/
def State.aerLog (s : State) (b : Nat) (advisory : Bool) (hdr : List Nat) : State :=
  let fatal := bit (s.cfgLE 0x10C 4) b
  let adv := advisory && !fatal
  let ctl := s.cfgLE 0x78 2
  let serr := bit (s.cfgLE 4 2) 8
  let masked := bit (s.cfgLE 0x108 4) b
  let first := !masked && !bit s.pcie.aerUncor s.pcie.firstErr
  let p := { s.pcie with
    aerUncor := s.pcie.aerUncor ||| (1 <<< b), aerCor := if adv then s.pcie.aerCor ||| (1 <<< 13) else s.pcie.aerCor
    firstErr := if first then b else s.pcie.firstErr, hdrLog := if first ∧ hdr ≠ [] then hdr else s.pcie.hdrLog
    devSta := s.pcie.devSta ||| (if adv then 1 else if fatal then 4 else 2) ||| (if b = 20 then 8 else 0) }
  let s1 := ({ s with pcie := p }).set F.PCIE_EVT_AER_UNCOR 1
  let s2 := if adv then s1.set F.PCIE_EVT_AER_COR 1 else s1
  let urr := b ≠ 20 || bit ctl 3
  if masked then s2
  else if adv then (if urr && bit ctl 0 && !bit (s.cfgLE 0x114 4) 13 then s2.send (.err 0) else s2)
  else if fatal then (if (urr && bit ctl 2) || serr then s2.errSend 2 serr else s2)
  else if (urr && bit ctl 1) || serr then s2.errSend 1 serr else s2

/-- Log a correctable error by its AER bit. -/
def State.aerCorrectable (s : State) (b : Nat) : State :=
  let p := { s.pcie with aerCor := s.pcie.aerCor ||| (1 <<< b), devSta := s.pcie.devSta ||| 1 }
  let s1 := ({ s with pcie := p }).set F.PCIE_EVT_AER_COR 1
  if bit (s.cfgLE 0x78 2) 0 ∧ bit (s.cfgLE 0x114 4) b = false then s1.send (.err 0) else s1

/-! ### Flow control (R169) -/

/-- Credits advertised when the data link layer comes up: 64 posted headers and 256 posted data, 32 non-posted headers and 32 non-posted
data; completions without limit. -/
def State.fcInit (s : State) : State :=
  let s1 := { s with pcie := { s.pcie with fcPh := 64, fcPd := 256, fcNh := 32, fcNd := 32 } }
  ((s1.send (.fc true 0 64 256)).send (.fc true 1 32 32)).send (.fc true 2 0 0)

/-- A request has been taken: its credits, one header and `data` units of 16 bytes, are granted again. -/
def State.fcReturn (s : State) (posted : Bool) (data : Nat) : State :=
  let p := s.pcie
  if posted then
    let q := { p with fcPh := (p.fcPh + 1) % 256, fcPd := (p.fcPd + data) % 4096 }
    ({ s with pcie := q }).send (.fc false 0 q.fcPh q.fcPd)
  else
    let q := { p with fcNh := (p.fcNh + 1) % 256, fcNd := (p.fcNd + data) % 4096 }
    ({ s with pcie := q }).send (.fc false 1 q.fcNh q.fcNd)

/-! ### Requests received -/

/-- Do the PCI Express layers run with the link up? A member's host link stays down (R3). -/
def State.pcieRuns (s : State) : Bool := s.live && s.pcieMode && s.pcie.dlUp && !s.hostLanesIdle

/-- Does the function decode memory requests: D0 (R177) and Memory Space Enable? -/
def State.memOn (s : State) : Bool := !s.pcie.d3 && bit (s.cfgLE 4 2) 1

/-- A completion leaves: Completer Abort (status 4) is noted in Status. -/
def State.cplSend (s : State) (status : Nat) (l : List Byte) : State :=
  let s1 := if status = 4 then { s with pcie := { s.pcie with pciSta := s.pcie.pciSta ||| 0x0800 } } else s
  s1.tlpSend (.tlpCpl status l)

/-- CONFIG_REQUEST (R174): answered with CRS (status 2) in TRAILHEAD, served in every other state. -/
def configRequest (write : Bool) (addr be : Nat) (v : Word) (s : State) : State :=
  let a := addr % 4096 / 4 * 4
  if s.pcieRuns = false then s
  else
    let s := s.pcieAwake.fcReturn false (b2n write)
    if s.st = stTrailhead then s.cplSend 2 []
    else if write then (s.cfgWrite a be v).cplSend 0 []
    else s.cplSend 0 (natLE 4 (s.cfgRead a))

/-- The address of window offset `off`: BAR0 and BAR1. -/
def State.winAddr (s : State) (off : Nat) : Nat := s.cfgLE 0x10 8 / 16 * 16 + off

/-- The header of a memory write, or read, of `n` DWs at `off`. -/
def State.memHeader (s : State) (write : Bool) (off n : Nat) : List Nat × State :=
  let a := s.winAddr off
  s.tlpHeader ((if write then 0x40000000 else 0) + (if 2 ^ 32 ≤ a then 0x20000000 else 0) + n % 1024) a

/-- A request that is not supported: a read completes so (status 1), and the error is logged. -/
def State.unsupported (s : State) (isRead : Bool) (off n : Nat) : State :=
  let (h, s1) := s.memHeader (!isRead) off n
  (if isRead then s1.cplSend 1 [] else s1).aerLog 20 isRead h

/-- MEMORY_WRITE_WINDOW (R166, R174): DWs with their byte enables; `poison` that the TLP is Poisoned. Writes are discarded in TRAILHEAD
(R88) and REMOVING. What is written passes through Q_0; while that has no credit the request is not taken (R15). A write of a submission
port all of whose DWs are skipped is still a write of the port (DESIGN CHOICE, log entry 128). -/
def memoryWriteWindow (off : Nat) (dws : List (Nat × Word)) (poison mm : Bool) (s : State) : State :=
  if s.pcieRuns = false then s
  else s.viaQ [0] (fun s =>
    if s.qCan 0 (max 1 dws.length) 0 = false then s
    else
      let s := s.pcieAwake.fcReturn true ((dws.length + 3) / 4)
      let n := dws.length
      if s.memOn = false ∨ 0x10000 ≤ off then s.unsupported false off n
      else if s.st = stTrailhead ∨ s.st = stRemoving then s
      else if poison then
        let (h, s1) := ({ s with pcie := { s.pcie with pciSta := s.pcie.pciSta ||| 0x8000 } }).memHeader true off n
        s1.aerLog 12 false h
      else if dws = [] ∨ off % 4 ≠ 0 then s
      else if 64 < off % 64 + 4 * n then
        let (h, s1) := s.memHeader true off n
        s1.aerLog 15 false h
      else if 0x1000 ≤ off ∧ off < 0x2000 then s.q0Put off ((dws.filter (fun p => p.1 % 16 == 15)).map (·.2)) mm
      else (withIdx dws).foldl (fun (s : State) p => if p.2.1 % 16 = 15 then s.q0Put (off + 4 * p.1) [p.2.2] mm else s) s)

/-- MEMORY_READ_WINDOW (R166, R165, R174): undefined offsets read 0. A read follows the writes before it: while any is in Q_0 it is not
taken. -/
def memoryReadWindow (off n : Nat) (s : State) : State :=
  if s.pcieRuns = false then s
  else s.viaQ [0] (fun s =>
    if s.qOpen 0 1 0 = false then s
    else
      let s := s.pcieAwake.fcReturn false 0
      if s.memOn = false ∨ s.st = stTrailhead ∨ s.st = stRemoving ∨ 0x10000 ≤ off then s.unsupported true off n
      else if n = 0 ∨ 16 < n ∨ 64 < off % 64 + 4 * n then
        let (h, s1) := s.memHeader false off n
        (s1.cplSend 4 []).aerLog 15 true h
      else
        let (l, s1) := s.winReads (off / 4 * 4) n
        s1.cplSend 0 (l.flatMap (fun v => natLE 4 (v.getD 0))))

/-- EVT_POP (R167): a read that covers EVT_POP. -/
def evtPop (s : State) : State := memoryReadWindow 0x10 1 s

/-- WRITE_DATA_COMPLETION (R170): the data of a Memory Read by its tag; `status` 0 is Successful Completion. An error is logged, with
Unsupported Request and Completer Abort under their own bits (log entry 141), and ends the command ABORTED_HOST; a completion for no read is
unexpected. While Q_24 has no credit it is not taken (R15). -/
def writeDataCompletion (tag status : Nat) (poison : Bool) (data : List Byte) (s : State) : State :=
  if s.pcieRuns = false then s
  else s.viaQ [24] (fun s =>
    if s.qOpen 24 1 0 = false then s
    else
      let s := s.pcieAwake
      let (h, s1) := s.tlpHeader (0x4A000000 + (data.length + 3) / 4 % 1024) 0
      match s1.agl.dreqs.find? (fun d => d.tag == tag) with
      | none => s1.aerLog 16 true h
      | some d =>
        let fail (s : State) : State := if d.dead then s.rangeOver d else (s.rangeOver d).dataFail d.flight 8
        if status ≠ 0 then
          fail (({ s1 with pcie := { s1.pcie with pciSta := s1.pcie.pciSta ||| (if status = 1 then 0x2000 else 0x1000) } }).aerLog
            (if status = 1 then 20 else 15) false h)
        else if poison then
          let par := if bit (s1.cfgLE 4 2) 6 then 0x8100 else 0x8000
          fail (({ s1 with pcie := { s1.pcie with pciSta := s1.pcie.pciSta ||| par } }).aerLog 12 false h)
        else if d.len < d.got + data.length then s1.aerLog 16 true h
        else s1.rangeIn d data)

/-- The least time of the Completion Timeout Value, in µs; none with Completion Timeout Disable. The default is 50 ms (R170). -/
def State.cplTimeout (s : State) : Option Nat :=
  let c := s.cfgLE 0x98 1
  if bit c 4 then none
  else some (match c % 16 with | 1 => 50 | 2 => 1000 | 5 => 16000 | 6 => 65000 | _ => 50000)

/-- COMPLETION_TIMEOUT (R170). -/
def completionTimeout (tag : Nat) (s : State) : State :=
  match s.agl.dreqs.find? (fun d => d.tag == tag), s.cplTimeout with
  | some d, some t =>
    if s.pcieMode = false ∨ s.clock - d.since < t then s
    else
      let s1 := (s.aerLog 14 false []).rangeOver d
      if d.dead then s1 else s1.dataFail d.flight 7
  | _, _ => s

/-! ### The link and resets (R173, R175) -/

/-- DL_UP (R162): the data link layer comes up at a speed (1 to 4) and width code within those advertised. -/
def dlUp (speed width : Nat) (s : State) : State :=
  if s.live = false ∨ s.pcieMode = false ∨ s.hostLanesIdle
      ∨ speed = 0 ∨ bits s.pcie.adv 0 3 < speed ∨ bits s.pcie.adv 4 2 < width then s
  else
    let chg := s.pcie.dlUp && (s.pcie.speed != speed || s.pcie.width != width)
    let s1 := { s with pcie := { s.pcie with dlUp := true, ltssm := 3, l1ss := 0, speed, width, disabled := false } }
    let s2 := if s.pcie.dlUp then s1.setLanes else (s1.setLanes.fcInit).set F.PCIE_EVT_LINK_UP 1
    (if chg then s2.set F.PCIE_EVT_RATE_CHG 1 else s2).pcieFlush

/-- The PCI Express link is down; the advertised fields take up PCIE_LINK_CFG. -/
def State.pcieDown (s : State) (ltssm : Nat) : State :=
  ({ s with pcie := { s.pcie with
    dlUp := false, ltssm, l1ss := 0, speed := 0, adv := (s.reg 0x0840).toNat, tlpNext := 0, tlpRetry := [], replays := 0 } }).setLanes

/-- LINK_DOWN (R143, R175): the link of the host mode, or a cascade link, goes to DETECT.QUIET. -/
def linkDown (l : Nat) (s : State) : State :=
  if l = 0 ∧ s.pcieMode then
    if s.pcie.dlUp = false then s
    else
      let s1 := s.pcieDown 0
      if s.st = stRemoving then s1
      else
        let s2 := s1.set F.PCIE_EVT_LINK_DOWN 1
        if s.st = stTrailhead then s2 else s2.orderlyStart .host
  else if l < 3 ∧ (s.lnk l).up then s.linkDown l
  else s

/-- HOT_RESET (R175). -/
def hotReset (s : State) : State :=
  if s.pcieRuns = false then s else ((s.pcieDown 9).set F.PCIE_EVT_HOT_RESET 1).orderlyStart .host

/-- LINK_DISABLE (R175): the link stays disabled until the root port releases it. -/
def linkDisable (s : State) : State :=
  if s.pcieRuns = false then s
  else
    let s1 := s.pcieDown 7
    (({ s1 with pcie := { s1.pcie with disabled := true } }).set F.PCIE_EVT_HOT_RESET 1).orderlyStart .host

/-- PERST_N_ASSERT (R173): an immediate HOST reset in PCI Express mode. In AGL mode the device ignores the pin (R37). -/
def perstNAssert (s : State) : State :=
  let s1 := { s with pcie := { s.pcie with perst := true } }
  if s.live ∧ s.pcieMode ∧ s.pcie.perst = false then s1.resetNow [6] false else s1

/-- PERST_N_RISE (R173): the link may train. -/
def perstNRise (s : State) : State := { s with pcie := { s.pcie with perst := false } }

/-! ### Power management (R177, R178), MSI-X (R172) -/

/-- The link enters L1, with the substate that the controls enable: `b` is the bit of L1.2 in Control 1, `b` + 1 that of L1.1. With both
enabled it is L1.2 (DESIGN CHOICE, log entry 127). In a substate CLKREQ_N is released. -/
def State.pcieL1 (s : State) (b : Nat) : State :=
  let ctl := s.cfgLE 0x1C8 1
  let ss := if bit s.pcie.adv 8 = false then 0 else if bit ctl b then 2 else if bit ctl (b + 1) then 1 else 0
  ({ s with pcie := { s.pcie with ltssm := 5, l1ss := ss } }).setLanes

/-- In D3hot the device requests PCI-PM L1 once all its TLPs are acknowledged (Table 7-1). -/
def State.pciPmL1 (s : State) : State := if s.pcie.d3 ∧ s.pcie.ltssm = 3 ∧ s.pcie.tlpRetry = [] then s.pcieL1 0 else s

/-- D3HOT_ENTRY (R177): a configuration write of D3hot to the power state. -/
def d3hotEntry (s : State) : State := configRequest true 0x44 1 3 s

/-- D0_RETURN (R177): all state is kept, and what waited is issued. -/
def d0Return (s : State) : State := configRequest true 0x44 1 0 s

/-- ASPM_L1_IDLE (R178): the device requests L1 when it has had no request for `L1_IDLE` µs, none is outstanding, and all its TLPs are
acknowledged. -/
def aspmL1Idle (s : State) : State :=
  if s.pcieRuns ∧ s.pcie.ltssm = 3 ∧ s.pcie.d3 = false ∧ bit (s.cfgLE 0x80 1) 1 ∧ bit s.pcie.adv 7 ∧ s.agl.tx = [] ∧ s.agl.dreqs = []
      ∧ s.pcie.tlpRetry = [] ∧ s.get F.PCIE_PM_L1_IDLE ≤ s.clock - s.pcie.lastReq then s.pcieL1 2
  else s

/-- MSIX_UNMASK (R172): a write of the window that clears the mask bit of vector `v`; a pending vector is then sent. -/
def msixUnmask (v : Nat) (s : State) : State :=
  if v < 32 then memoryWriteWindow (0x2000 + 16 * v + 12) [(15, 0)] false false s else s

/-! ### The data link layer under PCI Express

The opcode table names the events of a link's receiver and replay once, for the Agilnu Link. Under PCI Express the same rows on link 0 stand
for those of its data link layer, as PCI Express Base Specification 4.0 defines them (R176; DESIGN CHOICE, log entry 142). -/

/-- Count a receiver error. -/
def State.rxErr (s : State) : State := s.addF F.PCIE_ERR_RX_ERRS 1

/-- TLPs are sent again. -/
def State.tlpReplay (s : State) : State :=
  s.pcie.tlpRetry.foldl (fun (s : State) p => s.send p.2) (s.addF F.PCIE_ERR_REPLAYS 1)

/-- TLPs up to and including number `n` are acknowledged; a number not outstanding is a Data Link Protocol Error. -/
def State.tlpAcked (s : State) (n : Nat) : State :=
  let p := s.pcie
  if p.tlpRetry.any (fun x => x.1 == n) then
    { s with pcie := { p with tlpRetry := (p.tlpRetry.dropWhile (fun x => x.1 != n)).drop 1, replays := 0 } }
  else s.aerLog 4 false []

/-- FRAME_CRC_FAIL: under PCI Express a Bad TLP. -/
def anyFrameCrcFail (l : Nat) (s : State) : State :=
  if l = 0 ∧ s.pcieMode then (if s.pcieRuns then s.rxErr.aerCorrectable 6 else s) else frameCrcFail l s

/-- FRAMING_ERROR: under PCI Express a Receiver Error. -/
def anyFramingError (l : Nat) (s : State) : State :=
  if l = 0 ∧ s.pcieMode then (if s.pcieRuns then s.rxErr.aerCorrectable 0 else s) else framingError l s

/-- MALFORMED_FRAME: under PCI Express a Malformed TLP, or a Bad DLLP when it has no number. -/
def anyMalformedFrame (l typ : Nat) (seq : Option Nat) (s : State) : State :=
  if l = 0 ∧ s.pcieMode then
    if s.pcieRuns = false then s
    else match seq with
      | some _ => let (h, s1) := s.tlpHeader (typ * 2 ^ 24) 0; s1.aerLog 18 false h
      | none => s.rxErr.aerCorrectable 7
  else malformedFrame l typ seq s

/-- ACK: under PCI Express the Ack of TLPs. -/
def anyAck (l seq : Nat) (s : State) : State :=
  if l = 0 ∧ s.pcieMode then (if s.pcieRuns then (s.tlpAcked seq).pciPmL1 else s) else aglAck l seq s

/-- NAK: under PCI Express the Nak of TLPs, which are sent again. -/
def anyNak (l seq : Nat) (s : State) : State :=
  if l = 0 ∧ s.pcieMode then (if s.pcieRuns then (s.tlpAcked seq).tlpReplay else s) else aglNak l seq s

/-- REPLAY_TIMER: under PCI Express a Replay Timer Timeout; the fourth replay without progress is a REPLAY_NUM Rollover, and the link
retrains. -/
def anyReplayTimer (l : Nat) (s : State) : State :=
  if l = 0 ∧ s.pcieMode then
    if s.pcieRuns = false ∨ s.pcie.tlpRetry = [] then s
    else
      let s1 := (s.aerCorrectable 12).tlpReplay
      if s.pcie.replays < 3 then { s1 with pcie := { s1.pcie with replays := s1.pcie.replays + 1 } }
      else (({ s1 with pcie := { s1.pcie with replays := 0 } }).aerCorrectable 8).addF F.PCIE_ERR_RECOVERIES 1
  else replayTimer l s

end Sys2Proof.Machine
end

