-- ==== Sys2Proof/Machine/Jtag.lean ====
section
/-!
DEFINITION. The TAP (R531 to R533) and the end of a memory self-test (R529). The levels that the boundary-scan cells capture are
physical facts, operands of the rows that capture them.
-/

namespace Sys2Proof.Machine

/-! ### The TAP (R531, R532) -/

/-- The TAP answers once power-on reset is released. -/
def State.tapOn (s : State) : Bool := s.aon.por

/-- Set the TAP. -/
def State.setTap (s : State) (t : Tap) : State := { s with test := { s.test with tap := t } }

/-- Shift in instruction `code`: TDO carries the captured 0b0000_0001, and the outputs are driven as `drive` says. -/
def State.tapLoad (s : State) (code drive : Nat) : State :=
  (s.send (.tdo 8 1)).setTap { s.test.tap with ir := code, drive }

/-- Test-Logic-Reset selects IDCODE and returns the outputs to functional control. -/
def State.tapHome (s : State) : State := s.setTap { s.test.tap with ir := 1, drive := 0 }

/-- The one-bit bypass register captures 0. -/
def State.tapBit (s : State) : State := s.send (.tdo 1 0)

/-- A boundary scan: the captured cells leave on TDO, and Update-DR takes the bits shifted in (544 cells, R532). -/
def State.tapScan (s : State) (cap bits : Nat) : State :=
  (s.send (.tdo 544 (cap % 2 ^ 544))).setTap { s.test.tap with chain := bits % 2 ^ 544 }

/-- An instruction that Table 23-3 marks "TMODE = 1": BYPASS while the sampled TMODE is 0. -/
def State.tapTest (s : State) (code drive : Nat) (f : State → State) : State :=
  if s.tapOn = false then s
  else if s.tmode then f (s.tapLoad code drive)
  else (s.tapLoad code 0).tapBit

/-- TAP_RESET (R531): TRST_N low, or five TCK cycles with TMS high. -/
def tapReset (s : State) : State := if s.tapOn then s.tapHome else s

/-- IDCODE (R531, Table 23-3). -/
def tapIdcode (s : State) : State := if s.tapOn then (s.tapLoad 0x01 0).send (.tdo 32 0x148165EB) else s

/-- SAMPLE_PRELOAD (R532): the cells are sampled as `cap`, and `preload` is shifted in; the outputs stay functional. -/
def tapSamplePreload (cap preload : Nat) (s : State) : State :=
  if s.tapOn then (s.tapLoad 0x02 0).tapScan cap preload else s

/-- The scan that may follow a boundary-scan instruction: captured cells and bits shifted in. -/
def State.tapDrive (s : State) (scan : Option (Nat × Nat)) : State :=
  match scan with
  | none => s
  | some (cap, bits) => s.tapScan cap bits

/-- EXTEST (R532): the outputs carry the chain, first as preloaded and then as a scan leaves it. -/
def tapExtest (scan : Option (Nat × Nat)) (s : State) : State := s.tapTest 0x03 1 (·.tapDrive scan)

/-- EXTEST_PULSE (R532, IEEE 1149.6). -/
def tapExtestPulse (scan : Option (Nat × Nat)) (s : State) : State := s.tapTest 0x04 2 (·.tapDrive scan)

/-- EXTEST_TRAIN (R532, IEEE 1149.6). -/
def tapExtestTrain (scan : Option (Nat × Nat)) (s : State) : State := s.tapTest 0x05 3 (·.tapDrive scan)

/-- CLAMP (R531): the outputs carry the chain, and the bypass register is selected. -/
def tapClamp (s : State) : State := s.tapTest 0x06 4 State.tapBit

/-- HIGHZ (R531): every output in high impedance, the bypass register selected. -/
def tapHighz (s : State) : State := s.tapTest 0x07 5 State.tapBit

/-- Is the code one of Table 23-3 other than BYPASS? -/
def tapListed (code : Nat) : Bool := (1 ≤ code ∧ code ≤ 7) ∨ code = 0x10 ∨ code = 0x11

/-- BYPASS (R531): code 0xFF or any unlisted code. -/
def tapBypass (code : Byte) (s : State) : State :=
  if s.tapOn = false ∨ tapListed code.toNat then s else (s.tapLoad code.toNat 0).tapBit

/-! ### Parameter access (R533) -/

/-- Update-DR of TP_ACCESS: code and word read. A write and a refused access read no word, so what the register then shows in
[31:0] is an open value. -/
def State.tapAccess (s : State) (dr : Nat) (x : RegIn) : State :=
  let page := bits dr 39 8
  let a := page * 64 + bits dr 33 6
  let keep (c w : Nat) (s : State) : State := s.setTap { s.test.tap with code := c, word := w }
  if bit dr 47 then
    let (c, s1) := s.pathWrite .tap a (BitVec.ofNat 32 (bits dr 0 32)) x
    let (w, s2) := s1.freeBits 32
    keep c w s2
  else if tapPage page = false then
    let (w, s1) := s.freeBits 32
    keep 8 w s1
  else
    let (w, s1) := s.regRead .tap a
    keep 0 w s1

/-- TP_ACCESS (R533): Capture-DR shows the last access, Update-DR performs the one shifted in, `dr`. -/
def tpAccess (dr : Nat) (x : RegIn) (s : State) : State :=
  s.tapTest 0x10 0 (fun s =>
    let s1 := s.send (.tdo 48 (s.test.tap.code * 2 ^ 40 + s.test.tap.word))
    if s1.live then s1.tapAccess dr x else s1)

/-! ### Memory self-test (R529) -/

/-- BIST_RUN (R529): Update-DR starts the test. What Capture-DR shifts out is an open value. -/
def bistRun (mask : Byte) (s : State) : State :=
  s.tapTest 0x11 0 (fun s =>
    let (v, s1) := s.freeBits 8
    let s2 := s1.send (.tdo 8 v)
    if s2.live then s2.bistStart mask.toNat true else s2)

/-- `n` open words. -/
def State.freeWords (s : State) : Nat → List Word × State
  | 0 => ([], s)
  | n + 1 =>
    let (v, s1) := s.freeBits 32
    let (l, s2) := s1.freeWords n
    (BitVec.ofNat 32 v :: l, s2)

/-- The test leaves program memory and local RAM of a sequencer open. -/
def State.seqMemLost (s : State) (n : Nat) : State :=
  let q := s.sq n
  let (w, s1) := s.freeWords ((q.progs.map (fun (p : Prog) => p.code.length)).foldl max 0)
  let open_ (p : Prog) : Prog := { p with code := w.take p.code.length }
  (({ s1 with freeN := s1.freeN + 1 }).setSq n { q with progs := q.progs.map open_, lram := [], lramN := s1.freeN })

/-- The test leaves the bytes of a Hamper buffer open. -/
def State.bufLost (s : State) (r : Nat) (b : HBuf) : State :=
  let put (m : List (Nat × Byte)) (i : Nat) : List (Nat × Byte) := tset 0 m i (BitVec.ofNat 8 (Config.freeByte s.freeN i))
  let b1 : HBuf := { b with data := (List.range b.len).foldl put b.data }
  { s with freeN := s.freeN + 1, hmp := { s.hmp with bufs := tset {} s.hmp.bufs r b1 } }

/-- Contents that the test of the memories in `mask` destroys and that a reader of them could still see. -/
def State.memLost (s : State) (mask : Nat) : State :=
  let s1 := if bit mask 5 then (List.range 8).foldl State.seqMemLost s else s
  if bit mask 2 then s1.hmp.bufs.foldl (fun (s : State) p => s.bufLost p.1 p.2) s1 else s1

/-- BIST_END (R529): the test in hand ends; `fails` are the memories that failed. With TMODE = 0 an orderly SOFT reset follows. -/
def bistEnd (fails : Byte) (s : State) : State :=
  match s.test.bist with
  | none => s
  | some b =>
    let f := b.mask &&& fails.toNat
    let s1 := (s.memLost b.mask).bistReport b.mask f (if f = 0 then 1 else 3)
    if s1.tmode then s1 else s1.orderlyStart .soft

/-! ### What the balls show (R34, R46, R532) -/

/-- The level a ball is given by the logic. -/
def Balls.level (b : Balls) : Ball → Level
  | .ce _ _ => if b.ceHigh then .high else .low
  | .wpN _ => if b.wpLow then .low else .high
  | .cle _ | .ale _ => b.cleAle
  | .weN _ | .reT _ => b.weReT
  | .reC _ => b.reC
  | .dq _ _ | .dqsT _ | .dqsC _ => b.dq
  | .alertN => if b.alert then .low else .hiZ
  | .fcN k => if (if k = 0 then b.fc0 else b.fc1) then .low else .high
  | .clkreqN => b.clkreq
  | .spDi => .hiZ
  | .spDo => b.spDo
  | .tdo => b.tdo

/-- Is the rail of the ball's domain below 85 % of nominal: the VCCQ_F rail of its group, else VDD18 (rail 3)? -/
def State.ballDown (s : State) : Ball → Bool
  | .ce n _ | .cle n | .ale n | .weN n | .wpN n | .reT n | .reC n | .dq n _ | .dqsT n | .dqsC n => s.balls.vccqLow.contains (n / 2)
  | .alertN | .fcN _ | .clkreqN | .spDi | .spDo | .tdo => !s.aon.rails.contains 3

/-- The data cell of an output ball in the boundary-scan chain, its enable cell being the next (Tables 23-4, 2-3 and 2-6); TDO has none. -/
def Ball.cell : Ball → Option Nat
  | .ce n k => some (29 + 62 * n + 2 * k)
  | .dq n k => some (29 + 62 * n + (if k < 4 then 17 + 3 * k else 29 + 3 * k))
  | .dqsT n => some (29 + 62 * n + 30)
  | .dqsC n => some (29 + 62 * n + 33)
  | .reT n => some (29 + 62 * n + 35)
  | .reC n => some (29 + 62 * n + 37)
  | .cle n => some (29 + 62 * n + 53)
  | .ale n => some (29 + 62 * n + 55)
  | .weN n => some (29 + 62 * n + 57)
  | .wpN n => some (29 + 62 * n + 59)
  | .alertN => some 9
  | .fcN k => some (if k = 0 then 12 else 15)
  | .clkreqN => some 20
  | .spDi => some 24
  | .spDo => some 26
  | .tdo => none

/-- The level that the chain gives a ball: its data cell where its enable cell is 1 (log entry 143). -/
def Tap.level (t : Tap) (c : Nat) : Level := if bit t.chain (c + 1) then (if bit t.chain c then .high else .low) else .hiZ

/-- What an output ball shows: high impedance once the rail of its domain has fallen (R46) and under HIGHZ; what the chain holds under EXTEST
and CLAMP (R531, R532); else what the logic gives it. -/
def State.ball (s : State) (b : Ball) : Level :=
  if s.ballDown b then .hiZ
  else match b.cell with
    | none => s.balls.level b
    | some c => if s.test.tap.drive = 0 then s.balls.level b else if s.test.tap.drive = 5 then .hiZ else s.test.tap.level c

end Sys2Proof.Machine
end

