-- ==== Sys2Proof/Machine/Tick.lean ====
section
/-!
DEFINITION. One microsecond of the AON time base: what the machine counts when no command waits. Everything else that time brings
about has a row of its own, whose meaning looks at these counts.
-/

namespace Sys2Proof.Machine

/-- A timer counts one microsecond (R348). -/
def Timer.tick (t : Timer) : Timer := if t.running && t.inUs then { t with left := t.left - 1 } else t

/-- A sequencer counts: timers unless frozen (R336), and the time of an exchange while it is not halted. -/
def Seq.tick (q : Seq) (freeze : Bool) : Seq :=
  let q1 : Seq := if q.halted && freeze then q else { q with timers := q.timers.map (fun (p : Nat × Timer) => (p.1, p.2.tick)) }
  if q1.halted then q1
  else match q1.xch with
    | some x => { q1 with xch := some { x with age := x.age + 1 } }
    | none => q1

/-- The timeout clock of a started operation pauses while its channel's sequencer is halted (R336). -/
def DieOp.pause (o : DieOp) (halted : Bool) : DieOp :=
  if halted && o.started.isSome && !o.suspended then { o with susTime := o.susTime + 1 } else o

/-- The elapsed time of a watchdog (R491, R493, R494). -/
def Watchdog.tick (w : Watchdog) (on : Bool) : Watchdog :=
  if w.run && on && !w.frozen then { w with elapsed := w.elapsed + 1 } else w

/-- The supervisor runs on, unless it is halted (R25): its program is not in the manual, so its program counter becomes a free value
(log entry 35). -/
def State.svcRun (s : State) : State :=
  if s.get F.GLB_STAT_SVC_HALT = 1 then s
  else
    let (v, s1) := s.freeBits 32
    { s1 with svcPc := BitVec.ofNat 32 v }

/-- One microsecond. Without VDD_KEEP nothing counts. -/
def State.tick (s : State) : State :=
  if s.keepValid = false then s
  else
    let s1 : State := { s with
      clock := s.clock + 1
      seqs := s.seqs.map (fun (p : Nat × Seq) => (p.1, p.2.tick (s.get (F.SEQ_DBG_CFG_FREEZE_T p.1) == 1)))
      dops := s.dops.map (fun (p : Nat × DieOp) => (p.1, p.2.pause (s.sq p.2.ch).halted))
      wds := s.wds.map (fun (p : Nat × Watchdog) => (p.1, p.2.tick (s.wdEnabled p.1))) }
    (((s1.test.runs.map (·.1)).foldl (fun (s : State) t => (s.tpGo t).tpAsk t) s1.svcRun).hostPump).orderlyTry

end Sys2Proof.Machine
end

