-- ==== Sys2Proof/Machine/Exec.lean ====
section
/-!
DEFINITION. One meaning per command: the row's definition, with what no command changes kept. No command changes the queue of waiting
commands or the form of the part, and a programmed OTP bit never returns to 0 (R457).
-/

namespace Sys2Proof.Machine

/-- What a command can answer. -/
abbrev Out := Host.Outcome State Fault Refusal

/-- One programmed byte reaches the OTP row: its bits are set where they were not, but in a locked slot of 64 bytes (R457, R458). -/
def otpByte (locks : Nat) (m : List (Nat × Byte)) (p : Nat × Byte) : List (Nat × Byte) :=
  if bit locks (p.1 / 64) then m else tset 0 m p.1 (tget 0 m p.1 ||| p.2)

/-- The OTP row `old` after a command that left `new`: a bit once 1 stays 1, and a locked slot stays as it is (R457, R458). -/
def otpMerge (locks : Nat) (old new : List (Nat × Byte)) : List (Nat × Byte) := new.foldl (otpByte locks) old

/-- The state that a command leaves: the state `t` that its row gives from `s`, with what no command changes (R457, R458). What the command
said of its store writes ends with it. -/
def State.kept (s t : State) : State :=
  { t with
    pending := s.pending
    formB := s.formB
    keep := { t.keep with
      psNext := []
      otpNext := []
      otp := otpMerge s.keep.otpLocks s.keep.otp t.keep.otp
      otpLocks := s.keep.otpLocks ||| t.keep.otpLocks } }

/-- The outcome of a command whose row gives `t` from `s`. -/
def State.outcome (s t : State) : Out := .next (s.kept t)

/-- SUPPLY_RAIL_VALID (R43). -/
def execSupplyRailValid (r : Supply) (s : State) : Out := s.outcome (supplyRailValid r s)

/-- POR_RELEASE (R43). -/
def execPorRelease (s : State) : Out := s.outcome (porRelease s)

/-- BROWNOUT (R45). -/
def execBrownout (rail : Nat) (s : State) : Out := s.outcome (brownout rail s)

/-- VDD_KEEP_LOSS (R45). -/
def execVddKeepLoss (s : State) : Out := s.outcome (vddKeepLoss s)

/-- RESET_N_LOW (R44). -/
def execResetNLow (s : State) : Out := s.outcome (resetNLow s)

/-- RESET_N_RISE (R44). -/
def execResetNRise (s : State) : Out := s.outcome (resetNRise s)

/-- ORDERLY_RESET (R66). -/
def execOrderlyReset (cause : Cause) (s : State) : Out := s.outcome (orderlyReset cause s)

/-- ORDERLY_RESET_LIMIT (R66). -/
def execOrderlyResetLimit (s : State) : Out := s.outcome (orderlyResetLimit s)

/-- PRESENCE_ARMED (R53). -/
def execPresenceArmed (s : State) : Out := s.outcome (presenceArmed s)

/-- PRESENCE_INPUT_CHANGE (R53). -/
def execPresenceInputChange (prsntN pwrFailN : Bool) (s : State) : Out := s.outcome (presenceInputChange prsntN pwrFailN s)

/-- REMOVAL (R55). -/
def execRemoval (prsnt pwrFail : Bool) (s : State) : Out := s.outcome (removal prsnt pwrFail s)

/-- LOGGING_PHASE (R59). -/
def execLoggingPhase (s : State) : Out := s.outcome (loggingPhase s)

/-- PARK (R56). -/
def execPark (s : State) : Out := s.outcome (park s)

/-- REJOIN_RESET (R64). -/
def execRejoinReset (s : State) : Out := s.outcome (rejoinReset s)

/-- HOLDUP_OK_CHANGE (R284). -/
def execHoldupOkChange (level : Bool) (s : State) : Out := s.outcome (holdupOkChange level s)

/-- TRAILHEAD_START (R84). -/
def execTrailheadStart (straps : Nat) (vccq : List Nat) (start : StartIn) (s : State) : Out := s.outcome (trailheadStart straps vccq start s)

/-- KEEP_BUS_UP (R84). -/
def execKeepBusUp (o : List PsOutcome) (s : State) : Out := s.outcome (keepBusUp o s)

/-- SVI_SELECTION (R79). -/
def execSviSelection (badReads : List Nat) (s : State) : Out := s.outcome (sviSelection badReads s)

/-- SPB_SELECTION (R80). -/
def execSpbSelection (badReads : List Nat) (o : List PsOutcome) (s : State) : Out := s.outcome (spbSelection badReads o s)

/-- LOGBOOK_RECOVERY (R216). -/
def execLogbookRecovery (o : List PsOutcome) (s : State) : Out := s.outcome (logbookRecovery o s)

/-- DIE_READY_WAIT_END (R72). -/
def execDieReadyWaitEnd (s : State) : Out := s.outcome (dieReadyWaitEnd s)

/-- DIE_DISCOVERY (R292). -/
def execDieDiscovery (found : List FoundTarget) (s : State) : Out := s.outcome (dieDiscovery found s)

/-- CAL_RESTORE_OR_TRAIN (R85). -/
def execCalRestoreOrTrain (verify : Nat) (s : State) : Out := s.outcome (calRestoreOrTrain verify s)

/-- TRAILHEAD_FINISH (R86). -/
def execTrailheadFinish (rng : Bool) (o : List PsOutcome) (s : State) : Out := s.outcome (trailheadFinish rng o s)

/-- LANE_TRAINING_START (R54). -/
def execLaneTrainingStart (s : State) : Out := s.outcome (laneTrainingStart s)

/-- KEEP_BUS_TRANSFER (R13). -/
def execKeepBusTransfer (target : KeepTarget) (addr crcErrors : Nat) (s : State) : Out := s.outcome (keepBusTransfer target addr crcErrors s)

/-- RST_CTL_SOFT (R68). -/
def execRstCtlSoft (p : Path) (v : Word) (x : RegIn) (s : State) : Out := s.outcome (rstCtlSoft p v x s)

/-- RST_CTL_SAVE_RMV (R68). -/
def execRstCtlSaveRmv (p : Path) (v : Word) (x : RegIn) (s : State) : Out := s.outcome (rstCtlSaveRmv p v x s)

/-- FAULT_STAT_CLEAR (R71). -/
def execFaultStatClear (p : Path) (v : Word) (x : RegIn) (s : State) : Out := s.outcome (faultStatClear p v x s)

/-- READ (R102). -/
def execSpRead (off crc : Byte) (s : State) : Out := s.outcome (spRead off crc s)

/-- WRITE (R102). -/
def execSpWrite (off : Byte) (data : Word) (crc : Byte) (x : RegIn) (s : State) : Out := s.outcome (spWrite off data crc x s)

/-- BURST_READ (R109). -/
def execSpBurstRead (off n crc : Byte) (s : State) : Out := s.outcome (spBurstRead off n crc s)

/-- BURST_WRITE (R109). -/
def execSpBurstWrite (off n : Byte) (data : List Word) (crc : Byte) (x : RegIn) (s : State) : Out := s.outcome (spBurstWrite off n data crc x s)

/-- SET_PAGE (R108). -/
def execSpSetPage (page crc : Byte) (s : State) : Out := s.outcome (spSetPage page crc s)

/-- GET_STATUS (R110). -/
def execSpGetStatus (off crc : Byte) (s : State) : Out := s.outcome (spGetStatus off crc s)

/-- UNLOCK (R115). -/
def execSpUnlock (lock : Byte) (key : Word) (crc : Byte) (s : State) : Out := s.outcome (spUnlock lock key crc s)

/-- BAD_OPCODE (R98). -/
def execSpBadOpcode (op : Byte) (s : State) : Out := s.outcome (spBadOpcode op s)

/-- SP_FRAME_ABORT (R98). -/
def execSpFrameAbort (bytes : List Byte) (s : State) : Out := s.outcome (spFrameAbort bytes s)

/-- SP_READ_TRANSFER (R101). -/
def execSpReadTransfer (s : State) : Out := s.outcome (spReadTransfer s)

/-- FRAME_ERR (R100). -/
def execSpFrameErr (bytes : List Byte) (s : State) : Out := s.outcome (spFrameErr bytes s)

/-- UNL_REQ (R119). -/
def execUnlReq (p : Path) (v : Word) (x : RegIn) (s : State) : Out := s.outcome (unlReq p v x s)

/-- UNL_KEY (R119). -/
def execUnlKey (p : Path) (v : Word) (x : RegIn) (s : State) : Out := s.outcome (unlKey p v x s)

/-- ACC_LOCK_SET (R118). -/
def execAccLockSet (p : Path) (v : Word) (x : RegIn) (s : State) : Out := s.outcome (accLockSet p v x s)

/-- REGISTER_WRITE (R7). -/
def execRegisterWrite (p : Path) (addr : Nat) (v : Word) (x : RegIn) (s : State) : Out := s.outcome (registerWrite p addr v x s)

/-- CMT_COMMIT (R123). -/
def execCmtCommit (p : Path) (v : Word) (x : RegIn) (s : State) : Out := s.outcome (cmtCommit p v x s)

/-- CMT_DISCARD (R127). -/
def execCmtDiscard (p : Path) (v : Word) (x : RegIn) (s : State) : Out := s.outcome (cmtDiscard p v x s)

/-- COMMIT_APPLY (R125). -/
def execCommitApply (g : Nat) (accept : Bool) (res : List Eye) (s : State) : Out := s.outcome (commitApply g accept res s)

/-- COMMIT_HOLD (R126). -/
def execCommitHold (g : Nat) (s : State) : Out := s.outcome (commitHold g s)

/-- IMG_CTL_ACTIVATE (R91). -/
def execImgCtlActivate (p : Path) (v : Word) (x : RegIn) (s : State) : Out := s.outcome (imgCtlActivate p v x s)

/-- EPOCH_SET (R92). -/
def execEpochSet (p : Path) (v : Word) (x : RegIn) (s : State) : Out := s.outcome (epochSet p v x s)

/-- BOOT_CFG_WRITE (R553). -/
def execBootCfgWrite (p : Path) (v : Word) (x : RegIn) (s : State) : Out := s.outcome (bootCfgWrite p v x s)

/-- AGL_DETECT_QUIET_END (R139). -/
def execAglDetectQuietEnd (l found : Nat) (s : State) : Out := s.outcome (aglDetectQuietEnd l found s)

/-- AGL_TRAINING_TIMEOUT (R139). -/
def execAglTrainingTimeout (l : Nat) (s : State) : Out := s.outcome (aglTrainingTimeout l s)

/-- TS1 (R139). -/
def execTs1 (l : Nat) (sets : List (Nat × TsSet)) (s : State) : Out := s.outcome (ts1 l sets s)

/-- TS2 (R139). -/
def execTs2 (l : Nat) (sets : List (Nat × TsSet)) (s : State) : Out := s.outcome (ts2 l sets s)

/-- SKP (R138). -/
def execSkp (l : Nat) (s : State) : Out := s.outcome (skp l s)

/-- ALN (R138). -/
def execAln (l : Nat) (s : State) : Out := s.outcome (aln l s)

/-- EIOS (R160). -/
def execEios (l : Nat) (s : State) : Out := s.outcome (eios l s)

/-- EIEOS (R161). -/
def execEieos (l : Nat) (s : State) : Out := s.outcome (eieos l s)

/-- SKP_ALN_INTERVAL (R138). -/
def execSkpAlnInterval (l : Nat) (s : State) : Out := s.outcome (skpAlnInterval l s)

/-- EQUALISATION (R141). -/
def execEqualisation (l : Nat) (asks asked : List Nat) (ok : Bool) (s : State) : Out := s.outcome (equalisation l asks asked ok s)

/-- LINK_DOWN (R143). -/
def execLinkDown (l : Nat) (s : State) : Out := s.outcome (linkDown l s)

/-- FRAMING_ERROR (R144). -/
def execFramingError (l : Nat) (s : State) : Out := s.outcome (anyFramingError l s)

/-- FRAME_CRC_FAIL (R148). -/
def execFrameCrcFail (l : Nat) (s : State) : Out := s.outcome (anyFrameCrcFail l s)

/-- MALFORMED_FRAME (R147). -/
def execMalformedFrame (l typ : Nat) (seq : Option Nat) (s : State) : Out := s.outcome (anyMalformedFrame l typ seq s)

/-- ACK (R149). -/
def execAglAck (l seq : Nat) (s : State) : Out := s.outcome (anyAck l seq s)

/-- NAK (R149). -/
def execAglNak (l seq : Nat) (s : State) : Out := s.outcome (anyNak l seq s)

/-- CREDIT (R152). -/
def execAglCredit (l cls limit : Nat) (s : State) : Out := s.outcome (aglCredit l cls limit s)

/-- ENTER_L1 (R160). -/
def execEnterL1 (l : Nat) (s : State) : Out := s.outcome (enterL1 l s)

/-- ENTER_L2 (R160). -/
def execEnterL2 (l : Nat) (s : State) : Out := s.outcome (enterL2 l s)

/-- LINK_CTL_RESET (R159). -/
def execLinkCtlReset (s : State) : Out := s.outcome (linkCtlReset s)

/-- LINK_CTL_RETRAIN (R159). -/
def execLinkCtlRetrain (l : Nat) (s : State) : Out := s.outcome (linkCtlRetrain l s)

/-- REG_WR (R155). -/
def execRegWr (seq addr : Nat) (data : List Word) (mm : Bool) (s : State) : Out := s.outcome (regWr seq addr data mm s)

/-- REG_RD (R155). -/
def execRegRd (seq addr rtag rlen : Nat) (s : State) : Out := s.outcome (regRd seq addr rtag rlen s)

/-- WDATA (R157). -/
def execWdata (seq sq tag off pad : Nat) (data : List Byte) (s : State) : Out := s.outcome (wdata seq sq tag off pad data s)

/-- ACK_TIMER (R149). -/
def execAckTimer (l : Nat) (s : State) : Out := s.outcome (ackTimer l s)

/-- REPLAY_TIMER (R150). -/
def execReplayTimer (l : Nat) (s : State) : Out := s.outcome (anyReplayTimer l s)

/-- CREDIT_REFRESH (R152). -/
def execCreditRefresh (l : Nat) (s : State) : Out := s.outcome (creditRefresh l s)

/-- DREQ_DATA_TIMEOUT (R157). -/
def execDreqDataTimeout (k : Nat) (s : State) : Out := s.outcome (dreqDataTimeout k s)

/-- DATA_TRANSMIT (R156). -/
def execDataTransmit (k : Nat) (s : State) : Out := s.outcome (dataTransmit k s)

/-- DREQ (R157). -/
def execDreq (k : Nat) (s : State) : Out := s.outcome (dreq k s)

/-- CONFIG_REQUEST (R174). -/
def execConfigRequest (write : Bool) (addr be : Nat) (v : Word) (s : State) : Out := s.outcome (configRequest write addr be v s)

/-- MEMORY_WRITE_WINDOW (R166). -/
def execMemoryWriteWindow (off : Nat) (dws : List (Nat × Word)) (poison mm : Bool) (s : State) : Out := s.outcome (memoryWriteWindow off dws poison mm s)

/-- MEMORY_READ_WINDOW (R166). -/
def execMemoryReadWindow (off n : Nat) (s : State) : Out := s.outcome (memoryReadWindow off n s)

/-- EVT_POP (R167). -/
def execEvtPop (s : State) : Out := s.outcome (evtPop s)

/-- WRITE_DATA_COMPLETION (R170). -/
def execWriteDataCompletion (tag status : Nat) (poison : Bool) (data : List Byte) (s : State) : Out := s.outcome (writeDataCompletion tag status poison data s)

/-- COMPLETION_TIMEOUT (R170). -/
def execCompletionTimeout (tag : Nat) (s : State) : Out := s.outcome (completionTimeout tag s)

/-- HOT_RESET (R175). -/
def execHotReset (s : State) : Out := s.outcome (hotReset s)

/-- LINK_DISABLE (R175). -/
def execLinkDisable (s : State) : Out := s.outcome (linkDisable s)

/-- PERST_N_ASSERT (R173). -/
def execPerstNAssert (s : State) : Out := s.outcome (perstNAssert s)

/-- PERST_N_RISE (R173). -/
def execPerstNRise (s : State) : Out := s.outcome (perstNRise s)

/-- D3HOT_ENTRY (R177). -/
def execD3hotEntry (s : State) : Out := s.outcome (d3hotEntry s)

/-- D0_RETURN (R177). -/
def execD0Return (s : State) : Out := s.outcome (d0Return s)

/-- ASPM_L1_IDLE (R178). -/
def execAspmL1Idle (s : State) : Out := s.outcome (aspmL1Idle s)

/-- MSIX_UNMASK (R172). -/
def execMsixUnmask (v : Nat) (s : State) : Out := s.outcome (msixUnmask v s)

/-- SUBMISSION_PORT_WRITE (R185). -/
def execSubmissionPortWrite (q off : Nat) (data : List Byte) (mm : Bool) (s : State) : Out := s.outcome (submissionPortWrite q off data mm s)

/-- SQ_DOORBELL (R186). -/
def execSqDoorbell (q : Nat) (w : Word) (mm : Bool) (s : State) : Out := s.outcome (sqDoorbell q w mm s)

/-- CQ_HEAD_DOORBELL (R190). -/
def execCqHeadDoorbell (q : Nat) (w : Word) (mm : Bool) (s : State) : Out := s.outcome (cqHeadDoorbell q w mm s)

/-- COMMAND_TAKE (R203). -/
def execCommandTake (mm : Bool) (s : State) : Out := s.outcome (s.viaQ [22, 37] (commandTake mm))

/-- COMPLETION_POST (R189). -/
def execCompletionPost (a : QpAccess) (s : State) : Out := s.outcome (s.viaQ [21] (completionPost a))

/-- MAILBOX_TIMEOUT (R25). -/
def execMailboxTimeout (k : Nat) (s : State) : Out := s.outcome (mailboxTimeout k s)

/-- QP_CREATE (R182). -/
def execQpCreate (p : Path) (v : Word) (x : RegIn) (s : State) : Out := s.outcome (qpCreate p v x s)

/-- QP_DELETE (R183). -/
def execQpDelete (p : Path) (v : Word) (x : RegIn) (s : State) : Out := s.outcome (qpDelete p v x s)

/-- SET_PRIO (R205). -/
def execQpSetPrio (p : Path) (v : Word) (x : RegIn) (s : State) : Out := s.outcome (qpSetPrio p v x s)

/-- BIND (R182). -/
def execQpBind (p : Path) (v : Word) (x : RegIn) (s : State) : Out := s.outcome (qpBind p v x s)

/-- READ_ALB (R22). -/
def execReadAlb (k : Nat) (s : State) : Out := s.outcome (readAlb k s)

/-- READ_RAW (R195). -/
def execReadRaw (k : Nat) (s : State) : Out := s.outcome (readRaw k s)

/-- STREAM_OPEN (R405). -/
def execStreamOpen (k : Nat) (s : State) : Out := s.outcome (streamOpen k s)

/-- STREAM_CREDIT (R407). -/
def execStreamCredit (k : Nat) (s : State) : Out := s.outcome (streamCredit k s)

/-- STREAM_CLOSE (R410). -/
def execStreamClose (k : Nat) (s : State) : Out := s.outcome (streamClose k s)

/-- PROGRAM_RAW (R307). -/
def execProgramRaw (k : Nat) (s : State) : Out := s.outcome (programRaw k s)

/-- ERASE_RAW (R306). -/
def execEraseRaw (k : Nat) (s : State) : Out := s.outcome (eraseRaw k s)

/-- MAP_WRITE (R401). -/
def execMapWrite (k : Nat) (s : State) : Out := s.outcome (mapWrite k s)

/-- MAP_FLUSH (R403). -/
def execMapFlush (k : Nat) (s : State) : Out := s.outcome (mapFlush k s)

/-- AUTH_BEGIN (R420). -/
def execAuthBegin (k : Nat) (ok : Bool) (s : State) : Out := s.outcome (authBegin k ok s)

/-- AUTH_FINISH (R421). -/
def execAuthFinish (k : Nat) (ok : Bool) (s : State) : Out := s.outcome (authFinish k ok s)

/-- KEY_LOAD (R423). -/
def execKeyLoad (k : Nat) (s : State) : Out := s.outcome (keyLoad k s)

/-- IMPRINT_CHECK (R434). -/
def execImprintCheck (k : Nat) (s : State) : Out := s.outcome (imprintCheck k s)

/-- IMPRINT_ENROL (R432). -/
def execImprintEnrol (k : Nat) (o : List PsOutcome) (s : State) : Out := s.outcome (imprintEnrol k o s)

/-- COUNTER_INC (R428). -/
def execCounterInc (k : Nat) (o : List PsOutcome) (s : State) : Out := s.outcome (counterInc k o s)

/-- REG_ACCESS (R119). -/
def execRegAccess (k : Nat) (x : RegIn) (s : State) : Out := s.outcome (regAccess k x s)

/-- LOGBOOK_READ (R214). -/
def execLogbookRead (k : Nat) (s : State) : Out := s.outcome (logbookRead k s)

/-- LOGBOOK_MARK (R215). -/
def execLogbookMark (k : Nat) (s : State) : Out := s.outcome (logbookMark k s)

/-- NOR_READ (R446). -/
def execNorRead (k : Nat) (s : State) : Out := s.outcome (norRead k s)

/-- NOR_PROGRAM (R443). -/
def execNorProgram (k : Nat) (s : State) : Out := s.outcome (norProgram k s)

/-- NOR_ERASE (R445). -/
def execNorErase (k : Nat) (s : State) : Out := s.outcome (norErase k s)

/-- IMAGE_ACTIVATE (R91). -/
def execImageActivate (k : Nat) (badReads : List Nat) (o : List PsOutcome) (s : State) : Out := s.outcome (imageActivate k badReads o s)

/-- SEQ_EXCHANGE (R354). -/
def execSeqExchange (k : Nat) (s : State) : Out := s.outcome (seqExchange k s)

/-- TEST_PATTERN (R524). -/
def execTestPattern (k : Nat) (rx : List (List Bool)) (s : State) : Out := s.outcome (testPattern k rx s)

/-- NOP (R193). -/
def execCmdNop (k : Nat) (s : State) : Out := s.outcome (cmdNop k s)

/-- LOGBOOK_WRITE (R206). -/
def execLogbookWrite (k : Nat) (o : List PsOutcome) (s : State) : Out := s.outcome (logbookWrite k o s)

/-- IDL_CLR (R219). -/
def execIdlClr (p : Path) (v : Word) (x : RegIn) (s : State) : Out := s.outcome (idlClr p v x s)

/-- LOG_INJECT (R220). -/
def execLogInject (p : Path) (v : Word) (x : RegIn) (s : State) : Out := s.outcome (logInject p v x s)

/-- PRODUCER_WRITE (R226). -/
def execProducerWrite (q prod : Nat) (data : List Byte) (user : Nat) (flight : Option Nat) (bufs : List Nat) (mm : Bool) (s : State) : Out := s.outcome (producerWrite q prod data user flight bufs mm s)

/-- PRODUCER_FLUSH (R226). -/
def execProducerFlush (q prod : Nat) (s : State) : Out := s.outcome (producerFlush q prod s)

/-- PACK_TIMEOUT (R226). -/
def execPackTimeout (q prod : Nat) (s : State) : Out := s.outcome (packTimeout q prod s)

/-- CONSUMER_READ (R227). -/
def execConsumerRead (q : Nat) (mm : Bool) (s : State) : Out := s.outcome ((consumerRead q mm s).queuePump q)

/-- COMMIT (R229). -/
def execFqCommit (q : Nat) (mm : Bool) (s : State) : Out := s.outcome (fqCommit q mm s)

/-- REWIND (R230). -/
def execFqRewind (q : Nat) (mm : Bool) (s : State) : Out := s.outcome (fqRewind q mm s)

/-- OPEN (R232). -/
def execFqOpen (q : Nat) (mm : Bool) (s : State) : Out := s.outcome (fqOpen q mm s)

/-- CLOSE (R232). -/
def execFqClose (q len : Nat) (mm : Bool) (s : State) : Out := s.outcome (fqClose q len mm s)

/-- SPILL_REQUEST (R235). -/
def execSpillRequest (q : Nat) (s : State) : Out := s.outcome (spillRequest q s)

/-- FC_HOLD_EXPIRY (R242). -/
def execFcHoldExpiry (k : Nat) (s : State) : Out := s.outcome (fcHoldExpiry k s)

/-- FQ_INJECT (R238). -/
def execFqInject (p : Path) (v : Word) (x : RegIn) (s : State) : Out := s.outcome (fqInject p v x s)

/-- FQ_WM_WRITE (R240). -/
def execFqWmWrite (p : Path) (v : Word) (x : RegIn) (s : State) : Out := s.outcome (fqWmWrite p v x s)

/-- ALLOC_REQUEST (R251). -/
def execAllocRequest (owner n : Nat) (chain wait : Bool) (s : State) : Out := s.outcome (allocRequest owner n chain wait s)

/-- WAIT_WITHDRAW (R252). -/
def execWaitWithdraw (id : Nat) (s : State) : Out := s.outcome (waitWithdraw id s)

/-- REFERENCE_RELEASE (R257). -/
def execReferenceRelease (r who ecc : Nat) (s : State) : Out := s.outcome (referenceRelease r who ecc s)

/-- RETAIN (R258). -/
def execHmpRetain (r who : Nat) (s : State) : Out := s.outcome (hmpRetain r who s)

/-- NAMED_OWNER_RELEASE (R259). -/
def execNamedOwnerRelease (owner : Nat) (buf : Option Nat) (k : Nat) (s : State) : Out := s.outcome (namedOwnerRelease owner buf k s)

/-- HANDOVER (R260). -/
def execHmpHandover (r frm dst : Nat) (s : State) : Out := s.outcome (hmpHandover r frm dst s)

/-- AUDIT_SCAN (R263). -/
def execAuditScan (corr : Nat) (bad : List Nat) (s : State) : Out := s.outcome (auditScan corr bad s)

/-- HMP_THR_WRITE (R255). -/
def execHmpThrWrite (p : Path) (v : Word) (x : RegIn) (s : State) : Out := s.outcome (hmpThrWrite p v x s)

/-- OWN_LIMIT_WRITE (R252). -/
def execOwnLimitWrite (p : Path) (k : Nat) (v : Word) (x : RegIn) (s : State) : Out := s.outcome (ownLimitWrite p k v x s)

/-- HMP_RELEASE_OWNER (R259). -/
def execHmpReleaseOwner (p : Path) (v : Word) (x : RegIn) (s : State) : Out := s.outcome (hmpReleaseOwner p v x s)

/-- HMP_SCAN_NOW (R263). -/
def execHmpScanNow (p : Path) (v : Word) (x : RegIn) (s : State) : Out := s.outcome (hmpScanNow p v x s)

/-- HMP_FREE_ORPHANS (R265). -/
def execHmpFreeOrphans (p : Path) (v : Word) (x : RegIn) (s : State) : Out := s.outcome (hmpFreeOrphans p v x s)

/-- LEDGER_UPDATE (R276). -/
def execLedgerUpdate (vT : Nat) (diff : Int) (onDie : Nat) (s : State) : Out := s.outcome (ledgerUpdate vT diff onDie s)

/-- ADMISSION_DECISION (R278). -/
def execAdmissionDecision (s : State) : Out := s.outcome (admissionDecision s)

/-- STARVE (R278). -/
def execStarve (i : Nat) (s : State) : Out := s.outcome (starve i s)

/-- HU_WAIT_TIMEOUT (R283). -/
def execHuWaitTimeout (i : Nat) (s : State) : Out := s.outcome (huWaitTimeout i s)

/-- RATION_SAVE (R273). -/
def execRationSave (p : Path) (v : Word) (x : RegIn) (s : State) : Out := s.outcome (rationSave p v x s)

/-- RATION_DEFAULTS (R272). -/
def execRationDefaults (p : Path) (v : Word) (x : RegIn) (s : State) : Out := s.outcome (rationDefaults p v x s)

/-- CALIBRATE (R275). -/
def execRationCalibrate (p : Path) (v : Word) (x : RegIn) (s : State) : Out := s.outcome (rationCalibrate p v x s)

/-- SCHEDULING_DECISION (R296). -/
def execSchedulingDecision (n : Nat) (s : State) : Out := s.outcome (schedulingDecision n s)

/-- SUSPEND_DECISION (R302). -/
def execSuspendDecision (n : Nat) (s : State) : Out := s.outcome (suspendDecision n s)

/-- DIE_TIMEOUT (R304). -/
def execDieTimeout (i : Nat) (s : State) : Out := s.outcome (dieTimeout i s)

/-- TRACKING_MEASUREMENT (R475). -/
def execTrackingMeasurement (n ce : Nat) (dqs : Option Word) (wins : List (Nat × Nat)) (boundary : Bool) (s : State) : Out := s.outcome (trackingMeasurement n ce dqs wins boundary s)

/-- STALE_TIMEOUT (R477). -/
def execStaleTimeout (n : Nat) (s : State) : Out := s.outcome (staleTimeout n s)

/-- TRAINING_END (R469). -/
def execTrainingEnd (n : Nat) (res : List Eye) (s : State) : Out := s.outcome (trainingEnd n res s)

/-- LANE_ADAPTATION (R471). -/
def execLaneAdaptation (k : Nat) (v : Word) (s : State) : Out := s.outcome (laneAdaptation k v s)

/-- AUTO_SAVE (R479). -/
def execAutoSave (o : List PsOutcome) (s : State) : Out := s.outcome (autoSave o s)

/-- CAL_SAVE (R479). -/
def execCalSave (p : Path) (v : Word) (x : RegIn) (s : State) : Out := s.outcome (calSave p v x s)

/-- CAL_RETRAIN (R469). -/
def execCalRetrain (p : Path) (v : Word) (x : RegIn) (s : State) : Out := s.outcome (calRetrain p v x s)

/-- CAL_IMPORT (R480). -/
def execCalImport (p : Path) (v : Word) (x : RegIn) (s : State) : Out := s.outcome (calImport p v x s)

/-- CLEAR_HOST (R476). -/
def execClearHost (p : Path) (v : Word) (x : RegIn) (s : State) : Out := s.outcome (clearHost p v x s)

/-- SEQ_NOP (R315). -/
def execSeqNop (n : Nat) (x : SeqIn) (s : State) : Out := s.outcome (seqNop n x s)

/-- ADD (R317). -/
def execSeqAdd (n : Nat) (x : SeqIn) (s : State) : Out := s.outcome (seqAdd n x s)

/-- ADC (R317). -/
def execSeqAdc (n : Nat) (x : SeqIn) (s : State) : Out := s.outcome (seqAdc n x s)

/-- SUB (R317). -/
def execSeqSub (n : Nat) (x : SeqIn) (s : State) : Out := s.outcome (seqSub n x s)

/-- SBC (R317). -/
def execSeqSbc (n : Nat) (x : SeqIn) (s : State) : Out := s.outcome (seqSbc n x s)

/-- AND (R315). -/
def execSeqAnd (n : Nat) (x : SeqIn) (s : State) : Out := s.outcome (seqAnd n x s)

/-- OR (R315). -/
def execSeqOr (n : Nat) (x : SeqIn) (s : State) : Out := s.outcome (seqOr n x s)

/-- XOR (R315). -/
def execSeqXor (n : Nat) (x : SeqIn) (s : State) : Out := s.outcome (seqXor n x s)

/-- SHL (R318). -/
def execSeqShl (n : Nat) (x : SeqIn) (s : State) : Out := s.outcome (seqShl n x s)

/-- SHR (R318). -/
def execSeqShr (n : Nat) (x : SeqIn) (s : State) : Out := s.outcome (seqShr n x s)

/-- SAR (R318). -/
def execSeqSar (n : Nat) (x : SeqIn) (s : State) : Out := s.outcome (seqSar n x s)

/-- ROL (R318). -/
def execSeqRol (n : Nat) (x : SeqIn) (s : State) : Out := s.outcome (seqRol n x s)

/-- ROR (R318). -/
def execSeqRor (n : Nat) (x : SeqIn) (s : State) : Out := s.outcome (seqRor n x s)

/-- MUL (R319). -/
def execSeqMul (n : Nat) (x : SeqIn) (s : State) : Out := s.outcome (seqMul n x s)

/-- DIVS (R320). -/
def execSeqDivs (n : Nat) (x : SeqIn) (s : State) : Out := s.outcome (seqDivs n x s)

/-- DIVU (R320). -/
def execSeqDivu (n : Nat) (x : SeqIn) (s : State) : Out := s.outcome (seqDivu n x s)

/-- CMP (R317). -/
def execSeqCmp (n : Nat) (x : SeqIn) (s : State) : Out := s.outcome (seqCmp n x s)

/-- TST (R316). -/
def execSeqTst (n : Nat) (x : SeqIn) (s : State) : Out := s.outcome (seqTst n x s)

/-- NEG (R317). -/
def execSeqNeg (n : Nat) (x : SeqIn) (s : State) : Out := s.outcome (seqNeg n x s)

/-- NOT (R315). -/
def execSeqNot (n : Nat) (x : SeqIn) (s : State) : Out := s.outcome (seqNot n x s)

/-- MOV (R315). -/
def execSeqMov (n : Nat) (x : SeqIn) (s : State) : Out := s.outcome (seqMov n x s)

/-- ADDI (R317). -/
def execSeqAddi (n : Nat) (x : SeqIn) (s : State) : Out := s.outcome (seqAddi n x s)

/-- ANDI (R315). -/
def execSeqAndi (n : Nat) (x : SeqIn) (s : State) : Out := s.outcome (seqAndi n x s)

/-- ORI (R315). -/
def execSeqOri (n : Nat) (x : SeqIn) (s : State) : Out := s.outcome (seqOri n x s)

/-- XORI (R315). -/
def execSeqXori (n : Nat) (x : SeqIn) (s : State) : Out := s.outcome (seqXori n x s)

/-- SHI (R318). -/
def execSeqShi (n : Nat) (x : SeqIn) (s : State) : Out := s.outcome (seqShi n x s)

/-- CMPI (R317). -/
def execSeqCmpi (n : Nat) (x : SeqIn) (s : State) : Out := s.outcome (seqCmpi n x s)

/-- MOVI (R315). -/
def execSeqMovi (n : Nat) (x : SeqIn) (s : State) : Out := s.outcome (seqMovi n x s)

/-- MOVHI (R315). -/
def execSeqMovhi (n : Nat) (x : SeqIn) (s : State) : Out := s.outcome (seqMovhi n x s)

/-- MOVS (R315). -/
def execSeqMovs (n : Nat) (x : SeqIn) (s : State) : Out := s.outcome (seqMovs n x s)

/-- MFS (R327). -/
def execSeqMfs (n : Nat) (x : SeqIn) (s : State) : Out := s.outcome (seqMfs n x s)

/-- MTS (R327). -/
def execSeqMts (n : Nat) (x : SeqIn) (s : State) : Out := s.outcome (seqMts n x s)

/-- PSET (R322). -/
def execSeqPset (n : Nat) (x : SeqIn) (s : State) : Out := s.outcome (seqPset n x s)

/-- PGET (R322). -/
def execSeqPget (n : Nat) (x : SeqIn) (s : State) : Out := s.outcome (seqPget n x s)

/-- PADD (R323). -/
def execSeqPadd (n : Nat) (x : SeqIn) (s : State) : Out := s.outcome (seqPadd n x s)

/-- PTST (R324). -/
def execSeqPtst (n : Nat) (x : SeqIn) (s : State) : Out := s.outcome (seqPtst n x s)

/-- LDW (R322). -/
def execSeqLdw (n : Nat) (x : SeqIn) (s : State) : Out := s.outcome (seqLdw n x s)

/-- LDH (R322). -/
def execSeqLdh (n : Nat) (x : SeqIn) (s : State) : Out := s.outcome (seqLdh n x s)

/-- LDB (R322). -/
def execSeqLdb (n : Nat) (x : SeqIn) (s : State) : Out := s.outcome (seqLdb n x s)

/-- STW (R325). -/
def execSeqStw (n : Nat) (x : SeqIn) (s : State) : Out := s.outcome (seqStw n x s)

/-- STH (R325). -/
def execSeqSth (n : Nat) (x : SeqIn) (s : State) : Out := s.outcome (seqSth n x s)

/-- STB (R325). -/
def execSeqStb (n : Nat) (x : SeqIn) (s : State) : Out := s.outcome (seqStb n x s)

/-- LDL (R326). -/
def execSeqLdl (n : Nat) (x : SeqIn) (s : State) : Out := s.outcome (seqLdl n x s)

/-- STL (R326). -/
def execSeqStl (n : Nat) (x : SeqIn) (s : State) : Out := s.outcome (seqStl n x s)

/-- B (R321). -/
def execSeqB (n : Nat) (x : SeqIn) (s : State) : Out := s.outcome (seqB n x s)

/-- BR (R321). -/
def execSeqBr (n : Nat) (x : SeqIn) (s : State) : Out := s.outcome (seqBr n x s)

/-- CALL (R321). -/
def execSeqCall (n : Nat) (x : SeqIn) (s : State) : Out := s.outcome (seqCall n x s)

/-- CALLR (R321). -/
def execSeqCallr (n : Nat) (x : SeqIn) (s : State) : Out := s.outcome (seqCallr n x s)

/-- RET (R321). -/
def execSeqRet (n : Nat) (x : SeqIn) (s : State) : Out := s.outcome (seqRet n x s)

/-- RETE (R330). -/
def execSeqRete (n : Nat) (x : SeqIn) (s : State) : Out := s.outcome (seqRete n x s)

/-- RETF (R332). -/
def execSeqRetf (n : Nat) (x : SeqIn) (s : State) : Out := s.outcome (seqRetf n x s)

/-- DJNZ (R321). -/
def execSeqDjnz (n : Nat) (x : SeqIn) (s : State) : Out := s.outcome (seqDjnz n x s)

/-- POST (R328). -/
def execSeqPost (n : Nat) (x : SeqIn) (s : State) : Out := s.outcome (seqPost n x s)

/-- EVM (R330). -/
def execSeqEvm (n : Nat) (x : SeqIn) (s : State) : Out := s.outcome (seqEvm n x s)

/-- WAIT (R331). -/
def execSeqWait (n : Nat) (x : SeqIn) (s : State) : Out := s.outcome (seqWait n x s)

/-- KICK (R334). -/
def execSeqKick (n : Nat) (x : SeqIn) (s : State) : Out := s.outcome (seqKick n x s)

/-- TSET (R348). -/
def execSeqTset (n : Nat) (x : SeqIn) (s : State) : Out := s.outcome (seqTset n x s)

/-- TSTOP (R348). -/
def execSeqTstop (n : Nat) (x : SeqIn) (s : State) : Out := s.outcome (seqTstop n x s)

/-- TGET (R349). -/
def execSeqTget (n : Nat) (x : SeqIn) (s : State) : Out := s.outcome (seqTget n x s)

/-- EARM (R350). -/
def execSeqEarm (n : Nat) (x : SeqIn) (s : State) : Out := s.outcome (seqEarm n x s)

/-- EDIS (R350). -/
def execSeqEdis (n : Nat) (x : SeqIn) (s : State) : Out := s.outcome (seqEdis n x s)

/-- EGET (R350). -/
def execSeqEget (n : Nat) (x : SeqIn) (s : State) : Out := s.outcome (seqEget n x s)

/-- BRK (R337). -/
def execSeqBrk (n : Nat) (x : SeqIn) (s : State) : Out := s.outcome (seqBrk n x s)

/-- BCMD (R343). -/
def execSeqBcmd (n : Nat) (x : SeqIn) (s : State) : Out := s.outcome (seqBcmd n x s)

/-- BADR (R343). -/
def execSeqBadr (n : Nat) (x : SeqIn) (s : State) : Out := s.outcome (seqBadr n x s)

/-- BDO (R346). -/
def execSeqBdo (n : Nat) (x : SeqIn) (s : State) : Out := s.outcome (seqBdo n x s)

/-- BDI (R346). -/
def execSeqBdi (n : Nat) (x : SeqIn) (s : State) : Out := s.outcome (seqBdi n x s)

/-- BSTS (R343). -/
def execSeqBsts (n : Nat) (x : SeqIn) (s : State) : Out := s.outcome (seqBsts n x s)

/-- BSEL (R343). -/
def execSeqBsel (n : Nat) (x : SeqIn) (s : State) : Out := s.outcome (seqBsel n x s)

/-- BSETF (R343). -/
def execSeqBsetf (n : Nat) (x : SeqIn) (s : State) : Out := s.outcome (seqBsetf n x s)

/-- BGETF (R343). -/
def execSeqBgetf (n : Nat) (x : SeqIn) (s : State) : Out := s.outcome (seqBgetf n x s)

/-- BIDLE (R343). -/
def execSeqBidle (n : Nat) (x : SeqIn) (s : State) : Out := s.outcome (seqBidle n x s)

/-- TAKE (R351). -/
def execSrTake (n x : Nat) (o : List PsOutcome) (s : State) : Out := s.outcome (srTake n x o s)

/-- CONFIRM (R351). -/
def execSrConfirm (n x : Nat) (s : State) : Out := s.outcome (srConfirm n x s)

/-- OPEND (R351). -/
def execSrOpend (n x oc : Nat) (s : State) : Out := s.outcome (srOpend n x oc s)

/-- SR_ACK (R358). -/
def execSrAck (n x : Nat) (s : State) : Out := s.outcome (srAck n x s)

/-- SUSPACK (R352). -/
def execSrSuspack (n x : Nat) (susp : Bool) (s : State) : Out := s.outcome (srSuspack n x susp s)

/-- ENTRY_OK (R358). -/
def execSrEntryOk (n : Nat) (s : State) : Out := s.outcome (srEntryOk n s)

/-- EVENT_DELIVERY (R329). -/
def execEventDelivery (n : Nat) (s : State) : Out := s.outcome (eventDelivery n s)

/-- BREAKPOINT_HALT (R337). -/
def execBreakpointHalt (n : Nat) (s : State) : Out := s.outcome (breakpointHalt n s)

/-- TIMER_EXPIRY (R348). -/
def execTimerExpiry (n t : Nat) (s : State) : Out := s.outcome (timerExpiry n t s)

/-- EDGE_LATCH (R350). -/
def execEdgeLatch (n e : Nat) (level : Bool) (s : State) : Out := s.outcome (edgeLatch n e level s)

/-- SEQ_DBG_HALT (R335). -/
def execSeqDbgHalt (p : Path) (n : Nat) (v : Word) (x : RegIn) (s : State) : Out := s.outcome (seqDbgHalt p n v x s)

/-- SEQ_DBG_RESUME (R335). -/
def execSeqDbgResume (p : Path) (n : Nat) (v : Word) (x : RegIn) (s : State) : Out := s.outcome (seqDbgResume p n v x s)

/-- SEQ_DBG_STEP (R335). -/
def execSeqDbgStep (p : Path) (n : Nat) (v : Word) (x : RegIn) (s : State) : Out := s.outcome (seqDbgStep p n v x s)

/-- SEQ_DBG_RDATA_WRITE (R336). -/
def execSeqDbgRdataWrite (p : Path) (n : Nat) (v : Word) (x : RegIn) (s : State) : Out := s.outcome (seqDbgRdataWrite p n v x s)

/-- QUIET_POINT (R355). -/
def execQuietPoint (n : Nat) (s : State) : Out := s.outcome (quietPoint n s)

/-- QUIET_TIMEOUT (R355). -/
def execQuietTimeout (n : Nat) (s : State) : Out := s.outcome (quietTimeout n s)

/-- ENTRY_TIMEOUT (R358). -/
def execEntryTimeout (n : Nat) (s : State) : Out := s.outcome (entryTimeout n s)

/-- CODEWORD_TAKE (R372). -/
def execCodewordTake (n : Nat) (s : State) : Out := s.outcome (s.viaQ [10 + n] (codewordTake n))

/-- DECODE_END (R373). -/
def execDecodeEnd (e iter unsat : Nat) (word : Option (List Byte)) (s : State) : Out := s.outcome (s.viaQ [18, 35] (decodeEnd e iter unsat word))

/-- ENCODE (R368). -/
def execCodecEncode (k i : Nat) (s : State) : Out := s.outcome (codecEncode k i s)

/-- CODEC_SAVE (R383). -/
def execCodecSave (p : Path) (v : Word) (x : RegIn) (s : State) : Out := s.outcome (codecSave p v x s)

/-- CODEC_DEFAULTS (R383). -/
def execCodecDefaults (p : Path) (v : Word) (x : RegIn) (s : State) : Out := s.outcome (codecDefaults p v x s)

/-- CLEAR_LEARN (R384). -/
def execClearLearn (p : Path) (v : Word) (x : RegIn) (s : State) : Out := s.outcome (clearLearn p v x s)

/-- TRANSLATE (R393). -/
def execMapTranslate (k i : Nat) (s : State) : Out := s.outcome (s.viaQ [1] (mapTranslate k i))

/-- MAP_FAULT_DONE (R395). -/
def execMapFaultDone (s : State) : Out := s.outcome (s.viaQ [35] (mapFaultDone))

/-- XTS_DECRYPT (R426). -/
def execXtsDecrypt (s : State) : Out := s.outcome (s.viaQ [18] (xtsDecrypt))

/-- FRAME_DECOMPRESS (R397). -/
def execFrameDecompress (j : Nat) (s : State) : Out := s.outcome (frameDecompress j s)

/-- PREFETCH_ISSUE (R406). -/
def execPrefetchIssue (t : Nat) (s : State) : Out := s.outcome (prefetchIssue t s)

/-- STREAM_RESIDENT (R406). -/
def execStreamResident (s : State) : Out := s.outcome (s.viaQ [36] (streamResident))

/-- PUSH (R407). -/
def execStreamPush (t : Nat) (s : State) : Out := s.outcome (streamPush t s)

/-- MAP_SAVE (R387). -/
def execMapSave (p : Path) (v : Word) (x : RegIn) (s : State) : Out := s.outcome (mapSave p v x s)

/-- INVALIDATE (R393). -/
def execMapInvalidate (p : Path) (v : Word) (x : RegIn) (s : State) : Out := s.outcome (mapInvalidate p v x s)

/-- REBUILD (R403). -/
def execMapRebuild (p : Path) (v : Word) (x : RegIn) (s : State) : Out := s.outcome (mapRebuild p v x s)

/-- STR_CLOSE_ONE (R410). -/
def execStrCloseOne (p : Path) (v : Word) (x : RegIn) (s : State) : Out := s.outcome (strCloseOne p v x s)

/-- STR_CLOSE_ALL (R410). -/
def execStrCloseAll (p : Path) (v : Word) (x : RegIn) (s : State) : Out := s.outcome (strCloseAll p v x s)

/-- INF_LOAD (R400). -/
def execInfLoad (p : Path) (v : Word) (x : RegIn) (s : State) : Out := s.outcome (infLoad p v x s)

/-- PROVISION (R416). -/
def execProtProvision (p : Path) (v : Word) (x : RegIn) (s : State) : Out := s.outcome (protProvision p v x s)

/-- WRAP (R425). -/
def execProtWrap (p : Path) (v : Word) (x : RegIn) (s : State) : Out := s.outcome (protWrap p v x s)

/-- SEAL (R437). -/
def execProtSeal (p : Path) (v : Word) (x : RegIn) (s : State) : Out := s.outcome (protSeal p v x s)

/-- KEY_CLEAR (R424). -/
def execKeyClear (p : Path) (v : Word) (x : RegIn) (s : State) : Out := s.outcome (keyClear p v x s)

/-- SES_CLOSE (R419). -/
def execSesClose (p : Path) (v : Word) (x : RegIn) (s : State) : Out := s.outcome (sesClose p v x s)

/-- ENOR_WORD_PROGRAM_END (R444). -/
def execEnorWordProgramEnd (ok : Bool) (s : State) : Out := s.outcome (enorWordProgramEnd ok s)

/-- ENOR_ERASE_END (R445). -/
def execEnorEraseEnd (ok : Bool) (s : State) : Out := s.outcome (enorEraseEnd ok s)

/-- ERASE_RESUME (R446). -/
def execEraseResume (s : State) : Out := s.outcome (eraseResume s)

/-- NOR_RDATA_READ (R448). -/
def execNorRdataRead (p : Path) (s : State) : Out := s.outcome (norRdataRead p s)

/-- NOR_CTL_PROGRAM (R443). -/
def execNorCtlProgram (p : Path) (v : Word) (x : RegIn) (s : State) : Out := s.outcome (norCtlProgram p v x s)

/-- NOR_CTL_PROGRAM_CLEAR (R443). -/
def execNorCtlProgramClear (p : Path) (v : Word) (x : RegIn) (s : State) : Out := s.outcome (norCtlProgramClear p v x s)

/-- NOR_CTL_ERASE (R445). -/
def execNorCtlErase (p : Path) (v : Word) (x : RegIn) (s : State) : Out := s.outcome (norCtlErase p v x s)

/-- NOR_CTL_WP (R453). -/
def execNorCtlWp (p : Path) (v : Word) (x : RegIn) (s : State) : Out := s.outcome (norCtlWp p v x s)

/-- NOR_CTL_PROTECT (R452). -/
def execNorCtlProtect (p : Path) (v : Word) (x : RegIn) (s : State) : Out := s.outcome (norCtlProtect p v x s)

/-- PW_CHANGE (R452). -/
def execNorCtlPwChange (p : Path) (v : Word) (x : RegIn) (s : State) : Out := s.outcome (norCtlPwChange p v x s)

/-- RETIRE (R452). -/
def execNorCtlRetire (p : Path) (v : Word) (x : RegIn) (s : State) : Out := s.outcome (norCtlRetire p v x s)

/-- JOURNAL_APPEND (R456). -/
def execJournalAppend (ok : Bool) (s : State) : Out := s.outcome (journalAppend ok s)

/-- OTP_PROGRAM (R458). -/
def execOtpProgram (p : Path) (v : Word) (x : RegIn) (s : State) : Out := s.outcome (otpProgram p v x s)

/-- OTP_LOCK (R458). -/
def execOtpLock (p : Path) (v : Word) (x : RegIn) (s : State) : Out := s.outcome (otpLock p v x s)

/-- PS_WRITE (R463). -/
def execPsWrite (u : Nat) (data : List Byte) (o : List PsOutcome) (s : State) : Out := s.outcome (psWrite u data o s)

/-- PS_DATA_WRITE (R465). -/
def execPsDataWrite (p : Path) (v : Word) (x : RegIn) (s : State) : Out := s.outcome (psDataWrite p v x s)

/-- EVENT_POST (R482). -/
def execEventPost (n data : Nat) (s : State) : Out := s.outcome (eventPost n data s)

/-- EVR_POST (R483). -/
def execEvrPost (p : Path) (v : Word) (x : RegIn) (s : State) : Out := s.outcome (evrPost p v x s)

/-- EVR_PEND_CLEAR (R483). -/
def execEvrPendClear (p : Path) (k : Nat) (v : Word) (x : RegIn) (s : State) : Out := s.outcome (evrPendClear p k v x s)

/-- EVR_CFG_WRITE (R488). -/
def execEvrCfgWrite (p : Path) (n : Nat) (v : Word) (x : RegIn) (s : State) : Out := s.outcome (evrCfgWrite p n v x s)

/-- ARBITRATION_ROUND (R484). -/
def execArbitrationRound (svc : Bool) (s : State) : Out := s.outcome (arbitrationRound svc s)

/-- SVC_END_SERVICE (R487). -/
def execSvcEndService (n : Nat) (s : State) : Out := s.outcome (svcEndService n s)

/-- HF_EVT_SEND (R489). -/
def execHfEvtSend (s : State) : Out := s.outcome (hfEvtSend s)

/-- WD0_SERVICE (R492). -/
def execWd0Service (s : State) : Out := s.outcome (wd0Service s)

/-- WD_LATE (R491). -/
def execWdLate (k : Nat) (s : State) : Out := s.outcome (wdLate k s)

/-- WD_WARN (R495). -/
def execWdWarn (k : Nat) (s : State) : Out := s.outcome (wdWarn k s)

/-- WD_CTL_WRITE (R494). -/
def execWdCtlWrite (p : Path) (v : Word) (x : RegIn) (s : State) : Out := s.outcome (wdCtlWrite p v x s)

/-- SENSOR_SAMPLE (R497). -/
def execSensorSample (raw : List (Option Int)) (mv : List Nat) (low : Nat) (s : State) : Out := s.outcome (sensorSample raw mv low s)

/-- GRACE_END (R501). -/
def execGraceEnd (s : State) : Out := s.outcome (graceEnd s)

/-- DIE_OP_END (R287). -/
def execDieOpEnd (n x : Nat) (passed : Bool) (data : List (List Byte)) (s : State) : Out := s.outcome (dieOpEnd n x passed data (s.viaQ [10 + n % 8] id))

/-- JOIN (R511). -/
def execCascJoin (h : CHead) (uid : List Byte) (sviVer state form epoch : Nat) (s : State) : Out := s.outcome (cascJoin h uid sviVer state form epoch s)

/-- JOIN_REPEAT (R511). -/
def execCascJoinRepeat (s : State) : Out := s.outcome (cascJoinRepeat s)

/-- JOIN_ACK (R511). -/
def execCascJoinAck (h : CHead) (epoch : Nat) (accepted : Bool) (reason : Nat) (s : State) : Out := s.outcome (cascJoinAck h epoch accepted reason s)

/-- CASCADE_RESET_ORDER (R512). -/
def execCascadeResetOrder (h : CHead) (s : State) : Out := s.outcome (cascadeResetOrder h s)

/-- REMOVE (R519). -/
def execCascRemove (h : CHead) (src reason : Nat) (s : State) : Out := s.outcome (cascRemove h src reason s)

/-- PING_TIMER (R520). -/
def execCascPingTimer (s : State) : Out := s.outcome (cascPingTimer s)

/-- PING (R520). -/
def execCascPing (h : CHead) (s : State) : Out := s.outcome (cascPing h s)

/-- PONG (R520). -/
def execCascPong (h : CHead) (s : State) : Out := s.outcome (cascPong h s)

/-- MEMBER_LOST (R520). -/
def execMemberLost (m : Nat) (down : Bool) (beyond : List Nat) (s : State) : Out := s.outcome (memberLost m down beyond s)

/-- SHARE (R517). -/
def execCascShare (h : CHead) (refill burst hu : Nat) (s : State) : Out := s.outcome (cascShare h refill burst hu s)

/-- C_REQ_VOL_READ (R514). -/
def execCReqVolRead (h : CHead) (xid prio vol alb count : Nat) (s : State) : Out := s.outcome (cReqVolRead h xid prio vol alb count s)

/-- C_REQ_CMD (R515). -/
def execCReqCmd (h : CHead) (xid prio : Nat) (cmd : List Byte) (s : State) : Out := s.outcome (cReqCmd h xid prio cmd s)

/-- C_DATA (R514). -/
def execCData (h : CHead) (xid off : Nat) (last : Bool) (data : List Byte) (s : State) : Out := s.outcome (cData h xid off last data s)

/-- C_CPL (R514). -/
def execCCpl (h : CHead) (xid : Nat) (entry : List Byte) (s : State) : Out := s.outcome (cCpl h xid entry s)

/-- C_EVT (R518). -/
def execCEvt (h : CHead) (source prio : Nat) (data : List Byte) (s : State) : Out := s.outcome (cEvt h source prio data s)

/-- C_DREQ (R515). -/
def execCDreq (h : CHead) (xid off len : Nat) (s : State) : Out := s.outcome (cDreq h xid off len s)

/-- RESET_MEMBER (R521). -/
def execResetMember (p : Path) (v : Word) (x : RegIn) (s : State) : Out := s.outcome (resetMember p v x s)

/-- RESET_ALL (R521). -/
def execResetAll (p : Path) (v : Word) (x : RegIn) (s : State) : Out := s.outcome (resetAll p v x s)

/-- TP_START (R524). -/
def execTpStart (p : Path) (v : Word) (x : RegIn) (s : State) : Out := s.outcome (tpStart p v x s)

/-- TP_STOP (R527). -/
def execTpStop (p : Path) (v : Word) (x : RegIn) (s : State) : Out := s.outcome (tpStop p v x s)

/-- TP_RUN_END (R527). -/
def execTpRunEnd (t : Nat) (rx : List (List Bool)) (s : State) : Out := s.outcome (tpRunEnd t rx s)

/-- BIST_CTL_RUN (R529). -/
def execBistCtlRun (p : Path) (v : Word) (x : RegIn) (s : State) : Out := s.outcome (bistCtlRun p v x s)

/-- BIST_END (R529). -/
def execBistEnd (fails : Byte) (s : State) : Out := s.outcome (bistEnd fails s)

/-- TAP_RESET (R531). -/
def execTapReset (s : State) : Out := s.outcome (tapReset s)

/-- IDCODE (R531). -/
def execTapIdcode (s : State) : Out := s.outcome (tapIdcode s)

/-- SAMPLE_PRELOAD (R532). -/
def execTapSamplePreload (cap preload : Nat) (s : State) : Out := s.outcome (tapSamplePreload cap preload s)

/-- EXTEST (R532). -/
def execTapExtest (scan : Option (Nat × Nat)) (s : State) : Out := s.outcome (tapExtest scan s)

/-- EXTEST_PULSE (R532). -/
def execTapExtestPulse (scan : Option (Nat × Nat)) (s : State) : Out := s.outcome (tapExtestPulse scan s)

/-- EXTEST_TRAIN (R532). -/
def execTapExtestTrain (scan : Option (Nat × Nat)) (s : State) : Out := s.outcome (tapExtestTrain scan s)

/-- CLAMP (R531). -/
def execTapClamp (s : State) : Out := s.outcome (tapClamp s)

/-- HIGHZ (R531). -/
def execTapHighz (s : State) : Out := s.outcome (tapHighz s)

/-- TP_ACCESS (R533). -/
def execTpAccess (dr : Nat) (x : RegIn) (s : State) : Out := s.outcome (tpAccess dr x s)

/-- BIST_RUN (R529). -/
def execBistRun (mask : Byte) (s : State) : Out := s.outcome (bistRun mask s)

/-- BYPASS (R531). -/
def execTapBypass (code : Byte) (s : State) : Out := s.outcome (tapBypass code s)

/-- ILLEGAL_INSTRUCTION (R314). -/
def execIllegalInstruction (n : Nat) (x : SeqIn) (s : State) : Out := s.outcome (illegalInstruction n x s)

/-- ERASE_SUSPENDED (R446). -/
def execEraseSuspended (s : State) : Out := s.outcome (eraseSuspended s)

/-- IDL_BYTES_RECEIVED (R139). -/
def execIdlBytesReceived (l : Nat) (s : State) : Out := s.outcome (idlBytesReceived l s)

/-- ELECTRICAL_IDLE_EXIT (R139). -/
def execElectricalIdleExit (l : Nat) (s : State) : Out := s.outcome (electricalIdleExit l s)

/-- DL_UP (R162). -/
def execDlUp (speed width : Nat) (s : State) : Out := s.outcome (dlUp speed width s)

/-- PLL_FAIL (R48). -/
def execPllFail (s : State) : Out := s.outcome (pllFail s)

/-- SVC_DEBUG_HALT (R493). -/
def execSvcDebugHalt (s : State) : Out := s.outcome (svcDebugHalt s)

/-- SVC_DEBUG_RESUME (R25). -/
def execSvcDebugResume (s : State) : Out := s.outcome (svcDebugResume s)

end Sys2Proof.Machine
end

