-- ==== Sys2Proof/Machine/Dispatch.lean ====
section
/-!
DEFINITION. Each command's meaning: one arm per constructor.
-/

namespace Sys2Proof.Machine

def exec (i : Instr) (s : State) : Host.Outcome State Fault Refusal :=
  match i with
  | .supplyRailValid r => Sys2Proof.Machine.execSupplyRailValid r s
  | .porRelease => Sys2Proof.Machine.execPorRelease s
  | .brownout rail => Sys2Proof.Machine.execBrownout rail s
  | .vddKeepLoss => Sys2Proof.Machine.execVddKeepLoss s
  | .resetNLow => Sys2Proof.Machine.execResetNLow s
  | .resetNRise => Sys2Proof.Machine.execResetNRise s
  | .orderlyReset cause => Sys2Proof.Machine.execOrderlyReset cause s
  | .orderlyResetLimit => Sys2Proof.Machine.execOrderlyResetLimit s
  | .presenceArmed => Sys2Proof.Machine.execPresenceArmed s
  | .presenceInputChange prsntN pwrFailN => Sys2Proof.Machine.execPresenceInputChange prsntN pwrFailN s
  | .removal prsnt pwrFail => Sys2Proof.Machine.execRemoval prsnt pwrFail s
  | .loggingPhase => Sys2Proof.Machine.execLoggingPhase s
  | .park => Sys2Proof.Machine.execPark s
  | .rejoinReset => Sys2Proof.Machine.execRejoinReset s
  | .holdupOkChange level => Sys2Proof.Machine.execHoldupOkChange level s
  | .trailheadStart straps vccq start => Sys2Proof.Machine.execTrailheadStart straps vccq start s
  | .keepBusUp o => Sys2Proof.Machine.execKeepBusUp o s
  | .sviSelection badReads => Sys2Proof.Machine.execSviSelection badReads s
  | .spbSelection badReads o => Sys2Proof.Machine.execSpbSelection badReads o s
  | .logbookRecovery o => Sys2Proof.Machine.execLogbookRecovery o s
  | .dieReadyWaitEnd => Sys2Proof.Machine.execDieReadyWaitEnd s
  | .dieDiscovery found => Sys2Proof.Machine.execDieDiscovery found s
  | .calRestoreOrTrain verify => Sys2Proof.Machine.execCalRestoreOrTrain verify s
  | .trailheadFinish rng o => Sys2Proof.Machine.execTrailheadFinish rng o s
  | .laneTrainingStart => Sys2Proof.Machine.execLaneTrainingStart s
  | .keepBusTransfer target addr crcErrors => Sys2Proof.Machine.execKeepBusTransfer target addr crcErrors s
  | .rstCtlSoft p v x => Sys2Proof.Machine.execRstCtlSoft p v x s
  | .rstCtlSaveRmv p v x => Sys2Proof.Machine.execRstCtlSaveRmv p v x s
  | .faultStatClear p v x => Sys2Proof.Machine.execFaultStatClear p v x s
  | .spRead off crc => Sys2Proof.Machine.execSpRead off crc s
  | .spWrite off data crc x => Sys2Proof.Machine.execSpWrite off data crc x s
  | .spBurstRead off n crc => Sys2Proof.Machine.execSpBurstRead off n crc s
  | .spBurstWrite off n data crc x => Sys2Proof.Machine.execSpBurstWrite off n data crc x s
  | .spSetPage page crc => Sys2Proof.Machine.execSpSetPage page crc s
  | .spGetStatus off crc => Sys2Proof.Machine.execSpGetStatus off crc s
  | .spUnlock lock key crc => Sys2Proof.Machine.execSpUnlock lock key crc s
  | .spBadOpcode op => Sys2Proof.Machine.execSpBadOpcode op s
  | .spFrameAbort bytes => Sys2Proof.Machine.execSpFrameAbort bytes s
  | .spReadTransfer => Sys2Proof.Machine.execSpReadTransfer s
  | .spFrameErr bytes => Sys2Proof.Machine.execSpFrameErr bytes s
  | .unlReq p v x => Sys2Proof.Machine.execUnlReq p v x s
  | .unlKey p v x => Sys2Proof.Machine.execUnlKey p v x s
  | .accLockSet p v x => Sys2Proof.Machine.execAccLockSet p v x s
  | .registerWrite p addr v x => Sys2Proof.Machine.execRegisterWrite p addr v x s
  | .cmtCommit p v x => Sys2Proof.Machine.execCmtCommit p v x s
  | .cmtDiscard p v x => Sys2Proof.Machine.execCmtDiscard p v x s
  | .commitApply g accept res => Sys2Proof.Machine.execCommitApply g accept res s
  | .commitHold g => Sys2Proof.Machine.execCommitHold g s
  | .imgCtlActivate p v x => Sys2Proof.Machine.execImgCtlActivate p v x s
  | .epochSet p v x => Sys2Proof.Machine.execEpochSet p v x s
  | .bootCfgWrite p v x => Sys2Proof.Machine.execBootCfgWrite p v x s
  | .aglDetectQuietEnd l found => Sys2Proof.Machine.execAglDetectQuietEnd l found s
  | .aglTrainingTimeout l => Sys2Proof.Machine.execAglTrainingTimeout l s
  | .ts1 l sets => Sys2Proof.Machine.execTs1 l sets s
  | .ts2 l sets => Sys2Proof.Machine.execTs2 l sets s
  | .skp l => Sys2Proof.Machine.execSkp l s
  | .aln l => Sys2Proof.Machine.execAln l s
  | .eios l => Sys2Proof.Machine.execEios l s
  | .eieos l => Sys2Proof.Machine.execEieos l s
  | .skpAlnInterval l => Sys2Proof.Machine.execSkpAlnInterval l s
  | .equalisation l asks asked ok => Sys2Proof.Machine.execEqualisation l asks asked ok s
  | .linkDown l => Sys2Proof.Machine.execLinkDown l s
  | .framingError l => Sys2Proof.Machine.execFramingError l s
  | .frameCrcFail l => Sys2Proof.Machine.execFrameCrcFail l s
  | .malformedFrame l typ seq => Sys2Proof.Machine.execMalformedFrame l typ seq s
  | .aglAck l seq => Sys2Proof.Machine.execAglAck l seq s
  | .aglNak l seq => Sys2Proof.Machine.execAglNak l seq s
  | .aglCredit l cls limit => Sys2Proof.Machine.execAglCredit l cls limit s
  | .enterL1 l => Sys2Proof.Machine.execEnterL1 l s
  | .enterL2 l => Sys2Proof.Machine.execEnterL2 l s
  | .linkCtlReset => Sys2Proof.Machine.execLinkCtlReset s
  | .linkCtlRetrain l => Sys2Proof.Machine.execLinkCtlRetrain l s
  | .regWr seq addr data mm => Sys2Proof.Machine.execRegWr seq addr data mm s
  | .regRd seq addr rtag rlen => Sys2Proof.Machine.execRegRd seq addr rtag rlen s
  | .wdata seq sq tag off pad data => Sys2Proof.Machine.execWdata seq sq tag off pad data s
  | .ackTimer l => Sys2Proof.Machine.execAckTimer l s
  | .replayTimer l => Sys2Proof.Machine.execReplayTimer l s
  | .creditRefresh l => Sys2Proof.Machine.execCreditRefresh l s
  | .dreqDataTimeout k => Sys2Proof.Machine.execDreqDataTimeout k s
  | .dataTransmit k => Sys2Proof.Machine.execDataTransmit k s
  | .dreq k => Sys2Proof.Machine.execDreq k s
  | .configRequest write addr be v => Sys2Proof.Machine.execConfigRequest write addr be v s
  | .memoryWriteWindow off dws poison mm => Sys2Proof.Machine.execMemoryWriteWindow off dws poison mm s
  | .memoryReadWindow off n => Sys2Proof.Machine.execMemoryReadWindow off n s
  | .evtPop => Sys2Proof.Machine.execEvtPop s
  | .writeDataCompletion tag status poison data => Sys2Proof.Machine.execWriteDataCompletion tag status poison data s
  | .completionTimeout tag => Sys2Proof.Machine.execCompletionTimeout tag s
  | .hotReset => Sys2Proof.Machine.execHotReset s
  | .linkDisable => Sys2Proof.Machine.execLinkDisable s
  | .perstNAssert => Sys2Proof.Machine.execPerstNAssert s
  | .perstNRise => Sys2Proof.Machine.execPerstNRise s
  | .d3hotEntry => Sys2Proof.Machine.execD3hotEntry s
  | .d0Return => Sys2Proof.Machine.execD0Return s
  | .aspmL1Idle => Sys2Proof.Machine.execAspmL1Idle s
  | .msixUnmask v => Sys2Proof.Machine.execMsixUnmask v s
  | .submissionPortWrite q off data mm => Sys2Proof.Machine.execSubmissionPortWrite q off data mm s
  | .sqDoorbell q w mm => Sys2Proof.Machine.execSqDoorbell q w mm s
  | .cqHeadDoorbell q w mm => Sys2Proof.Machine.execCqHeadDoorbell q w mm s
  | .commandTake mm => Sys2Proof.Machine.execCommandTake mm s
  | .completionPost a => Sys2Proof.Machine.execCompletionPost a s
  | .mailboxTimeout k => Sys2Proof.Machine.execMailboxTimeout k s
  | .qpCreate p v x => Sys2Proof.Machine.execQpCreate p v x s
  | .qpDelete p v x => Sys2Proof.Machine.execQpDelete p v x s
  | .qpSetPrio p v x => Sys2Proof.Machine.execQpSetPrio p v x s
  | .qpBind p v x => Sys2Proof.Machine.execQpBind p v x s
  | .readAlb k => Sys2Proof.Machine.execReadAlb k s
  | .readRaw k => Sys2Proof.Machine.execReadRaw k s
  | .streamOpen k => Sys2Proof.Machine.execStreamOpen k s
  | .streamCredit k => Sys2Proof.Machine.execStreamCredit k s
  | .streamClose k => Sys2Proof.Machine.execStreamClose k s
  | .programRaw k => Sys2Proof.Machine.execProgramRaw k s
  | .eraseRaw k => Sys2Proof.Machine.execEraseRaw k s
  | .mapWrite k => Sys2Proof.Machine.execMapWrite k s
  | .mapFlush k => Sys2Proof.Machine.execMapFlush k s
  | .authBegin k ok => Sys2Proof.Machine.execAuthBegin k ok s
  | .authFinish k ok => Sys2Proof.Machine.execAuthFinish k ok s
  | .keyLoad k => Sys2Proof.Machine.execKeyLoad k s
  | .imprintCheck k => Sys2Proof.Machine.execImprintCheck k s
  | .imprintEnrol k o => Sys2Proof.Machine.execImprintEnrol k o s
  | .counterInc k o => Sys2Proof.Machine.execCounterInc k o s
  | .regAccess k x => Sys2Proof.Machine.execRegAccess k x s
  | .logbookRead k => Sys2Proof.Machine.execLogbookRead k s
  | .logbookMark k => Sys2Proof.Machine.execLogbookMark k s
  | .norRead k => Sys2Proof.Machine.execNorRead k s
  | .norProgram k => Sys2Proof.Machine.execNorProgram k s
  | .norErase k => Sys2Proof.Machine.execNorErase k s
  | .imageActivate k badReads o => Sys2Proof.Machine.execImageActivate k badReads o s
  | .seqExchange k => Sys2Proof.Machine.execSeqExchange k s
  | .testPattern k rx => Sys2Proof.Machine.execTestPattern k rx s
  | .cmdNop k => Sys2Proof.Machine.execCmdNop k s
  | .logbookWrite k o => Sys2Proof.Machine.execLogbookWrite k o s
  | .idlClr p v x => Sys2Proof.Machine.execIdlClr p v x s
  | .logInject p v x => Sys2Proof.Machine.execLogInject p v x s
  | .producerWrite q prod data user flight bufs mm => Sys2Proof.Machine.execProducerWrite q prod data user flight bufs mm s
  | .producerFlush q prod => Sys2Proof.Machine.execProducerFlush q prod s
  | .packTimeout q prod => Sys2Proof.Machine.execPackTimeout q prod s
  | .consumerRead q mm => Sys2Proof.Machine.execConsumerRead q mm s
  | .fqCommit q mm => Sys2Proof.Machine.execFqCommit q mm s
  | .fqRewind q mm => Sys2Proof.Machine.execFqRewind q mm s
  | .fqOpen q mm => Sys2Proof.Machine.execFqOpen q mm s
  | .fqClose q len mm => Sys2Proof.Machine.execFqClose q len mm s
  | .spillRequest q => Sys2Proof.Machine.execSpillRequest q s
  | .fcHoldExpiry k => Sys2Proof.Machine.execFcHoldExpiry k s
  | .fqInject p v x => Sys2Proof.Machine.execFqInject p v x s
  | .fqWmWrite p v x => Sys2Proof.Machine.execFqWmWrite p v x s
  | .allocRequest owner n chain wait => Sys2Proof.Machine.execAllocRequest owner n chain wait s
  | .waitWithdraw id => Sys2Proof.Machine.execWaitWithdraw id s
  | .referenceRelease r who ecc => Sys2Proof.Machine.execReferenceRelease r who ecc s
  | .hmpRetain r who => Sys2Proof.Machine.execHmpRetain r who s
  | .namedOwnerRelease owner buf k => Sys2Proof.Machine.execNamedOwnerRelease owner buf k s
  | .hmpHandover r frm dst => Sys2Proof.Machine.execHmpHandover r frm dst s
  | .auditScan corr bad => Sys2Proof.Machine.execAuditScan corr bad s
  | .hmpThrWrite p v x => Sys2Proof.Machine.execHmpThrWrite p v x s
  | .ownLimitWrite p k v x => Sys2Proof.Machine.execOwnLimitWrite p k v x s
  | .hmpReleaseOwner p v x => Sys2Proof.Machine.execHmpReleaseOwner p v x s
  | .hmpScanNow p v x => Sys2Proof.Machine.execHmpScanNow p v x s
  | .hmpFreeOrphans p v x => Sys2Proof.Machine.execHmpFreeOrphans p v x s
  | .ledgerUpdate vT diff onDie => Sys2Proof.Machine.execLedgerUpdate vT diff onDie s
  | .admissionDecision => Sys2Proof.Machine.execAdmissionDecision s
  | .starve ix => Sys2Proof.Machine.execStarve ix s
  | .huWaitTimeout ix => Sys2Proof.Machine.execHuWaitTimeout ix s
  | .rationSave p v x => Sys2Proof.Machine.execRationSave p v x s
  | .rationDefaults p v x => Sys2Proof.Machine.execRationDefaults p v x s
  | .rationCalibrate p v x => Sys2Proof.Machine.execRationCalibrate p v x s
  | .schedulingDecision n => Sys2Proof.Machine.execSchedulingDecision n s
  | .suspendDecision n => Sys2Proof.Machine.execSuspendDecision n s
  | .dieTimeout ix => Sys2Proof.Machine.execDieTimeout ix s
  | .trackingMeasurement n ce dqs wins boundary => Sys2Proof.Machine.execTrackingMeasurement n ce dqs wins boundary s
  | .staleTimeout n => Sys2Proof.Machine.execStaleTimeout n s
  | .trainingEnd n res => Sys2Proof.Machine.execTrainingEnd n res s
  | .laneAdaptation k v => Sys2Proof.Machine.execLaneAdaptation k v s
  | .autoSave o => Sys2Proof.Machine.execAutoSave o s
  | .calSave p v x => Sys2Proof.Machine.execCalSave p v x s
  | .calRetrain p v x => Sys2Proof.Machine.execCalRetrain p v x s
  | .calImport p v x => Sys2Proof.Machine.execCalImport p v x s
  | .clearHost p v x => Sys2Proof.Machine.execClearHost p v x s
  | .seqNop n x => Sys2Proof.Machine.execSeqNop n x s
  | .seqAdd n x => Sys2Proof.Machine.execSeqAdd n x s
  | .seqAdc n x => Sys2Proof.Machine.execSeqAdc n x s
  | .seqSub n x => Sys2Proof.Machine.execSeqSub n x s
  | .seqSbc n x => Sys2Proof.Machine.execSeqSbc n x s
  | .seqAnd n x => Sys2Proof.Machine.execSeqAnd n x s
  | .seqOr n x => Sys2Proof.Machine.execSeqOr n x s
  | .seqXor n x => Sys2Proof.Machine.execSeqXor n x s
  | .seqShl n x => Sys2Proof.Machine.execSeqShl n x s
  | .seqShr n x => Sys2Proof.Machine.execSeqShr n x s
  | .seqSar n x => Sys2Proof.Machine.execSeqSar n x s
  | .seqRol n x => Sys2Proof.Machine.execSeqRol n x s
  | .seqRor n x => Sys2Proof.Machine.execSeqRor n x s
  | .seqMul n x => Sys2Proof.Machine.execSeqMul n x s
  | .seqDivs n x => Sys2Proof.Machine.execSeqDivs n x s
  | .seqDivu n x => Sys2Proof.Machine.execSeqDivu n x s
  | .seqCmp n x => Sys2Proof.Machine.execSeqCmp n x s
  | .seqTst n x => Sys2Proof.Machine.execSeqTst n x s
  | .seqNeg n x => Sys2Proof.Machine.execSeqNeg n x s
  | .seqNot n x => Sys2Proof.Machine.execSeqNot n x s
  | .seqMov n x => Sys2Proof.Machine.execSeqMov n x s
  | .seqAddi n x => Sys2Proof.Machine.execSeqAddi n x s
  | .seqAndi n x => Sys2Proof.Machine.execSeqAndi n x s
  | .seqOri n x => Sys2Proof.Machine.execSeqOri n x s
  | .seqXori n x => Sys2Proof.Machine.execSeqXori n x s
  | .seqShi n x => Sys2Proof.Machine.execSeqShi n x s
  | .seqCmpi n x => Sys2Proof.Machine.execSeqCmpi n x s
  | .seqMovi n x => Sys2Proof.Machine.execSeqMovi n x s
  | .seqMovhi n x => Sys2Proof.Machine.execSeqMovhi n x s
  | .seqMovs n x => Sys2Proof.Machine.execSeqMovs n x s
  | .seqMfs n x => Sys2Proof.Machine.execSeqMfs n x s
  | .seqMts n x => Sys2Proof.Machine.execSeqMts n x s
  | .seqPset n x => Sys2Proof.Machine.execSeqPset n x s
  | .seqPget n x => Sys2Proof.Machine.execSeqPget n x s
  | .seqPadd n x => Sys2Proof.Machine.execSeqPadd n x s
  | .seqPtst n x => Sys2Proof.Machine.execSeqPtst n x s
  | .seqLdw n x => Sys2Proof.Machine.execSeqLdw n x s
  | .seqLdh n x => Sys2Proof.Machine.execSeqLdh n x s
  | .seqLdb n x => Sys2Proof.Machine.execSeqLdb n x s
  | .seqStw n x => Sys2Proof.Machine.execSeqStw n x s
  | .seqSth n x => Sys2Proof.Machine.execSeqSth n x s
  | .seqStb n x => Sys2Proof.Machine.execSeqStb n x s
  | .seqLdl n x => Sys2Proof.Machine.execSeqLdl n x s
  | .seqStl n x => Sys2Proof.Machine.execSeqStl n x s
  | .seqB n x => Sys2Proof.Machine.execSeqB n x s
  | .seqBr n x => Sys2Proof.Machine.execSeqBr n x s
  | .seqCall n x => Sys2Proof.Machine.execSeqCall n x s
  | .seqCallr n x => Sys2Proof.Machine.execSeqCallr n x s
  | .seqRet n x => Sys2Proof.Machine.execSeqRet n x s
  | .seqRete n x => Sys2Proof.Machine.execSeqRete n x s
  | .seqRetf n x => Sys2Proof.Machine.execSeqRetf n x s
  | .seqDjnz n x => Sys2Proof.Machine.execSeqDjnz n x s
  | .seqPost n x => Sys2Proof.Machine.execSeqPost n x s
  | .seqEvm n x => Sys2Proof.Machine.execSeqEvm n x s
  | .seqWait n x => Sys2Proof.Machine.execSeqWait n x s
  | .seqKick n x => Sys2Proof.Machine.execSeqKick n x s
  | .seqTset n x => Sys2Proof.Machine.execSeqTset n x s
  | .seqTstop n x => Sys2Proof.Machine.execSeqTstop n x s
  | .seqTget n x => Sys2Proof.Machine.execSeqTget n x s
  | .seqEarm n x => Sys2Proof.Machine.execSeqEarm n x s
  | .seqEdis n x => Sys2Proof.Machine.execSeqEdis n x s
  | .seqEget n x => Sys2Proof.Machine.execSeqEget n x s
  | .seqBrk n x => Sys2Proof.Machine.execSeqBrk n x s
  | .seqBcmd n x => Sys2Proof.Machine.execSeqBcmd n x s
  | .seqBadr n x => Sys2Proof.Machine.execSeqBadr n x s
  | .seqBdo n x => Sys2Proof.Machine.execSeqBdo n x s
  | .seqBdi n x => Sys2Proof.Machine.execSeqBdi n x s
  | .seqBsts n x => Sys2Proof.Machine.execSeqBsts n x s
  | .seqBsel n x => Sys2Proof.Machine.execSeqBsel n x s
  | .seqBsetf n x => Sys2Proof.Machine.execSeqBsetf n x s
  | .seqBgetf n x => Sys2Proof.Machine.execSeqBgetf n x s
  | .seqBidle n x => Sys2Proof.Machine.execSeqBidle n x s
  | .srTake n x o => Sys2Proof.Machine.execSrTake n x o s
  | .srConfirm n x => Sys2Proof.Machine.execSrConfirm n x s
  | .srOpend n x oc => Sys2Proof.Machine.execSrOpend n x oc s
  | .srAck n x => Sys2Proof.Machine.execSrAck n x s
  | .srSuspack n x susp => Sys2Proof.Machine.execSrSuspack n x susp s
  | .srEntryOk n => Sys2Proof.Machine.execSrEntryOk n s
  | .eventDelivery n => Sys2Proof.Machine.execEventDelivery n s
  | .breakpointHalt n => Sys2Proof.Machine.execBreakpointHalt n s
  | .timerExpiry n t => Sys2Proof.Machine.execTimerExpiry n t s
  | .edgeLatch n e level => Sys2Proof.Machine.execEdgeLatch n e level s
  | .seqDbgHalt p n v x => Sys2Proof.Machine.execSeqDbgHalt p n v x s
  | .seqDbgResume p n v x => Sys2Proof.Machine.execSeqDbgResume p n v x s
  | .seqDbgStep p n v x => Sys2Proof.Machine.execSeqDbgStep p n v x s
  | .seqDbgRdataWrite p n v x => Sys2Proof.Machine.execSeqDbgRdataWrite p n v x s
  | .quietPoint n => Sys2Proof.Machine.execQuietPoint n s
  | .quietTimeout n => Sys2Proof.Machine.execQuietTimeout n s
  | .entryTimeout n => Sys2Proof.Machine.execEntryTimeout n s
  | .codewordTake n => Sys2Proof.Machine.execCodewordTake n s
  | .decodeEnd e iter unsat word => Sys2Proof.Machine.execDecodeEnd e iter unsat word s
  | .codecEncode k ix => Sys2Proof.Machine.execCodecEncode k ix s
  | .codecSave p v x => Sys2Proof.Machine.execCodecSave p v x s
  | .codecDefaults p v x => Sys2Proof.Machine.execCodecDefaults p v x s
  | .clearLearn p v x => Sys2Proof.Machine.execClearLearn p v x s
  | .mapTranslate k ix => Sys2Proof.Machine.execMapTranslate k ix s
  | .mapFaultDone => Sys2Proof.Machine.execMapFaultDone s
  | .xtsDecrypt => Sys2Proof.Machine.execXtsDecrypt s
  | .frameDecompress j => Sys2Proof.Machine.execFrameDecompress j s
  | .prefetchIssue t => Sys2Proof.Machine.execPrefetchIssue t s
  | .streamResident => Sys2Proof.Machine.execStreamResident s
  | .streamPush t => Sys2Proof.Machine.execStreamPush t s
  | .mapSave p v x => Sys2Proof.Machine.execMapSave p v x s
  | .mapInvalidate p v x => Sys2Proof.Machine.execMapInvalidate p v x s
  | .mapRebuild p v x => Sys2Proof.Machine.execMapRebuild p v x s
  | .strCloseOne p v x => Sys2Proof.Machine.execStrCloseOne p v x s
  | .strCloseAll p v x => Sys2Proof.Machine.execStrCloseAll p v x s
  | .infLoad p v x => Sys2Proof.Machine.execInfLoad p v x s
  | .protProvision p v x => Sys2Proof.Machine.execProtProvision p v x s
  | .protWrap p v x => Sys2Proof.Machine.execProtWrap p v x s
  | .protSeal p v x => Sys2Proof.Machine.execProtSeal p v x s
  | .keyClear p v x => Sys2Proof.Machine.execKeyClear p v x s
  | .sesClose p v x => Sys2Proof.Machine.execSesClose p v x s
  | .enorWordProgramEnd ok => Sys2Proof.Machine.execEnorWordProgramEnd ok s
  | .enorEraseEnd ok => Sys2Proof.Machine.execEnorEraseEnd ok s
  | .eraseResume => Sys2Proof.Machine.execEraseResume s
  | .norRdataRead p => Sys2Proof.Machine.execNorRdataRead p s
  | .norCtlProgram p v x => Sys2Proof.Machine.execNorCtlProgram p v x s
  | .norCtlProgramClear p v x => Sys2Proof.Machine.execNorCtlProgramClear p v x s
  | .norCtlErase p v x => Sys2Proof.Machine.execNorCtlErase p v x s
  | .norCtlWp p v x => Sys2Proof.Machine.execNorCtlWp p v x s
  | .norCtlProtect p v x => Sys2Proof.Machine.execNorCtlProtect p v x s
  | .norCtlPwChange p v x => Sys2Proof.Machine.execNorCtlPwChange p v x s
  | .norCtlRetire p v x => Sys2Proof.Machine.execNorCtlRetire p v x s
  | .journalAppend ok => Sys2Proof.Machine.execJournalAppend ok s
  | .otpProgram p v x => Sys2Proof.Machine.execOtpProgram p v x s
  | .otpLock p v x => Sys2Proof.Machine.execOtpLock p v x s
  | .psWrite u data o => Sys2Proof.Machine.execPsWrite u data o s
  | .psDataWrite p v x => Sys2Proof.Machine.execPsDataWrite p v x s
  | .eventPost n data => Sys2Proof.Machine.execEventPost n data s
  | .evrPost p v x => Sys2Proof.Machine.execEvrPost p v x s
  | .evrPendClear p k v x => Sys2Proof.Machine.execEvrPendClear p k v x s
  | .evrCfgWrite p n v x => Sys2Proof.Machine.execEvrCfgWrite p n v x s
  | .arbitrationRound svc => Sys2Proof.Machine.execArbitrationRound svc s
  | .svcEndService n => Sys2Proof.Machine.execSvcEndService n s
  | .hfEvtSend => Sys2Proof.Machine.execHfEvtSend s
  | .wd0Service => Sys2Proof.Machine.execWd0Service s
  | .wdLate k => Sys2Proof.Machine.execWdLate k s
  | .wdWarn k => Sys2Proof.Machine.execWdWarn k s
  | .wdCtlWrite p v x => Sys2Proof.Machine.execWdCtlWrite p v x s
  | .sensorSample raw mv low => Sys2Proof.Machine.execSensorSample raw mv low s
  | .graceEnd => Sys2Proof.Machine.execGraceEnd s
  | .dieOpEnd n x passed data => Sys2Proof.Machine.execDieOpEnd n x passed data s
  | .cascJoin h uid sviVer state form epoch => Sys2Proof.Machine.execCascJoin h uid sviVer state form epoch s
  | .cascJoinRepeat => Sys2Proof.Machine.execCascJoinRepeat s
  | .cascJoinAck h epoch accepted reason => Sys2Proof.Machine.execCascJoinAck h epoch accepted reason s
  | .cascadeResetOrder h => Sys2Proof.Machine.execCascadeResetOrder h s
  | .cascRemove h src reason => Sys2Proof.Machine.execCascRemove h src reason s
  | .cascPingTimer => Sys2Proof.Machine.execCascPingTimer s
  | .cascPing h => Sys2Proof.Machine.execCascPing h s
  | .cascPong h => Sys2Proof.Machine.execCascPong h s
  | .memberLost m down beyond => Sys2Proof.Machine.execMemberLost m down beyond s
  | .cascShare h refill burst hu => Sys2Proof.Machine.execCascShare h refill burst hu s
  | .cReqVolRead h xid prio vol alb count => Sys2Proof.Machine.execCReqVolRead h xid prio vol alb count s
  | .cReqCmd h xid prio cmd => Sys2Proof.Machine.execCReqCmd h xid prio cmd s
  | .cData h xid off last data => Sys2Proof.Machine.execCData h xid off last data s
  | .cCpl h xid entry => Sys2Proof.Machine.execCCpl h xid entry s
  | .cEvt h source prio data => Sys2Proof.Machine.execCEvt h source prio data s
  | .cDreq h xid off len => Sys2Proof.Machine.execCDreq h xid off len s
  | .resetMember p v x => Sys2Proof.Machine.execResetMember p v x s
  | .resetAll p v x => Sys2Proof.Machine.execResetAll p v x s
  | .tpStart p v x => Sys2Proof.Machine.execTpStart p v x s
  | .tpStop p v x => Sys2Proof.Machine.execTpStop p v x s
  | .tpRunEnd t rx => Sys2Proof.Machine.execTpRunEnd t rx s
  | .bistCtlRun p v x => Sys2Proof.Machine.execBistCtlRun p v x s
  | .bistEnd fails => Sys2Proof.Machine.execBistEnd fails s
  | .tapReset => Sys2Proof.Machine.execTapReset s
  | .tapIdcode => Sys2Proof.Machine.execTapIdcode s
  | .tapSamplePreload cap preload => Sys2Proof.Machine.execTapSamplePreload cap preload s
  | .tapExtest scan => Sys2Proof.Machine.execTapExtest scan s
  | .tapExtestPulse scan => Sys2Proof.Machine.execTapExtestPulse scan s
  | .tapExtestTrain scan => Sys2Proof.Machine.execTapExtestTrain scan s
  | .tapClamp => Sys2Proof.Machine.execTapClamp s
  | .tapHighz => Sys2Proof.Machine.execTapHighz s
  | .tpAccess dr x => Sys2Proof.Machine.execTpAccess dr x s
  | .bistRun mask => Sys2Proof.Machine.execBistRun mask s
  | .tapBypass code => Sys2Proof.Machine.execTapBypass code s
  | .illegalInstruction n x => Sys2Proof.Machine.execIllegalInstruction n x s
  | .eraseSuspended => Sys2Proof.Machine.execEraseSuspended s
  | .idlBytesReceived l => Sys2Proof.Machine.execIdlBytesReceived l s
  | .electricalIdleExit l => Sys2Proof.Machine.execElectricalIdleExit l s
  | .dlUp speed width => Sys2Proof.Machine.execDlUp speed width s
  | .pllFail => Sys2Proof.Machine.execPllFail s
  | .svcDebugHalt => Sys2Proof.Machine.execSvcDebugHalt s
  | .svcDebugResume => Sys2Proof.Machine.execSvcDebugResume s

end Sys2Proof.Machine
end

