-- ==== Sys2Proof/Safety.lean ====
section
/-!
DEFINITION. What claims call safe: an outcome that is a next state, and properties of states that no step takes away.
-/

namespace Sys2Proof.Machine

/-- The canonical form of a store of bytes whose unlisted byte `a` reads `d a`: addresses strictly rising, and no entry equal to what its
address reads unlisted. -/
def Memory.wf (d : Nat → Byte) (m : List (Nat × Byte)) : Bool := twf d m

/-- Does the step go on? -/
def goesOn : Host.Outcome State Fault Refusal → Bool
  | .next _ => true
  | .fault _ => false
  | .refused _ => false

/-- The path reaches parameter space, nothing refuses the write of `v` to register `a`, and its page exists (R2, R114, R121). -/
def State.takesWrite (s : State) (p : Path) (a : Nat) (v : Word) : Prop :=
  s.pathServes p a = true ∧ s.writeRefused p a v = 0 ∧ s.absentPage (a / 64) = false

/-- Sequencer `n` fetches an instruction of operation `o`, without an error in its word (R313, R314). -/
def State.runs (s : State) (n : Nat) (o : SOp) (x : SeqIn) : Prop :=
  s.fetchable n = true ∧ seqDecode (s.nextWord n) = some o ∧ x.fetchEcc = 0 ∧ (s.sq n).haltReq = false

/-- `s` with the program counter of sequencer `n` at the next instruction (R313). -/
def State.fetched (s : State) (n : Nat) : State := s.setSq n { s.sq n with pc := ((s.sq n).pc + 1) % 4096, noBreak := false, issued := false }

/-- Every bit of byte `b` that is 1 is 1 in byte `c`. -/
def bitsKept (b c : Byte) : Prop := b &&& c = b

/-- Every programmed bit of the OTP row of `s` is programmed in `t` (R457). -/
def otpKept (s t : State) : Prop := ∀ a : Nat, bitsKept (tget 0 s.keep.otp a) (tget 0 t.keep.otp a)

/-- The bytes of every slot locked in `s` are the same in `t` (R458). -/
def otpLockHolds (s t : State) : Prop :=
  ∀ a : Nat, bit s.keep.otpLocks (a / 64) = true → tget 0 t.keep.otp a = tget 0 s.keep.otp a

/-- The OTP row keeps its canonical form: addresses strictly rising, no listed byte that reads as an unlisted one. -/
abbrev otpCanonical (s : State) : Prop := twf (fun _ => (0 : Byte)) s.keep.otp = true

/-! ### Words that statements use -/

/-- The command answers a next state, and `P` holds of it. -/
def completes (c : Instr) (s : State) (P : State → Prop) : Prop := ∃ t : State, exec c s = .next t ∧ P t

/-- V`d` of sequencer `n` holds a + b + c in `t`, with C and V as R317 says. -/
def isSum (n d : Nat) (a b : Word) (c : Nat) (t : State) : Prop :=
  t.sv n d = a + b + BitVec.ofNat 32 c ∧ bit (t.sq n).flags 2 = decide (2 ^ 32 ≤ a.toNat + b.toNat + c) ∧
    bit (t.sq n).flags 3 = decide ((a + b + BitVec.ofNat 32 c).toInt ≠ a.toInt + b.toInt + (c : Int))

/-- C and V of sequencer `n` in `t` are those of a − b − c (R317). -/
def diffFlags (n : Nat) (a b : Word) (c : Nat) (t : State) : Prop :=
  bit (t.sq n).flags 2 = decide (b.toNat + c ≤ a.toNat) ∧
    bit (t.sq n).flags 3 = decide ((a - b - BitVec.ofNat 32 c).toInt ≠ a.toInt - b.toInt - (c : Int))

/-- V`d` of sequencer `n` holds a − b − c in `t`, with C and V as R317 says. -/
def isDiff (n d : Nat) (a b : Word) (c : Nat) (t : State) : Prop := t.sv n d = a - b - BitVec.ofNat 32 c ∧ diffFlags n a b c t

/-- What R318 says of SHL of `a` by `k`: the result `r`, and C before (`c0`) and after (`c`). -/
def shlRule (a : Word) (k : Nat) (r : Word) (c0 c : Bool) : Prop :=
  (k < 32 → r.toNat = a.toNat * 2 ^ k % 2 ^ 32) ∧ (32 ≤ k → r = 0) ∧ (k = 0 → r = a ∧ c = c0) ∧
    (1 ≤ k → k ≤ 32 → c = a.getLsbD (32 - k)) ∧ (32 < k → c = false)

/-- The same of SHR. -/
def shrRule (a : Word) (k : Nat) (r : Word) (c0 c : Bool) : Prop :=
  (k < 32 → r.toNat = a.toNat / 2 ^ k) ∧ (32 ≤ k → r = 0) ∧ (k = 0 → r = a ∧ c = c0) ∧
    (1 ≤ k → k ≤ 32 → c = a.getLsbD (k - 1)) ∧ (32 < k → c = false)

/-- The same of SAR. -/
def sarRule (a : Word) (k : Nat) (r : Word) (c0 c : Bool) : Prop :=
  (k < 32 → r.toInt = a.toInt / 2 ^ k) ∧ (32 ≤ k → r = if a.msb then 0xFFFFFFFF else 0) ∧ (k = 0 → r = a ∧ c = c0) ∧
    (1 ≤ k → k ≤ 32 → c = a.getLsbD (k - 1)) ∧ (32 < k → c = a.msb)

/-- The same of ROL. -/
def rolRule (a : Word) (k : Nat) (r : Word) (c0 c : Bool) : Prop :=
  (∀ i : Nat, i < 32 → r.getLsbD ((i + k) % 32) = a.getLsbD i) ∧ (k % 32 = 0 → r = a ∧ c = c0) ∧ (k % 32 ≠ 0 → c = r.getLsbD 0)

/-- The same of ROR. -/
def rorRule (a : Word) (k : Nat) (r : Word) (c0 c : Bool) : Prop :=
  (∀ i : Nat, i < 32 → r.getLsbD i = a.getLsbD ((i + k) % 32)) ∧ (k % 32 = 0 → r = a ∧ c = c0) ∧ (k % 32 ≠ 0 → c = r.msb)

/-- The free buffers of the Hamper, the one freed longest ago first (R253). -/
def State.freeList (s : State) : List Nat := List.range' s.hmp.fresh (2048 - s.hmp.fresh) ++ s.hmp.freed

end Sys2Proof.Machine
end

