-- ==== Sys2Proof/Certificates/Slice0/Obligations.lean ====
section
/-!
DEFINITION. The statements for the provers: rules of the manual, and for every command where it completes and with which effect.
-/

open Sys2Proof Sys2Proof.Machine

/-- A step runs the command at the front of the queue. A step takes the command at the front of the queue and runs it on the state
with the rest of the queue. The queue is the model's own. -/
def Obligations.StepRunsTheFrontCommand : Prop :=
  ∀ (c : Instr) (l : List Instr) (s : State), s.pending = c :: l → step s = exec c { s with pending := l }

/-- With no command waiting, one microsecond passes. With an empty queue a step is one microsecond (log entries 1 and 2: the model's
choice). Without VDD_KEEP nothing moves. -/
def Obligations.EmptyQueueIsOneMicrosecond : Prop :=
  ∀ s : State, s.pending = [] →
    step s = .next (s.kept s.tick) ∧ (s.keepValid = false → s.tick = s) ∧
    (s.keepValid = true → s.rmv.orderly = none → s.test.runs = [] → s.qFront 0 = none → s.tick.clock = s.clock + 1 ∧ s.tick.regs = s.regs)

/-- Every command answers a next state and leaves the queue and the form of the part. Every command has an effect on every state, or
leaves the state as it is: none ends in a fault or a refusal. No command changes the queue or the form of the part. -/
def Obligations.EveryCommandGoesOn : Prop :=
  ∀ (c : Instr) (s : State), completes c s (fun t => t.pending = s.pending ∧ t.formB = s.formB)

/-- Every step keeps programmed OTP bits, locked slots and slot locks. R457: programming sets bits to 1, and nothing clears one;
R458: a locked slot is not programmed and its lock bit stays. For every step from every state whose OTP row has its canonical
form. -/
def Obligations.ProgrammedOtpBitsStay : Prop :=
  ∀ s t : State, step s = .next t → otpCanonical s →
    otpCanonical t ∧ otpKept s t ∧ otpLockHolds s t ∧ (∀ n : Nat, bit s.keep.otpLocks n = true → bit t.keep.otpLocks n = true)

/-- Every step takes exactly the front command off the queue. Commands are run first in, first out: no step adds, drops or reorders
a waiting command. -/
def Obligations.StepTakesOneCommand : Prop :=
  ∀ s t : State, step s = .next t → t.pending = s.pending.tail ∧ t.formB = s.formB

/-- The state right after reset. What the manual gives for reset: unprogrammed OTP bits read 0 (R457), erased eNOR bytes 0xFF,
`WD_CTL.EN` bits 1 to 8 are 1 (R494), every buffer is free (R267). That the eNOR is delivered erased, and that V and P read 0
before a program starts, are the model's choices (log entries 7 and 6). -/
def Obligations.StateAtReset : Prop :=
  State.reset.pending = [] ∧ otpCanonical State.reset ∧ (∀ a : Nat, tget 0 State.reset.keep.otp a = 0) ∧
    (∀ a : Nat, State.reset.norByte a = 0xFF) ∧ State.reset.get F.WD_CTL_EN = 0x1FE ∧ State.reset.get F.GLB_STAT_STATE = stTrailhead ∧
    State.reset.freeList = List.range' 0 2048 ∧ (∀ n i : Nat, State.reset.sv n i = 0 ∧ State.reset.ptr n i = 0) ∧
    State.reset.host.qps = [] ∧ State.reset.trail.step = 0

/-- Instruction words written from Table 14-4 decode to their operations. Words of Table 14-4, fields separated by underscores in
their order: opcode, *d*, *a*, *b* and function or *s* and *imm*. The last six are illegal (R314). -/
def Obligations.SequencerWordsDecode : Prop :=
  seqDecode 0b00000000000000000000000000000000 = some .nop ∧
    seqDecode 0b000001_0001_0010_0011_00000000000000 = some .add ∧
    seqDecode 0b000001_0101_0110_0000_00000000100000 = some .neg ∧
    seqDecode 0b000001_0010_0011_0100_00000000010100 = some .divs ∧
    seqDecode 0b000110_0001_0010_10_0000000000011111 = some .shi ∧
    seqDecode 0b001000_0111_0000_01_1111111111111111 = some .movhi ∧
    seqDecode 0b001100_10_00_0011_00_0000000000000000 = some .pset ∧
    seqDecode 0b010000_0001_10_0000000_0_111111111100 = some .ldw ∧
    seqDecode 0b010111_0001_0010_00_1111111111111100 = some .stl ∧
    seqDecode 0b100000_0010_0000_000000_010000000000 = some .b ∧
    seqDecode 0b100100_00000000000000000000000000 = some .ret ∧
    seqDecode 0b101001_0000_0000_00_0000000000000001 = some .evm ∧
    seqDecode 0b101100_0000_0101_00_0000000000000111 = some .tset ∧
    seqDecode 0b110001_0000_0100_00_0000000000000110 = some .badr ∧
    seqDecode 0b110101_0000_0000_00_0000000100000011 = some .bsel ∧
    seqDecode 0b000001_0001_0010_0011_00000000000111 = none ∧
    seqDecode 0b000001_0101_0110_0001_00000000100000 = none ∧
    seqDecode 0b000001_0011_0011_0100_00000000010100 = none ∧
    seqDecode 0b010000_0001_10_0000000_1_000000000100 = none ∧
    seqDecode 0b110001_0000_0101_00_0000000000000110 = none ∧
    seqDecode 0b111111_00000000000000000000000000 = none

/-- No word spells two instructions of the sequencer. No two rows of Table 14-4 share a word, so the order in which the decoder
tries them does not matter. -/
def Obligations.SequencerRowsDoNotOverlap : Prop :=
  seqRows.Pairwise (fun r u => ∀ w : Nat, w &&& r.mask = r.pat → w &&& u.mask = u.pat → False)

/-- Z and N follow the result (R316). R316, for every instruction of Table 14-4 whose Flags column names Z and N. -/
def Obligations.ZeroAndNegativeFlags : Prop :=
  ∀ (n w : Nat) (x : SeqIn) (s : State), w = s.nextWord n →
    (∀ o ∈ [(SOp.add, Instr.seqAdd), (.adc, .seqAdc), (.sub, .seqSub), (.sbc, .seqSbc), (.and, .seqAnd), (.or, .seqOr), (.xor, .seqXor),
        (.shl, .seqShl), (.shr, .seqShr), (.sar, .seqSar), (.rol, .seqRol), (.ror, .seqRor), (.mul, .seqMul), (.divs, .seqDivs),
        (.divu, .seqDivu), (.neg, .seqNeg), (.not, .seqNot), (.addi, .seqAddi), (.andi, .seqAndi), (.ori, .seqOri), (.xori, .seqXori),
        (.shi, .seqShi)], s.runs n o.1 x →
      completes (o.2 n x) s (fun t => bit (t.sq n).flags 0 = (t.sv n (wD w) == 0) ∧ bit (t.sq n).flags 1 = (t.sv n (wD w)).msb)) ∧
    (s.runs n .cmp x → completes (.seqCmp n x) s (fun t =>
      bit (t.sq n).flags 0 = (s.sv n (wA w) - s.sv n (wB w) == 0) ∧ bit (t.sq n).flags 1 = (s.sv n (wA w) - s.sv n (wB w)).msb)) ∧
    (s.runs n .cmpi x → completes (.seqCmpi n x) s (fun t =>
      bit (t.sq n).flags 0 = (s.sv n (wA w) - wSimm w == 0) ∧ bit (t.sq n).flags 1 = (s.sv n (wA w) - wSimm w).msb)) ∧
    (s.runs n .tst x → completes (.seqTst n x) s (fun t =>
      bit (t.sq n).flags 0 = (s.sv n (wA w) &&& s.sv n (wB w) == 0) ∧ bit (t.sq n).flags 1 = (s.sv n (wA w) &&& s.sv n (wB w)).msb))

/-- C and V of additions and subtractions (R317). R317. SBC subtracts the borrow 1 − C, ADC adds C. -/
def Obligations.CarryAndOverflowFlags : Prop :=
  ∀ (n w c : Nat) (x : SeqIn) (s : State) (a b i : Word), w = s.nextWord n → a = s.sv n (wA w) → b = s.sv n (wB w) → i = wSimm w →
    c = b2n (bit (s.sq n).flags 2) →
    (s.runs n .add x → completes (.seqAdd n x) s (isSum n (wD w) a b 0)) ∧
    (s.runs n .adc x → completes (.seqAdc n x) s (isSum n (wD w) a b c)) ∧
    (s.runs n .addi x → completes (.seqAddi n x) s (isSum n (wD w) a i 0)) ∧
    (s.runs n .sub x → completes (.seqSub n x) s (isDiff n (wD w) a b 0)) ∧
    (s.runs n .sbc x → completes (.seqSbc n x) s (isDiff n (wD w) a b (1 - c))) ∧
    (s.runs n .neg x → completes (.seqNeg n x) s (fun t => isDiff n (wD w) 0 a 0 t ∧ bit (t.sq n).flags 2 = (a == 0) ∧
      (a = 0x80000000 → t.sv n (wD w) = 0x80000000 ∧ bit (t.sq n).flags 3 = true))) ∧
    (s.runs n .cmp x → completes (.seqCmp n x) s (fun t => diffFlags n a b 0 t ∧ (t.sq n).v = (s.sq n).v)) ∧
    (s.runs n .cmpi x → completes (.seqCmpi n x) s (fun t => diffFlags n a i 0 t ∧ (t.sq n).v = (s.sq n).v))

/-- Shifts and rotates: amount, result and C (R318). R318 with Table 14-5. `shlRule` and the others spell its points; Z and N follow
R316. -/
def Obligations.ShiftsAndRotates : Prop :=
  ∀ (n w : Nat) (x : SeqIn) (s : State) (a : Word), w = s.nextWord n → a = s.sv n (wA w) →
    (∀ o ∈ [(SOp.shl, Instr.seqShl, shlRule), (.shr, .seqShr, shrRule), (.sar, .seqSar, sarRule), (.rol, .seqRol, rolRule),
        (.ror, .seqRor, rorRule)], s.runs n o.1 x →
      completes (o.2.1 n x) s (fun t =>
        o.2.2 a ((s.sv n (wB w)).toNat % 256) (t.sv n (wD w)) (bit (s.sq n).flags 2) (bit (t.sq n).flags 2) ∧
        bit (t.sq n).flags 0 = (t.sv n (wD w) == 0) ∧ bit (t.sq n).flags 1 = (t.sv n (wD w)).msb)) ∧
    (∀ o ∈ [(0, shlRule), (1, shrRule), (2, sarRule), (3, rorRule)], s.runs n .shi x → bits w 16 2 = o.1 →
      completes (.seqShi n x) s (fun t =>
        o.2 a (wImm w % 256) (t.sv n (wD w)) (bit (s.sq n).flags 2) (bit (t.sq n).flags 2) ∧
        bit (t.sq n).flags 0 = (t.sv n (wD w) == 0) ∧ bit (t.sq n).flags 1 = (t.sv n (wD w)).msb))

/-- MUL: the low 32 bits, and V when the signed product does not fit (R319). R319. -/
def Obligations.MultiplyKeepsTheLowHalf : Prop :=
  ∀ (n w : Nat) (x : SeqIn) (s : State) (a b : Word), w = s.nextWord n → a = s.sv n (wA w) → b = s.sv n (wB w) → s.runs n .mul x →
    completes (.seqMul n x) s (fun t => (t.sv n (wD w)).toNat = a.toNat * b.toNat % 2 ^ 32 ∧
      bit (t.sq n).flags 3 = decide (a.toInt * b.toInt < -2147483648 ∨ 2147483648 ≤ a.toInt * b.toInt))

/-- DIVS and DIVU: quotient, remainder, V, DZ and the DZ event (R320). R320 but for its sentence on the instructions that leave DZ
alone, which `ArithmeticFrame` states of its instructions. -/
def Obligations.DivisionResults : Prop :=
  ∀ (n w : Nat) (x : SeqIn) (s : State) (a b : Word), w = s.nextWord n → a = s.sv n (wA w) → b = s.sv n (wB w) →
    (s.runs n .divs x → completes (.seqDivs n x) s (fun t =>
      (b = 0 → t.sv n (wD w) = 0xFFFFFFFF ∧ t.sv n (wD w + 1) = a) ∧
      (b ≠ 0 → ¬ (a = 0x80000000 ∧ b = 0xFFFFFFFF) →
        (t.sv n (wD w)).toInt = a.toInt.tdiv b.toInt ∧ (t.sv n (wD w + 1)).toInt = a.toInt.tmod b.toInt) ∧
      (a = 0x80000000 → b = 0xFFFFFFFF → t.sv n (wD w) = 0x80000000 ∧ t.sv n (wD w + 1) = 0) ∧
      bit (t.sq n).flags 3 = decide (a = 0x80000000 ∧ b = 0xFFFFFFFF) ∧ bit (t.sq n).flags 4 = decide (b = 0) ∧
      (b ≠ 0 ∨ s.get (F.SEQ_CTL_DZ_EVENT n) = 0 → t.router = s.router) ∧
      (b = 0 → s.get (F.SEQ_CTL_DZ_EVENT n) = 1 → (t.ev (165 + 8 * n)).pend = true))) ∧
    (s.runs n .divu x → completes (.seqDivu n x) s (fun t =>
      (b = 0 → t.sv n (wD w) = 0xFFFFFFFF ∧ t.sv n (wD w + 1) = a) ∧
      (b ≠ 0 → (t.sv n (wD w)).toNat = a.toNat / b.toNat ∧ (t.sv n (wD w + 1)).toNat = a.toNat % b.toNat) ∧
      bit (t.sq n).flags 3 = false ∧ bit (t.sq n).flags 4 = decide (b = 0) ∧
      (b ≠ 0 ∨ s.get (F.SEQ_CTL_DZ_EVENT n) = 0 → t.router = s.router) ∧
      (b = 0 → s.get (F.SEQ_CTL_DZ_EVENT n) = 1 → (t.ev (165 + 8 * n)).pend = true))) ∧
    (wD w % 2 = 1 → seqDecode w ≠ some .divs ∧ seqDecode w ≠ some .divu)

/-- What an arithmetic instruction leaves unchanged. R313 and R315: the frame of the instructions that work on V registers. Each row
gives the operation, its command, the flags that Table 14-4 lists (bit 0 Z, 1 N, 2 C, 3 V, 4 DZ), and whether it writes V*d*. -/
def Obligations.ArithmeticFrame : Prop :=
  ∀ (n w : Nat) (x : SeqIn) (s : State), w = s.nextWord n →
    ∀ o ∈ [(SOp.add, Instr.seqAdd, 15, true), (.adc, .seqAdc, 15, true), (.sub, .seqSub, 15, true), (.sbc, .seqSbc, 15, true),
        (.and, .seqAnd, 3, true), (.or, .seqOr, 3, true), (.xor, .seqXor, 3, true), (.shl, .seqShl, 7, true), (.shr, .seqShr, 7, true),
        (.sar, .seqSar, 7, true), (.rol, .seqRol, 7, true), (.ror, .seqRor, 7, true), (.mul, .seqMul, 11, true),
        (.cmp, .seqCmp, 15, false), (.tst, .seqTst, 3, false), (.neg, .seqNeg, 15, true), (.not, .seqNot, 3, true),
        (.mov, .seqMov, 0, true), (.addi, .seqAddi, 15, true), (.andi, .seqAndi, 3, true), (.ori, .seqOri, 3, true),
        (.xori, .seqXori, 3, true), (.shi, .seqShi, 7, true), (.cmpi, .seqCmpi, 15, false), (.movi, .seqMovi, 0, true),
        (.movhi, .seqMovhi, 0, true), (.movs, .seqMovs, 0, true)], s.runs n o.1 x →
      completes (o.2.1 n x) s (fun t => t = s.kept { s with seqs := t.seqs } ∧ (∀ m : Nat, m ≠ n → t.sq m = s.sq m) ∧
        t.sq n = { s.sq n with v := (t.sq n).v, flags := (t.sq n).flags, pc := ((s.sq n).pc + 1) % 4096, noBreak := false, issued := false } ∧
        (∀ i : Nat, o.2.2.2 = false ∨ i ≠ wD w → t.sv n i = s.sv n i) ∧
        (∀ i : Nat, i < 5 → bit o.2.2.1 i = false → bit (t.sq n).flags i = bit (s.sq n).flags i))

/-- An illegal instruction is a machine fault: what it saves and where it goes (R314, R332). R314 and R332 for a fault outside a
handler and outside an exchange. -/
def Obligations.MachineFaultEntry : Prop :=
  ∀ (n : Nat) (x : SeqIn) (s : State), s.fetchable n = true → seqDecode (s.nextWord n) = none → x.fetchEcc = 0 → (s.sq n).inflt = false →
    (s.sq n).xch = none →
    completes (.illegalInstruction n x) s (fun t =>
      t.sq n = { s.sq n with
        fltCause := 1, fltPc := (s.sq n).pc, fltRet := ((s.sq n).pc + 1) % 4096, fflags := (s.sq n).flags, inflt := true,
        pc := s.get (F.SEQ_VEC_FAULT_VEC n), st := 1, issued := false } ∧
      (∀ m : Nat, m ≠ n → t.sq m = s.sq m) ∧ t.get (F.SEQ_FAULT_VALID n) = 1 ∧ t.get (F.SEQ_FAULT_PC n) = (s.sq n).pc % 4096 ∧
      t.get (F.SEQ_FAULT_CAUSE n) = 1 ∧ t.get (F.SEQ_COUNT_FAULTS n) = min 255 (s.get (F.SEQ_COUNT_FAULTS n) + 1) ∧
      (t.ev (164 + 8 * n)).pend = true)

/-- LDL and STL: the word they reach, and the faults (R326). R326. That RANGE goes before ALIGN is the model's choice (log entry
79); the clause for both names neither. -/
def Obligations.LocalRamAccess : Prop :=
  ∀ (n w : Nat) (x : SeqIn) (s : State) (a : Word), w = s.nextWord n → a = s.sv n (wA w) + wSimm w →
    (s.runs n .ldl x → a.toNat ≤ 0x7FC → a.toNat % 4 = 0 → x.ramEcc = 0 → completes (.seqLdl n x) s (fun t =>
      t.sv n (wD w) = s.lramGet n (a.toNat / 4) ∧ (∀ i : Nat, i ≠ wD w → t.sv n i = s.sv n i) ∧
      (∀ i : Nat, t.lramGet n i = s.lramGet n i))) ∧
    (s.runs n .stl x → a.toNat ≤ 0x7FC → a.toNat % 4 = 0 → completes (.seqStl n x) s (fun t =>
      (∀ i : Nat, t.lramGet n i = if i = a.toNat / 4 then s.sv n (wD w) else s.lramGet n i) ∧ (t.sq n).v = (s.sq n).v)) ∧
    (∀ o ∈ [(SOp.ldl, Instr.seqLdl), (.stl, .seqStl)], s.runs n o.1 x → (s.sq n).inflt = false → (s.sq n).xch = none →
      ¬ (a.toNat ≤ 0x7FC ∧ a.toNat % 4 = 0) → completes (o.2 n x) s (fun t =>
        (a.toNat % 4 = 0 → (t.sq n).fltCause = 4) ∧ (a.toNat ≤ 0x7FC → (t.sq n).fltCause = 5) ∧
        ((t.sq n).fltCause = 4 ∨ (t.sq n).fltCause = 5) ∧ (t.sq n).fltPc = (s.sq n).pc ∧ (t.sq n).v = (s.sq n).v ∧
        (∀ i : Nat, t.lramGet n i = s.lramGet n i)))

/-- Posting: pending bit and data, or coalescing (R482, R554). R482 and R554 on the act of posting. -/
def Obligations.PostingAnOccurrence : Prop :=
  ∀ (k d : Nat) (s : State), k < 384 → completes (.eventPost k d) s (fun t =>
    (t.ev k).pend = true ∧
    ((s.ev k).pend = false → (t.ev k).data = d % 2 ^ 64) ∧
    ((s.ev k).pend = true → (t.ev k).data = (s.ev k).data ∧ (t.ev k).ovr = true ∧
      t.get F.EVR_COUNT_COALESCED = min (2 ^ F.EVR_COUNT_COALESCED.width - 1) (s.get F.EVR_COUNT_COALESCED + 1)) ∧
    (bit (s.get (F.EVR_CFG_TMASK k)) 9 = true → (t.ev k).hf = true ∧
      (t.ev k).hfData = if (s.ev k).hf then (s.ev k).hfData else d % 2 ^ 64) ∧
    (bit (s.get (F.EVR_CFG_TMASK k)) 9 = false → (t.ev k).hf = (s.ev k).hf ∧ (t.ev k).hfData = (s.ev k).hfData) ∧
    (t.ev k).insvc = (s.ev k).insvc ∧ (t.ev k).sdata = (s.ev k).sdata ∧ (t.ev k).lprio = (s.ev k).lprio ∧
    (∀ m : Nat, m ≠ k → t.ev m = s.ev m))

/-- A write of a plain register acts on each field by its type (R7, R9). R7 with Table 0-5 and R9, for the registers without a
behaviour of their own: the field in the window that the path's select register chooses. -/
def Obligations.PlainRegisterWrite : Prop :=
  ∀ (p : Path) (a : Nat) (v : Word) (x : RegIn) (s : State) (d : RegDef) (f : FieldDef) (g : Fld) (w b : Nat),
    s.takesWrite p a v → s.plainReg p a v x = true → regDef? a = some d → ¬ (s.pcieMode = true ∧ 0x600 ≤ a ∧ a < 0x800) →
    f ∈ d.fields → g = ⟨a, f.lo, f.width⟩ → w = s.winOf d.win p →
    b = bits v.toNat f.lo f.width → completes (.registerWrite p a v x) s (fun t =>
      (f.ty = .rw ∨ f.ty = .wo → t.get g w = if f.vmin ≤ b ∧ b ≤ f.vmax then b else s.get g w) ∧
      (f.ty = .rs → t.get g w = s.get g w ∧ t.getStaged g w = if f.vmin ≤ b ∧ b ≤ f.vmax then b else s.getStaged g w) ∧
      (f.ty = .w1c → t.get g w = s.get g w &&& ((2 ^ f.width - 1) ^^^ b)) ∧
      (f.ty = .ro ∨ f.ty = .rx → t.get g w = s.get g w) ∧
      (∀ a' w' : Nat, regKey a' w' ≠ regKey a w → t.reg a' w' = s.reg a' w'))

/-- A write of an expert register changes nothing while its lock group is closed or locked down (R114, R118). R114, R118 and R119 on
refusal: the service port and the host have their own open groups. Pages the part does not have are excluded (R2). -/
def Obligations.ExpertWriteNeedsItsGroup : Prop :=
  ∀ (p : Path) (a : Nat) (v : Word) (x : RegIn) (s : State), p = .sp ∨ p = .host → pageExpert (a / 64) = true → s.absentPage (a / 64) = false →
    bit (s.lockOf p).openGroups (pageGroup (a / 64)) = false ∨ bit s.lockedDown (pageGroup (a / 64)) = true →
    s.writeRefused p a v = 8 ∧ exec (.registerWrite p a v x) s = .next (s.kept s)

/-- A pin reset keeps eNOR, OTP, PS and the registers of KMEM and destroys the host queues (R65). R65 and R69 for the pin reset
(cause 1), in every device state (R44). Evidence: registers 0xC0 to 0xC3. KMEM is reset by POR only; failures of the password
last until a reset (R450). -/
def Obligations.PinResetKeepsTheStores : Prop :=
  ∀ s : State, s.keepValid = true → s.aon.resetN = true → s.keep.norOp = none → s.cycleCauses = [] → otpCanonical s → completes .resetNLow s (fun t =>
    t.keep.ps = s.keep.ps ∧ (∀ b : Nat, t.norByte b = s.norByte b) ∧ (∀ b : Nat, tget 0 t.keep.otp b = tget 0 s.keep.otp b) ∧
    t.keep.otpLocks = s.keep.otpLocks ∧ t.host = {} ∧ t.prot = {} ∧ t.fqs = [] ∧ t.hmp = {} ∧ t.seqs = [] ∧ t.dops = [] ∧
    (∀ a w : Nat, a < 0x4000 → a / 64 ≠ 3 → a ≠ 0x3343 → ¬ (0x2D00 ≤ a ∧ a < 0x2E40) → t.reg a w = regReset (regKey a w)) ∧
    (∀ a : Nat, (0xC4 ≤ a ∧ a < 0x100) ∨ (0x2D00 ≤ a ∧ a < 0x2E40 ∧ a ≠ 0x2D06) → t.reg a = s.reg a) ∧
    t.aon.straps = s.aon.straps ∧ t.get F.RST_CAUSE_LAST = 1 ∧ t.trail.step = 0)

/-- A removal trigger without armed presence, or while REMOVING, changes nothing (R55). R55: removal is taken with presence armed,
and a later change on the other input changes nothing. -/
def Obligations.RemovalIsTakenOnce : Prop :=
  ∀ (prsnt pwrFail : Bool) (s : State), s.get F.RMV_STAT_ARMED = 0 ∨ s.st = stRemoving → exec (.removal prsnt pwrFail) s = .next (s.kept s)

/-- The layout of a transaction frame (R145). R145. The CRC is that of R146, whose check value a test shows. -/
def Obligations.FrameLayout : Prop :=
  ∀ (typ seq : Nat) (hdr payload : List Byte), typ < 256 → seq < 4096 → hdr.length = 12 → payload.length % 4 = 0 → payload.length ≤ 512 →
    (frameBytes typ seq hdr payload).length = payload.length + 20 ∧
    leAt (frameBytes typ seq hdr payload) 0 1 = typ ∧
    bits (leAt (frameBytes typ seq hdr payload) 1 3) 0 12 = seq ∧
    bits (leAt (frameBytes typ seq hdr payload) 1 3) 12 8 = payload.length / 4 ∧
    nibbleXor 8 (leAt (frameBytes typ seq hdr payload) 0 4) = 0xF ∧
    ((frameBytes typ seq hdr payload).drop 4).take 12 = hdr ∧
    ((frameBytes typ seq hdr payload).drop 16).take payload.length = payload ∧
    (frameBytes typ seq hdr payload).drop (16 + payload.length) =
      natLE 4 (crc32 ((frameBytes typ seq hdr payload).take (16 + payload.length)))

/-- A consumer read takes the oldest entry and keeps the order of the others (R227, R236). R227 and R236, with the pointers of
"Modes and visibility". Engines wait for credits of Q_1 to Q_9, Q_18, Q_26 to Q_33 and Q_35; register writes stand in Q_0 and
cascade frames behind Q_44. -/
def Obligations.ConsumerReadIsFirstInFirstOut : Prop :=
  ∀ (q : Nat) (e : FqEntry) (l : List FqEntry) (s : State), q < 48 → s.qSound q = true → (s.fq q).ring = e :: l → 1 ≤ (s.fq q).vis →
    e.work = .none → (s.fq q).held = [] → ∃ u : State, exec (.consumerRead q false) s = .next (s.kept ((u.qFreed q).queuePump q)) ∧
      (u.fq q).entries = (s.fq q).entries.tail ∧ (u.fq q).vis = (s.fq q).vis - 1 ∧ (u.fq q).rd = ((s.fq q).rd + 1) % (2 * fqDepth q) ∧
      (u.fq q).parts = (s.fq q).parts ∧ (∀ m : Nat, m ≠ q → u.fq m = s.fq m) ∧
      (¬ (q ≤ 9 ∨ q = 18 ∨ (26 ≤ q ∧ q ≤ 33) ∨ q = 35 ∨ q = 44) → (u.qFreed q).queuePump q = u)

/-- Free buffers are granted in the order in which they were freed (R253). R253, with the grant of R251 and the release of R257.
`freeList` holds the free buffers, longest free first. -/
def Obligations.HamperBuffersFirstInFirstOut : Prop :=
  (∀ (o n : Nat) (chain wait : Bool) (s : State), o ≤ 0x0D → 1 ≤ n → n ≤ 16 → (chain = true → 2 ≤ n) →
      s.hmp.waits.any (fun w => ownerPool w.owner == ownerPool o) = false → s.hmpRoom o n = true →
      completes (.allocRequest o n chain wait) s (fun t => t.freeList = s.freeList.drop n ∧
        (t.hmp.lastGrant.getD []).map refBuf = (s.freeList.take n).map (· % 2048) ∧ t.hmp.lastGrant.isSome = true)) ∧
    (∀ (r who : Nat) (s : State), s.refOk r = true → (s.hbuf (refBuf r)).ref = 1 → (s.hbuf (refBuf r)).next = none →
      (s.hbuf (refBuf r)).poison = false → s.hmp.waits = [] →
      completes (.referenceRelease r who 0) s (fun t => t.freeList = s.freeList ++ [refBuf r] ∧ t.refOk r = false))

/-- A service of WD_0: good within its window, a reset with cause WD_EARLY or WD_LATE outside (R491, R496). R491, R492, R494, R496
and R70 for WD_0, serviced by the supervisor. `cycleCauses` are the causes that the AON cycle has brought already (R69). -/
def Obligations.WatchdogWindow : Prop :=
  ∀ (s : State) (e mn mx : Nat), e = (s.wd 0).elapsed → mn = 10 * (s.wd 0).min → mx = 10 * (s.wd 0).max →
    ((s.wd 0).run = false ∨ s.wdEnabled 0 = false → exec .wd0Service s = .next (s.kept s)) ∧
    ((s.wd 0).run = true → s.wdEnabled 0 = true →
      (e ≤ mx → mn ≤ e ∨ (s.wd 0).first = true → completes .wd0Service s (fun t =>
        (t.wd 0).elapsed = 0 ∧ (t.wd 0).run = true ∧ (t.wd 0).first = false ∧ t.trail = s.trail ∧ t.host = s.host)) ∧
      (s.cycleCauses = [] → e ≤ mx → e < mn → (s.wd 0).first = false → completes .wd0Service s (fun t =>
        t.get F.RST_CAUSE_LAST = (if s.lateWds = [] then 3 else 2) ∧ t.get F.WD0_PC_PC = s.svcPc.toNat ∧ t.trail.step = 0 ∧ t.host = {} ∧
        t.wds = [])) ∧
      (s.cycleCauses = [] → mx < e → completes .wd0Service s (fun t =>
        t.get F.RST_CAUSE_LAST = 2 ∧ t.get F.WD0_PC_PC = s.svcPc.toNat ∧ t.trail.step = 0 ∧ t.host = {} ∧ t.wds = [])))

/-- The supply balance stays between minus its cap and its cap (R276). R276 on the bounds of the balance; R269: before step 8 the
ledger is disabled. -/
def Obligations.LedgerBalanceIsBounded : Prop :=
  ∀ (vT onDie : Nat) (diff : Int) (s : State),
    (s.rt.on = true → completes (.ledgerUpdate vT diff onDie) s (fun t =>
      t.rt.on = true ∧ -(t.rt.cap : Int) ≤ t.rt.bal ∧ t.rt.bal ≤ (t.rt.cap : Int))) ∧
    (s.rt.on = false → exec (.ledgerUpdate vT diff onDie) s = .next (s.kept s))

/-- A write of PS reaches the bytes of its unit only (R463, R464). R463 and R464 for a write outside the Logbook. What the unit
holds after a failed write is open (log entry 50). -/
def Obligations.PersistentStoreWrite : Prop :=
  ∀ (u : Nat) (data : List Byte) (s : State), u < 0x8000 →
    (∀ (n : Nat) (l : List PsOutcome), s.keep.psFault = false → completes (.psWrite u data (.ok n :: l)) s (fun t => t.keep.nor = s.keep.nor ∧
      ∀ b : Nat, tget 0 t.keep.ps b = if 32 * u ≤ b ∧ b < 32 * u + 32 then (data.drop (b - 32 * u)).headD 0 else tget 0 s.keep.ps b)) ∧
    (∀ (o : PsOutcome) (l : List PsOutcome), s.keep.psFault = true ∨ o = .verifyFail ∨ o = .linkFault → completes (.psWrite u data (o :: l)) s (fun t =>
      (∀ b : Nat, ¬ (32 * u ≤ b ∧ b < 32 * u + 32) → tget 0 t.keep.ps b = tget 0 s.keep.ps b) ∧ t.keep.nor = s.keep.nor ∧
      t.get F.PS_STAT_FAULT = 1))

/-- Supply, pin, removal and reset rows take their effect: the rails and the crystal are recorded, power-on reset is released, pins
and presence are recorded, resets leave the reset state, removal, logging and parking move the removal phases.
The rows: SUPPLY_RAIL_VALID, POR_RELEASE, BROWNOUT, VDD_KEEP_LOSS, RESET_N_LOW, RESET_N_RISE, PRESENCE_INPUT_CHANGE,
PRESENCE_ARMED, HOLDUP_OK_CHANGE, REJOIN_RESET, PARK, LOGGING_PHASE, REMOVAL, PLL_FAIL, ORDERLY_RESET, ORDERLY_RESET_LIMIT.
Each clause says that `exec` answers the next state of the row's own effect, for every state and operands that meet its
hypotheses;
`s.kept E` is `E` with what no command changes. Where the manual leaves a point open the clauses follow log entries 28, 29, 30,
26, 32 (the model's choices). -/
def Obligations.PowerPinAndResetRowsTakeEffect : Prop :=
  (∀ (r : Nat) (s : State), r < 4 → s.aon.rails.contains r = false →
    exec (.supplyRailValid (.rail r)) s = .next (s.kept { s with aon := { s.aon with rails := r :: s.aon.rails, validFrom := s.clock } }))
  ∧ (∀ s : State, s.aon.rails.contains 4 = false → ∃ t, exec (.supplyRailValid (.rail 4)) s = .next t ∧ t.aon.rails = 4 :: s.aon.rails ∧
    t.aon.por = false ∧ t.clock = 0 ∧ t.aon.sampled = false)
  ∧ (∀ s : State, s.aon.xtal = false → s.aon.rails.contains 4 = true →
    exec (.supplyRailValid .xtal) s = .next (s.kept { s with aon := { s.aon with xtal := true, validFrom := s.clock } }))
  ∧ (∀ s : State, s.aon.por = false → (∀ r < 5, s.aon.rails.contains r = true) → s.aon.xtal = true → s.aon.validFrom + 1000 ≤ s.clock →
    exec .porRelease s = .next (s.kept { s with aon := { s.aon with por := true } }))
  ∧ (∀ (r : Nat) (s : State), r < 4 → s.keepValid = true → s.aon.rails.contains r = true → ∃ t, exec (.brownout r) s = .next t ∧
    t.aon.por = false ∧ t.aon.rails = (s.resetNow [8] true).aon.rails.filter (· != r) ∧ t.trail = (s.resetNow [8] true).trail)
  ∧ (∀ (g : Nat) (s : State), g < 4 → exec (.brownout (g + 5)) s = .next (s.kept
    { s with balls := { s.balls with vccqLow := g :: s.balls.vccqLow.filter (· != g) } }))
  ∧ (∀ s : State, s.keepValid = true → ∃ t, exec .vddKeepLoss s = .next t ∧ t.regs = [] ∧ t.aon.rails = s.aon.rails.filter (· != 4) ∧
    t.aon.xtal = false ∧ t.aon.por = false ∧ t.clock = 0)
  ∧ (∀ s : State, s.keepValid = true → s.aon.resetN = true → ∃ t, exec .resetNLow s = .next t ∧ t.aon.resetN = false ∧
    t.trail = (s.resetNow [1] true).trail ∧ t.regs = (s.resetNow [1] true).regs ∧ t.host = (s.resetNow [1] true).host)
  ∧ (∀ s : State, exec .resetNRise s = .next (s.kept { s with aon := { s.aon with resetN := true } }))
  ∧ (∀ (p w : Bool) (s : State), ¬ (s.aon.prsntN = p ∧ s.aon.pwrFailN = w) →
    exec (.presenceInputChange p w) s = .next (s.kept { s with aon := { s.aon with prsntN := p, pwrFailN := w, presFrom := s.clock } }))
  ∧ (∀ s : State, s.keepValid = true → s.present = true → s.get F.RMV_STAT_ARMED = 0 → s.aon.presFrom + 1000 ≤ s.clock →
    s.live = false → exec .presenceArmed s = .next (s.kept (s.set F.RMV_STAT_ARMED 1)))
  ∧ (∀ s : State, s.keepValid = true → s.present = true → s.get F.RMV_STAT_ARMED = 0 → s.aon.presFrom + 1000 ≤ s.clock →
    s.live = true → s.balls.clocksGated = false → exec .presenceArmed s = .next (s.kept ((s.set F.RMV_STAT_ARMED 1).post 6 1)))
  ∧ (∀ s : State, exec (.holdupOkChange false) s = .next (s.kept { s with aon := { s.aon with holdupOk := false } }))
  ∧ (∀ s : State, ∃ t, exec (.holdupOkChange true) s = .next t ∧ t.aon.holdupOk = true ∧ t.dops = s.dops.map (fun p => (p.1, { p.2 with huFrom := none })))
  ∧ (∀ s : State, s.rmv.parked = true → s.present = true → max s.rmv.parkedFrom s.aon.presFrom + 10000 ≤ s.clock →
    exec .rejoinReset s = .next (s.kept (s.resetNow [5] false)))
  ∧ (∀ s : State, s.st = stRemoving → s.get F.RMV_STAT_PHASE = 3 → ∃ t, exec .park s = .next t ∧ t.rmv.parked = true ∧ t.rmv.parkedFrom = t.clock ∧
    t.balls.ceHigh = true ∧ t.balls.wpLow = true ∧ t.balls.clocksGated = true ∧ t.balls.lanesIdle = true ∧ t.agl.state = 0)
  ∧ (∀ s : State, s.st = stRemoving → s.get F.RMV_STAT_PHASE = 2 → s.settled = true →
    exec .loggingPhase s = .next (s.kept ((if s.logRuns then s.logRemaining else s).set F.RMV_STAT_PHASE 3)))
  ∧ (∀ (w : Bool) (s : State), s.live = true → s.get F.RMV_STAT_ARMED = 1 → s.st ≠ stRemoving → exec (.removal true w) s = .next (s.kept
    (State.removalStart { s with aon := { s.aon with prsntN := true, pwrFailN := s.aon.pwrFailN && !w, presFrom := s.clock } } 1 8)))
  ∧ (∀ s : State, s.live = true → s.get F.RMV_STAT_ARMED = 1 → s.st ≠ stRemoving → exec (.removal false true) s = .next (s.kept
    (State.removalStart { s with aon := { s.aon with pwrFailN := false, presFrom := s.clock } } 2 9)))
  ∧ (∀ s : State, s.live = true → s.pcieMode = true → bit s.aon.straps 6 = true →
    exec .pllFail s = .next (s.kept (State.setLanes { s with pcie := { s.pcie with pllFail := true, ltssm := 0 } })))
  ∧ (∀ (c : Cause) (s : State), c ≠ .thermal → (c = .cascade → s.cascRole = 2) → s.rmv.orderly = none →
    exec (.orderlyReset c) s = .next (s.kept (s.orderlyStart c)))
  ∧ (∀ (c : Cause) (s : State), s.rmv.orderly = some c → s.rmv.orderlyFrom + 20000 ≤ s.clock →
    exec .orderlyResetLimit s = .next (s.kept ((s.resetMedia 2).orderlyTry)))

/-- The steps of the Trailhead take their effect: each step runs once its predecessor is done: the keep die, the selection of SVI
and SPB, the recovery of the Logbook, die discovery, calibration, the end in READY or LIMITED, and the start of the lanes.
The rows: TRAILHEAD_START, KEEP_BUS_UP, SVI_SELECTION, SPB_SELECTION, LOGBOOK_RECOVERY, DIE_READY_WAIT_END, DIE_DISCOVERY,
CAL_RESTORE_OR_TRAIN, TRAILHEAD_FINISH, LANE_TRAINING_START.
Each clause says that `exec` answers the next state of the row's own effect, for every state and operands that meet its
hypotheses;
`s.kept E` is `E` with what no command changes. Where the manual leaves a point open the clauses follow log entries 39, 40, 42,
45, 44 (the model's choices). -/
def Obligations.TrailheadStepsTakeEffect : Prop :=
  (∀ (straps : Nat) (vccq : List Nat) (start : StartIn) (s : State), s.aon.por = true → s.aon.resetN = true → s.live = false →
    ∃ t, exec (.trailheadStart straps vccq start) s = .next t ∧ t.trail.step = 1 ∧ t.st = stTrailhead ∧ t.balls.wpLow = true)
  ∧ (∀ (o : List PsOutcome) (s : State), s.trailOn = true → s.norPend = 0xFF → s.did 2 = false →
    ∃ t, exec (.keepBusUp o) s = .next t ∧ t.did 2 = true ∧ t.get F.BOOT_PROG_STEP = 2)
  ∧ (∀ (o : List PsOutcome) (s : State), s.trailOn = true → s.did 2 = true → s.norPend ≠ 0xFF → s.therm.stop = false → s.keep.norOp = none →
    exec (.keepBusUp o) s = .next (s.kept ((s.withPs o).freshErase).endPs))
  ∧ (∀ (bad : List Nat) (s : State), s.trailOn = true → s.did 2 = true → s.did 3 = false → s.keep.norOp = none → s.norPend = 0xFF →
    exec (.sviSelection bad) s = .next (s.kept
      (let a := s.get F.BOOT_CFG_PREF_SVI
      let c := s.sviCode a bad true
      let s1 := s.setSlotStat a (s.sviVer a c) (if c = 2 then 1 else c)
      let d := s.sviCode (1 - a) bad true
      let s2 := s1.setSlotStat (1 - a) (s.sviVer (1 - a) d) (if d = 2 then 1 else d)
      if c = 2 then s1.sviUse a else if d = 2 then s2.sviUse (1 - a) else ((s2.setStep 3).didStep 3).serviceOnly)))
  ∧ (∀ (bad : List Nat) (o : List PsOutcome) (s s1 : State), s.trailOn = true → s.trail.found = true → s.did 4 = false →
    s.bestSpb (s.get F.FW_SVI_SLOT) [s.spbCode 0 bad, s.spbCode 1 bad] = none →
    s1 = (List.range 2).foldl (fun (u : State) i => u.setSlotStat (2 + i) (u.spbVer i (listGet 0 [s.spbCode 0 bad, s.spbCode 1 bad] i))
      (spbShown (listGet 0 [s.spbCode 0 bad, s.spbCode 1 bad] i) (u.spbClass (s.get F.FW_SVI_SLOT) i) false false)) s →
    exec (.spbSelection bad o) s = .next (s.kept ((((((s1.withPs o).bootWrite s1.bootRec.1
        (if s.get F.FW_SVI_SLOT = 0 then min 3 (s1.bootRec.2.1 + 1) else s1.bootRec.2.1)
        (if s.get F.FW_SVI_SLOT = 1 then min 3 (s1.bootRec.2.2 + 1) else s1.bootRec.2.2)).2.setStep 4).didStep 4).wdRestart 0).classify)))
  ∧ (∀ (bad : List Nat) (o : List PsOutcome) (u : Option Nat) (s : State), s.trailOn = true → s.trail.found = true → s.did 4 = false →
    (s.bestSpb (s.get F.FW_SVI_SLOT) [s.spbCode 0 bad, s.spbCode 1 bad]).all (fun b => b.2 != 1) = true →
    u = ((s.bestSpb (s.get F.FW_SVI_SLOT) [s.spbCode 0 bad, s.spbCode 1 bad]).filter (fun b => b.2 == 0)).map (fun b => b.1) →
    exec (.spbSelection bad o) s = .next (s.kept
      (let s1 := (List.range 2).foldl (fun (w : State) j => w.setSlotStat (2 + j) (w.spbVer j (listGet 0 [s.spbCode 0 bad, s.spbCode 1 bad] j))
        (spbShown (listGet 0 [s.spbCode 0 bad, s.spbCode 1 bad] j) (w.spbClass (s.get F.FW_SVI_SLOT) j) (u == some j) false)) s
      let s2 := u.elim s1 (fun i => (((s1.set F.FW_SPB_LOADED 1).set F.FW_SPB_SPB_LEVEL (s1.norLE (spbBase i + 5) 1)).set F.FW_SPB_SPB_VER
          (s1.norLE (spbBase i + 6) 2)).set F.BOOT_RES_SPB_SLOT i)
      ((((((s2.withPs o).bootWrite s2.bootRec.1
        (if s.get F.FW_SVI_SLOT = 0 then min 3 (s2.bootRec.2.1 + 1) else s2.bootRec.2.1)
        (if s.get F.FW_SVI_SLOT = 1 then min 3 (s2.bootRec.2.2 + 1) else s2.bootRec.2.2)).2.setStep 4).didStep 4).wdRestart 0).classify))))
  ∧ (∀ (o : List PsOutcome) (s : State), s.trailOn = true → s.did 2 = true → s.did 5 = false →
    exec (.logbookRecovery o) s = .next (s.kept ((((s.setStep 5).withPs o).recover).endPs.didStep 5).serviceOnly))
  ∧ (∀ s : State, s.discovers = true → s.trail.waited = false → exec .dieReadyWaitEnd s = .next (s.kept
    (let s1 := if s.st = stTrailhead then s.setStep 6 else s
    (((List.range 8).filter (fun n => (s.chan n).vclass != 0)).flatMap (fun n => (List.range 8).map (fun c => (n, c)))).foldl
      (fun (u : State) t => u.onfiReset t.1 t.2) { s1 with trail := { s1.trail with waited := true } })))
  ∧ (∀ (found : List FoundTarget) (s : State), s.discovers = true → s.trail.waited = true → exec (.dieDiscovery found) s =
    .next (s.kept (((List.range 8).foldl (fun (u : State) n => u.discoverChan n found) s).didStep 6).classify))
  ∧ (∀ (verify : Nat) (s : State), s.trailOn = true → s.did 4 = true → s.trail.classified = true → s.did 7 = false → s.therm.stop = false →
    s.seqs.any (fun p => p.2.xch.isSome) = false → s.restorable = none →
    ∃ t, exec (.calRestoreOrTrain verify) s = .next t ∧ t.get F.BOOT_RES_CAL_PATH = (if s.baseline then 3 else 2))
  ∧ (∀ (rng : Bool) (o : List PsOutcome) (s : State), s.trailOn = true → s.did 7 = true → s.did 5 = true → bit s.aon.straps 7 = false →
    s.therm.stop = false → s.chans.any (fun p => p.2.training) = false → exec (.trailheadFinish rng o) s = .next (s.kept
      (let u := (s.trailLast rng o).trailEnd
      if u.st = stReady ∧ u.get F.BOOT_RES_CAL_PATH = 2 then { u with cal := { u.cal with autoFrom := some u.clock } } else u)))
  ∧ (∀ s : State, s.live = true → s.get F.RMV_STAT_ARMED ≠ 0 → s.rmv.lanesStarted = false → s.st ≠ stRemoving → bit s.aon.straps 7 = false →
    ∃ t, exec .laneTrainingStart s = .next t ∧ t.rmv.lanesStarted = true ∧
      t.balls.lanesIdle = (State.setLanes { s with rmv := { s.rmv with lanesStarted := true } }).balls.lanesIdle ∧
      t.agl.state = (if !s.pcieMode && s.cascRole != 2 then 1 else s.agl.state))

/-- eNOR, journal, PS and keep-bus rows take their effect: a word program leaves old AND data, an erase leaves the sector erased,
erases suspend and resume, the NOR commands read, program and erase, the journal takes its next record, PS words are written.
The rows: ENOR_WORD_PROGRAM_END, ENOR_ERASE_END, ERASE_SUSPENDED, ERASE_RESUME, NOR_READ, NOR_PROGRAM, NOR_ERASE,
JOURNAL_APPEND, PS_WRITE, KEEP_BUS_TRANSFER.
Each clause says that `exec` answers the next state of the row's own effect, for every state and operands that meet its
hypotheses;
`s.kept E` is `E` with what no command changes. Where the manual leaves a point open the clauses follow log entries 27, 34, 50
(the model's choices). -/
def Obligations.KeepDieStoreRowsTakeEffect : Prop :=
  (∀ (s : State) (op : NorOp) (a d : Nat), s.keep.norOp = some op → op.erase = false → op.words = [(a, d)] →
    exec (.enorWordProgramEnd true) s = .next (s.kept (({ (s.norPut a (natLE 8 (s.norLE a 8 &&& d))).norOpDone op.origin with
      keep := { ((s.norPut a (natLE 8 (s.norLE a 8 &&& d))).norOpDone op.origin).keep with norOp := none } }.norReport op.origin 0 0 0).norFree)))
  ∧ (∀ (s : State) (op : NorOp), s.keep.norOp = some op → op.erase = true → op.suspended = false → s.keep.norStopped = false →
    ∀ s1 u, s1 = (if op.sector = 7 then { ((s.norClear op.sector true).set F.JNL_STAT_NEXT 0) with keep := { (s.norClear op.sector true).keep with jnlFullPosted := false } } else s.norClear op.sector true) →
    s1.norRecWrite 0xFF none = (true, u) → exec (.enorEraseEnd true) s = .next (s.kept
      ((({ u.norOpDone op.origin with keep := { (u.norOpDone op.origin).keep with norOp := none } } : State).norReport op.origin 0 0 (s.norWear op.sector)).norFree)))
  ∧ (∀ (s : State) (op : NorOp), s.keep.norOp = some op → op.erase = true → op.suspended = false → s.keep.norStopped = false →
    s.get F.NOR_CFG_MIN_RUN * 100 ≤ s.clock - op.since →
    exec .eraseSuspended s = .next (s.kept
      (let u := ({ s with keep := { s.keep with norOp := some { op with suspended := true, since := s.clock } } } : State)
      if s.get F.NOR_CFG_BUSY_MODE = 1 then u.norServe else u)))
  ∧ (∀ (s : State) (op : NorOp), s.keep.norOp = some op → op.erase = true → op.suspended = true → s.keep.norStopped = false →
    (s.keep.norReads = [] ∨ s.get F.NOR_CFG_BUSY_MODE = 0 ∨ 200 ≤ s.clock - op.since) → exec .eraseResume s = .next (s.kept
      { s with keep := { s.keep with norOp := some { op with suspended := false, since := s.clock } } }))
  ∧ (∀ (k : Nat) (f : Flight) (s s0 : State), s.canStart k 0x40 = some f → s.kmemOpen = true → s.getBufs 0x0A k (moves (leAt f.bytes 24 4)) = (true, s0) →
    leAt f.bytes 20 3 + leAt f.bytes 24 4 ≤ 0x800000 →
    exec (.norRead k) s = .next (s.kept (let u := (s0.startRun k ((s0.flight? k).getD f)).kmemAsk k
      if u.norServes then u.norReadEnd ⟨k, leAt f.bytes 20 3, leAt f.bytes 24 4⟩
      else { u with keep := { u.keep with norReads := u.keep.norReads ++ [⟨k, leAt f.bytes 20 3, leAt f.bytes 24 4⟩] } })))
  ∧ (∀ (k : Nat) (f : Flight) (s : State), s.canStart k 0x41 = some f → s.kmemOpen = true → f.got = leAt f.bytes 24 4 →
    leAt f.bytes 20 3 + leAt f.bytes 24 4 ≤ 0x800000 →
    exec (.norProgram k) s = .next (s.kept (((s.startRun k f).kmemAsk k).norSubmit
      { origin := .cmd k, erase := false, words := programWords (leAt f.bytes 20 3) (f.dataBytes (leAt f.bytes 24 4)), clear := bit (leAt f.bytes 16 1) 0, pass := sliceB f.bytes 32 16 })))
  ∧ (∀ (k : Nat) (f : Flight) (s : State), s.canStart k 0x42 = some f → s.kmemOpen = true →
    exec (.norErase k) s = .next (s.kept (((s.startRun k f).kmemAsk k).norSubmit { origin := .cmd k, erase := true, sector := leAt f.bytes 16 1, pass := sliceB f.bytes 32 16 })))
  ∧ (∀ (s : State) (r : List Byte) (rest : List (List Byte)), s.keep.jnlHeld = r :: rest → s.keep.norOp = none → s.therm.stop = false → s.get F.JNL_STAT_NEXT < 512 →
    exec (.journalAppend true) s = .next (s.kept
      (let u := ((s.jnlTake.norPut (0x1C000 + 32 * s.get F.JNL_STAT_NEXT) (s.jnlTake.faultRecord r)).set F.JNL_STAT_NEXT (s.get F.JNL_STAT_NEXT + 1)).jnlFull
      u.norNext u.keep.norQueue.length)))
  ∧ (∀ (u : Nat) (data : List Byte) (o : List PsOutcome) (s : State), exec (.psWrite u data o) s = .next (s.kept
    ((s.withPs o).psWrite (32 * (u % 0x8000)) (sliceB data 0 32)).2))
  ∧ (∀ (target : KeepTarget) (addr n : Nat) (s : State), n ≤ 3 → exec (.keepBusTransfer target addr n) s = .next (s.kept s))
  ∧ (∀ (addr n : Nat) (s : State), 3 < n → exec (.keepBusTransfer .ps addr n) s = .next (s.kept { s with keep := { s.keep with psFault := true } })
    ∧ exec (.keepBusTransfer .nor addr n) s = .next (s.kept (s.norLinkNow addr))
    ∧ exec (.keepBusTransfer .otp addr n) s = .next (s.kept { s with keep := { s.keep with otpFault := true } }))

/-- Logbook, image and sequence exchange rows take their effect: Logbook reads deliver ring entries, marks complete with their
index, entries are rewritten, an image is activated, an exchange is begun, reaches its quiet point, times out or rolls back.
The rows: LOGBOOK_READ, LOGBOOK_MARK, LOGBOOK_WRITE, IMAGE_ACTIVATE, SEQ_EXCHANGE, QUIET_POINT, QUIET_TIMEOUT, ENTRY_TIMEOUT.
Each clause says that `exec` answers the next state of the row's own effect, for every state and operands that meet its
hypotheses;
`s.kept E` is `E` with what no command changes. Where the manual leaves a point open the clauses follow log entries 46, 83 (the
model's choices). -/
def Obligations.LogbookImageAndExchangeRowsTakeEffect : Prop :=
  (∀ (k : Nat) (f : Flight) (s s0 : State), s.canStart k 0x31 = some f → s.getBufs 0x01 k (moves (32 * leAt f.bytes 24 2)) = (true, s0) →
    (s.log.degraded = true → leAt f.bytes 20 2 ≤ 0x3FF) → exec (.logbookRead k) s = .next (s.kept
      (((s0.startRun k ((s0.flight? k).getD f)).qPassN 46 { flight := some k } (moves (32 * leAt f.bytes 24 2))).deliver k 0 0 (s.logResult f)
        ((List.range (leAt f.bytes 24 2)).flatMap (fun i => if s.log.degraded then sliceB (tget [] s.log.shadow ((leAt f.bytes 20 2 + i) % 1024)) 0 32
          else s.ringEntry ((leAt f.bytes 20 2 + i) % 16384))))))
  ∧ (∀ (k : Nat) (f : Flight) (s : State), s.canStart k 0x32 = some f → exec (.logbookMark k) s = .next (s.kept ((s.startRun k f).complete k 0)))
  ∧ (∀ (k : Nat) (o : List PsOutcome) (f : Flight) (s : State), s.flight? k = some f → f.journalled = true → f.logOpen = true →
    exec (.logbookWrite k o) s = .next (s.kept (State.logRewrite { s with keep := { s.keep with logNext := o } } k (if f.phase = .accepted then 1 else 2))))
  ∧ (∀ (k : Nat) (bad : List Nat) (o : List PsOutcome) (f : Flight) (s : State), s.canStart k 0x43 = some f → exec (.imageActivate k bad o) s = .next (s.kept
    (let r := (((s.startRun k { f with opsTotal := 1 }).logStarted k).withPs o).activate (leAt f.bytes 16 1 % 4) bad
    if r.1 = 1 then ((r.2.endPs).logOpDone k).complete k 0 0 1 else if r.1 = 0xE then r.2.endPs.complete k 0x50 0x47 else r.2.endPs.complete k 0x14)))
  ∧ (∀ (k : Nat) (f : Flight) (s : State), s.canStart k 0x44 = some f → s.seqs.any (fun q => q.2.xch.isSome) = false →
    exec (.seqExchange k) s = .next (s.kept
      (let mask := leAt f.bytes 16 1
      let cls := leAt f.bytes 17 1 % 16
      let slot := leAt f.bytes 18 1 % 2
      let s0 := s.startRun k { f with addr := mask + cls * 2 ^ 8 + slot * 2 ^ 12, opsTotal := 0 }
      (s.xchCheck mask cls slot).elim
        ((s.readProg slot cls).elim (s0.complete k 0x50 0x62) (fun p =>
          (((setBits mask 8).filter (fun n => s.diesInUse n ≠ [])).foldl (fun (u : State) n => u.setSq n { u.sq n with
            xch := some { flight := some k, prog := p, bundle := some slot } }) s0).xchSettle k))
        (fun r => s0.complete k r.1 r.2))))
  ∧ (∀ (n : Nat) (x : Xch) (s : State), (s.sq n).xch = some x → s.quietDue n = true → ∃ t, exec (.quietPoint n) s = .next t ∧
    (t.sq n).xch = some { x with entry := true, age := 0, cancelled := ((s.xchUse (s.program n) x.prog).loadProg n x.prog x.bundle 1).1.1, carried := ((s.xchUse (s.program n) x.prog).loadProg n x.prog x.bundle 1).1.2, back := (s.chan n).bundle, backProg := s.program n })
  ∧ (∀ (n : Nat) (x : Xch) (s : State), (s.sq n).xch = some x → s.xchWaits n = true → 1000 ≤ x.age → exec (.quietTimeout n) s = .next (s.kept (s.xchEnd n 4 3)))
  ∧ (∀ (n : Nat) (x : Xch) (s : State), (s.sq n).xch = some x → 100 ≤ x.age → x.entry = true → exec (.entryTimeout n) s = .next (s.kept (s.rollback n)))

/-- Rows of the Ration ledger take their effect: the first request that fits is admitted, a starved request and a hold-up wait that
ran out are handled.
The rows: ADMISSION_DECISION, STARVE, HU_WAIT_TIMEOUT.
Each clause says that `exec` answers the next state of the row's own effect, for every state and operands that meet its
hypotheses;
`s.kept E` is `E` with what no command changes. Where the manual leaves a point open the clauses follow log entries 64 (the
model's choices). -/
def Obligations.RationLedgerRowsTakeEffect : Prop :=
  (∀ s : State, s.st ≠ stRemoving → s.rt.on = true → s.works = true → s.therm.stop = false →
    exec .admissionDecision s = .next (s.kept (let s0 := (s.presented.map (·.1)).foldl State.examineOp s
      s0.firstReq.elim ((s0.presented.find? (fun p => s0.admits p.1 p.2)).elim s0 (fun p => s0.admitOp p.1 p.2))
        (fun r => let s1 := s0.admitCharge (s0.reqCost r.2).1 (s0.reqCost r.2).2 r.2.payer
          State.grantReq { s1 with rt := { s1.rt with reqs := dropReq s1.rt.reqs r.1 } } r.2))))
  ∧ (∀ (r : LReq) (l : List LReq) (s : State), s.st = stRemoving → s.rt.reqs = r :: l → exec .admissionDecision s = .next (s.kept
    (State.grantReq { s with rt := { s.rt with reqs := dropReq s.rt.reqs 0 } } r)))
  ∧ (∀ (i t : Nat) (o : DieOp) (s : State), s.dop? i = some o → o.waitFrom = some t → o.st = .granted → o.blocking = false →
    s.get F.RATION_WAIT_STARVE_US ≠ 0 → s.get F.RATION_WAIT_STARVE_US ≤ s.clock - t → ¬(s.covered (s.opCost o).1 = true ∧ s.huAnswer o = 2) →
    exec (.starve i) s = .next (s.kept ((s.setDop i { o with blocking := true }).rationEvent F.RATION_EVT_STARVE 8 o.ch)))
  ∧ (∀ (i t : Nat) (o : DieOp) (s : State), s.dop? i = some o → o.huFrom = some t → o.st = .granted → s.aon.holdupOk = false →
    s.get F.RATION_WAIT_HU_WAIT_MS ≠ 0 → s.get F.RATION_WAIT_HU_WAIT_MS * 1000 ≤ s.clock - t →
    exec (.huWaitTimeout i) s = .next (s.kept (s.refuseOp o)))

/-- Host queue rows take their effect: submissions and doorbells move the pointers or report their error, commands are taken in
arbitration order, completions are posted in ring order, NOP completes.
The rows: COMPLETION_POST, COMMAND_TAKE, NOP, MAILBOX_TIMEOUT, SUBMISSION_PORT_WRITE, SQ_DOORBELL, CQ_HEAD_DOORBELL.
Each clause says that `exec` answers the next state of the row's own effect, for every state and operands that meet its
hypotheses;
`s.kept E` is `E` with what no command changes. Where the manual leaves a point open the clauses follow log entries 56 (the
model's choices). -/
def Obligations.HostQueueRowsTakeEffect : Prop :=
  (∀ (q : Nat) (c : Cpl) (l : List Cpl) (s : State), (s.qp q).ready.filter (fun c => !c.silent) = c :: l →
    (s.qp q).st ≠ .absent → (s.qp q).bound = true → ((s.qp q).cqTail + 1) % (s.qp q).cqDepth ≠ (s.qp q).cqHead → s.qOpen 21 1 0 = true →
    s.hostCanSend { typ := 0x24, hdr := natLE 1 q ++ natLE 1 0 ++ natLE 2 (s.qp q).cqTail, payload := s.cplEntry q (s.qp q) c,
                    addr := (s.qp q).base + 16 * (s.qp q).cqTail } = true → s.qSound 21 = true →
    exec (.completionPost ⟨q, false⟩) s = .next (s.kept
      (let s1 := s.setQp q { s.qp q with ready := (s.qp q).ready.erase c, cqTail := ((s.qp q).cqTail + 1) % (s.qp q).cqDepth, phase := if ((s.qp q).cqTail + 1) % (s.qp q).cqDepth = 0 then !(s.qp q).phase else (s.qp q).phase }
      let s2 := (s1.qPass 21 { data := s.cplEntry q (s.qp q) c, flight := some c.flight }).hostSend
        { typ := 0x24, hdr := natLE 1 q ++ natLE 1 0 ++ natLE 2 (s.qp q).cqTail, payload := s.cplEntry q (s.qp q) c, addr := (s.qp q).base + 16 * (s.qp q).cqTail }
      let s3 := if s.pcieMode ∧ (s.qp q).irqEn ∧ c.noIrq = false then s2.msixSignal (s.qp q).vec else s2
      (((s3.flight? c.flight).elim s3 (fun f => if f.mutates ∨ f.journalled = false then s3 else s3.logRewrite c.flight 3)).dropFlight c.flight).finishDelete q)))
  ∧ (∀ (q k : Nat) (s : State), s.rmv.orderly = none → s.intakeHeld = false →
    s.roundWinner = some q → s.freeFlight = some k → s.qSound 22 = true → s.qSound 37 = true → exec (.commandTake true) s = .next (s.kept (s.qpMismatch q)))
  ∧ (∀ (q k : Nat) (s : State), s.rmv.orderly = none → s.intakeHeld = false →
    s.roundWinner = some q → s.freeFlight = some k → s.qSound 22 = true → s.qSound 37 = true → (opAssisted (leAt (s.headCmd q) 0 1) = true → s.qCan 37 1 0 = true) →
    exec (.commandTake false) s = .next (s.kept
      (let s1 := s.setQp q { s.qp q with head := ((s.qp q).head + 1) % (s.qp q).sqDepth, slots := tdel (s.qp q).slots (s.qp q).head, ageFrom := s.clock }
      ({ s1 with host := { s1.host with last := q, takes := s.host.takes + 1 } } : State).examine q k (s.headCmd q))))
  ∧ (∀ (k : Nat) (f : Flight) (s : State), s.canStart k 0x7F = some f → exec (.cmdNop k) s = .next (s.kept ((s.startRun k f).complete k 0)))
  ∧ (∀ (k : Nat) (f : Flight) (s : State), s.flight? k = some f → f.mailbox = true → 100000 ≤ s.clock - f.since →
    exec (.mailboxTimeout k) s = .next (s.kept (s.complete k 0x40 3)))
  ∧ (∀ (q : Nat) (data : List Byte) (s : State), (s.qp q).st ≠ .absent → (s.qp q).st ≠ .deleting → data.length = 64 →
    ((s.qp q).fill + 1) % (s.qp q).sqDepth ≠ (s.qp q).head → exec (.submissionPortWrite q 0 data false) s = .next (s.kept
      (s.setQp q { s.qp q with slots := tput (s.qp q).slots (s.qp q).fill data, fill := ((s.qp q).fill + 1) % (s.qp q).sqDepth })))
  ∧ (∀ (q off : Nat) (data : List Byte) (s : State), (s.qp q).st ≠ .absent → (s.qp q).st ≠ .deleting →
    (off ≠ 0 ∨ data.length ≠ 64 ∨ ((s.qp q).fill + 1) % (s.qp q).sqDepth = (s.qp q).head) →
    exec (.submissionPortWrite q off data false) s = .next (s.kept (s.qpError q F.QP_ERR_PORT_ERR F.HQ_EVT_PORT_ERR)))
  ∧ (∀ (q : Nat) (w : Word) (s : State), (s.qp q).st ≠ .absent → (s.qp q).st ≠ .deleting → w.toNat ≠ (s.qp q).tail → w.toNat < (s.qp q).sqDepth →
    ringAfter (s.qp q).sqDepth (s.qp q).tail (s.qp q).fill w.toNat = true → exec (.sqDoorbell q w false) s = .next (s.kept
      (s.setQp q { s.qp q with tail := w.toNat, ageFrom := if (s.qp q).head = (s.qp q).tail then s.clock else (s.qp q).ageFrom })))
  ∧ (∀ (q : Nat) (w : Word) (s : State), (s.qp q).st ≠ .absent → (s.qp q).st ≠ .deleting → w.toNat ≠ (s.qp q).tail →
    ¬ (w.toNat < (s.qp q).sqDepth ∧ ringAfter (s.qp q).sqDepth (s.qp q).tail (s.qp q).fill w.toNat = true) →
    exec (.sqDoorbell q w false) s = .next (s.kept (s.qpError q F.QP_ERR_DB_ERR F.HQ_EVT_DB_ERR)))
  ∧ (∀ (q : Nat) (w : Word) (s : State), (s.qp q).st ≠ .absent → w.toNat < (s.qp q).cqDepth →
    ringAfter (s.qp q).cqDepth (s.qp q).cqHead (s.qp q).cqTail w.toNat = true → exec (.cqHeadDoorbell q w false) s = .next (s.kept
      (s.setQp q { s.qp q with cqHead := w.toNat })))

/-- Queue fabric rows take their effect: entries are written, packed, closed, read, committed, rewound and spilled with their
credits.
The rows: FC_HOLD_EXPIRY, PRODUCER_WRITE, PRODUCER_FLUSH, PACK_TIMEOUT, CONSUMER_READ, COMMIT, REWIND, OPEN, CLOSE,
SPILL_REQUEST.
Each clause says that `exec` answers the next state of the row's own effect, for every state and operands that meet its
hypotheses;
`s.kept E` is `E` with what no command changes. Where the manual leaves a point open the clauses follow log entries 57 (the
model's choices). -/
def Obligations.QueueFabricRowsTakeEffect : Prop :=
  (∀ (k : Nat) (s : State), s.st ≠ stRemoving → exec (.fcHoldExpiry k) s = .next (s.kept
    (s.fcSet (s.balls.fc0 && !(k == 0 && !s.fcWant 0)) (s.balls.fc1 && !(k == 1 && !s.fcWant 1)))))
  ∧ (∀ (q prod : Nat) (data : List Byte) (user : Nat) (fl : Option Nat) (bufs : List Nat) (s : State), q < 48 → s.qSound q = true →
    0 < data.length → data.length ≤ fqPW q → (s.fq q).held.any (fun e => e.prod == prod) = false →
    exec (.producerWrite q prod data user fl bufs false) s = .next (s.kept
      (s.fqFillBytes q { user, prod, flight := fl, bufs, orig := originOf q } (data.length + 1) data)))
  ∧ (∀ (q prod : Nat) (s : State), q < 48 → exec (.producerFlush q prod) s = .next (s.kept (s.fqClosePart q prod)))
  ∧ (∀ (q prod : Nat) (s : State), q < 48 → s.reg 0xE40 ≠ 0 → exec (.packTimeout q prod) s = .next (s.kept (s.fqClosePart q prod)))
  ∧ (∀ (q : Nat) (e : FqEntry) (l : List FqEntry) (s : State), q < 48 → s.qSound q = true → (s.fq q).ring = e :: l → (s.fq q).vis ≠ 0 →
    e.work = .none → exec (.consumerRead q false) s = .next (s.kept
      (((((s.fqPut q { s.fq q with ring := l, vis := (s.fq q).vis - 1, rd := ((s.fq q).rd + 1) % (2 * fqDepth q) }).spillMove q).fqResume q).qFreed q).queuePump q)))
  ∧ (∀ (q : Nat) (s : State), q < 48 → s.qSound q = true → s.qWork q ≠ .none → exec (.consumerRead q false) s = .next (s.kept ((s.qConsume q).queuePump q)))
  ∧ (∀ (q : Nat) (s : State), q < 48 → s.qSound q = true → fqMode q = 1 → (s.fq q).parts = [] → exec (.fqCommit q false) s = .next (s.kept
    (let all := (s.fq q).entries.take (s.fq q).vis ++ markPos ((s.fq q).entries.drop (s.fq q).vis)
     s.setFq q { (s.fq q).place (s.fq q).ring.length all with vis := all.length })))
  ∧ (∀ (q : Nat) (s : State), q < 48 → s.qSound q = true → fqMode q = 1 → exec (.fqRewind q false) s = .next (s.kept (s.fqRewindQ q)))
  ∧ (∀ (q : Nat) (s : State), q < 48 → s.qSound q = true → fqMode q = 2 → (s.fq q).slotOpen = false → (s.fq q).credits q 0 ≠ 0 →
    exec (.fqOpen q false) s = .next (s.kept
      (s.fqPut q { ((s.fq q).append q { data := natLE (fqW q) 0, vb := 8, lslot := true }) with slotOpen := true })))
  ∧ (∀ (q : Nat) (s : State), q < 48 → s.qSound q = true → fqMode q = 2 → (s.fq q).slotOpen = true →
    exec (.fqOpen q false) s = .next (s.kept (s.fabEvent F.FAB_EVT_PACK_ERR 5 q)))
  ∧ (∀ (q len : Nat) (s : State), q < 48 → s.qSound q = true → fqMode q = 2 → (s.fq q).slotOpen = true → (s.fq q).parts = [] →
    exec (.fqClose q len false) s = .next (s.kept
      (let body := ((s.fq q).entries.drop (s.fq q).vis).drop 1
      let total := body.foldl (fun n e => n + e.vb) 0
      let kept := keepBytes (min len total) body
      let all := (s.fq q).entries.take (s.fq q).vis ++ markPos ({ data := natLE 4 (min len total) ++ natLE 2 kept.length ++ natLE (fqW q - 6) 0, vb := 8, lslot := true } :: kept)
      let s2 := ((s.fqPut q { (s.fq q).place (s.fq q).ring.length all with vis := all.length, slotOpen := false }).spillTidy q).fqResume q
      if total < len then s2.fabEvent F.FAB_EVT_PACK_ERR 5 q else s2)))
  ∧ (∀ (q : Nat) (l : List Nat) (s s1 : State), fqSpill q = true → fqDepth q - (s.fq q).ring.length - (s.fq q).parts.length ≤ 8 →
    (s.fq q).bufs.length < s.spillCfg q → (s.fq q).spillOpen q = 0 → s.hmpRequest 7 1 false false = (.granted l, s1) →
    exec (.spillRequest q) s = .next (s.kept ((s1.setFq q { s1.fq q with bufs := (s1.fq q).bufs ++ l }).fqResume q)))

/-- Hamper rows take their effect: buffers are granted, retained, handed over, released by reference and by owner, withdrawn
requests leave the queue, the audit scans.
The rows: ALLOC_REQUEST, WAIT_WITHDRAW, REFERENCE_RELEASE, RETAIN, NAMED_OWNER_RELEASE, HANDOVER, AUDIT_SCAN.
Each clause says that `exec` answers the next state of the row's own effect, for every state and operands that meet its
hypotheses;
`s.kept E` is `E` with what no command changes. Where the manual leaves a point open the clauses follow log entries 9 (the
model's choices). -/
def Obligations.HamperRowsTakeEffect : Prop :=
  (∀ (owner n : Nat) (chain wait : Bool) (s s1 : State) (g : List Nat), owner ≤ 0x0D → 1 ≤ n → n ≤ 16 → (chain = true → 2 ≤ n) →
    s.hmpRequest owner n chain wait = (.granted g, s1) → exec (.allocRequest owner n chain wait) s = .next (s.kept
      { s1 with hmp := { s1.hmp with lastGrant := some g } }))
  ∧ (∀ (id : Nat) (s : State), exec (.waitWithdraw id) s = .next (s.kept (s.withdrawWhere (fun w => w.id == id))))
  ∧ (∀ (r who ecc : Nat) (s : State), s.refOk r = false → exec (.referenceRelease r who ecc) s = .next (s.kept (s.hmpRelease r who)))
  ∧ (∀ (r who ecc : Nat) (s : State), s.refOk r = true → exec (.referenceRelease r who ecc) s = .next (s.kept
    (if ecc = 2 then ((s.hmpEcc (refBuf r) ecc).hmpRelease r who).unitLost (s.hbuf (refBuf r)).cmd else (s.hmpEcc (refBuf r) ecc).hmpRelease r who)))
  ∧ (∀ (r who : Nat) (s : State), exec (.hmpRetain r who) s = .next (s.kept (s.hmpRetainRef r who).2))
  ∧ (∀ (owner b k : Nat) (s : State), exec (.namedOwnerRelease owner (some b) k) s = .next (s.kept (s.hmpNamed (b % 2048) owner)))
  ∧ (∀ (owner k : Nat) (s : State), exec (.namedOwnerRelease owner none k) s = .next (s.kept (s.hmpNamedCmd owner k)))
  ∧ (∀ (r frm dst : Nat) (s : State), exec (.hmpHandover r frm dst) s = .next (s.kept (s.hmpHand r frm dst).2))
  ∧ (∀ (corr : Nat) (s : State), s.get F.AUDIT_CFG_PERIOD ≠ 0 → exec (.auditScan corr []) s = .next (s.kept ((s.addF F.HMP_ERR_ECC_CORR corr).hmpEval.hmpScan)))

/-- Flash operation rows take their effect: raw programs, erases and reads are queued, operations are scheduled, suspended, ended
and timed out.
The rows: PROGRAM_RAW, ERASE_RAW, READ_RAW, DIE_OP_END, SCHEDULING_DECISION, SUSPEND_DECISION, DIE_TIMEOUT.
Each clause says that `exec` answers the next state of the row's own effect, for every state and operands that meet its
hypotheses;
`s.kept E` is `E` with what no command changes. Where the manual leaves a point open the clauses follow log entries 66, 70, 69,
68 (the model's choices). -/
def Obligations.FlashOperationRowsTakeEffect : Prop :=
  (∀ (k : Nat) (f : Flight) (s : State), s.canStart k 0x10 = some f →
    s.rawCheck (rawAddr f.bytes).1 (rawAddr f.bytes).2.1 (rawAddr f.bytes).2.2 (leAt f.bytes 19 1)
      (s.diePar (rawAddr f.bytes).1 (rawAddr f.bytes).2.1).tprog (bit (leAt f.bytes 18 1) 1) = none →
    (bit (leAt f.bytes 18 1) 0 = true ∨ s.guardAllows (rawAddr f.bytes).1 (rawAddr f.bytes).2.1
      ((rawAddr f.bytes).2.2 - (rawAddr f.bytes).2.2 % (s.die (rawAddr f.bytes).1 (rawAddr f.bytes).2.1).pages)
      ((rawAddr f.bytes).2.2 % (s.die (rawAddr f.bytes).1 (rawAddr f.bytes).2.1).pages) = true) →
    f.got = leAt f.bytes 19 1 * s.rawPage f → s.qOpen 1 1 0 = true →
    exec (.programRaw k) s = .next (s.kept ((s.startRun k { f with sent := 0, units := [] }).qPass 1 { flight := some k })))
  ∧ (∀ (k : Nat) (f : Flight) (s : State), s.canStart k 0x11 = some f →
    s.rawCheck (rawAddr f.bytes).1 (rawAddr f.bytes).2.1 (rawAddr f.bytes).2.2 1 (s.diePar (rawAddr f.bytes).1 (rawAddr f.bytes).2.1).tbers false = none →
    (rawAddr f.bytes).2.2 % (s.die (rawAddr f.bytes).1 (rawAddr f.bytes).2.1).pages = 0 → s.qOpen 1 1 0 = true → exec (.eraseRaw k) s = .next (s.kept
      (((s.startRun k f).qPass 1 { flight := some k }).addOp { ch := (rawAddr f.bytes).1, kind := 2, die := (rawAddr f.bytes).2.1, parts := [⟨(rawAddr f.bytes).2.2, .erase k, none, none⟩], prioQ := some f.qid })))
  ∧ (∀ (k : Nat) (f : Flight) (s s0 : State), s.canStart k 0x02 = some f → (s.die (rawAddr f.bytes).1 (rawAddr f.bytes).2.1).state = 1 →
    (s.die (rawAddr f.bytes).1 (rawAddr f.bytes).2.1).rowOk (rawAddr f.bytes).2.2 = true → leAt f.bytes 18 1 % 4 ≠ 0 →
    leAt f.bytes 24 4 + leAt f.bytes 28 4 ≤ (s.die (rawAddr f.bytes).1 (rawAddr f.bytes).2.1).pageBytes →
    s.regionOk (rawAddr f.bytes).1 ((s.die (rawAddr f.bytes).1 (rawAddr f.bytes).2.1).blockOf (rawAddr f.bytes).2.2) false = true → s.qOpen 1 1 0 = true →
    s.getBufs 8 k (moves (leAt f.bytes 28 4)) = (true, s0) → exec (.readRaw k) s = .next (s.kept
      (let u := s0.qPass 1 { flight := some k, bufs := ((s0.flight? k).map (·.bufs)).getD [] }
      (u.startRun k { (u.flight? k).getD f with want := 1 }).cwStart
        { use := .host k 0, ch := (rawAddr f.bytes).1, die := (rawAddr f.bytes).2.1, row := (rawAddr f.bytes).2.2, k := 0, rate := 0, cpp := 0, seed := 0, xtag := 0,
          flight := some k, prioQ := some f.qid, pass := leAt f.bytes 28 4 } (leAt f.bytes 24 4))))
  ∧ (∀ (k : Nat) (f : Flight) (s s0 : State), s.canStart k 0x02 = some f → (s.die (rawAddr f.bytes).1 (rawAddr f.bytes).2.1).state = 1 →
    (s.die (rawAddr f.bytes).1 (rawAddr f.bytes).2.1).rowOk (rawAddr f.bytes).2.2 = true → leAt f.bytes 18 1 % 4 = 0 →
    leAt f.bytes 24 4 + leAt f.bytes 28 4 ≤ 4096 * (s.layout (s.die (rawAddr f.bytes).1 (rawAddr f.bytes).2.1).cls).2 →
    s.layoutOk (s.die (rawAddr f.bytes).1 (rawAddr f.bytes).2.1).cls = true →
    s.regionOk (rawAddr f.bytes).1 ((s.die (rawAddr f.bytes).1 (rawAddr f.bytes).2.1).blockOf (rawAddr f.bytes).2.2) false = true → s.qOpen 1 1 0 = true →
    s.getBufs 8 k (moves (leAt f.bytes 28 4)) = (true, s0) → exec (.readRaw k) s = .next (s.kept
      (let u := s0.qPass 1 { flight := some k, bufs := ((s0.flight? k).map (·.bufs)).getD [] }
      (List.range (leAt f.bytes 28 4 / 4096)).foldl (fun (s : State) i =>
        s.readCw (.host k (4096 * i)) 0 (rawAddr f.bytes).1 (rawAddr f.bytes).2.1 (rawAddr f.bytes).2.2 (leAt f.bytes 24 4 / 4096 + i) 0 false (some k, (some f.qid, 0)))
        (u.startRun k { (u.flight? k).getD f with want := leAt f.bytes 28 4 / 4096 }))))
  ∧ (∀ (n x : Nat) (passed : Bool) (data : List (List Byte)) (v : OutSlot) (o : DieOp) (s : State), s.qSound (10 + n % 8) = true → s.slot? n x = some v → s.dop? v.op = some o →
    v.started.isSome = true → s.qOpen 34 1 n = true → o.reads = false →
    exec (.dieOpEnd n x passed data) s = .next (s.kept (((s.setSq n { s.sq n with slots := tdel (s.sq n).slots x }).dieAlive n v.die).opEnd v.op (if passed then 0 else 1))))
  ∧ (∀ (n : Nat) (s : State), n < 8 → s.works = true → s.therm.stop = false → s.chHold n = false → (s.chan n).training = false → s.tpHolds n = false →
    exec (.schedulingDecision n) s = .next (s.kept (((s.opMove n).cacheAll n).grantAll n 8)))
  ∧ (∀ (n i j : Nat) (o r : DieOp) (s : State), s.chOps n = [(i, o), (j, r)] → s.shouldSuspend o = true → r.reads = true → r.suspended = false →
    exec (.suspendDecision n) s = .next (s.kept (s.suspAsk o true)))
  ∧ (∀ (n i : Nat) (o : DieOp) (s : State), s.chOps n = [(i, o)] → s.shouldSuspend o = false → s.shouldResume o = true →
    exec (.suspendDecision n) s = .next (s.kept (s.suspAsk o false)))
  ∧ (∀ (i t : Nat) (o : DieOp) (s : State), s.dop? i = some o → o.started = some t → o.suspended = false → 2 * s.opMax o + o.susTime ≤ s.clock - t →
    (s.die o.ch o.die).lunReset = true → exec (.dieTimeout i) s = .next (s.kept
      (let u := s.dieReset o.ch o.die; (u.dop? i).elim u (fun a => u.timedOut i a))))

/-- Codec rows take their effect: a codeword is taken by an engine, a decode ends with its outcome or its next retry, a page is
encoded.
The rows: CODEWORD_TAKE, DECODE_END, ENCODE.
Each clause says that `exec` answers the next state of the row's own effect, for every state and operands that meet its
hypotheses;
`s.kept E` is `E` with what no command changes. Where the manual leaves a point open the clauses follow log entries 72 (the
model's choices). -/
def Obligations.CodecRowsTakeEffect : Prop :=
  (∀ (n c e : Nat) (w : Cw) (s : State), n < 8 → s.qSound (10 + n) = true → s.codecTakes = true → s.codecTurnOk n = true → s.qWork (10 + n) = .cw c → s.cw? c = some w →
    s.hardEngine = some e → w.phase = .landed → w.pass = 0 → s.codecHold = false → s.retryChainOk = true → s.chainStale w.buf 2 = none → w.soft = 0 → w.step ≠ 0 →
    exec (.codewordTake n) s = .next (s.kept (State.askDecode { s.qTake (10 + n) with codecTurn := (n + 1) % 8 } c e w)))
  ∧ (∀ (n c e : Nat) (w : Cw) (s : State), n < 8 → s.qSound (10 + n) = true → s.codecTakes = true → s.codecTurnOk n = true → s.qWork (10 + n) = .cw c → s.cw? c = some w →
    s.hardEngine = some e → w.phase = .landed → w.pass = 0 → s.codecHold = false → s.retryChainOk = true → s.chainStale w.buf 2 = none → w.soft = 0 → w.step = 0 →
    exec (.codewordTake n) s = .next (s.kept (let u := ({ s.qTake (10 + n) with codecTurn := (n + 1) % 8 } : State)
      if zeroBits (u.cwRaw w w.buf) ≤ s.get F.CODEC_CFG_ERASED_ZEROS then u.cwDone c w 3 w.buf else u.askDecode c e w)))
  ∧ (∀ (e iter unsat c : Nat) (w : Cw) (s : State), s.qSound 18 = true → s.qSound 35 = true → s.cws.find? (fun p => p.2.phase == .busy e) = some (c, w) → w.softRefs = [] →
    exec (.decodeEnd e iter unsat none) s = .next (s.kept
      ((((s.chargeEnd (.dec c)).stagePut w.buf 37 (natLE 1 iter ++ natLE 2 unsat)).hardFailed c w unsat).softAdvance)))
  ∧ (∀ (e iter unsat c : Nat) (x : List Byte) (w : Cw) (s : State), s.qSound 18 = true → s.qSound 35 = true → s.cws.find? (fun p => p.2.phase == .busy e) = some (c, w) → w.softRefs = [] →
    exec (.decodeEnd e iter unsat (some x)) s = .next (s.kept
      (let s0 := (s.chargeEnd (.dec c)).stagePut w.buf 37 (natLE 1 iter ++ natLE 2 unsat)
      if x.length ≠ cwBytes w.rate ∨ syndromeZero (cwParity w.rate) x = false then (s0.hardFailed c w unsat).softAdvance
      else if dcrcOk x = false then ((((s0.codecEvent 3 w).addF F.DEC_CNT_2_MISCORR 1)).hardFailed c w unsat).softAdvance
      else if leAt x 4096 4 ≠ w.xtag then (((s0.cwFreeOthers w w.buf).codecEvent 2 w).cwDone c w 9 w.buf).softAdvance
      else (s0.cwSuccess c w w.buf iter x (randomise w.seed (s0.cwRaw w w.buf)) (if w.step = 0 then 0 else 1)).softAdvance)))
  ∧ (∀ (k i : Nat) (f : Flight) (g : List Nat) (s s1 : State), s.flight? k = some f → leAt f.bytes 0 1 = 0x10 → f.run = true → f.fails = 0 → f.phase ≠ .ready →
    i < leAt f.bytes 19 1 → f.sent = i → s.qOpen 25 1 0 = true → s.opStall true = false →
    s.hmpRequest 3 (moves (s.die (rawAddr f.bytes).1 (rawAddr f.bytes).2.1).pageBytes)
      (decide (2 ≤ moves (s.die (rawAddr f.bytes).1 (rawAddr f.bytes).2.1).pageBytes)) false = (.granted g, s1) →
    exec (.codecEncode k i) s = .next (s.kept
      (let v := s.die (rawAddr f.bytes).1 (rawAddr f.bytes).2.1
      let p := s.flightPar f v.cls
      let enc := bit (leAt f.bytes 18 1) 1
      let size := if enc then 4096 * p.cpp else v.pageBytes
      let data := readBytes 0 f.data (size * i) size
      let img := if enc then pageImage p (rawAddr f.bytes).2.1 ((rawAddr f.bytes).2.2 + i) 1 v.pageBytes data else data
      ((((g.foldl (fun (u : State) r => u.setHbuf (refBuf r) { u.hbuf (refBuf r) with cmd := some k }) s1).chainPut g img).qPass 25 { flight := some k }).setFlight k
          { f with sent := i + 1, units := [(p.rate, p.cpp), (p.rnd, 0)] }).addOp
        { ch := (rawAddr f.bytes).1, kind := 1, die := (rawAddr f.bytes).2.1, parts := [⟨(rawAddr f.bytes).2.2 + i, .page k i, g.head?, none⟩], prioQ := some f.qid, len := v.pageBytes })))

/-- Asset map and read rows take their effect: translations are answered from the cache or start a fault, faults end, map writes and
flushes start, READ_ALB starts, frames are decrypted and decompressed.
The rows: TRANSLATE, MAP_FAULT_DONE, MAP_WRITE, MAP_FLUSH, READ_ALB, XTS_DECRYPT, FRAME_DECOMPRESS.
Each clause says that `exec` answers the next state of the row's own effect, for every state and operands that meet its
hypotheses;
`s.kept E` is `E` with what no command changes. Where the manual leaves a point open the clauses follow log entries 60, 58, 59
(the model's choices). -/
def Obligations.AssetMapRowsTakeEffect : Prop :=
  (∀ (k i : Nat) (f : Flight) (s s1 : State), s.qSound 1 = true → s.flight? k = some f → leAt f.bytes 0 1 = 0x01 → s.qWork 1 = .alb k → f.run = true → f.phase ≠ .ready → i < leAt f.bytes 24 2 →
    (List.range (i + 1)).map (fun j => f.units.any (fun u => u.1 == j)) = List.replicate i true ++ [false] → s.opStall false = false → s.faultFull (.host k i) = false →
    (s.setFlight k { f with units := tput f.units i 1 }).lookup (leAt f.bytes 16 1 % 16) (f.localAlb i) (.host k i) = some s1 →
    exec (.mapTranslate k i) s = .next (s.kept s1.q1Tidy))
  ∧ (∀ (c : Nat) (w : Cw) (s : State), s.qSound 35 = true → s.qWork 35 = .cw c → s.opStall false = false →
    s.qCan 36 (((s.map.faults.find? (fun f => f.cw == c)).map MapFault.streamWaits).getD 0) 0 = true → ((s.qTake 35).cwFlush).cw? c = some w →
    exec .mapFaultDone s = .next (s.kept (let s0 := (s.qTake 35).cwFlush
      let s1 := (if 0x10000 ≤ w.buf then s0 else (s0.hmpHand w.buf 3 2).2.hmpRelease w.buf 2).delCw c
      (s.map.faults.find? (fun f => f.cw == c)).elim s1 (fun f => (s1.faultEnd f w).dictPump))))
  ∧ (∀ (k : Nat) (f : Flight) (s : State), s.canStart k 0x12 = some f → f.got = 8 * leAt f.bytes 24 2 → s.qOpen 1 1 0 = true → s.mapWriteCheck f = none →
    exec (.mapWrite k) s = .next (s.kept (s.wbStart k f (s.wbPlan 4 s.map.pages
      (f.mapPages.filter (fun m => (s.mapPage? (leAt f.bytes 16 1 % 16) m).isNone)).length
      (256 - s.map.pages.length + (s.map.pages.filter (fun p => !p.dirty && !(p.vol == leAt f.bytes 16 1 % 16 && f.mapPages.contains p.page))).length) []))))
  ∧ (∀ (k : Nat) (f : Flight) (s : State), s.canStart k 0x13 = some f → s.qOpen 1 1 0 = true → bit (leAt f.bytes 16 1) 7 = true →
    exec (.mapFlush k) s = .next (s.kept (s.wbStart k f ((List.range 16).flatMap s.flushGroups))))
  ∧ (∀ (k : Nat) (f : Flight) (s : State), s.canStart k 0x13 = some f → s.qOpen 1 1 0 = true → bit (leAt f.bytes 16 1) 7 = false → s.isContent (leAt f.bytes 16 1 % 16) = true →
    exec (.mapFlush k) s = .next (s.kept (s.wbStart k f (s.flushGroups (leAt f.bytes 16 1 % 16)))))
  ∧ (∀ (k : Nat) (f : Flight) (s s0 : State), s.canStart k 0x01 = some f → s.isContent (leAt f.bytes 16 1 % 16) = true →
    leAt f.bytes 20 4 + leAt f.bytes 24 2 ≤ s.globalLen (leAt f.bytes 16 1 % 16) → s.localVol (leAt f.bytes 16 1 % 16) = true →
    s.noKey (leAt f.bytes 16 1 % 16) = false → s.qCan 1 1 0 = true → s.qOpen 23 1 0 = true →
    (let st := (List.range (leAt f.bytes 24 2)).foldl (fun (u : State) i => u.residentTidy (leAt f.bytes 16 1 % 16) (leAt f.bytes 20 4 + i)) s
     st.getBufs 8 k (leAt f.bytes 24 2 - ((List.range (leAt f.bytes 24 2)).filter (fun i =>
      ((st.residentAt (leAt f.bytes 16 1 % 16) (leAt f.bytes 20 4 + i)).bind (fun t => (st.stream t).bufOf (leAt f.bytes 20 4 + i))).any
        (fun r => decide ((st.hbuf (refBuf r)).ref < 15)))).length)) = (true, s0) →
    exec (.readAlb k) s = .next (s.kept (s0.startRead k (leAt f.bytes 16 1 % 16) (leAt f.bytes 20 4) (leAt f.bytes 24 2) f [])))
  ∧ (∀ (c : Nat) (w : Cw) (s : State), s.qSound 18 = true → s.qWork 18 = .cw c → s.cw? c = some w → s.secureCan w = true →
    exec .xtsDecrypt s = .next (s.kept ((s.qTake 18).secureOut c w).cwFlush))
  ∧ (∀ (j : Nat) (v : FrameJob) (b : Nat) (s : State), s.map.frames.find? (fun p => p.1 == j) = some (j, v) → v.ready = true → s.contexts.contains j = true → s.frameCan v = true → s.frameAwaits v = false → v.bad = some b →
    exec (.frameDecompress j) s = .next (s.kept (v.wants.foldl (fun (u : State) w => u.albArrive w.2 (b % 256) (b / 256) [])
      { s with map := { s.map with frames := tdel s.map.frames j } })))
  ∧ (∀ (j : Nat) (v : FrameJob) (s : State), s.map.frames.find? (fun p => p.1 == j) = some (j, v) → v.ready = true → s.contexts.contains j = true → s.frameCan v = true → s.frameAwaits v = false →
    v.bad = none → exec (.frameDecompress j) s = .next (s.kept (({ s with map := { s.map with frames := tdel s.map.frames j } } : State).frameOut v
      (if s.get F.VOL_CFG_COMP v.vol = 2 then s.lz4Frame ((List.range v.n).flatMap (fun i => tget [] v.got i)) v.n v.wants
        else s.zstdFrame ((List.range v.n).flatMap (fun i => tget [] v.got i)) v.wants))))

/-- Stream rows take their effect: streams open, take credit and close, prefetches are issued, resident buffers are pushed to the
host.
The rows: STREAM_OPEN, STREAM_CREDIT, STREAM_CLOSE, PREFETCH_ISSUE, STREAM_RESIDENT, PUSH.
Each clause says that `exec` answers the next state of the row's own effect, for every state and operands that meet its
hypotheses;
`s.kept E` is `E` with what no command changes. Where the manual leaves a point open the clauses follow log entries 61, 58 (the
model's choices). -/
def Obligations.StreamRowsTakeEffect : Prop :=
  (∀ (k t : Nat) (f : Flight) (s : State), s.canStart k 0x03 = some f → s.isContent (leAt f.bytes 16 1 % 16) = true → s.noKey (leAt f.bytes 16 1 % 16) = false →
    leAt f.bytes 20 4 + leAt f.bytes 24 4 ≤ s.globalLen (leAt f.bytes 16 1 % 16) → leAt f.bytes 20 4 < s.globalLen (leAt f.bytes 16 1 % 16) →
    leAt f.bytes 24 4 ≠ 0xFFFFFFFF → (List.range 32).find? (fun t => (s.stream t).state == 0) = some t → exec (.streamOpen k) s = .next (s.kept
      (((s.startRun k f).setStream t { state := 1, vol := leAt f.bytes 16 1 % 16, qid := f.qid, tag := f.tag, gen := f.gen, dptr := leAt f.bytes 8 8, ring := leAt f.bytes 32 4, first := leAt f.bytes 20 4, w := leAt f.bytes 20 4, next := leAt f.bytes 20 4, stop := leAt f.bytes 20 4 + leAt f.bytes 24 4, depth := leAt f.bytes 28 2, credit := leAt f.bytes 30 2 }).complete k 0 0 t)))
  ∧ (∀ (k : Nat) (f : Flight) (s : State), s.canStart k 0x04 = some f → (s.stream (leAt f.bytes 16 1 % 32)).state ≠ 0 → exec (.streamCredit k) s = .next (s.kept
    (((s.startRun k f).setStream (leAt f.bytes 16 1 % 32) { s.stream (leAt f.bytes 16 1 % 32) with credit := satAdd 65535 (s.stream (leAt f.bytes 16 1 % 32)).credit (leAt f.bytes 24 4) }).complete k 0 0
      (satAdd 65535 (s.stream (leAt f.bytes 16 1 % 32)).credit (leAt f.bytes 24 4)))))
  ∧ (∀ (k : Nat) (f : Flight) (s : State), s.canStart k 0x05 = some f → (s.stream (leAt f.bytes 16 1 % 32)).state ≠ 0 →
    (s.stream (leAt f.bytes 16 1 % 32)).closing = none → exec (.streamClose k) s = .next (s.kept
    (((s.startRun k f).setStream (leAt f.bytes 16 1 % 32) { s.stream (leAt f.bytes 16 1 % 32) with closing := some k }).closeWhenFree (leAt f.bytes 16 1 % 32))))
  ∧ (∀ (t : Nat) (s : State), (s.stream t).state = 1 → (s.stream t).closing = none → (s.stream t).next < min ((s.stream t).w + (s.stream t).depth) (s.stream t).stop →
    s.works = true → s.therm.stop = false → s.streamsHold = false → (s.stream t).flying.contains (s.stream t).next = true →
    exec (.prefetchIssue t) s = .next (s.kept (s.setStream t { s.stream t with next := (s.stream t).next + 1 })))
  ∧ (∀ (t r : Nat) (s s1 s3 : State), (s.stream t).state = 1 → (s.stream t).closing = none → (s.stream t).next < min ((s.stream t).w + (s.stream t).depth) (s.stream t).stop →
    s.works = true → s.therm.stop = false → s.streamsHold = false → (s.stream t).flying.contains (s.stream t).next = false →
    (s.stream t).resident.any (fun x => x.1 == (s.stream t).next) = false → (s.stream t).flying.length < s.get F.STR_CFG_PF_MAX →
    s.opStall false = false → s.qCan 36 1 0 = true → (s.stream t).bufOf (s.stream t).next = none →
    s.hmpRequest 6 1 false false = (.granted [r], s1) →
    (s1.setStream t { s.stream t with next := (s.stream t).next + 1, flying := (s.stream t).flying ++ [(s.stream t).next], bufs := tput (s.stream t).bufs (s.stream t).next r }).prefetchSend
      t (s.stream t).vol (s.stream t).next = some s3 → exec (.prefetchIssue t) s = .next (s.kept (s3.mapAhead t)))
  ∧ (∀ (x : Arrival) (s : State), s.qSound 36 = true → s.qWork 36 = .arrival x → exec .streamResident s = .next (s.kept ((s.qTake 36).arrive x)))
  ∧ (∀ (t : Nat) (a : Nat) (data : List Byte) (i : TxItem) (l : List TxItem) (s : State), (s.stream t).resident.find? (fun x => x.1 == (s.stream t).w) = some (a, data) →
    (s.stream t).state = 1 → (s.stream t).credit ≠ 0 → (s.stream t).closing = none → s.works = true → s.streamsHold = false →
    ((s.stream t).bufOf (s.stream t).w).any s.refOk = true → (s.stream t).xadm = true → s.qOpen 23 1 0 = true → s.pushItems t (s.stream t) data = i :: l →
    s.hostCanSend i = true → exec (.streamPush t) s = .next (s.kept
      (((((i :: l).foldl State.hostSend ((s.qPass 23 { orig := .stream, bufs := ((s.stream t).bufOf (s.stream t).w).toList }).chargeEnd (.push t))).setStream t
        { s.stream t with credit := (s.stream t).credit - 1, pushed := (s.stream t).pushed + 1, xadm := false }).sendProgress t).streamAdvance t ((s.stream t).w + 1))))
  ∧ (∀ (t : Nat) (a : Nat) (data : List Byte) (s : State), (s.stream t).resident.find? (fun x => x.1 == (s.stream t).w) = some (a, data) →
    (s.stream t).state = 1 → (s.stream t).credit ≠ 0 → (s.stream t).closing = none → s.works = true → s.streamsHold = false →
    ((s.stream t).bufOf (s.stream t).w).any s.refOk = true → (s.stream t).xadm = false → exec (.streamPush t) s = .next (s.kept (s.askPush t)))

/-- Content protection rows take their effect: authentication begins and ends, keys are loaded, provisioned, wrapped and sealed,
counters and imprints are handled.
The rows: AUTH_BEGIN, AUTH_FINISH, KEY_LOAD, IMPRINT_CHECK, IMPRINT_ENROL, COUNTER_INC.
Each clause says that `exec` answers the next state of the row's own effect, for every state and operands that meet its
hypotheses;
`s.kept E` is `E` with what no command changes. Where the manual leaves a point open the clauses follow log entries 63, 13, 14
(the model's choices). -/
def Obligations.ProtectionRowsTakeEffect : Prop :=
  (∀ (k : Nat) (f : Flight) (ok : Bool) (s : State), s.canStart k 0x20 = some f → leAt f.bytes 20 4 = 400 → leAt f.bytes 24 4 = 168 → f.got = 400 → s.secOpen = true →
    exec (.authBegin k ok) s = .next (s.kept ((((s.startRun k f).secJob k).setSession (leAt f.bytes 16 1 % 4) {}).authBegun k (leAt f.bytes 16 1 % 4) ok (f.dataBytes 400)
      ((((s.startRun k f).secJob k).setSession (leAt f.bytes 16 1 % 4) {}).authCheck (f.dataBytes 400)))))
  ∧ (∀ (k : Nat) (f : Flight) (s : State), s.canStart k 0x21 = some f → leAt f.bytes 20 4 = 96 → leAt f.bytes 24 4 = 256 → f.got = 96 → s.secOpen = true →
    (s.session (leAt f.bytes 16 1 % 4)).st = 1 → s.get F.AUTH_CFG_AUTH_TMO = 0 → exec (.authFinish k true) s = .next (s.kept
      (let v := s.session (leAt f.bytes 16 1 % 4)
      let s1 := (s.startRun k f).secJob k
      if Config.ecdsaP384 v.cpub (Config.sha384 v.script) (f.dataBytes 96) = false then
        ((s1.setSession (leAt f.bytes 16 1 % 4) {}).authFail (leAt f.bytes 16 1 % 4) 0x22).complete k 0x14 0x22
      else
        let kmac := kdf (Config.ecdhP256 v.eph v.qc) "UZ-SESSION" (sliceB v.script 311 32 ++ sliceB v.script 407 32) 256
        let head := (List.range 16).flatMap (fun i => natLE 8 (s.ctrValue i)) ++ natLE 1 s.lifecycle ++ natLE 1 (s.get F.PROT_STAT_VERIFIED) ++ natLE 30 0
        let out := head ++ Config.ecdsaP256Sign s.devPriv (Config.sha256 (ascii "UZAUTH2" ++ Config.sha384 v.script ++ f.dataBytes 96 ++ head)) s1.freeN ++ Config.hmacSha256 kmac (ascii "UZ-CONFIRM" ++ Config.sha384 v.script)
        ((((s1.takeFree.2.setSession (leAt f.bytes 16 1 % 4) { st := 2, kmac, flags := v.flags }).set F.PROT_STAT_AUTH_FAILS 0).protEvent 0 (leAt f.bytes 16 1 % 4)).svcOut k 256).deliver k 0 0 0 out)))
  ∧ (∀ (k : Nat) (f : Flight) (ok : Bool) (s : State), s.canStart k 0x21 = some f → leAt f.bytes 20 4 = 96 → leAt f.bytes 24 4 = 256 → f.got = 96 → s.secOpen = true →
    (s.session (leAt f.bytes 16 1 % 4)).st ≠ 1 → exec (.authFinish k ok) s = .next (s.kept (((s.startRun k f).secJob k).complete k 0x15 0x23)))
  ∧ (∀ (k : Nat) (f : Flight) (s : State), s.canStart k 0x22 = some f → leAt f.bytes 20 4 = 404 → f.got = 404 → s.secOpen = true → leAt (f.dataBytes 404) 0 1 < 4 →
    leAt (f.dataBytes 404) 1 3 = 0 → s.isContent (leAt f.bytes 16 1 % 16) = true → exec (.keyLoad k) s = .next (s.kept
      (((s.startRun k f).secJob k).keyEnd k (leAt (f.dataBytes 404) 0 1) (leAt f.bytes 16 1 % 16) (leAt f.bytes 17 1 % 16) (s.keyCheck (leAt (f.dataBytes 404) 0 1) (f.dataBytes 404)))))
  ∧ (∀ (k : Nat) (f : Flight) (s : State), s.canStart k 0x23 = some f → bit (leAt f.bytes 16 1) 0 = false → s.prot.job = none → s.secOpen = true → 2 ≤ s.lifecycle →
    exec (.imprintCheck k) s = .next (s.kept (s.impRecord.elim (((s.startRun k f).secJob k).complete k 0x14 0x2E) (fun l =>
      let dies := ((List.range (impDies l)).map (fun i => (leAt l (16 + 34 * i) 1, leAt l (17 + 34 * i) 1))).filter
        (fun d => leAt f.bytes 20 1 == 0 || bit (leAt f.bytes 20 1) d.1)
      let bad := ((withIdx dies).filter (fun p => (s.die p.2.1 p.2.2).state != 1)).map (·.1)
      let j : ImpJob := { flight := k, enrol := false, dies, bad }
      let s2 := (withIdx dies).foldl (fun (u : State) p => if bad.contains p.1 then u else u.sweepStart k p.1 0 p.2)
        (((s.startRun k f).secJob k).setJob (some j))
      if j.swept [0] then s2.checkEnd j else s2))))
  ∧ (∀ (k : Nat) (o : List PsOutcome) (f : Flight) (s : State) (all : List (Nat × Nat)), s.canStart k 0x23 = some f → bit (leAt f.bytes 16 1) 0 = true →
    s.prot.job = none → s.secOpen = true → s.enrolCheck (leAt f.bytes 20 1) = none →
    all = (setBits (leAt f.bytes 20 1) 8).flatMap (fun n => (s.diesInUse n).map (fun d => (n, d))) → all ≠ [] →
    (all.take 64).any (fun d => decide ((s.die d.1 d.2).pageBytes < 8192) || s.impOverlap d) = false →
    exec (.imprintEnrol k o) s = .next (s.kept (let s1 := (s.startRun k f).secJob k
      (withIdx (all.take 64)).foldl (fun (u : State) p => u.impOp k (128 * p.1 + 64) 2 0 0 p.2)
      ((s1.setFlight k { (s1.flight? k).getD f with opsTotal := 2 * (all.take 64).length }).setJob
        (some { flight := k, enrol := true, dies := all.take 64, leftOut := all.length - 64 })))))
  ∧ (∀ (k : Nat) (o : List PsOutcome) (j : ImpJob) (s : State), s.canStart k 0x23 = none → s.prot.job = some j → j.flight = k → j.enrol = true →
    (j.failed = true ∨ j.swept [0, 1] = true) → s.dops.all (fun p => !s.opServes k p.2) = true →
    exec (.imprintEnrol k o) s = .next (s.kept (s.enrolEnd j o)))
  ∧ (∀ (k : Nat) (o : List PsOutcome) (f : Flight) (s s3 : State), s.canStart k 0x24 = some f → s.kmemOpen = true → s.prot.sessions.all (fun p => !(p.2.st == 2 && bit p.2.flags 2)) = false →
    s.ctrValue (leAt f.bytes 16 1 % 16) ≠ 2 ^ 64 - 1 →
    (((((s.startRun k f).kmemAsk k).kmemTell k).logStarted k).withPs o).psWrite (0x83400 + 32 * (leAt f.bytes 16 1 % 16) + 16 * s.ctrTarget (leAt f.bytes 16 1 % 16))
      (natLE 8 (s.ctrValue (leAt f.bytes 16 1 % 16) + 1) ++ natLE 4 (crc32 (natLE 8 (s.ctrValue (leAt f.bytes 16 1 % 16) + 1))) ++ natLE 4 0) = (true, s3) →
    exec (.counterInc k o) s = .next (s.kept (((s3.logOpDone k).protEvent 6 (leAt f.bytes 16 1 % 16 +
      (s.ctrValue (leAt f.bytes 16 1 % 16) + 1) % 2 ^ 32 * 2 ^ 32)).complete k 0 0 ((s.ctrValue (leAt f.bytes 16 1 % 16) + 1) % 2 ^ 32))))
  ∧ (∀ (k : Nat) (o : List PsOutcome) (f : Flight) (s : State), s.canStart k 0x24 = some f → s.kmemOpen = true → s.prot.sessions.all (fun p => !(p.2.st == 2 && bit p.2.flags 2)) = true →
    exec (.counterInc k o) s = .next (s.kept ((((s.startRun k f).kmemAsk k).kmemTell k).complete k 0x15 0x24)))

/-- Event router, watchdog, debug, ledger refill and commit rows take their effect: events are posted, offered, served and sent,
watchdogs are served, warn and expire, SVC is halted and resumed, the ledger is refilled, staged registers are applied at their
boundary.
The rows: EVENT_POST, ARBITRATION_ROUND, SVC_END_SERVICE, HF_EVT_SEND, WD0_SERVICE, WD_LATE, WD_WARN, SVC_DEBUG_HALT,
SVC_DEBUG_RESUME, COMMIT_APPLY, COMMIT_HOLD, LEDGER_UPDATE.
Each clause says that `exec` answers the next state of the row's own effect, for every state and operands that meet its
hypotheses;
`s.kept E` is `E` with what no command changes. Where the manual leaves a point open the clauses follow log entries 87, 89, 88
(the model's choices). -/
def Obligations.RouterWatchdogAndCommitRowsTakeEffect : Prop :=
  (∀ (n data : Nat) (s : State), n < 384 → exec (.eventPost n data) s = .next (s.kept (s.post n data)))
  ∧ (∀ s : State, exec (.arbitrationRound false) s = .next (s.kept (State.hostCopy { s with router := { s.router with offer := (List.range 8).filterMap (fun n => (s.offerOf (n + 1)).map (fun e => (n + 1, e))) } })))
  ∧ (∀ (n : Nat) (s : State), s.svcNest.any (fun p => p.1 == n) = true → exec (.svcEndService n) s = .next (s.kept
    (State.evEnd { s with svcNest := s.svcNest.filter (fun p => p.1 != n) } n)))
  ∧ (∀ (e : HfEntry) (l : List HfEntry) (s : State), s.router.hfq = e :: l → s.cascRole ≠ 2 → s.pcieMode = false → s.hostCanSend e.frame = true →
    exec .hfEvtSend s = .next (s.kept (({ s with router := { s.router with hfq := l } } : State).hostSend e.frame)))
  ∧ (∀ s : State, exec .wd0Service s = .next (s.kept (s.wdService 0)))
  ∧ (∀ (k : Nat) (s : State), s.wdIsLate k = true → exec (.wdLate k) s = .next (s.kept (s.wdFail none s.lateWds)))
  ∧ (∀ (k : Nat) (s : State), (s.wd k).run = true → s.wdEnabled k = true → (s.wd k).frozen = false → (s.wd k).warned = false → s.get F.WD_CTL_WARN ≠ 0 →
    10 * ((s.wd k).max - s.get F.WD_CTL_WARN) ≤ (s.wd k).elapsed → exec (.wdWarn k) s = .next (s.kept ((s.setWd k { s.wd k with warned := true }).post 12 k)))
  ∧ (∀ s : State, s.get F.GLB_STAT_SVC_HALT ≠ 1 → exec .svcDebugHalt s = .next (s.kept ((s.set F.GLB_STAT_SVC_HALT 1).wdFreeze 0 true)))
  ∧ (∀ s : State, s.get F.GLB_STAT_SVC_HALT ≠ 0 → exec .svcDebugResume s = .next (s.kept ((s.set F.GLB_STAT_SVC_HALT 0).wdFreeze 0 false)))
  ∧ (∀ (g : Nat) (accept : Bool) (res : List Eye) (s : State), s.boundaryOk g = true → s.commitPending g = true →
    exec (.commitApply g accept res) s = .next (s.kept (let u := (s.applyGroup g accept res).commitEnd g 1
      if 2 ≤ g ∧ g < 10 then u.calBoundary (g - 2) else u)))
  ∧ (∀ (g t : Nat) (s : State), s.port.pend.find? (fun p => p.1 == g) = some (g, t) → s.get F.CMT_CFG_HOLD_AFTER ≠ 0 →
    s.get F.CMT_CFG_HOLD_AFTER * 1000 ≤ s.clock - t → g < 2 → s.port.hold.contains g = false →
    exec (.commitHold g) s = .next (s.kept { s with port := { s.port with hold := s.port.hold ++ [g] } }))
  ∧ (∀ (vT : Nat) (diff : Int) (onDie : Nat) (s : State), s.rt.on = true → exec (.ledgerUpdate vT diff onDie) s = .next (s.kept (ledgerMove vT diff onDie (s.commitNow 0x0D))))

/-- Agilnu Link training rows take their effect: the training states move with the ordered sets received and the timeouts, the link
enters L0, L1 and L2, is reset and retrained.
The rows: AGL_DETECT_QUIET_END, TS1, TS2, AGL_TRAINING_TIMEOUT, IDL_BYTES_RECEIVED, EQUALISATION, SKP, ALN, SKP_ALN_INTERVAL,
EIOS, EIEOS, ELECTRICAL_IDLE_EXIT, ENTER_L1, ENTER_L2, LINK_CTL_RESET, LINK_CTL_RETRAIN.
Each clause says that `exec` answers the next state of the row's own effect, for every state and operands that meet its
hypotheses;
`s.kept E` is `E` with what no command changes. Where the manual leaves a point open the clauses follow log entries 92, 93, 94,
96, 98 (the model's choices). -/
def Obligations.AgilnuLinkTrainingRowsTakeEffect : Prop :=
  (∀ (l found : Nat) (s : State), l < 3 → (s.lnk l).state = 1 → maskOf ((setBits found (s.laneCount l)).filter (bit (s.laneMask l))) ≠ 0 →
    exec (.aglDetectQuietEnd l found) s = .next (s.kept ((s.setLnk l { s.lnk l with state := 3, trained := maskOf ((setBits found (s.laneCount l)).filter (bit (s.laneMask l))), pol := 0, cnt := [] }).sendSets l)))
  ∧ (∀ (l : Nat) (sets : List (Nat × TsSet)) (s : State), exec (.ts1 l sets) s = .next (s.kept (s.tsIn false l sets)))
  ∧ (∀ (l : Nat) (sets : List (Nat × TsSet)) (s : State), exec (.ts2 l sets) s = .next (s.kept (s.tsIn true l sets)))
  ∧ (∀ (l : Nat) (s : State), l < 3 → ((s.lnk l).state = 3 ∨ (s.lnk l).state = 4 ∨ (s.lnk l).state = 5) → exec (.aglTrainingTimeout l) s = .next (s.kept (s.toQuiet l)))
  ∧ (∀ (l : Nat) (s : State), l < 3 → (s.lnk l).state = 9 → exec (.aglTrainingTimeout l) s = .next (s.kept (s.linkDown l)))
  ∧ (∀ (l : Nat) (s : State), l < 3 → (s.lnk l).state = 5 → 2 ≤ (s.lnk l).ts → exec (.idlBytesReceived l) s = .next (s.kept (s.enterL0 l true)))
  ∧ (∀ (l : Nat) (s : State), l < 3 → (s.lnk l).state = 9 → exec (.idlBytesReceived l) s = .next (s.kept (s.enterL0 l false)))
  ∧ (∀ (l : Nat) (asks asked : List Nat) (s : State), l < 3 → (s.lnk l).state = 8 → exec (.equalisation l asks asked false) s = .next (s.kept (s.genFails l)))
  ∧ (∀ (l : Nat) (asks asked : List Nat) (s u : State), l < 3 → (s.lnk l).state = 8 → s.get F.AGL_EQ_FIXED = 1 →
    u = ((s.eqSets l 0 (fun _ t => t)).eqSets l 1 (fun _ t => t)).eqSets l 3 (fun k t => { t with preset := listGet 0 asked k % 8 }) →
    exec (.equalisation l asks asked true) s = .next (s.kept ((u.setLnk l
      { u.lnk l with eqDone := (s.lnk l).eqDone ||| (1 <<< ((s.lnk l).gen - 1)), presets := (List.range 4).foldl (fun n k => n + (if bit (s.lnk l).active k then listGet 0 asked k % 8 else 0) * 16 ^ k) 0 }).toIdle l)))
  ∧ (∀ (l : Nat) (s : State), exec (.skp l) s = .next (s.kept s))
  ∧ (∀ s : State, s.agl.state = 6 → exec (.aln 0) s = .next (s.kept (s.commitNow 0)))
  ∧ (∀ (l : Nat) (s : State), l = 1 ∨ l = 2 → (s.lnk l).state = 6 → s.boundaryOk 1 = true → exec (.aln l) s = .next (s.kept (s.commitNow 1)))
  ∧ (∀ (l : Nat) (s : State), l < 3 → (s.lnk l).state = 6 → (s.lnk l).alnTurn = false → s.upperEnd l = false → exec (.skpAlnInterval l) s = .next (s.kept
    ((s.setLnk l { s.lnk l with alnTurn := true }).setAll l 0xAA (List.replicate 12 0xAA ++ [0xE1, 0, 0, 0]))))
  ∧ (∀ (l : Nat) (s : State), l < 3 → (s.lnk l).state = 6 → (s.lnk l).pm ≠ 0 → s.linkQueued l = false → exec (.eios l) s = .next (s.kept
    (s.setLnk l { s.lnk l with state := if (s.lnk l).pm = 1 then 0xA else 0xB, pm := 0 })))
  ∧ (∀ (l : Nat) (s : State), l < 3 → (s.lnk l).state = 7 → (s.lnk l).chgTo ≠ 0 → exec (.eios l) s = .next (s.kept
    (((s.setLnk l { s.lnk l with gen := (s.lnk l).chgTo, prevGen := (s.lnk l).gen, chgTo := 0, newRate := true, cnt := [], presets := 0 }).aglEvt l F.AGL_EVT_RATE_CHG).sendSets l)))
  ∧ (∀ (l : Nat) (s : State), l < 3 → (s.lnk l).state = 0xA → exec (.eieos l) s = .next (s.kept ((s.setLnk l ((s.lnk l).lock 0)).sendSets l)))
  ∧ (∀ (l : Nat) (s : State), l < 3 → (s.lnk l).state = 0xB → exec (.electricalIdleExit l) s = .next (s.kept (s.toQuiet l)))
  ∧ (∀ (l : Nat) (s : State), exec (.enterL1 l) s = .next (s.kept (s.pmRequest l 1)))
  ∧ (∀ (l : Nat) (s : State), exec (.enterL2 l) s = .next (s.kept (s.pmRequest l 2)))
  ∧ (∀ (s s1 : State), s.agl.state = 6 → s.ctlFirst 0 = (true, s1) → exec .linkCtlReset s = .next (s.kept (s1.orderlyStart .host)))
  ∧ (∀ (l : Nat) (s s1 : State), l < 3 → (s.lnk l).state = 6 → s.ctlFirst l = (true, s1) → exec (.linkCtlRetrain l) s = .next (s.kept (s1.linkRecover l 0)))

/-- Agilnu Link frame rows take their effect: frames are acknowledged, replayed, counted when broken, and credits are granted.
The rows: MALFORMED_FRAME, FRAMING_ERROR, FRAME_CRC_FAIL, ACK_TIMER, ACK, NAK, REPLAY_TIMER, CREDIT, CREDIT_REFRESH.
Each clause says that `exec` answers the next state of the row's own effect, for every state and operands that meet its
hypotheses;
`s.kept E` is `E` with what no command changes. Where the manual leaves a point open the clauses follow log entries 95, 99 (the
model's choices). -/
def Obligations.AgilnuLinkFrameRowsTakeEffect : Prop :=
  (∀ (l typ : Nat) (s : State), l < 3 → ¬ (l = 0 ∧ s.pcieMode = true) → (s.lnk l).state = 6 → exec (.malformedFrame l typ none) s = .next (s.kept (s.malformed l)))
  ∧ (∀ (l : Nat) (s : State), l < 3 → ¬ (l = 0 ∧ s.pcieMode = true) → (s.lnk l).state = 6 → exec (.framingError l) s = .next (s.kept
    (((if l = 0 then s.addF F.AGL_ERR_0_CRC_ERRS 1 else s).ackSend l 0x12).linkRecover l 0)))
  ∧ (∀ (l : Nat) (s : State), l < 3 → ¬ (l = 0 ∧ s.pcieMode = true) → (s.lnk l).state = 6 → exec (.frameCrcFail l) s = .next (s.kept ((if l = 0 then s.addF F.AGL_ERR_0_CRC_ERRS 1 else s.fqRewindQ 43).ackSend l 0x12)))
  ∧ (∀ (l : Nat) (s : State), l < 3 → (s.lnk l).state = 6 → 0 < (s.lnk l).unacked → exec (.ackTimer l) s = .next (s.kept (s.ackSend l 0x11)))
  ∧ (∀ (l seq : Nat) (v : Link) (s : State), l < 3 → ¬ (l = 0 ∧ s.pcieMode = true) → (s.lnk l).state = 6 → (s.lnk l).acked seq = some v → exec (.aglAck l seq) s = .next (s.kept
    ((s.setLnk l v).linkFlush l (v.tx.length + 1))))
  ∧ (∀ (l seq : Nat) (v : Link) (s : State), l < 3 → ¬ (l = 0 ∧ s.pcieMode = true) → (s.lnk l).state = 6 → (s.lnk l).acked seq = some v → exec (.aglNak l seq) s = .next (s.kept
    ((((s.setLnk l v).countReplay l).resend l v.retry).linkFlush l (v.tx.length + 1))))
  ∧ (∀ (l : Nat) (s : State), l < 3 → ¬ (l = 0 ∧ s.pcieMode = true) → (s.lnk l).state = 6 → (s.lnk l).retry ≠ [] → (s.lnk l).tries < s.get F.AGL_REPLAY_REPLAY_MAX →
    exec (.replayTimer l) s = .next (s.kept (((s.setLnk l { s.lnk l with tries := (s.lnk l).tries + 1 }).countReplay l).resend l (s.lnk l).retry)))
  ∧ (∀ (l : Nat) (s : State), l < 3 → ¬ (l = 0 ∧ s.pcieMode = true) → (s.lnk l).state = 6 → (s.lnk l).retry ≠ [] → s.get F.AGL_REPLAY_REPLAY_MAX ≤ (s.lnk l).tries → 2 ≤ (s.lnk l).recov →
    exec (.replayTimer l) s = .next (s.kept (((s.setLnk l { s.lnk l with tries := 0, recov := (s.lnk l).recov + 1 }).linkRecover l 0).linkDown l)))
  ∧ (∀ (limit : Nat) (s : State), (s.lnk 0).state = 6 → exec (.aglCredit 0 2 limit) s = .next (s.kept
    ((s.setLnk 0 { s.lnk 0 with ctlLimit := limit % 4096 }).linkFlush 0 ((s.lnk 0).tx.length + 1))))
  ∧ (∀ (limit : Nat) (s : State), (s.lnk 0).state = 6 → exec (.aglCredit 0 3 limit) s = .next (s.kept
    ((s.setLnk 0 { s.lnk 0 with rdatLimit := limit % 4096 }).linkFlush 0 ((s.lnk 0).tx.length + 1))))
  ∧ (∀ s : State, (s.lnk 0).state = 6 → s.st ≠ stTrailhead → exec (.creditRefresh 0) s = .next (s.kept (s.linkFrame 0 0x13 ([1] ++ natLE 2 (s.lnk 0).cmdLimit))))

/-- Cascade control rows take their effect: members join, are answered, reset, removed, pinged and lost, and shares are received.
The rows: JOIN, JOIN_REPEAT, JOIN_ACK, CASCADE_RESET_ORDER, REMOVE, PING_TIMER, PING, PONG, MEMBER_LOST, SHARE.
Each clause says that `exec` answers the next state of the row's own effect, for every state and operands that meet its
hypotheses;
`s.kept E` is `E` with what no command changes. Where the manual leaves a point open the clauses follow log entries 105, 106,
107, 90 (the model's choices). -/
def Obligations.CascadeControlRowsTakeEffect : Prop :=
  (∀ (h : CHead) (uid : List Byte) (sviVer state form epoch : Nat) (s s1 : State),
    s.cascCtlRx h 1 1 [] (sliceB uid 0 8 ++ natLE 2 sviVer ++ natLE 1 state ++ natLE 1 form ++ natLE 2 epoch ++ [0, 0]) = (true, s1) →
    s1.st ≠ stTrailhead → 1 ≤ h.src → h.src ≤ 3 → s1.joinRefusal h.src uid sviVer state epoch = 0 →
    (let u := ((((s1.setMember h.src { s1.member h.src with sviVer, state, form := form % 2 == 1, joined := true, uid, pongAt := s1.clock }).joinAckSend h.src 0).cascShare).postBit F.CASC_EVT_SRC 352 0
      (h.src + state * 256))
    u.st ≠ stRemoving → exec (.cascJoin h uid sviVer state form epoch) s = .next (s.kept u)))
  ∧ (∀ (at_ : Nat) (s : State), s.casc.joinAt = some at_ → 1000 ≤ s.clock - at_ → exec .cascJoinRepeat s = .next (s.kept s.joinSend))
  ∧ (∀ (h : CHead) (epoch reason : Nat) (s s1 : State), s.cascCtlRx h 2 2 [] (natLE 2 epoch ++ natLE 1 1 ++ natLE 1 reason) = (true, s1) →
    exec (.cascJoinAck h epoch true reason) s = .next (s.kept { s1 with casc := { s1.casc with joinAt := none, accepted := true, epoch := epoch % 65536 } }))
  ∧ (∀ (h : CHead) (s s1 : State), s.cascCtlRx h 2 3 [] [] = (true, s1) → exec (.cascadeResetOrder h) s = .next (s.kept (s1.orderlyStart .cascade)))
  ∧ (∀ (h : CHead) (src reason : Nat) (s s1 : State), s.cascCtlRx h 2 4 [] [] = (true, s1) → s1.live = true → s1.st ≠ stRemoving →
    exec (.cascRemove h src reason) s = .next (s.kept (s1.removalStart (src % 4) (reason % 16))))
  ∧ (∀ s : State, s.cascRole = 1 → 100 ≤ s.clock - s.casc.pingAt → exec .cascPingTimer s = .next (s.kept
    (s.joinedMembers.foldl (fun (u : State) m => u.cascCtl 5 m [] []) { s with casc := { s.casc with pingAt := s.clock } })))
  ∧ (∀ (h : CHead) (s s1 : State), s.cascCtlRx h 2 5 [] [] = (true, s1) → exec (.cascPing h) s = .next (s.kept (s1.cascCtl 6 0 [] [])))
  ∧ (∀ (h : CHead) (s s1 : State), s.cascCtlRx h 1 6 [] [] = (true, s1) → s1.joined h.src = true →
    exec (.cascPong h) s = .next (s.kept (s1.setMember h.src { s1.member h.src with pongAt := s1.clock })))
  ∧ (∀ (m : Nat) (beyond : List Nat) (s : State), s.joined m = true → 500 ≤ s.clock - (s.member m).pongAt → exec (.memberLost m false beyond) s = .next (s.kept
    (beyond.foldl (fun (u : State) j => u.loseMember j 6) (s.loseMember m 5))))
  ∧ (∀ (h : CHead) (refill burst hu : Nat) (s s1 : State), s.cascCtlRx h 2 7 [] (natLE 2 refill ++ natLE 1 burst ++ [0] ++ natLE 2 hu ++ [0, 0]) = (true, s1) →
    exec (.cascShare h refill burst hu) s = .next (s.kept { s1 with rt := { s1.rt with share := some (refill % 65536, (burst % 256, hu % 65536)) } }))

/-- Cascade data rows take their effect: requests of the master run on the member, data and completions return to the master, events
are forwarded.
The rows: C_REQ_VOL_READ, C_REQ_CMD, C_DATA, C_CPL, C_EVT, C_DREQ.
Each clause says that `exec` answers the next state of the row's own effect, for every state and operands that meet its
hypotheses;
`s.kept E` is `E` with what no command changes. Where the manual leaves a point open the clauses follow log entries 108, 109,
103 (the model's choices). -/
def Obligations.CascadeDataRowsTakeEffect : Prop :=
  (∀ (h : CHead) (xid prio vol alb count : Nat) (s s1 : State), s.cascRx h 0x31 (cReqHeader 1 xid prio vol alb) (natLE 4 count) = (true, s1) → s.cascRole = 2 →
    (let s2 := (s1.setQp (64 + prio % 8) { prio := prio % 8 }).setXid s1.cascFlight xid
     let s3 := s2.setFlight s1.cascFlight { s2.newFlight (64 + prio % 8) (volReadBytes vol alb count) with mutates := false }
     s3.cascRefusal = none → exec (.cReqVolRead h xid prio vol alb count) s = .next (s.kept (readAlb s1.cascFlight s3))))
  ∧ (∀ (h : CHead) (xid prio : Nat) (cmd : List Byte) (s s1 : State), s.cascRx h 0x31 (cReqHeader 2 xid prio 0 0) cmd = (true, s1) → s.cascRole = 2 →
    (s1.qp (bits (leAt cmd 4 1) 0 6)).st ≠ .absent → (s1.setXid s1.cascFlight xid).cascRefusal = none →
    (let c := sliceB cmd 0 4 ++ [0, 0] ++ sliceB cmd 6 58
     let s3 := s1.setXid s1.cascFlight xid
     exec (.cReqCmd h xid prio cmd) s = .next (s.kept (s3.admitCmd (bits (leAt cmd 4 1) 0 6) s1.cascFlight c (s3.newFlight (bits (leAt cmd 4 1) 0 6) c)))))
  ∧ (∀ (h : CHead) (xid off : Nat) (last : Bool) (data : List Byte) (s s1 : State),
    s.cascRx h 0x32 ([0, 0] ++ natLE 2 xid ++ natLE 1 (b2n last) ++ [0] ++ natLE 4 off) data = (true, s1) → s1.cascRole = 1 →
    exec (.cData h xid off last data) s = .next (s.kept { s1 with casc := { s1.casc with runs := s1.casc.runs.map (fun (r : CRun) => if r.dev = h.src ∧ r.xid = xid then { r with data := writeBytes 0 r.data off data, got := max r.got (off + data.length) } else r) } }))
  ∧ (∀ (h : CHead) (xid off k x : Nat) (last : Bool) (data : List Byte) (s s1 : State),
    s.cascRx h 0x32 ([0, 0] ++ natLE 2 xid ++ natLE 1 (b2n last) ++ [0] ++ natLE 4 off) data = (true, s1) → s1.cascRole ≠ 1 →
    s1.casc.xids.find? (fun p => p.2 == xid) = some (k, x) → exec (.cData h xid off last data) s = .next (s.kept (s1.dataIn k off data).2))
  ∧ (∀ (h : CHead) (xid k : Nat) (offs : List Nat) (entry : List Byte) (r : CRun) (s s1 : State), s.cascRx h 0x33 ([0, 0] ++ natLE 2 xid) entry = (true, s1) →
    s1.casc.runs.find? (fun r => r.dev == h.src && r.xid == xid) = some r → r.use = .host k offs → exec (.cCpl h xid entry) s = .next (s.kept
      (({ s1 with casc := { s1.casc with runs := s1.casc.runs.filter (fun x => !(x.dev == h.src && x.xid == xid)) } } : State).runEnds k r offs entry)))
  ∧ (∀ (h : CHead) (source prio : Nat) (data : List Byte) (s s1 : State), s.cascRx h 0x34 ([0, 0] ++ natLE 2 source ++ natLE 1 prio) data = (true, s1) →
    s1.cascRole = 1 → h.src ≠ 0 → exec (.cEvt h source prio data) s = .next (s.kept (s1.postBit F.CASC_EVT_SRC 352 (1 + h.src)
      (source % 1024 + prio % 16 * 2 ^ 16 + h.src % 4 * 2 ^ 20 + leAt data 0 4 * 2 ^ 32))))
  ∧ (∀ (h : CHead) (xid off len k : Nat) (f : Flight) (r : CRun) (s s1 : State), s.cascCtlRx h 1 8 (natLE 2 xid) (natLE 4 off ++ natLE 4 len) = (true, s1) →
    s1.casc.runs.find? (fun r => r.dev == h.src && r.xid == xid) = some r → r.use = .cmd k → s1.flight? k = some f →
    exec (.cDreq h xid off len) s = .next (s.kept (s1.setFlight k { f with want := max f.want (off + len) })))

/-- Calibration and thermal rows take their effect: sensors are sampled, trainings and tracking end, lanes adapt, staleness and
automatic saving, the grace time ends.
The rows: TRAINING_END, TRACKING_MEASUREMENT, STALE_TIMEOUT, LANE_ADAPTATION, AUTO_SAVE, SENSOR_SAMPLE, GRACE_END.
Each clause says that `exec` answers the next state of the row's own effect, for every state and operands that meet its
hypotheses;
`s.kept E` is `E` with what no command changes. Where the manual leaves a point open the clauses follow log entries 73, 37, 74,
71 (the model's choices). -/
def Obligations.CalibrationAndThermalRowsTakeEffect : Prop :=
  (∀ (n : Nat) (res : List Eye) (s : State), (s.chan n).training = true → s.st = stTrailhead → s.therm.stop = false →
    exec (.trainingEnd n res) s = .next (s.kept (s.trailTrained n res)))
  ∧ (∀ (n : Nat) (res : List Eye) (j : CalJob) (s : State), (s.chan n).training = true → s.st ≠ stTrailhead → s.st ≠ stRemoving →
    s.cal.jobs.find? (fun p => p.1 == n) = some (n, j) → s.trainOk n (s.rate n) res = true → exec (.trainingEnd n res) s = .next (s.kept
      (let s1 := { s.setChan n { s.chan n with training := false } with cal := { s.cal with jobs := s.cal.jobs.eraseP (fun p => p.1 == n) } }
      let s2 := (s1.trainWrite n (s1.rate n) res).landed n s1.junctionByte (if s1.baseChan n then 3 else 2)
      ((s2.staleEval n).chEvent n 6 (b2n true + s2.rate n * 256)).actPart j.path n true)))
  ∧ (∀ (n ce : Nat) (dqs : Option Word) (wins : List (Nat × Nat)) (e : Eye) (s : State), e = Eye.of ce dqs wins → n < 8 → s.get F.CAL_CFG_TRACK_EN ≠ 0 → s.fast n = true → s.get (F.CAL_CH_HOST_SET n) ≠ 1 → s.works = true →
    s.therm.stop = false → (s.chan n).training = false → s.chHold n = false → (s.targets n).contains e.ce = true → s.trackDue n = true →
    e.found = true → s.get F.CAL_CFG_MIN_EYE ≤ eyeWidth e → (withIdx (s.eyeVals n (s.rate n) e)).all (fun p => s.reg (0x2F81 + p.1) (n * 8 + e.ce) == p.2) = false →
    exec (.trackingMeasurement n ce dqs wins false) s = .next (s.kept (State.staleEval { s with cal := { s.cal with trackAt := tput s.cal.trackAt n s.clock, badEye := s.cal.badEye.filter (· != n), tracks := tput s.cal.tracks n { ce := e.ce, vals := s.eyeVals n (s.rate n) e, since := s.clock } } } n)))
  ∧ (∀ (n : Nat) (s : State), n < 8 → exec (.staleTimeout n) s = .next (s.kept (s.staleEval n)))
  ∧ (∀ (k : Nat) (v : Word) (s : State), s.agl.state = 6 → s.eqLanes.contains k = true → exec (.laneAdaptation k v) s = .next (s.kept
    (let s1 := s.writeCal 0x2FC1 (s.agl.gen * 4 + k) (BitVec.ofNat 32 (v.toNat - bits v.toNat 5 3 * 32))
    (s1.set F.CAL_LN_TEMP s1.junctionByte).clearF F.CAL_LN_STALE (1 <<< k))))
  ∧ (∀ (o : List PsOutcome) (from_ : Nat) (s : State), s.cal.autoFrom = some from_ → s.get F.CAL_CFG_AUTO_SAVE ≠ 0 → s.chans.any (fun p => p.2.stale) = false →
    exec (.autoSave o) s = .next (s.kept { (s.calSave o).2 with cal := { (s.calSave o).2.cal with autoFrom := none } }))
  ∧ (∀ (raw : List (Option Int)) (mv : List Nat) (low : Nat) (s : State), s.live = true → s.balls.clocksGated = false →
    exec (.sensorSample raw mv low) s = .next (s.kept
      (let s1 := s.sensors raw
      let s2 := if s1.port.pend.any (fun p => p.1 == 0x0E) then (s1.setReg 0x0581 (s1.stagedReg 0x0581)).commitEnd 0x0E 1 else s1
      let j := (s.junctionNow s1 raw).getD (s2.junction, s2.get F.THERM_STAT_HOT)
      let s3 := ((s2.set F.THERM_STAT_TJ (ofSigned 16 j.1)).set F.THERM_STAT_HOT j.2).set F.THERM_STAT_SENS_FAIL (maskOf ((List.range 10).filter (fun i => (s2.sensor i).failed)))
      let s4 := if toSigned 16 (s3.get F.THERM_HIST_PEAK) < j.1 then s3.set F.THERM_HIST_PEAK (ofSigned 16 j.1) else s3
      let s5 := if s4.levelNext j.1 = s4.get F.GLB_STAT_THERM then s4
        else ((s4.set F.GLB_STAT_THERM (s4.levelNext j.1)).set F.GLB_EVT_THERM_CHG 1).post 1 (s4.levelNext j.1 + ofSigned 16 j.1 * 65536)
      let s6 := if s4.get F.GLB_STAT_THERM < 2 ∧ 2 ≤ s4.levelNext j.1 then s5.addF F.THERM_HIST_TRIPS 1 else s5
      let s7 := (withIdx (mv.take 9)).foldl (fun (u : State) p => u.railSample p.1 p.2 (bit low p.1)) s6
      (((List.range 8).foldl State.staleEval s7).laneStale).thermAct j.1)))
  ∧ (∀ s : State, s.therm.grace = true → s.therm.graceFrom + s.therm.graceMs * 1000 ≤ s.clock → exec .graceEnd s = .next (s.kept (s.graceFinish false)))

/-- Test pattern, self-test and TAP rows take their effect: patterns run and end, self-tests start and end, the TAP loads, shifts
and accesses registers.
The rows: TP_RUN_END, TEST_PATTERN, TAP_RESET, IDCODE, SAMPLE_PRELOAD, EXTEST, EXTEST_PULSE, EXTEST_TRAIN, CLAMP, HIGHZ, BYPASS,
TP_ACCESS, BIST_RUN, BIST_END.
Each clause says that `exec` answers the next state of the row's own effect, for every state and operands that meet its
hypotheses;
`s.kept E` is `E` with what no command changes. Where the manual leaves a point open the clauses follow log entries 115, 116,
117, 118 (the model's choices). -/
def Obligations.PatternSelfTestAndTapRowsTakeEffect : Prop :=
  (∀ (t : Nat) (rx : List (List Bool)) (r : TpRun) (s : State), (s.tpFeed t rx).tpRun? t = some r → (s.tpFeed t rx).tpOver t r = true → exec (.tpRunEnd t rx) s = .next (s.kept ((s.tpFeed t rx).tpEnd t 2 0)))
  ∧ (∀ (t : Nat) (rx : List (List Bool)) (r : TpRun) (s : State), (s.tpFeed t rx).tpRun? t = some r → (s.tpFeed t rx).tpOver t r = false → exec (.tpRunEnd t rx) s = .next (s.kept (s.tpFeed t rx)))
  ∧ (∀ (k : Nat) (rx : List (List Bool)) (f : Flight) (s : State), s.canStart k 0x50 = some f → s.tpRun? (leAt f.bytes 16 1) = none → s.st ≠ stLimited →
    s.tpAvailable (leAt f.bytes 16 1) (leAt f.bytes 17 1 / 16) false = true → exec (.testPattern k rx) s = .next (s.kept
      (((s.startRun k f).tpBegin (leAt f.bytes 16 1) (leAt f.bytes 17 1) (leAt f.bytes 20 4) (some k)).tpFeed (leAt f.bytes 16 1) rx)))
  ∧ (∀ s : State, s.tapOn = true → exec .tapReset s = .next (s.kept s.tapHome))
  ∧ (∀ s : State, s.tapOn = true → ∃ t, exec .tapIdcode s = .next t ∧ t.sent = .tdo 32 0x148165EB :: (s.tapLoad 0x01 0).sent)
  ∧ (∀ (cap preload : Nat) (s : State), s.tapOn = true → exec (.tapSamplePreload cap preload) s = .next (s.kept ((s.tapLoad 0x02 0).tapScan cap preload)))
  ∧ (∀ (scan : Option (Nat × Nat)) (s : State), s.tapOn = true → s.tmode = true → exec (.tapExtest scan) s = .next (s.kept ((s.tapLoad 0x03 1).tapDrive scan)))
  ∧ (∀ (scan : Option (Nat × Nat)) (s : State), s.tapOn = true → s.tmode = false → exec (.tapExtest scan) s = .next (s.kept ((s.tapLoad 0x03 0).tapBit)))
  ∧ (∀ (scan : Option (Nat × Nat)) (s : State), s.tapOn = true → s.tmode = true → exec (.tapExtestPulse scan) s = .next (s.kept ((s.tapLoad 0x04 2).tapDrive scan)))
  ∧ (∀ (scan : Option (Nat × Nat)) (s : State), s.tapOn = true → s.tmode = true → exec (.tapExtestTrain scan) s = .next (s.kept ((s.tapLoad 0x05 3).tapDrive scan)))
  ∧ (∀ s : State, s.tapOn = true → s.tmode = true → exec .tapClamp s = .next (s.kept ((s.tapLoad 0x06 4).tapBit)))
  ∧ (∀ s : State, s.tapOn = true → s.tmode = true → exec .tapHighz s = .next (s.kept ((s.tapLoad 0x07 5).tapBit)))
  ∧ (∀ (code : Byte) (s : State), s.tapOn = true → tapListed code.toNat = false → exec (.tapBypass code) s = .next (s.kept ((s.tapLoad code.toNat 0).tapBit)))
  ∧ (∀ (dr : Nat) (x : RegIn) (s : State), s.tapOn = true → s.tmode = true → ((s.tapLoad 0x10 0).send (.tdo 48 ((s.tapLoad 0x10 0).test.tap.code * 2 ^ 40 + (s.tapLoad 0x10 0).test.tap.word))).live = true →
    exec (.tpAccess dr x) s = .next (s.kept (((s.tapLoad 0x10 0).send (.tdo 48 ((s.tapLoad 0x10 0).test.tap.code * 2 ^ 40 + (s.tapLoad 0x10 0).test.tap.word))).tapAccess dr x)))
  ∧ (∀ (mask : Byte) (s : State), s.tapOn = true → s.tmode = true →
    (let u := ((s.tapLoad 0x11 0).freeBits 8).2.send (.tdo 8 ((s.tapLoad 0x11 0).freeBits 8).1)
     u.live = true → exec (.bistRun mask) s = .next (s.kept (u.bistStart mask.toNat true))))
  ∧ (∀ (fails : Byte) (b : Bist) (s : State), s.test.bist = some b →
    (let u := (s.memLost b.mask).bistReport b.mask (b.mask &&& fails.toNat) (if b.mask &&& fails.toNat = 0 then 1 else 3)
     exec (.bistEnd fails) s = .next (s.kept (if u.tmode then u else u.orderlyStart .soft))))

/-- Service port transactions take their effect: reads, writes, bursts, status, page and unlock are answered, broken frames are
counted.
The rows: READ, GET_STATUS, WRITE, BURST_READ, BURST_WRITE, SET_PAGE, UNLOCK, BAD_OPCODE, SP_FRAME_ABORT, FRAME_ERR,
SP_READ_TRANSFER.
Each clause says that `exec` answers the next state of the row's own effect, for every state and operands that meet its
hypotheses;
`s.kept E` is `E` with what no command changes. Where the manual leaves a point open the clauses follow log entries 113, 114
(the model's choices). -/
def Obligations.ServicePortRowsTakeEffect : Prop :=
  (∀ (off crc : Byte) (s : State), s.live = true → s.spGate false [0xA1, off] crc = 0 → off.toNat < 0x40 →
    exec (.spRead off crc) s = .next (s.kept ((s.regRead .sp (s.spReg off.toNat)).2.spAnswer 0 [(s.regRead .sp (s.spReg off.toNat)).1])))
  ∧ (∀ (off crc : Byte) (s : State), s.live = true → s.spGate true [0xA6, off] crc = 0 → off.toNat < 0x40 →
    exec (.spGetStatus off crc) s = .next (s.kept ((s.regRead .sp off.toNat).2.spAnswer 0 [(s.regRead .sp off.toNat).1])))
  ∧ (∀ (off : Byte) (data : Word) (crc : Byte) (x : RegIn) (s : State), s.live = true → s.spGate false ([0xA2, off] ++ wordBytes data) crc = 0 → off.toNat < 0x40 →
    exec (.spWrite off data crc x) s = .next (s.kept ((s.pathWrite .sp (s.spReg off.toNat) data x).2.spAnswer (s.pathWrite .sp (s.spReg off.toNat) data x).1 [])))
  ∧ (∀ (off n crc : Byte) (s : State), s.live = true → s.spGate false [0xA3, off, n] crc = 0 → off.toNat < 0x40 → n ≠ 0 → off.toNat + n.toNat ≤ 0x40 →
    exec (.spBurstRead off n crc) s = .next (s.kept ((s.readRun .sp (s.spReg off.toNat) n.toNat).2.spAnswer 0 (s.readRun .sp (s.spReg off.toNat) n.toNat).1)))
  ∧ (∀ (off n : Byte) (data : List Word) (crc : Byte) (x : RegIn) (s : State), s.live = true → data.length = n.toNat →
    s.spGate false ([0xA4, off, n] ++ data.flatMap wordBytes) crc = 0 → off.toNat < 0x40 → n ≠ 0 → off.toNat + n.toNat ≤ 0x40 →
    exec (.spBurstWrite off n data crc x) s = .next (s.kept ((s.burstWrite .sp (s.spReg off.toNat) data x).2.spAnswer (s.burstWrite .sp (s.spReg off.toNat) data x).1 [])))
  ∧ (∀ (page crc : Byte) (s : State), s.live = true → s.spGate false [0xA5, page] crc = 0 →
    exec (.spSetPage page crc) s = .next (s.kept ((s.set F.SP_PAGE_PAGE page.toNat).spAnswer 0 [])))
  ∧ (∀ (lock : Byte) (key : Word) (crc : Byte) (s : State), s.live = true → s.spGate false ([0xA7, lock] ++ wordBytes key) crc = 0 →
    exec (.spUnlock lock key crc) s = .next (s.kept ((s.unlock .sp lock.toNat key.toNat).2.spAnswer (s.unlock .sp lock.toNat key.toNat).1 [])))
  ∧ (∀ (op : Byte) (s : State), s.live = true → ¬ (0xA1 ≤ op.toNat ∧ op.toNat ≤ 0xA7) →
    exec (.spBadOpcode op) s = .next (s.kept (s.spRefuse (if s.st = stTrailhead then 1 else if s.st = stRemoving then 2 else 4) 0)))
  ∧ (∀ (l : List Byte) (s : State), s.live = true → s.twoWire = false → (l.head?).any (fun op => !spListed op) = false → (∀ n : Nat, spLength l = some n → l.length < n) →
    exec (.spFrameAbort l) s = .next (s.kept s.frameErr))
  ∧ (∀ (l : List Byte) (n : Nat) (s : State), s.live = true → s.twoWire = false → (l.head?).any (fun op => !spListed op) = false → spLength l = some n → n ≤ l.length →
    exec (.spFrameAbort l) s = .next (s.kept (s.spPerform (l.take n))))
  ∧ (∀ (l : List Byte) (s : State), s.live = true → s.twoWire = true → (l.head?).any (fun op => !spListed op) = false → ¬ (spLength l = some l.length ∧ l.length ≤ 260) →
    exec (.spFrameErr l) s = .next (s.kept (s.frameErr.spAnswer 6 [])))
  ∧ (∀ (r : List Byte) (s : State), s.live = true → s.twoWire = true → s.port.held = some r → exec .spReadTransfer s = .next (s.kept (s.send (.spReply (0x5A :: r)))))

/-- Host register access and data rows take their effect: register reads and writes by command and by frame, data sent to and asked
from the host.
The rows: REG_ACCESS, REG_WR, REG_RD, DATA_TRANSMIT, DREQ, WDATA, DREQ_DATA_TIMEOUT, LINK_DOWN.
Each clause says that `exec` answers the next state of the row's own effect, for every state and operands that meet its
hypotheses;
`s.kept E` is `E` with what no command changes. Where the manual leaves a point open the clauses follow log entries 100, 101,
102 (the model's choices). -/
def Obligations.HostRegisterAndDataRowsTakeEffect : Prop :=
  (∀ (k : Nat) (x : RegIn) (f : Flight) (r : Nat × State) (s : State), s.canStart k 0x30 = some f → bit (leAt f.bytes 16 1) 0 = true →
    r = (s.startRun k f).burstStarted k (leAt f.bytes 17 1 * 64 + leAt f.bytes 18 1) ((List.range (leAt f.bytes 19 1)).map (fun i => BitVec.ofNat 32 (leAt f.bytes (32 + 4 * i) 4))) x →
    exec (.regAccess k x) s = .next (s.kept (r.2.complete k (accessStatus r.1) r.1)))
  ∧ (∀ (k : Nat) (x : RegIn) (f : Flight) (s : State), s.canStart k 0x30 = some f → bit (leAt f.bytes 16 1) 0 = false →
    (let r := (s.startRun k f).readRun .host (leAt f.bytes 17 1 * 64 + leAt f.bytes 18 1) (leAt f.bytes 19 1)
     exec (.regAccess k x) s = .next (s.kept (r.2.deliver k 0 0 (r.1.headD 0) (r.1.flatMap (natLE 4))))))
  ∧ (∀ (seq addr : Nat) (data : List Word) (mm : Bool) (s s1 s2 : State), s.qSound 0 = true → s.qCan 0 1 0 = true → s.rxFrame 0 seq = (true, s1) →
    s1.cmdTake = (true, s2) → addr % 4 = 0 → data ≠ [] → addr % 64 + 4 * data.length ≤ 64 →
    exec (.regWr seq addr data mm) s = .next (s.kept (s2.q0Put addr data mm)))
  ∧ (∀ (seq addr rtag rlen : Nat) (s s1 s2 : State) (r : List (Option Nat) × State), s.qSound 0 = true → s.hostPump.qOpen 0 1 0 = true →
    s.hostPump.rxFrame 0 seq = (true, s1) → s1.cmdTake = (true, s2) → addr % 4 = 0 → rlen ≠ 0 → rlen ≤ 16 →
    s2.st ≠ stRemoving → s2.rmv.orderly = none → r = (s2.qPass 0 {}).winReads addr rlen → r.1.any Option.isNone = false →
    exec (.regRd seq addr rtag rlen) s = .next (s.kept ((r.2.hostSend
      { typ := 0x23, hdr := natLE 1 rtag ++ natLE 1 0, payload := (r.1.filterMap id).flatMap (natLE 4) }).cmdReturn)))
  ∧ (∀ (seq addr rtag rlen : Nat) (s s1 s2 : State), s.qSound 0 = true → s.hostPump.qOpen 0 1 0 = true →
    s.hostPump.rxFrame 0 seq = (true, s1) → s1.cmdTake = (true, s2) → addr % 4 = 0 → rlen ≠ 0 → rlen ≤ 16 →
    s2.st = stRemoving → exec (.regRd seq addr rtag rlen) s = .next (s.kept (s2.hostSend
      { typ := 0x23, hdr := natLE 1 rtag ++ natLE 1 2, payload := (List.replicate rlen 0).flatMap (natLE 4) })))
  ∧ (∀ (k : Nat) (f : Flight) (s : State), s.flight? k = some f → f.sent < f.out.length → f.phase ≠ .ready → f.sent < f.xadm * 4096 → s.st ≠ stRemoving →
    s.casc.xids.find? (fun p => p.1 == k) = none → s.hostCanSend (s.dataItem f).2 = true →
    exec (.dataTransmit k) s = .next (s.kept ((s.hostSend (s.dataItem f).2).dataLeft k (s.dataItem f).1 true)))
  ∧ (∀ (k : Nat) (f f1 : Flight) (s s1 : State) (i : TxItem), s.flight? k = some f → s.boundRun k = none → f.phase = .accepted → f.asked < s.dataNeed f → f.fails = 0 → s.works = true →
    f.asked < f.xadm * 4096 → s.casc.xids.find? (fun p => p.1 == k) = none → s.pcieMode = false →
    s.getBufs 9 k (moves (f.asked + s.nextRange f (s.dataNeed f))) = (true, s1) → s1.flight? k = some f1 →
    i = { typ := 0x27, addr := leAt f.bytes 8 8 + f.asked, hdr := natLE 1 f.qid ++ [0] ++ natLE 2 f.tag ++ natLE 4 f.asked ++ natLE 2 (s.nextRange f (s.dataNeed f)) ++ [0, 0] } →
    s1.hostCanSend i = true → exec (.dreq k) s = .next (s.kept ((s1.noteRange k f1 (s.nextRange f (s.dataNeed f)) (s.freeTag.getD 0)).hostSend i)))
  ∧ (∀ (seq sq tag off pad : Nat) (data : List Byte) (d : Dreq) (s s1 : State), s.qSound 24 = true → s.qOpen 24 1 0 = true → s.rxFrame 0 seq = (true, s1) →
    data.length % 4 = 0 → data ≠ [] → data.length ≤ 512 → pad ≤ 3 →
    s1.agl.dreqs.find? (fun x => x.sq == sq && x.ctag == tag && x.off + x.got == off && decide (x.got + (data.take (data.length - pad)).length ≤ x.len)) = some d →
    exec (.wdata seq sq tag off pad data) s = .next (s.kept (s1.rangeIn d (data.take (data.length - pad)))))
  ∧ (∀ (k : Nat) (d : Dreq) (s : State), s.agl.dreqs.find? (fun d => d.flight == k && decide (1000 ≤ s.clock - d.since)) = some d → s.pcieMode = false → d.dead = false →
    exec (.dreqDataTimeout k) s = .next (s.kept ((s.rangeOver d).dataFail k 7)))
  ∧ (∀ (l : Nat) (s : State), l < 3 → (l = 0 → s.pcieMode = false) → (s.lnk l).up = true → exec (.linkDown l) s = .next (s.kept (s.linkDown l)))

/-- PCI Express rows take their effect: configuration and window accesses are answered, the link comes up and goes down, power
states change, completions arrive or time out, MSI-X is unmasked.
The rows: CONFIG_REQUEST, MEMORY_WRITE_WINDOW, MEMORY_READ_WINDOW, EVT_POP, WRITE_DATA_COMPLETION, COMPLETION_TIMEOUT, DL_UP,
HOT_RESET, LINK_DISABLE, PERST_N_ASSERT, PERST_N_RISE, D3HOT_ENTRY, D0_RETURN, ASPM_L1_IDLE, MSIX_UNMASK.
Each clause says that `exec` answers the next state of the row's own effect, for every state and operands that meet its
hypotheses;
`s.kept E` is `E` with what no command changes. Where the manual leaves a point open the clauses follow log entries 110, 111,
112 (the model's choices). -/
def Obligations.PcieEndpointRowsTakeEffect : Prop :=
  (∀ (write : Bool) (addr be : Nat) (v : Word) (s u : State), s.pcieRuns = true → u = s.pcieAwake.fcReturn false (b2n write) → u.st = stTrailhead →
    exec (.configRequest write addr be v) s = .next (s.kept (u.cplSend 2 [])))
  ∧ (∀ (addr be : Nat) (v : Word) (s u : State), s.pcieRuns = true → u = s.pcieAwake.fcReturn false 1 → u.st ≠ stTrailhead →
    exec (.configRequest true addr be v) s = .next (s.kept ((u.cfgWrite (addr % 4096 / 4 * 4) be v).cplSend 0 [])))
  ∧ (∀ (addr be : Nat) (v : Word) (s u : State), s.pcieRuns = true → u = s.pcieAwake.fcReturn false 0 → u.st ≠ stTrailhead →
    exec (.configRequest false addr be v) s = .next (s.kept (u.cplSend 0 (natLE 4 (u.cfgRead (addr % 4096 / 4 * 4))))))
  ∧ (∀ (off : Nat) (dws : List (Nat × Word)) (mm : Bool) (s u : State), s.pcieRuns = true → s.qSound 0 = true → s.qCan 0 (max 1 dws.length) 0 = true →
    u = s.pcieAwake.fcReturn true ((dws.length + 3) / 4) → u.memOn = true → u.st ≠ stTrailhead → u.st ≠ stRemoving →
    dws ≠ [] → off % 4 = 0 → 0x1000 ≤ off → off < 0x2000 → off % 64 + 4 * dws.length ≤ 64 → exec (.memoryWriteWindow off dws false mm) s = .next (s.kept
      (u.q0Put off ((dws.filter (fun p => p.1 % 16 == 15)).map (·.2)) mm)))
  ∧ (∀ (off n : Nat) (s u : State), s.pcieRuns = true → s.qSound 0 = true → s.qOpen 0 1 0 = true → u = s.pcieAwake.fcReturn false 0 →
    u.memOn = true → u.st ≠ stTrailhead → u.st ≠ stRemoving → off < 0x10000 → 1 ≤ n → n ≤ 16 → off % 64 + 4 * n ≤ 64 →
    exec (.memoryReadWindow off n) s = .next (s.kept
      ((u.winReads (off / 4 * 4) n).2.cplSend 0 ((u.winReads (off / 4 * 4) n).1.flatMap (fun v => natLE 4 (v.getD 0))))))
  ∧ (∀ s u : State, s.pcieRuns = true → s.qSound 0 = true → s.qOpen 0 1 0 = true → u = s.pcieAwake.fcReturn false 0 →
    u.memOn = true → u.st ≠ stTrailhead → u.st ≠ stRemoving → exec .evtPop s = .next (s.kept
      ((u.winReads 0x10 1).2.cplSend 0 ((u.winReads 0x10 1).1.flatMap (fun v => natLE 4 (v.getD 0))))))
  ∧ (∀ (tag : Nat) (data : List Byte) (d : Dreq) (s u : State), s.pcieRuns = true → s.qSound 24 = true → s.qOpen 24 1 0 = true →
    u = (s.pcieAwake.tlpHeader (0x4A000000 + (data.length + 3) / 4 % 1024) 0).2 → u.agl.dreqs.find? (fun d => d.tag == tag) = some d → d.got + data.length ≤ d.len →
    exec (.writeDataCompletion tag 0 false data) s = .next (s.kept (u.rangeIn d data)))
  ∧ (∀ (tag status : Nat) (poison : Bool) (data : List Byte) (s : State) (r : List Nat × State), s.pcieRuns = true → s.qSound 24 = true → s.qOpen 24 1 0 = true →
    r = s.pcieAwake.tlpHeader (0x4A000000 + (data.length + 3) / 4 % 1024) 0 → r.2.agl.dreqs.find? (fun d => d.tag == tag) = none →
    exec (.writeDataCompletion tag status poison data) s = .next (s.kept (r.2.aerLog 16 true r.1)))
  ∧ (∀ (tag t : Nat) (d : Dreq) (s : State), s.agl.dreqs.find? (fun d => d.tag == tag) = some d → s.cplTimeout = some t → s.pcieMode = true → t ≤ s.clock - d.since →
    exec (.completionTimeout tag) s = .next (s.kept (if d.dead = true then (s.aerLog 14 false []).rangeOver d else ((s.aerLog 14 false []).rangeOver d).dataFail d.flight 7)))
  ∧ (∀ (speed width : Nat) (s : State), s.live = true → s.pcieMode = true → s.hostLanesIdle = false → speed ≠ 0 →
    speed ≤ bits s.pcie.adv 0 3 → width ≤ bits s.pcie.adv 4 2 → s.pcie.dlUp = false → exec (.dlUp speed width) s = .next (s.kept
      ((((State.setLanes { s with pcie := { s.pcie with dlUp := true, ltssm := 3, l1ss := 0, speed, width, disabled := false } }).fcInit).set F.PCIE_EVT_LINK_UP 1).pcieFlush)))
  ∧ (∀ s : State, s.pcieRuns = true → exec .hotReset s = .next (s.kept (((s.pcieDown 9).set F.PCIE_EVT_HOT_RESET 1).orderlyStart .host)))
  ∧ (∀ s : State, s.pcieRuns = true → exec .linkDisable s = .next (s.kept ((({ s.pcieDown 7 with pcie := { (s.pcieDown 7).pcie with disabled := true } } : State).set F.PCIE_EVT_HOT_RESET 1).orderlyStart .host)))
  ∧ (∀ s : State, s.live = true → s.pcieMode = true → s.pcie.perst = false → exec .perstNAssert s = .next (s.kept
    (State.resetNow { s with pcie := { s.pcie with perst := true } } [6] false)))
  ∧ (∀ s : State, exec .perstNRise s = .next (s.kept { s with pcie := { s.pcie with perst := false } }))
  ∧ (∀ s u : State, s.pcieRuns = true → u = s.pcieAwake.fcReturn false 1 → u.st ≠ stTrailhead → exec .d3hotEntry s = .next (s.kept
    ((u.cfgWrite 0x44 1 3).cplSend 0 [])))
  ∧ (∀ s u : State, s.pcieRuns = true → u = s.pcieAwake.fcReturn false 1 → u.st ≠ stTrailhead → exec .d0Return s = .next (s.kept
    ((u.cfgWrite 0x44 1 0).cplSend 0 [])))
  ∧ (∀ s : State, s.pcieRuns = true → s.pcie.ltssm = 3 → s.pcie.d3 = false → bit (s.cfgLE 0x80 1) 1 = true → bit s.pcie.adv 7 = true → s.agl.tx = [] → s.agl.dreqs = [] →
    s.pcie.tlpRetry = [] → s.get F.PCIE_PM_L1_IDLE ≤ s.clock - s.pcie.lastReq → exec .aspmL1Idle s = .next (s.kept (s.pcieL1 2)))
  ∧ (∀ (v : Nat) (s u : State), s.pcieRuns = true → v < 32 → s.qSound 0 = true → s.qCan 0 1 0 = true → u = s.pcieAwake.fcReturn true 1 → u.memOn = true →
    u.st ≠ stTrailhead → u.st ≠ stRemoving → exec (.msixUnmask v) s = .next (s.kept (u.q0Put (0x2000 + 16 * v + 12) [0] false)))

/-- Register action rows take their effect (first half): each row named writes its register by an operand path: where the path
reaches parameter space and nothing refuses the write, the action is done.
The rows: RST_CTL_SOFT, RST_CTL_SAVE_RMV, FAULT_STAT_CLEAR, UNL_REQ, UNL_KEY, ACC_LOCK_SET, CMT_COMMIT, CMT_DISCARD,
IMG_CTL_ACTIVATE, EPOCH_SET, BOOT_CFG_WRITE, QP_CREATE, QP_DELETE, SET_PRIO, BIND, IDL_CLR, LOG_INJECT, FQ_INJECT, FQ_WM_WRITE,
HMP_THR_WRITE, OWN_LIMIT_WRITE, HMP_RELEASE_OWNER, HMP_SCAN_NOW, HMP_FREE_ORPHANS, RATION_SAVE, RATION_DEFAULTS, CALIBRATE,
CAL_SAVE, CAL_RETRAIN, CAL_IMPORT, CLEAR_HOST, SEQ_DBG_HALT, SEQ_DBG_RESUME, SEQ_DBG_STEP, SEQ_DBG_RDATA_WRITE.
Each clause says that `exec` answers the next state of the row's own effect, for every state and operands that meet its
hypotheses;
`s.kept E` is `E` with what no command changes. Where the manual leaves a point open the clauses follow log entries 22, 21 (the
model's choices). -/
def Obligations.RegisterActionRowsTakeEffectFirstHalf : Prop :=
  (∀ (p : Path) (v : Word) (x : RegIn) (s : State), bits v.toNat 24 8 = 0xC3 → bit v.toNat 0 = true → s.live = true → s.st ≠ stRemoving → s.rmv.orderly = none → s.takesWrite p 0xCD v →
    exec (.rstCtlSoft p v x) s = .next (s.kept ((if bit v.toNat 1 then ((s.beginWrite x).writePair rmvRecord rmvOk (natLE 4 (bits (s.reg 0xCC).toNat 0 9))).2 else (s.beginWrite x)).orderlyStart .soft).endWrite.2))
  ∧ (∀ (p : Path) (v : Word) (x : RegIn) (s : State), bits v.toNat 24 8 = 0xC3 → bit v.toNat 1 = true → bit v.toNat 0 = false → s.takesWrite p 0xCD v →
    exec (.rstCtlSaveRmv p v x) s = .next (s.kept (((s.beginWrite x).writePair rmvRecord rmvOk (natLE 4 (bits (s.reg 0xCC).toNat 0 9))).2).endWrite.2))
  ∧ (∀ (p : Path) (v : Word) (x : RegIn) (s : State), bit v.toNat 0 = true → s.takesWrite p 0xCE v →
    exec (.faultStatClear p v x) s = .next (s.kept ((List.range 8).foldl (fun (s : State) k => s.set (F.FAULT_LATCH_DATA k) 0) (((s.beginWrite x).set F.FAULT_STAT_VALID 0).set F.FAULT_STAT_DROPPED 0)).endWrite.2))
  ∧ (∀ (p : Path) (v : Word) (x : RegIn) (s : State), p ≠ .svc → p ≠ .tap → bit (bits v.toNat 0 8) 7 = false → bits (bits v.toNat 0 8) 0 7 ≤ 0x0D → (s.lockOf p).fails < 8 → bit s.lockedDown (bits (bits v.toNat 0 8) 0 7) = false → (s.lockOf p).key = unlockKey (bits (bits v.toNat 0 8) 0 7) → s.takesWrite p 0x47 v →
    exec (.unlReq p v x) s = .next (s.kept ((let u := (s.beginWrite x).setLock p { (s.beginWrite x).lockOf p with openGroups := putBits ((s.beginWrite x).lockOf p).openGroups (bits (bits v.toNat 0 8) 0 7) 1 1, fails := 0 }; u.setLock p { u.lockOf p with key := 0 })).endWrite.2))
  ∧ (∀ (p : Path) (v : Word) (x : RegIn) (s : State), p ≠ .svc → p ≠ .tap → s.takesWrite p 0x46 v →
    exec (.unlKey p v x) s = .next (s.kept ((s.beginWrite x).setLock p { (s.beginWrite x).lockOf p with key := v.toNat }).endWrite.2))
  ∧ (∀ (p : Path) (v : Word) (x : RegIn) (s : State), bits v.toNat 24 8 = 0x96 → s.takesWrite p 0x49 v →
    exec (.accLockSet p v x) s = .next (s.kept (({ (s.beginWrite x) with port := { (s.beginWrite x).port with session := (s.beginWrite x).port.session ||| bits v.toNat 0 14 } }).closeLocked).endWrite.2))
  ∧ (∀ (p : Path) (v : Word) (x : RegIn) (s : State), bits v.toNat 24 8 = 0x3C → bits v.toNat 0 5 < 0x0F → bits v.toNat 8 2 = 1 → s.commitPending (bits v.toNat 0 5) = false → s.takesWrite p 0x80 v →
    exec (.cmtCommit p v x) s = .next (s.kept ((s.beginWrite x).commitRequest (bits v.toNat 0 5)).endWrite.2))
  ∧ (∀ (p : Path) (v : Word) (x : RegIn) (s : State), bits v.toNat 24 8 = 0x3C → bits v.toNat 0 5 < 0x0F → bits v.toNat 8 2 = 2 → s.takesWrite p 0x80 v →
    exec (.cmtDiscard p v x) s = .next (s.kept (((s.beginWrite x).unstage ((s.beginWrite x).groupKeys (bits v.toNat 0 5))).commitEnd (bits v.toNat 0 5) 3).endWrite.2))
  ∧ (∀ (p : Path) (v : Word) (x : RegIn) (s : State), bits v.toNat 24 8 = 0x5A → s.takesWrite p 0x107 v →
    exec (.imgCtlActivate p v x) s = .next (s.kept (((s.beginWrite x).activate (bits v.toNat 0 2) x.bad).2).endWrite.2))
  ∧ (∀ (p : Path) (v : Word) (x : RegIn) (s : State), bits v.toNat 24 8 = 0xA5 → (bit s.epochs.2.2 (b2n (bit v.toNat 16)) = true ∨ (if bit v.toNat 16 then s.epochs.2.1 else s.epochs.1) < bits v.toNat 0 16) → s.takesWrite p 0x140 v →
    exec (.epochSet p v x) s = .next (s.kept (((s.beginWrite x).epochRaise (bit v.toNat 16) (bits v.toNat 0 16)).2).endWrite.2))
  ∧ (∀ (p : Path) (v : Word) (x : RegIn) (s : State), s.takesWrite p 0x100 v →
    exec (.bootCfgWrite p v x) s = .next (s.kept (((s.beginWrite x).bootWrite (putBits (s.beginWrite x).bootRec.1 2 2 (bits v.toNat 2 2)) (s.beginWrite x).bootRec.2.1 (s.beginWrite x).bootRec.2.2).2).endWrite.2))
  ∧ (∀ (p : Path) (v : Word) (x : RegIn) (s : State), bits v.toNat 24 8 = 0x71 → bits v.toNat 0 3 = 1 → (s.qp (s.selQp p)).st = .absent → 1 ≤ (s.newQp (s.selQp p) true).sqLog2 → (s.newQp (s.selQp p) true).sqLog2 ≤ 8 → 1 ≤ (s.newQp (s.selQp p) true).cqLog2 → (s.newQp (s.selQp p) true).cqLog2 ≤ 12 → (s.newQp (s.selQp p) true).vec ≠ 0 → (s.pcieMode = true → (s.newQp (s.selQp p) true).base ≠ 0) → ((s.newQp (s.selQp p) true).dev ≠ 0 → s.joined (s.newQp (s.selQp p) true).dev = true) → s.slotsUsed + (s.newQp (s.selQp p) true).sqDepth ≤ 4096 → s.takesWrite p 0x907 v →
    exec (.qpCreate p v x) s = .next (s.kept (((s.beginWrite x).setQp ((s.beginWrite x).selQp p) ((s.beginWrite x).newQp ((s.beginWrite x).selQp p) true)).qpResult p 1).endWrite.2))
  ∧ (∀ (p : Path) (v : Word) (x : RegIn) (s : State), bits v.toNat 24 8 = 0x71 → bits v.toNat 0 3 = 2 → s.selQp p ≠ 0 → (s.qp (s.selQp p)).st ≠ .absent → s.takesWrite p 0x907 v →
    exec (.qpDelete p v x) s = .next (s.kept ((let u := (s.beginWrite x).qpResult p 6; (u.setQp ((s.beginWrite x).selQp p) { u.qp ((s.beginWrite x).selQp p) with st := .deleting, slots := [], fill := ((s.beginWrite x).qp ((s.beginWrite x).selQp p)).head, tail := ((s.beginWrite x).qp ((s.beginWrite x).selQp p)).head, delPaths := (u.qp ((s.beginWrite x).selQp p)).delPaths ++ [p] }).finishDelete ((s.beginWrite x).selQp p))).endWrite.2))
  ∧ (∀ (p : Path) (v : Word) (x : RegIn) (s : State), bits v.toNat 24 8 = 0x71 → bits v.toNat 0 3 = 3 → (s.qp (s.selQp p)).st ≠ .absent → s.takesWrite p 0x907 v →
    exec (.qpSetPrio p v x) s = .next (s.kept (((s.beginWrite x).setQp ((s.beginWrite x).selQp p) { (s.beginWrite x).qp ((s.beginWrite x).selQp p) with prio := (s.beginWrite x).get F.QP_SQ_CFG_PRIO ((s.beginWrite x).selQp p) }).qpResult p 1).endWrite.2))
  ∧ (∀ (p : Path) (v : Word) (x : RegIn) (s : State), bits v.toNat 24 8 = 0x71 → bits v.toNat 0 3 = 4 → (s.qp (s.selQp p)).st ≠ .absent → (s.qp (s.selQp p)).bound = false → s.cqBase (s.selQp p) ≠ 0 → s.takesWrite p 0x907 v →
    exec (.qpBind p v x) s = .next (s.kept (((s.beginWrite x).setQp ((s.beginWrite x).selQp p) { (s.beginWrite x).qp ((s.beginWrite x).selQp p) with bound := true, base := (s.beginWrite x).cqBase ((s.beginWrite x).selQp p) }).qpResult p 1).endWrite.2))
  ∧ (∀ (p : Path) (v : Word) (x : RegIn) (s : State), bits v.toNat 24 8 = 0x69 → (bit v.toNat 8 = true ∨ bits v.toNat 0 8 < s.get F.IDL_STAT_COUNT) → s.takesWrite p 0xB0A v →
    exec (.idlClr p v x) s = .next (s.kept ((s.beginWrite x).idlReplace (if bit v.toNat 8 then [] else (s.beginWrite x).idlList.eraseIdx (bits v.toNat 0 8))).endWrite.2))
  ∧ (∀ (p : Path) (v : Word) (x : RegIn) (s : State), bits v.toNat 24 8 = 0xE7 → bit v.toNat 0 = true → s.log.degraded = false → s.takesWrite p 0xB40 v →
    exec (.logInject p v x) s = .next (s.kept ({ (s.beginWrite x) with log := { (s.beginWrite x).log with injected := true } }).endWrite.2))
  ∧ (∀ (p : Path) (v : Word) (x : RegIn) (s : State), bits v.toNat 24 8 = 0x3A → bits v.toNat 0 6 < 48 → s.takesWrite p 0xE42 v →
    exec (.fqInject p v x) s = .next (s.kept ((s.beginWrite x).setFq (bits v.toNat 0 6) { (s.beginWrite x).fq (bits v.toNat 0 6) with inject := true }).endWrite.2))
  ∧ (∀ (p : Path) (v : Word) (x : RegIn) (s : State), 1 ≤ bits v.toNat 16 12 → bits v.toNat 16 12 ≤ fqDepth (s.get F.FQ_SEL_QID (pathNum p)) + (if fqSpill (s.get F.FQ_SEL_QID (pathNum p)) then s.spillCfg (s.get F.FQ_SEL_QID (pathNum p)) * spillPer (s.get F.FQ_SEL_QID (pathNum p)) else 0) → bits v.toNat 0 12 < bits v.toNat 16 12 → s.takesWrite p 0xE06 v →
    exec (.fqWmWrite p v x) s = .next (s.kept ((let q := (s.beginWrite x).get F.FQ_SEL_QID (pathNum p); let u := ((s.beginWrite x).set F.FQ_WM_HI (bits v.toNat 16 12) q).set F.FQ_WM_LO (bits v.toNat 0 12) q; if bits v.toNat 16 12 ≤ (u.fq q).fill then u.wmEval q else u)).endWrite.2))
  ∧ (∀ (p : Path) (v : Word) (x : RegIn) (s : State), 1 ≤ bits v.toNat 0 11 → bits v.toNat 0 11 + bits v.toNat 24 8 < bits v.toNat 12 11 → bits v.toNat 12 11 + bits v.toNat 24 8 ≤ 2048 → s.takesWrite p 0xC02 v →
    exec (.hmpThrWrite p v x) s = .next (s.kept ((((((s.beginWrite x).set F.HMP_THR_HYST (bits v.toNat 24 8)).set F.HMP_THR_LOW (bits v.toNat 12 11)).set F.HMP_THR_CRIT (bits v.toNat 0 11)).hmpEval).hmpExamine).endWrite.2))
  ∧ (∀ (p : Path) (k : Nat) (v : Word) (x : RegIn) (s : State), k < 16 → bits v.toNat 16 12 ≤ 0x800 → bits v.toNat 0 12 ≤ 0x800 → s.takesWrite p (0xC40 + k) v →
    exec (.ownLimitWrite p k v x) s = .next (s.kept ((((s.beginWrite x).set (F.OWN_LIMIT_ODD k) (bits v.toNat 16 12)).set (F.OWN_LIMIT_EVEN k) (bits v.toNat 0 12)).hmpExamine).endWrite.2))
  ∧ (∀ (p : Path) (v : Word) (x : RegIn) (s : State), bits v.toNat 24 8 = 0x48 → bits v.toNat 8 2 = 1 → 4 ≤ bits v.toNat 0 5 → bits v.toNat 0 5 ≤ 0x0D → s.takesWrite p 0xC50 v →
    exec (.hmpReleaseOwner p v x) s = .next (s.kept ((s.beginWrite x).hmpReleaseOwner (bits v.toNat 0 5)).endWrite.2))
  ∧ (∀ (p : Path) (v : Word) (x : RegIn) (s : State), bits v.toNat 24 8 = 0x48 → bits v.toNat 8 2 = 2 → s.takesWrite p 0xC50 v →
    exec (.hmpScanNow p v x) s = .next (s.kept ((s.beginWrite x).hmpScan).endWrite.2))
  ∧ (∀ (p : Path) (v : Word) (x : RegIn) (s : State), bits v.toNat 24 8 = 0x48 → bits v.toNat 8 2 = 3 → s.takesWrite p 0xC50 v →
    exec (.hmpFreeOrphans p v x) s = .next (s.kept ((s.beginWrite x).hmpReclaim).endWrite.2))
  ∧ (∀ (p : Path) (v : Word) (x : RegIn) (s : State), bits v.toNat 24 8 = 0xD2 → bits v.toNat 0 2 = 1 → s.takesWrite p 0x3143 v →
    exec (.rationSave p v x) s = .next (s.kept ((s.beginWrite x).rationSave).endWrite.2))
  ∧ (∀ (p : Path) (v : Word) (x : RegIn) (s : State), bits v.toNat 24 8 = 0xD2 → bits v.toNat 0 2 = 2 → s.takesWrite p 0x3143 v →
    exec (.rationDefaults p v x) s = .next (s.kept (((List.range 67).foldl (fun (s : State) i => (s.set F.COST_E_ENERGY (costDefault i).1 i).set F.COST_D_DUR_US (costDefault i).2 i) (s.beginWrite x)).set F.RATION_TBL_SRC 0).endWrite.2))
  ∧ (∀ (p : Path) (v : Word) (x : RegIn) (s : State), bits v.toNat 24 8 = 0xD2 → bits v.toNat 0 2 = 3 → s.rt.isns = true → s.rt.on = true → (s.die (bits (s.reg 0x3146).toNat 24 3) (bits (s.reg 0x3146).toNat 27 3 * 4 + bits (s.reg 0x3146).toNat 30 2)).state = 1 → (s.die (bits (s.reg 0x3146).toNat 24 3) (bits (s.reg 0x3146).toNat 27 3 * 4 + bits (s.reg 0x3146).toNat 30 2)).cls = bits v.toNat 12 4 → s.regionOk (bits (s.reg 0x3146).toNat 24 3) ((s.die (bits (s.reg 0x3146).toNat 24 3) (bits (s.reg 0x3146).toNat 27 3 * 4 + bits (s.reg 0x3146).toNat 30 2)).blockOf (bits (s.reg 0x3146).toNat 0 24)) true = true → s.rt.cal = none → s.takesWrite p 0x3143 v →
    exec (.rationCalibrate p v x) s = .next (s.kept (((s.beginWrite x).rationCalibrate (bits v.toNat 12 4) x.means)).endWrite.2))
  ∧ (∀ (p : Path) (v : Word) (x : RegIn) (s : State), bits v.toNat 24 8 = 0xCA → bits v.toNat 0 3 = 1 → s.get F.CAL_RES_BUSY (pathNum p) = 0 → s.st = stReady → s.chans.any (fun c => c.2.training) = false → s.anyStale = false → s.takesWrite p 0x2F04 v →
    exec (.calSave p v x) s = .next (s.kept ((let r := ((s.beginWrite x).withPs x.ps).snapWrite ((s.beginWrite x).get F.SVI_MAN_0_CAL_LEVEL) (s.beginWrite x).snapBody; if r.1 then (r.2.set F.CAL_EVT_SAVED 1).calResult (pathNum p) 1 false else (r.2.set F.CAL_EVT_SAVE_FAIL 1).calResult (pathNum p) 6 false)).endWrite.2))
  ∧ (∀ (p : Path) (v : Word) (x : RegIn) (s : State), bits v.toNat 24 8 = 0xCA → bits v.toNat 0 3 = 2 → s.get F.CAL_RES_BUSY (pathNum p) = 0 → s.takesWrite p 0x2F04 v →
    exec (.calRetrain p v x) s = .next (s.kept ((s.beginWrite x).calRetrain p (bits v.toNat 16 8)).endWrite.2))
  ∧ (∀ (p : Path) (v : Word) (x : RegIn) (s : State), bits v.toNat 24 8 = 0xCA → bits v.toNat 0 3 = 3 → s.get F.CAL_RES_BUSY (pathNum p) = 0 → snapOk (s.snapAt (0xE0000 + s.get F.CAL_IMPORT_OFFSET * 64)) = true → leAt (s.snapAt (0xE0000 + s.get F.CAL_IMPORT_OFFSET * 64)) 12 1 = s.get F.SVI_MAN_0_CAL_LEVEL → s.get F.CAL_IMPORT_OFFSET * 64 + 64 + leAt (s.snapAt (0xE0000 + s.get F.CAL_IMPORT_OFFSET * 64)) 4 4 ≤ 0x20000 → sliceB ((s.snapAt (0xE0000 + s.get F.CAL_IMPORT_OFFSET * 64)).drop 64) 0 8 = s.uid → s.takesWrite p 0x2F04 v →
    exec (.calImport p v x) s = .next (s.kept ((s.beginWrite x).calImport p x.ps).endWrite.2))
  ∧ (∀ (p : Path) (v : Word) (x : RegIn) (s : State), bits v.toNat 24 8 = 0xCA → bits v.toNat 0 3 = 4 → s.get F.CAL_RES_BUSY (pathNum p) = 0 → s.takesWrite p 0x2F04 v →
    exec (.clearHost p v x) s = .next (s.kept (((setBits (bits v.toNat 16 8) 8).foldl (fun (s : State) n => s.set (F.CAL_CH_HOST_SET n) 0) (s.beginWrite x)).calResult (pathNum p) 1 false).endWrite.2))
  ∧ (∀ (p : Path) (n : Nat) (v : Word) (x : RegIn) (s : State), n < 8 → bits v.toNat 24 8 = 0xD6 → bits v.toNat 0 2 = 1 → ((s.sq n).st = 1 ∨ (s.sq n).st = 2) → (s.sq n).halted = false → s.seqStop = false → s.takesWrite p (0x2041 + 128 * n) v →
    exec (.seqDbgHalt p n v x) s = .next (s.kept ((if ((s.beginWrite x).sq n).issued then (s.beginWrite x).setSq n { (s.beginWrite x).sq n with haltReq := true } else (s.beginWrite x).haltSeq n)).endWrite.2))
  ∧ (∀ (p : Path) (n : Nat) (v : Word) (x : RegIn) (s : State), n < 8 → bits v.toNat 24 8 = 0xD6 → bits v.toNat 0 2 = 2 → (s.sq n).halted = true → s.takesWrite p (0x2041 + 128 * n) v →
    exec (.seqDbgResume p n v x) s = .next (s.kept ((((s.beginWrite x).setSq n { (s.beginWrite x).sq n with halted := false, noBreak := true }).wdFreeze (n + 1) false).chPump n).endWrite.2))
  ∧ (∀ (p : Path) (n : Nat) (v : Word) (x : RegIn) (s : State), n < 8 → bits v.toNat 24 8 = 0xD6 → bits v.toNat 0 2 = 3 → (s.sq n).halted = true → s.seqStop = false → s.takesWrite p (0x2041 + 128 * n) v →
    exec (.seqDbgStep p n v x) s = .next (s.kept ((s.beginWrite x).seqStep n x.seq).endWrite.2))
  ∧ (∀ (p : Path) (n : Nat) (v : Word) (x : RegIn) (s : State), n < 8 → (s.sq n).halted = true → s.get ⟨0x2044 + 128 * n, 0, 5⟩ (pathNum p) < 16 → s.takesWrite p (0x2045 + 128 * n) v →
    exec (.seqDbgRdataWrite p n v x) s = .next (s.kept ((s.beginWrite x).setV n ((s.beginWrite x).get ⟨0x2044 + 128 * n, 0, 5⟩ (pathNum p)) v).endWrite.2))

/-- Register action rows take their effect (second half): each row named writes its register by an operand path: where the path
reaches parameter space and nothing refuses the write, the action is done.
The rows: CODEC_SAVE, CODEC_DEFAULTS, CLEAR_LEARN, MAP_SAVE, INVALIDATE, REBUILD, STR_CLOSE_ONE, STR_CLOSE_ALL, INF_LOAD,
PROVISION, WRAP, SEAL, KEY_CLEAR, SES_CLOSE, NOR_CTL_PROGRAM, NOR_CTL_PROGRAM_CLEAR, NOR_CTL_ERASE, NOR_CTL_WP, NOR_CTL_PROTECT,
PW_CHANGE, RETIRE, OTP_PROGRAM, OTP_LOCK, PS_DATA_WRITE, EVR_POST, EVR_PEND_CLEAR, EVR_CFG_WRITE, WD_CTL_WRITE, TP_START,
TP_STOP, BIST_CTL_RUN, RESET_MEMBER, RESET_ALL, REGISTER_WRITE, NOR_RDATA_READ.
Each clause says that `exec` answers the next state of the row's own effect, for every state and operands that meet its
hypotheses;
`s.kept E` is `E` with what no command changes. Where the manual leaves a point open the clauses follow log entries 22, 21 (the
model's choices). -/
def Obligations.RegisterActionRowsTakeEffectSecondHalf : Prop :=
  (∀ (p : Path) (v : Word) (x : RegIn) (s : State), bits v.toNat 24 8 = 0x6C → bits v.toNat 0 2 = 1 → s.takesWrite p 0x2490 v →
    exec (.codecSave p v x) s = .next (s.kept (((s.beginWrite x).writePair codecRecord codecOk (s.beginWrite x).codecBody).2).endWrite.2))
  ∧ (∀ (p : Path) (v : Word) (x : RegIn) (s : State), bits v.toNat 24 8 = 0x6C → bits v.toNat 0 2 = 2 → s.port.pend.any (fun c => c.1 == 0x0A) = false → s.takesWrite p 0x2490 v →
    exec (.codecDefaults p v x) s = .next (s.kept ((s.beginWrite x).codecDefaultRegs.foldl (fun (s : State) c => s.setStaged c.1 c.2) (s.beginWrite x)).endWrite.2))
  ∧ (∀ (p : Path) (v : Word) (x : RegIn) (s : State), bits v.toNat 24 8 = 0x6C → bits v.toNat 0 2 = 3 → s.takesWrite p 0x2490 v →
    exec (.clearLearn p v x) s = .next (s.kept ((s.beginWrite x).clearLearn).endWrite.2))
  ∧ (∀ (p : Path) (v : Word) (x : RegIn) (s : State), bits v.toNat 24 8 = 0x4D → bits v.toNat 8 3 = 1 → s.takesWrite p 0x2704 v →
    exec (.mapSave p v x) s = .next (s.kept (((s.beginWrite x).writePair volRecord volOk (s.beginWrite x).volBody).2).endWrite.2))
  ∧ (∀ (p : Path) (v : Word) (x : RegIn) (s : State), bits v.toNat 24 8 = 0x4D → bits v.toNat 8 3 = 2 → s.takesWrite p 0x2704 v →
    exec (.mapInvalidate p v x) s = .next (s.kept ((s.beginWrite x).dropPages (fun c => !c.dirty && (bit v.toNat 7 || c.vol == bits v.toNat 0 4))).endWrite.2))
  ∧ (∀ (p : Path) (v : Word) (x : RegIn) (s : State), bits v.toNat 24 8 = 0x4D → bits v.toNat 8 3 = 3 → s.inBuild (bits v.toNat 0 4) = true → s.takesWrite p 0x2704 v →
    exec (.mapRebuild p v x) s = .next (s.kept ((((s.beginWrite x).dropPages (fun c => c.vol == bits v.toNat 0 4)).nextGroupWrite (bits v.toNat 0 4) 0).2).endWrite.2))
  ∧ (∀ (p : Path) (v : Word) (x : RegIn) (s : State), bits v.toNat 24 8 = 0x5B → bits v.toNat 8 2 = 1 → s.takesWrite p 0x2908 v →
    exec (.strCloseOne p v x) s = .next (s.kept ((s.beginWrite x).streamClosed ((s.beginWrite x).get F.STR_SEL_STREAM (pathNum p))).endWrite.2))
  ∧ (∀ (p : Path) (v : Word) (x : RegIn) (s : State), bits v.toNat 24 8 = 0x5B → bits v.toNat 8 2 = 2 → s.takesWrite p 0x2908 v →
    exec (.strCloseAll p v x) s = .next (s.kept ((s.beginWrite x).closeStreams (fun _ => true)).endWrite.2))
  ∧ (∀ (p : Path) (v : Word) (x : RegIn) (s : State), bits v.toNat 24 8 = 0x1F → bits v.toNat 8 2 = 1 → s.takesWrite p 0x2A0B v →
    exec (.infLoad p v x) s = .next (s.kept ((setBits (bits v.toNat 0 4) 4).foldl State.dictLoad (s.beginWrite x)).endWrite.2))
  ∧ (∀ (p : Path) (v : Word) (x : RegIn) (s : State), bits v.toNat 24 8 = 0xB7 → bits v.toNat 0 3 = 1 → s.lifecycle = 0 → allZero (s.otpBytes 0 0 16) = false → x.rng = true → s.takesWrite p 0x2B02 v →
    exec (.protProvision p v x) s = .next (s.kept (((s.beginWrite x).protProvision true).closeLocked).endWrite.2))
  ∧ (∀ (p : Path) (v : Word) (x : RegIn) (s : State), bits v.toNat 24 8 = 0xB7 → bits v.toNat 0 3 = 2 → s.lifecycle = 2 → sliceB ((List.range 16).flatMap (fun i => natLE 4 (s.get (F.WRAP_KEY_DATA i)))) 0 32 ≠ sliceB ((List.range 16).flatMap (fun i => natLE 4 (s.get (F.WRAP_KEY_DATA i)))) 32 32 → s.takesWrite p 0x2B02 v →
    exec (.protWrap p v x) s = .next (s.kept ((s.beginWrite x).protWrap.closeLocked).endWrite.2))
  ∧ (∀ (p : Path) (v : Word) (x : RegIn) (s : State), bits v.toNat 24 8 = 0xB7 → bits v.toNat 0 3 = 3 → s.lifecycle = 2 → allZero s.rootHash = false → (List.range 16).any s.inBuild = false → s.map.pages.any (fun c => c.dirty) = false → s.get F.MAP_TBL_SRC = 1 → s.get F.CODEC_TBL_SRC = 1 → s.takesWrite p 0x2B02 v →
    exec (.protSeal p v x) s = .next (s.kept ((let r := (s.beginWrite x).otpProgramBytes 6 0 [4]; (if r.1 ≠ 1 then r.2.protResult 7 else (r.2.protEvent 5 0).protResult 1).closeLocked)).endWrite.2))
  ∧ (∀ (p : Path) (v : Word) (x : RegIn) (s : State), bits v.toNat 24 8 = 0xB7 → bits v.toNat 0 3 = 4 → s.takesWrite p 0x2B02 v →
    exec (.keyClear p v x) s = .next (s.kept (((({ (s.beginWrite x) with prot := { (s.beginWrite x).prot with slots := [] } }).streamsUnkeyed).protResult 1).closeLocked).endWrite.2))
  ∧ (∀ (p : Path) (v : Word) (x : RegIn) (s : State), bits v.toNat 24 8 = 0xB7 → bits v.toNat 0 3 = 5 → s.takesWrite p 0x2B02 v →
    exec (.sesClose p v x) s = .next (s.kept (((({ (s.beginWrite x) with prot := { (s.beginWrite x).prot with sessions := [] } }) : State).protResult 1).closeLocked).endWrite.2))
  ∧ (∀ (p : Path) (v : Word) (x : RegIn) (s : State), bits v.toNat 24 8 = 0x9E → bits v.toNat 0 4 = 1 → s.get F.NOR_RES_BUSY (pathNum p) = 0 → s.nvBarred = none → s.takesWrite p 0x2D49 v →
    exec (.norCtlProgram p v x) s = .next (s.kept (((((s.beginWrite x).clearPass (pathNum p)).set F.NOR_RES_BUSY 1 (pathNum p)).norSubmit { origin := .path p, erase := false, words := [((s.beginWrite x).get F.NOR_ADDR_ADDR (pathNum p) * 8, (s.beginWrite x).get F.NOR_WDATA_LO_DATA (pathNum p) + (s.beginWrite x).get F.NOR_WDATA_HI_DATA (pathNum p) * 2 ^ 32)], clear := false, pass := (s.beginWrite x).norPass (pathNum p) })).endWrite.2))
  ∧ (∀ (p : Path) (v : Word) (x : RegIn) (s : State), bits v.toNat 24 8 = 0x9E → bits v.toNat 0 4 = 2 → s.get F.NOR_RES_BUSY (pathNum p) = 0 → s.nvBarred = none → s.takesWrite p 0x2D49 v →
    exec (.norCtlProgramClear p v x) s = .next (s.kept (((((s.beginWrite x).clearPass (pathNum p)).set F.NOR_RES_BUSY 1 (pathNum p)).norSubmit { origin := .path p, erase := false, words := [((s.beginWrite x).get F.NOR_ADDR_ADDR (pathNum p) * 8, (s.beginWrite x).get F.NOR_WDATA_LO_DATA (pathNum p) + (s.beginWrite x).get F.NOR_WDATA_HI_DATA (pathNum p) * 2 ^ 32)], clear := true, pass := (s.beginWrite x).norPass (pathNum p) })).endWrite.2))
  ∧ (∀ (p : Path) (v : Word) (x : RegIn) (s : State), bits v.toNat 24 8 = 0x9E → bits v.toNat 0 4 = 3 → s.get F.NOR_RES_BUSY (pathNum p) = 0 → sectorCode (bits v.toNat 16 8) = true → s.nvBarred = none → s.takesWrite p 0x2D49 v →
    exec (.norCtlErase p v x) s = .next (s.kept (((((s.beginWrite x).clearPass (pathNum p)).set F.NOR_RES_BUSY 1 (pathNum p)).norSubmit { origin := .path p, erase := true, sector := bits v.toNat 16 8, pass := (s.beginWrite x).norPass (pathNum p) })).endWrite.2))
  ∧ (∀ (p : Path) (v : Word) (x : RegIn) (s : State), bits v.toNat 24 8 = 0x9E → bits v.toNat 0 4 = 4 → s.get F.NOR_RES_BUSY (pathNum p) = 0 → sectorCode (bits v.toNat 16 8) = true → s.nvBarred = none → s.takesWrite p 0x2D49 v →
    exec (.norCtlWp p v x) s = .next (s.kept (((({ (s.beginWrite x) with keep := { (s.beginWrite x).keep with norWp := if (s.beginWrite x).keep.norWp.contains (bits v.toNat 16 8) then (s.beginWrite x).keep.norWp else bits v.toNat 16 8 :: (s.beginWrite x).keep.norWp } }) : State).clearPass (pathNum p)).norResult p 0 0).endWrite.2))
  ∧ (∀ (p : Path) (v : Word) (x : RegIn) (s : State), bits v.toNat 24 8 = 0x9E → bits v.toNat 0 4 = 5 → s.get F.NOR_RES_BUSY (pathNum p) = 0 → sectorCode (bits v.toNat 16 8) = true → s.nvBarred = none → s.takesWrite p 0x2D49 v →
    exec (.norCtlProtect p v x) s = .next (s.kept ((let r := (s.beginWrite x).norProtectAction (pathNum p) (bits v.toNat 16 8); (r.2.clearPass (pathNum p)).norResult p r.1.1 r.1.2)).endWrite.2))
  ∧ (∀ (p : Path) (v : Word) (x : RegIn) (s : State), bits v.toNat 24 8 = 0x9E → bits v.toNat 0 4 = 6 → s.get F.NOR_RES_BUSY (pathNum p) = 0 → s.nvBarred = none → s.takesWrite p 0x2D49 v →
    exec (.norCtlPwChange p v x) s = .next (s.kept ((let r := (s.beginWrite x).pwChange (pathNum p); (((List.range 4).foldl (fun (s : State) k => s.set (F.NOR_PW_NEW_DATA k) 0 (pathNum p)) r.2).clearPass (pathNum p)).norResult p r.1.1 r.1.2)).endWrite.2))
  ∧ (∀ (p : Path) (v : Word) (x : RegIn) (s : State), bits v.toNat 24 8 = 0x9E → bits v.toNat 0 4 = 7 → s.get F.NOR_RES_BUSY (pathNum p) = 0 → s.nvBarred = none → s.takesWrite p 0x2D49 v →
    exec (.norCtlRetire p v x) s = .next (s.kept ((let r := (s.beginWrite x).norRetire (pathNum p); (r.2.clearPass (pathNum p)).norResult p r.1.1 r.1.2)).endWrite.2))
  ∧ (∀ (p : Path) (v : Word) (x : RegIn) (s : State), bits v.toNat 24 8 = 0xC5 → bits v.toNat 0 2 = 1 → s.otpBarred = false → otpCtlSlot (s.get F.OTP_SEL_SLOT (pathNum p)) = true → s.otpLocked (s.get F.OTP_SEL_SLOT (pathNum p)) = false → s.takesWrite p 0x2D83 v →
    exec (.otpProgram p v x) s = .next (s.kept ((let r := (s.beginWrite x).otpProgramBytes ((s.beginWrite x).get F.OTP_SEL_SLOT (pathNum p)) (4 * (s.beginWrite x).get F.OTP_SEL_WORD (pathNum p)) (natLE 4 ((s.beginWrite x).get F.OTP_WDATA_DATA (pathNum p))); (r.2.otpResult p (if r.1 = 5 then 4 else r.1)).closeLocked)).endWrite.2))
  ∧ (∀ (p : Path) (v : Word) (x : RegIn) (s : State), bits v.toNat 24 8 = 0xC5 → bits v.toNat 0 2 = 2 → s.otpBarred = false → otpCtlSlot (s.get F.OTP_SEL_SLOT (pathNum p)) = true → s.otpLocked (s.get F.OTP_SEL_SLOT (pathNum p)) = false → s.takesWrite p 0x2D83 v →
    exec (.otpLock p v x) s = .next (s.kept (((s.beginWrite x).otpLock p).closeLocked).endWrite.2))
  ∧ (∀ (p : Path) (v : Word) (x : RegIn) (s : State), 0xE0000 ≤ s.get F.PS_ADDR_ADDR (pathNum p) * 4 → s.takesWrite p 0x2E03 v →
    exec (.psDataWrite p v x) s = .next (s.kept (((s.beginWrite x).psWrite ((s.beginWrite x).get F.PS_ADDR_ADDR (pathNum p) * 4) (natLE 4 v.toNat)).2.psAdvance (pathNum p)).endWrite.2))
  ∧ (∀ (p : Path) (v : Word) (x : RegIn) (s : State), bits v.toNat 24 8 = 0xE1 → bits v.toNat 0 9 < 384 → s.takesWrite p 0x400 v →
    exec (.evrPost p v x) s = .next (s.kept ((s.beginWrite x).post (bits v.toNat 0 9) ((s.beginWrite x).get F.EVR_POST_DATA_LO_DATA (pathNum p) + (s.beginWrite x).get F.EVR_POST_DATA_HI_DATA (pathNum p) * 2 ^ 32)).endWrite.2))
  ∧ (∀ (p : Path) (k : Nat) (v : Word) (x : RegIn) (s : State), k < 12 → s.takesWrite p (0x240 + k) v →
    exec (.evrPendClear p k v x) s = .next (s.kept ((s.beginWrite x).evrClear k v).endWrite.2))
  ∧ (∀ (p : Path) (n : Nat) (v : Word) (x : RegIn) (s : State), n < 384 → s.takesWrite p (0x280 + n) v →
    exec (.evrCfgWrite p n v x) s = .next (s.kept ((s.beginWrite x).evrCfg n v).endWrite.2))
  ∧ (∀ (p : Path) (v : Word) (x : RegIn) (s : State), bits v.toNat 24 8 = 0x5D → s.takesWrite p 0x549 v →
    exec (.wdCtlWrite p v x) s = .next (s.kept (((s.beginWrite x).set F.WD_CTL_WARN (bits v.toNat 16 8)).set F.WD_CTL_EN ((s.beginWrite x).get F.WD_CTL_EN % 2 + bits v.toNat 1 8 * 2)).endWrite.2))
  ∧ (∀ (p : Path) (v : Word) (x : RegIn) (s : State), bits v.toNat 24 8 = 0x7C → patternTarget (bits v.toNat 16 8) = true → bits v.toNat 0 2 = 1 → s.tpRun? (bits v.toNat 16 8) = none → s.tpAvailable (bits v.toNat 16 8) (s.get F.TP_CFG_PATTERN (bits v.toNat 16 8) / 16) (p == .tap) = true → (0x20 ≤ bits v.toNat 16 8 → s.st = stLimited → s.get (F.CH_IF_RATE (bits v.toNat 16 8 - 0x20)) ≤ 2) → s.takesWrite p 0x3341 v →
    exec (.tpStart p v x) s = .next (s.kept (((s.beginWrite x).tpBegin (bits v.toNat 16 8) ((s.beginWrite x).get F.TP_CFG_PATTERN (bits v.toNat 16 8)) ((s.beginWrite x).get F.TP_CFG_DUR_MS (bits v.toNat 16 8) * 1000) none).tpFeed (bits v.toNat 16 8) x.rx).endWrite.2))
  ∧ (∀ (p : Path) (v : Word) (x : RegIn) (s : State), bits v.toNat 24 8 = 0x7C → patternTarget (bits v.toNat 16 8) = true → bits v.toNat 0 2 = 2 → (s.tpRun? (bits v.toNat 16 8)).isSome = true → s.takesWrite p 0x3341 v →
    exec (.tpStop p v x) s = .next (s.kept (((s.beginWrite x).tpFeed (bits v.toNat 16 8) x.rx).tpEnd (bits v.toNat 16 8) 3 0).endWrite.2))
  ∧ (∀ (p : Path) (v : Word) (x : RegIn) (s : State), bits v.toNat 24 8 = 0xB1 → bit v.toNat 8 = true → s.st = stServiceOnly → p = .sp → s.test.bist = none → s.takesWrite p 0x3342 v →
    exec (.bistCtlRun p v x) s = .next (s.kept ((let u := (((s.beginWrite x).set F.BIST_STAT_CODE 0).set F.BIST_STAT_FAILED 0).set F.BIST_STAT_DONE 0; { u with test := { u.test with bist := some { mask := bits v.toNat 0 8, start := (s.beginWrite x).clock } } })).endWrite.2))
  ∧ (∀ (p : Path) (v : Word) (x : RegIn) (s : State), bits v.toNat 24 8 = 0xC7 → bits v.toNat 8 2 = 1 → bits v.toNat 0 2 ≠ 0 → s.cascRole = 1 → s.takesWrite p 0x3204 v →
    exec (.resetMember p v x) s = .next (s.kept ((s.beginWrite x).resetOne (bits v.toNat 0 2)).endWrite.2))
  ∧ (∀ (p : Path) (v : Word) (x : RegIn) (s : State), bits v.toNat 24 8 = 0xC7 → bits v.toNat 8 2 = 2 → s.cascRole = 1 → s.takesWrite p 0x3204 v →
    exec (.resetAll p v x) s = .next (s.kept ((s.beginWrite x).joinedMembers.foldl State.resetOne (s.beginWrite x)).endWrite.2))
  ∧ (∀ (p : Path) (a : Nat) (v : Word) (x : RegIn) (s : State) (d : RegDef), s.plainReg p a v x = true → (s.beginWrite x).regActs p a v x = none → a ≠ 0x47 →
    s.takesWrite p a v → regDef? a = some d → ¬ (s.pcieMode = true ∧ 0x600 ≤ a ∧ a < 0x800) →
    (∀ f ∈ d.fields, f.vmin ≤ bits v.toNat f.lo f.width ∧ bits v.toNat f.lo f.width ≤ f.vmax) →
    exec (.registerWrite p a v x) s =
      .next (s.kept (d.fields.foldl (fun (t : State) (f : FieldDef) => t.fieldWrite a (s.winOf d.win p) v.toNat f) (s.beginWrite x)).endWrite.2))
  ∧ (∀ (p : Path) (s : State), s.pathServes p 0x2D43 = true → exec (.norRdataRead p) s = .next (s.kept (s.regRead p 0x2D43).2))

/-- Arithmetic and logic instructions of the sequencer complete: the destination register holds the result, the flags are those of
the operation, the program counter moves to the next instruction.
The rows: ADD, ADC, SUB, SBC, AND, OR, XOR, SHL, SHR, SAR, ROL, ROR, MUL, DIVS, DIVU, CMP, TST, NEG, NOT, MOV, ADDI, ANDI, ORI,
XORI, SHI, CMPI, MOVI, MOVHI, MOVS.
Each clause says that `exec` answers the next state of the row's own effect, for every state and operands that meet its
hypotheses;
`s.kept E` is `E` with what no command changes. Where the manual leaves a point open the clauses follow log entries 78 (the
model's choices). -/
def Obligations.SequencerArithmeticInstructionsComplete : Prop :=
  (∀ (n w : Nat) (x : SeqIn) (s u : State), s.runs n .add x → w = s.nextWord n → u = s.fetched n → exec (.seqAdd n x) s = .next (s.kept ((u.setV n (wD w) (aluAdd (u.sq n).flags (u.sv n (wA w)) (u.sv n (wB w)) 0).1).setFl n (aluAdd (u.sq n).flags (u.sv n (wA w)) (u.sv n (wB w)) 0).2)))
  ∧ (∀ (n w : Nat) (x : SeqIn) (s u : State), s.runs n .adc x → w = s.nextWord n → u = s.fetched n → exec (.seqAdc n x) s = .next (s.kept ((u.setV n (wD w) (aluAdd (u.sq n).flags (u.sv n (wA w)) (u.sv n (wB w)) (b2n (bit (u.sq n).flags 2))).1).setFl n (aluAdd (u.sq n).flags (u.sv n (wA w)) (u.sv n (wB w)) (b2n (bit (u.sq n).flags 2))).2)))
  ∧ (∀ (n w : Nat) (x : SeqIn) (s u : State), s.runs n .sub x → w = s.nextWord n → u = s.fetched n → exec (.seqSub n x) s = .next (s.kept ((u.setV n (wD w) (aluSub (u.sq n).flags (u.sv n (wA w)) (u.sv n (wB w)) 0).1).setFl n (aluSub (u.sq n).flags (u.sv n (wA w)) (u.sv n (wB w)) 0).2)))
  ∧ (∀ (n w : Nat) (x : SeqIn) (s u : State), s.runs n .sbc x → w = s.nextWord n → u = s.fetched n → exec (.seqSbc n x) s = .next (s.kept ((u.setV n (wD w) (aluSub (u.sq n).flags (u.sv n (wA w)) (u.sv n (wB w)) (1 - b2n (bit (u.sq n).flags 2))).1).setFl n (aluSub (u.sq n).flags (u.sv n (wA w)) (u.sv n (wB w)) (1 - b2n (bit (u.sq n).flags 2))).2)))
  ∧ (∀ (n w : Nat) (x : SeqIn) (s u : State), s.runs n .and x → w = s.nextWord n → u = s.fetched n → exec (.seqAnd n x) s = .next (s.kept ((u.setV n (wD w) (aluLogic (u.sq n).flags ((u.sv n (wA w)) &&& (u.sv n (wB w)))).1).setFl n (aluLogic (u.sq n).flags ((u.sv n (wA w)) &&& (u.sv n (wB w)))).2)))
  ∧ (∀ (n w : Nat) (x : SeqIn) (s u : State), s.runs n .or x → w = s.nextWord n → u = s.fetched n → exec (.seqOr n x) s = .next (s.kept ((u.setV n (wD w) (aluLogic (u.sq n).flags ((u.sv n (wA w)) ||| (u.sv n (wB w)))).1).setFl n (aluLogic (u.sq n).flags ((u.sv n (wA w)) ||| (u.sv n (wB w)))).2)))
  ∧ (∀ (n w : Nat) (x : SeqIn) (s u : State), s.runs n .xor x → w = s.nextWord n → u = s.fetched n → exec (.seqXor n x) s = .next (s.kept ((u.setV n (wD w) (aluLogic (u.sq n).flags ((u.sv n (wA w)) ^^^ (u.sv n (wB w)))).1).setFl n (aluLogic (u.sq n).flags ((u.sv n (wA w)) ^^^ (u.sv n (wB w)))).2)))
  ∧ (∀ (n w : Nat) (x : SeqIn) (s u : State), s.runs n .shl x → w = s.nextWord n → u = s.fetched n → exec (.seqShl n x) s = .next (s.kept ((u.setV n (wD w) (aluShl (u.sq n).flags (u.sv n (wA w)) ((u.sv n (wB w)).toNat % 256)).1).setFl n (aluShl (u.sq n).flags (u.sv n (wA w)) ((u.sv n (wB w)).toNat % 256)).2)))
  ∧ (∀ (n w : Nat) (x : SeqIn) (s u : State), s.runs n .shr x → w = s.nextWord n → u = s.fetched n → exec (.seqShr n x) s = .next (s.kept ((u.setV n (wD w) (aluShr (u.sq n).flags (u.sv n (wA w)) ((u.sv n (wB w)).toNat % 256)).1).setFl n (aluShr (u.sq n).flags (u.sv n (wA w)) ((u.sv n (wB w)).toNat % 256)).2)))
  ∧ (∀ (n w : Nat) (x : SeqIn) (s u : State), s.runs n .sar x → w = s.nextWord n → u = s.fetched n → exec (.seqSar n x) s = .next (s.kept ((u.setV n (wD w) (aluSar (u.sq n).flags (u.sv n (wA w)) ((u.sv n (wB w)).toNat % 256)).1).setFl n (aluSar (u.sq n).flags (u.sv n (wA w)) ((u.sv n (wB w)).toNat % 256)).2)))
  ∧ (∀ (n w : Nat) (x : SeqIn) (s u : State), s.runs n .rol x → w = s.nextWord n → u = s.fetched n → exec (.seqRol n x) s = .next (s.kept ((u.setV n (wD w) (aluRol (u.sq n).flags (u.sv n (wA w)) ((u.sv n (wB w)).toNat % 256)).1).setFl n (aluRol (u.sq n).flags (u.sv n (wA w)) ((u.sv n (wB w)).toNat % 256)).2)))
  ∧ (∀ (n w : Nat) (x : SeqIn) (s u : State), s.runs n .ror x → w = s.nextWord n → u = s.fetched n → exec (.seqRor n x) s = .next (s.kept ((u.setV n (wD w) (aluRor (u.sq n).flags (u.sv n (wA w)) ((u.sv n (wB w)).toNat % 256)).1).setFl n (aluRor (u.sq n).flags (u.sv n (wA w)) ((u.sv n (wB w)).toNat % 256)).2)))
  ∧ (∀ (n w : Nat) (x : SeqIn) (s u : State), s.runs n .mul x → w = s.nextWord n → u = s.fetched n → exec (.seqMul n x) s = .next (s.kept ((u.setV n (wD w) (aluMul (u.sq n).flags (u.sv n (wA w)) (u.sv n (wB w))).1).setFl n (aluMul (u.sq n).flags (u.sv n (wA w)) (u.sv n (wB w))).2)))
  ∧ (∀ (n w : Nat) (x : SeqIn) (s u : State), s.runs n .divs x → w = s.nextWord n → u = s.fetched n → bit (aluDivs (u.sq n).flags (u.sv n (wA w)) (u.sv n (wB w))).2.2 4 = false → exec (.seqDivs n x) s = .next (s.kept (((u.setV n (wD w) (aluDivs (u.sq n).flags (u.sv n (wA w)) (u.sv n (wB w))).1).setV n (wD w + 1) (aluDivs (u.sq n).flags (u.sv n (wA w)) (u.sv n (wB w))).2.1).setFl n (aluDivs (u.sq n).flags (u.sv n (wA w)) (u.sv n (wB w))).2.2)))
  ∧ (∀ (n w : Nat) (x : SeqIn) (s u : State), s.runs n .divs x → w = s.nextWord n → u = s.fetched n → bit (aluDivs (u.sq n).flags (u.sv n (wA w)) (u.sv n (wB w))).2.2 4 = true → u.get (F.SEQ_CTL_DZ_EVENT n) = 1 → exec (.seqDivs n x) s = .next (s.kept ((((u.setV n (wD w) (aluDivs (u.sq n).flags (u.sv n (wA w)) (u.sv n (wB w))).1).setV n (wD w + 1) (aluDivs (u.sq n).flags (u.sv n (wA w)) (u.sv n (wB w))).2.1).setFl n (aluDivs (u.sq n).flags (u.sv n (wA w)) (u.sv n (wB w))).2.2).seqEvent n 5 (s.sq n).pc)))
  ∧ (∀ (n w : Nat) (x : SeqIn) (s u : State), s.runs n .divu x → w = s.nextWord n → u = s.fetched n → bit (aluDivu (u.sq n).flags (u.sv n (wA w)) (u.sv n (wB w))).2.2 4 = false → exec (.seqDivu n x) s = .next (s.kept (((u.setV n (wD w) (aluDivu (u.sq n).flags (u.sv n (wA w)) (u.sv n (wB w))).1).setV n (wD w + 1) (aluDivu (u.sq n).flags (u.sv n (wA w)) (u.sv n (wB w))).2.1).setFl n (aluDivu (u.sq n).flags (u.sv n (wA w)) (u.sv n (wB w))).2.2)))
  ∧ (∀ (n w : Nat) (x : SeqIn) (s u : State), s.runs n .divu x → w = s.nextWord n → u = s.fetched n → bit (aluDivu (u.sq n).flags (u.sv n (wA w)) (u.sv n (wB w))).2.2 4 = true → u.get (F.SEQ_CTL_DZ_EVENT n) = 1 → exec (.seqDivu n x) s = .next (s.kept ((((u.setV n (wD w) (aluDivu (u.sq n).flags (u.sv n (wA w)) (u.sv n (wB w))).1).setV n (wD w + 1) (aluDivu (u.sq n).flags (u.sv n (wA w)) (u.sv n (wB w))).2.1).setFl n (aluDivu (u.sq n).flags (u.sv n (wA w)) (u.sv n (wB w))).2.2).seqEvent n 5 (s.sq n).pc)))
  ∧ (∀ (n w : Nat) (x : SeqIn) (s u : State), s.runs n .cmp x → w = s.nextWord n → u = s.fetched n → exec (.seqCmp n x) s = .next (s.kept (u.setFl n (aluSub (u.sq n).flags (u.sv n (wA w)) (u.sv n (wB w)) 0).2)))
  ∧ (∀ (n w : Nat) (x : SeqIn) (s u : State), s.runs n .tst x → w = s.nextWord n → u = s.fetched n → exec (.seqTst n x) s = .next (s.kept (u.setFl n (aluLogic (u.sq n).flags ((u.sv n (wA w)) &&& (u.sv n (wB w)))).2)))
  ∧ (∀ (n w : Nat) (x : SeqIn) (s u : State), s.runs n .neg x → w = s.nextWord n → u = s.fetched n → exec (.seqNeg n x) s = .next (s.kept ((u.setV n (wD w) (aluSub (u.sq n).flags 0 (u.sv n (wA w)) 0).1).setFl n (aluSub (u.sq n).flags 0 (u.sv n (wA w)) 0).2)))
  ∧ (∀ (n w : Nat) (x : SeqIn) (s u : State), s.runs n .not x → w = s.nextWord n → u = s.fetched n → exec (.seqNot n x) s = .next (s.kept ((u.setV n (wD w) (aluLogic (u.sq n).flags (~~~(u.sv n (wA w)))).1).setFl n (aluLogic (u.sq n).flags (~~~(u.sv n (wA w)))).2)))
  ∧ (∀ (n w : Nat) (x : SeqIn) (s u : State), s.runs n .mov x → w = s.nextWord n → u = s.fetched n → exec (.seqMov n x) s = .next (s.kept (u.setV n (wD w) (u.sv n (wA w)))))
  ∧ (∀ (n w : Nat) (x : SeqIn) (s u : State), s.runs n .addi x → w = s.nextWord n → u = s.fetched n → exec (.seqAddi n x) s = .next (s.kept ((u.setV n (wD w) (aluAdd (u.sq n).flags (u.sv n (wA w)) (wSimm w) 0).1).setFl n (aluAdd (u.sq n).flags (u.sv n (wA w)) (wSimm w) 0).2)))
  ∧ (∀ (n w : Nat) (x : SeqIn) (s u : State), s.runs n .andi x → w = s.nextWord n → u = s.fetched n → exec (.seqAndi n x) s = .next (s.kept ((u.setV n (wD w) (aluLogic (u.sq n).flags ((u.sv n (wA w)) &&& BitVec.ofNat 32 (wImm w))).1).setFl n (aluLogic (u.sq n).flags ((u.sv n (wA w)) &&& BitVec.ofNat 32 (wImm w))).2)))
  ∧ (∀ (n w : Nat) (x : SeqIn) (s u : State), s.runs n .ori x → w = s.nextWord n → u = s.fetched n → exec (.seqOri n x) s = .next (s.kept ((u.setV n (wD w) (aluLogic (u.sq n).flags ((u.sv n (wA w)) ||| BitVec.ofNat 32 (wImm w))).1).setFl n (aluLogic (u.sq n).flags ((u.sv n (wA w)) ||| BitVec.ofNat 32 (wImm w))).2)))
  ∧ (∀ (n w : Nat) (x : SeqIn) (s u : State), s.runs n .xori x → w = s.nextWord n → u = s.fetched n → exec (.seqXori n x) s = .next (s.kept ((u.setV n (wD w) (aluLogic (u.sq n).flags ((u.sv n (wA w)) ^^^ BitVec.ofNat 32 (wImm w))).1).setFl n (aluLogic (u.sq n).flags ((u.sv n (wA w)) ^^^ BitVec.ofNat 32 (wImm w))).2)))
  ∧ (∀ (n w : Nat) (x : SeqIn) (s u : State), s.runs n .shi x → w = s.nextWord n → u = s.fetched n → bits w 16 2 = 0 → exec (.seqShi n x) s = .next (s.kept ((u.setV n (wD w) (aluShl (u.sq n).flags (u.sv n (wA w)) (wImm w % 256)).1).setFl n (aluShl (u.sq n).flags (u.sv n (wA w)) (wImm w % 256)).2)))
  ∧ (∀ (n w : Nat) (x : SeqIn) (s u : State), s.runs n .shi x → w = s.nextWord n → u = s.fetched n → bits w 16 2 = 1 → exec (.seqShi n x) s = .next (s.kept ((u.setV n (wD w) (aluShr (u.sq n).flags (u.sv n (wA w)) (wImm w % 256)).1).setFl n (aluShr (u.sq n).flags (u.sv n (wA w)) (wImm w % 256)).2)))
  ∧ (∀ (n w : Nat) (x : SeqIn) (s u : State), s.runs n .shi x → w = s.nextWord n → u = s.fetched n → bits w 16 2 = 2 → exec (.seqShi n x) s = .next (s.kept ((u.setV n (wD w) (aluSar (u.sq n).flags (u.sv n (wA w)) (wImm w % 256)).1).setFl n (aluSar (u.sq n).flags (u.sv n (wA w)) (wImm w % 256)).2)))
  ∧ (∀ (n w : Nat) (x : SeqIn) (s u : State), s.runs n .shi x → w = s.nextWord n → u = s.fetched n → bits w 16 2 = 3 → exec (.seqShi n x) s = .next (s.kept ((u.setV n (wD w) (aluRor (u.sq n).flags (u.sv n (wA w)) (wImm w % 256)).1).setFl n (aluRor (u.sq n).flags (u.sv n (wA w)) (wImm w % 256)).2)))
  ∧ (∀ (n w : Nat) (x : SeqIn) (s u : State), s.runs n .cmpi x → w = s.nextWord n → u = s.fetched n → exec (.seqCmpi n x) s = .next (s.kept (u.setFl n (aluSub (u.sq n).flags (u.sv n (wA w)) (wSimm w) 0).2)))
  ∧ (∀ (n w : Nat) (x : SeqIn) (s u : State), s.runs n .movi x → w = s.nextWord n → u = s.fetched n → exec (.seqMovi n x) s = .next (s.kept (u.setV n (wD w) (BitVec.ofNat 32 (wImm w)))))
  ∧ (∀ (n w : Nat) (x : SeqIn) (s u : State), s.runs n .movhi x → w = s.nextWord n → u = s.fetched n → exec (.seqMovhi n x) s = .next (s.kept (u.setV n (wD w) (BitVec.ofNat 32 (putBits (u.sv n (wD w)).toNat 16 16 (wImm w))))))
  ∧ (∀ (n w : Nat) (x : SeqIn) (s u : State), s.runs n .movs x → w = s.nextWord n → u = s.fetched n → exec (.seqMovs n x) s = .next (s.kept (u.setV n (wD w) (wSimm w))))

/-- Load, store, pointer and special-register instructions complete: the word, half-word or byte named by the pointer or the address
moves, pointers and special registers are read and written.
The rows: MFS, MTS, PSET, PGET, PADD, LDW, LDH, LDB, STW, STH, STB, LDL, STL.
Each clause says that `exec` answers the next state of the row's own effect, for every state and operands that meet its
hypotheses;
`s.kept E` is `E` with what no command changes. Where the manual leaves a point open the clauses follow log entries 78, 80, 81,
9 (the model's choices). -/
def Obligations.SequencerMemoryInstructionsComplete : Prop :=
  (∀ (n w : Nat) (x : SeqIn) (s u : State), s.runs n .mfs x → w = s.nextWord n → u = s.fetched n → exec (.seqMfs n x) s = .next (s.kept ((u.srRead n (wImm w % 256)).2.setV n (wD w) (BitVec.ofNat 32 (u.srRead n (wImm w % 256)).1))))
  ∧ (∀ (n w : Nat) (x : SeqIn) (s u : State) (t : State), s.runs n .mts x → w = s.nextWord n → u = s.fetched n → u.srWrite n (wImm w % 256) (u.sv n (wA w)).toNat x = .ok t → exec (.seqMts n x) s = .next (s.kept t))
  ∧ (∀ (n w : Nat) (x : SeqIn) (s u : State), s.runs n .pset x → w = s.nextWord n → u = s.fetched n → exec (.seqPset n x) s = .next (s.kept (u.setPtr n (wPP w) (putBits (u.sv n (wA w)).toNat 30 1 0))))
  ∧ (∀ (n w : Nat) (x : SeqIn) (s u : State), s.runs n .pget x → w = s.nextWord n → u = s.fetched n → exec (.seqPget n x) s = .next (s.kept (u.setV n (wA w) (BitVec.ofNat 32 (u.ptr n (wPP w))))))
  ∧ (∀ (n w : Nat) (x : SeqIn) (s u : State) (r off : Nat), s.runs n .padd x → w = s.nextWord n → u = s.fetched n → u.advance (u.ptr n (wPP w)) (wSimm w).toInt = .to r off → exec (.seqPadd n x) s = .next (s.kept (u.setPtr n (wPP w) (putBits (putBits (u.ptr n (wPP w)) 0 16 r) 16 13 off))))
  ∧ (∀ (n w : Nat) (x : SeqIn) (s u : State) (v : State) (p : Nat), s.runs n .ldw x → w = s.nextWord n → u = s.fetched n → v = u.drain n → p = v.ptr n (wPM w) → wInc w = false → pTag p = false → accFault p (wTarget w) 4 = none → x.hmpEcc ≠ 2 → v.refOk (pRef p) = true → exec (.seqLdw n x) s = .next (s.kept ((v.seqEcc p (pOff p + wTarget w) x.hmpEcc).setV n (wD w) (BitVec.ofNat 32 (leNat (v.hmpData (refBuf (pRef p)) (pOff p + wTarget w) 4))))))
  ∧ (∀ (n w : Nat) (x : SeqIn) (s u : State) (v : State) (p : Nat), s.runs n .ldh x → w = s.nextWord n → u = s.fetched n → v = u.drain n → p = v.ptr n (wPM w) → wInc w = false → pTag p = false → accFault p (wTarget w) 2 = none → x.hmpEcc ≠ 2 → v.refOk (pRef p) = true → exec (.seqLdh n x) s = .next (s.kept ((v.seqEcc p (pOff p + wTarget w) x.hmpEcc).setV n (wD w) (BitVec.ofNat 32 (leNat (v.hmpData (refBuf (pRef p)) (pOff p + wTarget w) 2))))))
  ∧ (∀ (n w : Nat) (x : SeqIn) (s u : State) (v : State) (p : Nat), s.runs n .ldb x → w = s.nextWord n → u = s.fetched n → v = u.drain n → p = v.ptr n (wPM w) → wInc w = false → pTag p = false → accFault p (wTarget w) 1 = none → x.hmpEcc ≠ 2 → v.refOk (pRef p) = true → exec (.seqLdb n x) s = .next (s.kept ((v.seqEcc p (pOff p + wTarget w) x.hmpEcc).setV n (wD w) (BitVec.ofNat 32 (leNat (v.hmpData (refBuf (pRef p)) (pOff p + wTarget w) 1))))))
  ∧ (∀ (n w : Nat) (x : SeqIn) (s u : State) (p : Nat), s.runs n .stw x → w = s.nextWord n → u = s.fetched n → p = u.ptr n (wPM w) → wInc w = false → accFault p (wTarget w) 4 = none → (u.sq n).wbuf.length < 8 → exec (.seqStw n x) s = .next (s.kept (u.setSq n { u.sq n with wbuf := (u.sq n).wbuf ++ [{ p := wPM w, ptr := p, off := pOff p + wTarget w, bytes := natLE 4 (u.sv n (wD w)).toNat }] })))
  ∧ (∀ (n w : Nat) (x : SeqIn) (s u : State) (p : Nat), s.runs n .sth x → w = s.nextWord n → u = s.fetched n → p = u.ptr n (wPM w) → wInc w = false → accFault p (wTarget w) 2 = none → (u.sq n).wbuf.length < 8 → exec (.seqSth n x) s = .next (s.kept (u.setSq n { u.sq n with wbuf := (u.sq n).wbuf ++ [{ p := wPM w, ptr := p, off := pOff p + wTarget w, bytes := natLE 2 (u.sv n (wD w)).toNat }] })))
  ∧ (∀ (n w : Nat) (x : SeqIn) (s u : State) (p : Nat), s.runs n .stb x → w = s.nextWord n → u = s.fetched n → p = u.ptr n (wPM w) → wInc w = false → accFault p (wTarget w) 1 = none → (u.sq n).wbuf.length < 8 → exec (.seqStb n x) s = .next (s.kept (u.setSq n { u.sq n with wbuf := (u.sq n).wbuf ++ [{ p := wPM w, ptr := p, off := pOff p + wTarget w, bytes := natLE 1 (u.sv n (wD w)).toNat }] })))
  ∧ (∀ (n w : Nat) (x : SeqIn) (s u : State) (i : Nat), s.runs n .ldl x → w = s.nextWord n → u = s.fetched n → lramAddr ((u.sv n (wA w)) + wSimm w) = .ok i → x.ramEcc = 0 → exec (.seqLdl n x) s = .next (s.kept (u.setV n (wD w) (u.lramGet n i))))
  ∧ (∀ (n w : Nat) (x : SeqIn) (s u : State) (i : Nat), s.runs n .stl x → w = s.nextWord n → u = s.fetched n → lramAddr ((u.sv n (wA w)) + wSimm w) = .ok i → exec (.seqStl n x) s = .next (s.kept (u.setSq n { u.sq n with lram := tput (u.sq n).lram i (u.sv n (wD w)) })))

/-- Control, event and timer instructions of the sequencer complete: branches, calls and returns move the program counter, events,
timers, edge detectors and the watchdog are operated.
The rows: SEQ_NOP, B, BR, CALL, CALLR, RET, RETE, RETF, DJNZ, POST, EVM, WAIT, KICK, TSET, TSTOP, TGET, EARM, EDIS, EGET, BRK.
Each clause says that `exec` answers the next state of the row's own effect, for every state and operands that meet its
hypotheses;
`s.kept E` is `E` with what no command changes. Where the manual leaves a point open the clauses follow log entries 79, 81 (the
model's choices). -/
def Obligations.SequencerControlInstructionsComplete : Prop :=
  (∀ (n w : Nat) (x : SeqIn) (s u : State), s.runs n .nop x → w = s.nextWord n → u = s.fetched n → exec (.seqNop n x) s = .next (s.kept u))
  ∧ (∀ (n w : Nat) (x : SeqIn) (s u : State), s.runs n .b x → w = s.nextWord n → u = s.fetched n → condTrue (u.sq n).flags (wD w) = true → exec (.seqB n x) s = .next (s.kept (u.setPc n (wTarget w))))
  ∧ (∀ (n w : Nat) (x : SeqIn) (s u : State), s.runs n .b x → w = s.nextWord n → u = s.fetched n → condTrue (u.sq n).flags (wD w) = false → exec (.seqB n x) s = .next (s.kept u))
  ∧ (∀ (n w : Nat) (x : SeqIn) (s u : State), s.runs n .br x → w = s.nextWord n → u = s.fetched n → (u.sv n (wA w)).toNat < 4096 → condTrue (u.sq n).flags (wD w) = true → exec (.seqBr n x) s = .next (s.kept (u.setPc n (u.sv n (wA w)).toNat)))
  ∧ (∀ (n w : Nat) (x : SeqIn) (s u : State), s.runs n .br x → w = s.nextWord n → u = s.fetched n → (u.sv n (wA w)).toNat < 4096 → condTrue (u.sq n).flags (wD w) = false → exec (.seqBr n x) s = .next (s.kept u))
  ∧ (∀ (n w : Nat) (x : SeqIn) (s u : State), s.runs n .call x → w = s.nextWord n → u = s.fetched n → condTrue (u.sq n).flags (wD w) = true → (u.sq n).stack.length < 8 → exec (.seqCall n x) s = .next (s.kept (u.setSq n { u.sq n with stack := (u.sq n).pc :: (u.sq n).stack, pc := wTarget w % 4096 })))
  ∧ (∀ (n w : Nat) (x : SeqIn) (s u : State), s.runs n .callr x → w = s.nextWord n → u = s.fetched n → (u.sv n (wA w)).toNat < 4096 → (u.sq n).stack.length < 8 → exec (.seqCallr n x) s = .next (s.kept (u.setSq n { u.sq n with stack := (u.sq n).pc :: (u.sq n).stack, pc := (u.sv n (wA w)).toNat % 4096 })))
  ∧ (∀ (n w : Nat) (x : SeqIn) (s u : State) (a : Nat) (l : List Nat), s.runs n .ret x → w = s.nextWord n → u = s.fetched n → (u.sq n).stack = a :: l → exec (.seqRet n x) s = .next (s.kept (u.setSq n { u.sq n with stack := l, pc := a })))
  ∧ (∀ (n w : Nat) (x : SeqIn) (s u : State), s.runs n .rete x → w = s.nextWord n → u = s.fetched n → (u.sq n).insvc = true → exec (.seqRete n x) s = .next (s.kept ((u.setSq n { u.sq n with pc := (u.sq n).epc, flags := (u.sq n).eflags }).dropService n)))
  ∧ (∀ (n w : Nat) (x : SeqIn) (s u : State), s.runs n .retf x → w = s.nextWord n → u = s.fetched n → (u.sq n).inflt = true → exec (.seqRetf n x) s = .next (s.kept (u.setSq n { u.sq n with pc := (u.sq n).fltRet, flags := (u.sq n).fflags, inflt := false })))
  ∧ (∀ (n w : Nat) (x : SeqIn) (s u : State), s.runs n .djnz x → w = s.nextWord n → u = s.fetched n → u.sv n (wD w) ≠ 1 → exec (.seqDjnz n x) s = .next (s.kept ((u.setV n (wD w) (u.sv n (wD w) - 1)).setPc n (wTarget w))))
  ∧ (∀ (n w : Nat) (x : SeqIn) (s u : State), s.runs n .djnz x → w = s.nextWord n → u = s.fetched n → u.sv n (wD w) = 1 → exec (.seqDjnz n x) s = .next (s.kept (u.setV n (wD w) 0)))
  ∧ (∀ (n w : Nat) (x : SeqIn) (s u : State), s.runs n .post x → w = s.nextWord n → u = s.fetched n → exec (.seqPost n x) s = .next (s.kept ((u.drain n).seqEvent n (wImm w % 4) (u.sv n (wA w)).toNat)))
  ∧ (∀ (n w : Nat) (x : SeqIn) (s u : State), s.runs n .evm x → w = s.nextWord n → u = s.fetched n → exec (.seqEvm n x) s = .next (s.kept (u.setSq n { u.sq n with en := bit w 0 })))
  ∧ (∀ (n w : Nat) (x : SeqIn) (s u : State), s.runs n .wait x → w = s.nextWord n → u = s.fetched n → u.anyCand n = true → exec (.seqWait n x) s = .next (s.kept (u.setSq n { u.sq n with st := 1 })))
  ∧ (∀ (n w : Nat) (x : SeqIn) (s u : State), s.runs n .wait x → w = s.nextWord n → u = s.fetched n → u.anyCand n = false → exec (.seqWait n x) s = .next (s.kept (u.setSq n { u.sq n with st := 2, pc := (s.sq n).pc })))
  ∧ (∀ (n w : Nat) (x : SeqIn) (s u : State), s.runs n .kick x → w = s.nextWord n → u = s.fetched n → exec (.seqKick n x) s = .next (s.kept (u.wdService (n + 1))))
  ∧ (∀ (n w : Nat) (x : SeqIn) (s u : State), s.runs n .tset x → w = s.nextWord n → u = s.fetched n → bits (u.sv n (wA w)).toNat 0 24 ≠ 0 → bits (u.sv n (wA w)).toNat 24 8 < 2 → exec (.seqTset n x) s = .next (s.kept (u.setTimer n (wImm w % 8) { u.timer n (wImm w % 8) with running := true, start := bits (u.sv n (wA w)).toNat 0 24, inUs := bit (u.sv n (wA w)).toNat 24, left := bits (u.sv n (wA w)).toNat 0 24, pend := false, carried := false })))
  ∧ (∀ (n w : Nat) (x : SeqIn) (s u : State), s.runs n .tstop x → w = s.nextWord n → u = s.fetched n → exec (.seqTstop n x) s = .next (s.kept (u.setTimer n (wImm w % 8) { u.timer n (wImm w % 8) with running := false, pend := false, carried := false })))
  ∧ (∀ (n w : Nat) (x : SeqIn) (s u : State), s.runs n .tget x → w = s.nextWord n → u = s.fetched n → (u.timer n (wImm w % 8)).running = true → (u.timer n (wImm w % 8)).inUs = true → (u.timer n (wImm w % 8)).pend = false → (u.timer n (wImm w % 8)).carried = false → exec (.seqTget n x) s = .next (s.kept (u.setV n (wA w) (BitVec.ofNat 32 ((u.timer n (wImm w % 8)).left % 2 ^ 24 + 2 ^ 24)))))
  ∧ (∀ (n w : Nat) (x : SeqIn) (s u : State), s.runs n .earm x → w = s.nextWord n → u = s.fetched n → ecfgOk (u.sv n (wA w)).toNat = true → exec (.seqEarm n x) s = .next (s.kept (u.setEdge n (wImm w % 8) { cfg := (u.sv n (wA w)).toNat, armed := true, latched := (u.edge n (wImm w % 8)).kept, carried := (u.edge n (wImm w % 8)).kept, level := !u.rbIgnored n ((u.sv n (wA w)).toNat % 32) && u.srcLevel n ((u.sv n (wA w)).toNat % 32) x.rb })))
  ∧ (∀ (n w : Nat) (x : SeqIn) (s u : State), s.runs n .edis x → w = s.nextWord n → u = s.fetched n → exec (.seqEdis n x) s = .next (s.kept (u.setEdge n (wImm w % 8) { u.edge n (wImm w % 8) with armed := false, latched := false, carried := false, kept := false })))
  ∧ (∀ (n w : Nat) (x : SeqIn) (s u : State), s.runs n .eget x → w = s.nextWord n → u = s.fetched n → (u.edge n (wImm w % 8)).latched = false → u.rbIgnored n ((u.edge n (wImm w % 8)).cfg % 32) = false → exec (.seqEget n x) s = .next (s.kept ((u.setEdge n (wImm w % 8) { u.edge n (wImm w % 8) with overrun := false }).setV n (wA w) (BitVec.ofNat 32 (b2n (u.edge n (wImm w % 8)).armed + b2n (u.srcLevel n ((u.edge n (wImm w % 8)).cfg % 32) x.rb) * 4 + b2n (u.edge n (wImm w % 8)).carried * 8 + b2n (u.edge n (wImm w % 8)).overrun * 16)))))
  ∧ (∀ (n w : Nat) (x : SeqIn) (s u : State), s.runs n .brk x → w = s.nextWord n → u = s.fetched n → u.get (F.SEQ_DBG_CFG_BRK_EN n) = 1 → u.seqStop = false → exec (.seqBrk n x) s = .next (s.kept (u.haltSeq n)))
  ∧ (∀ (n w : Nat) (x : SeqIn) (s u : State), s.runs n .brk x → w = s.nextWord n → u = s.fetched n → u.get (F.SEQ_DBG_CFG_BRK_EN n) ≠ 1 → exec (.seqBrk n x) s = .next (s.kept u))

/-- Flash bus instructions of the sequencer complete: the bus primitive runs on the selected die, bursts move bytes between the die
and the buffer of the pointer.
The rows: PTST, BCMD, BADR, BSTS, BSETF, BGETF, BSEL, BDO, BDI, BIDLE.
Each clause says that `exec` answers the next state of the row's own effect, for every state and operands that meet its
hypotheses;
`s.kept E` is `E` with what no command changes. Where the manual leaves a point open the clauses follow log entries 85, 66 (the
model's choices). -/
def Obligations.SequencerBusInstructionsComplete : Prop :=
  (∀ (n w : Nat) (x : SeqIn) (s u : State), s.runs n .ptst x → w = s.nextWord n → u = s.fetched n → exec (.seqPtst n x) s = .next (s.kept ((u.drain n).setFl n (setFlag ((u.drain n).sq n).flags 0 (bit ((u.drain n).ptr n (wPP w)) 30)))))
  ∧ (∀ (n w : Nat) (x : SeqIn) (s u : State), s.runs n .bcmd x → w = s.nextWord n → u = s.fetched n → u.chHold n = false → (u.sq n).ce ≠ none → exec (.seqBcmd n x) s = .next (s.kept ((u.drain n).busAct n 1 [BitVec.ofNat 8 w])))
  ∧ (∀ (n w : Nat) (x : SeqIn) (s u : State), s.runs n .badr x → w = s.nextWord n → u = s.fetched n → u.chHold n = false → (u.sq n).ce ≠ none → exec (.seqBadr n x) s = .next (s.kept ((u.drain n).busAct n 2 ((natLE 4 ((u.drain n).sv n (wA w)).toNat ++ natLE 4 ((u.drain n).sv n (wA w + 1)).toNat).take (wImm w % 8)))))
  ∧ (∀ (n w : Nat) (x : SeqIn) (s u : State), s.runs n .bsts x → w = s.nextWord n → u = s.fetched n → u.chHold n = false → (u.sq n).ce ≠ none → exec (.seqBsts n x) s = .next (s.kept (((u.drain n).busAct n 5 [BitVec.ofNat 8 w]).setV n (wD w) (BitVec.ofNat 32 (leAt x.bus 0 1)))))
  ∧ (∀ (n w : Nat) (x : SeqIn) (s u : State), s.runs n .bsetf x → w = s.nextWord n → u = s.fetched n → u.chHold n = false → (u.sq n).ce ≠ none → exec (.seqBsetf n x) s = .next (s.kept ((u.drain n).busAct n 6 (BitVec.ofNat 8 w :: natLE 4 ((u.drain n).sv n (wA w)).toNat))))
  ∧ (∀ (n w : Nat) (x : SeqIn) (s u : State), s.runs n .bgetf x → w = s.nextWord n → u = s.fetched n → u.chHold n = false → (u.sq n).ce ≠ none → exec (.seqBgetf n x) s = .next (s.kept (((u.drain n).busAct n 7 [BitVec.ofNat 8 w]).setV n (wD w) (BitVec.ofNat 32 (leAt x.bus 0 4)))))
  ∧ (∀ (n w : Nat) (x : SeqIn) (s u : State), s.runs n .bsel x → w = s.nextWord n → u = s.fetched n → u.chHold n = false → bit w 8 = true → exec (.seqBsel n x) s = .next (s.kept (((u.drain n).busAct n 0 []).setSq n { (u.drain n).sq n with ce := none })))
  ∧ (∀ (n w : Nat) (x : SeqIn) (s u : State), s.runs n .bsel x → w = s.nextWord n → u = s.fetched n → u.chHold n = false → bit w 8 = false → bit ((u.drain n).get (F.CH_CE_MAP_PRESENT n)) (w % 8) = true → exec (.seqBsel n x) s = .next (s.kept (((u.drain n).busAct n 0 [BitVec.ofNat 8 (w % 8)]).setSq n { (u.drain n).sq n with ce := some (w % 8) })))
  ∧ (∀ (n w : Nat) (x : SeqIn) (s u v y : State) (p len r off : Nat), s.runs n .bdo x → w = s.nextWord n → u = s.fetched n → u.chHold n = false → (u.sq n).ce ≠ none →
    v = u.drain n → p = v.ptr n (wPM w) → len = (v.sv n (wD w)).toNat → v.burstFault n p len = none → bit p 30 = false →
    ((v.fillEntry n (pRef p)).busAct n 4 []).burstPut (pRef p) (pOff p) (sliceB x.bus 0 len) 16 = (none, y) → v.advance p len = .to r off →
    exec (.seqBdo n x) s = .next (s.kept (y.setPtr n (wPM w) (putBits (putBits (y.ptr n (wPM w)) 0 16 r) 16 13 off))))
  ∧ (∀ (n w : Nat) (x : SeqIn) (s u v y : State) (p len r off : Nat) (l : List Byte), s.runs n .bdi x → w = s.nextWord n → u = s.fetched n → u.chHold n = false → (u.sq n).ce ≠ none →
    v = u.drain n → p = v.ptr n (wPM w) → len = (v.sv n (wD w)).toNat → v.burstFault n p len = none → x.hmpEcc ≠ 2 → v.burstGet (pRef p) (pOff p) len 16 = (none, l) →
    v.advance p len = .to r off → y = (v.seqEcc p (pOff p) x.hmpEcc).busAct n 3 l →
    exec (.seqBdi n x) s = .next (s.kept (y.setPtr n (wPM w) (putBits (putBits (y.ptr n (wPM w)) 0 16 r) 16 13 off))))
  ∧ (∀ (n w : Nat) (x : SeqIn) (s u : State), s.runs n .bidle x → w = s.nextWord n → u = s.fetched n → exec (.seqBidle n x) s = .next (s.kept (u.drain n)))

/-- Operation slot, delivery, timer, edge and illegal-instruction rows take their effect: slot registers are written, the best
candidate is delivered, timers expire, edges latch, breakpoints halt, an undefined word is a machine fault.
The rows: TAKE, CONFIRM, OPEND, SR_ACK, SUSPACK, ENTRY_OK, EVENT_DELIVERY, BREAKPOINT_HALT, TIMER_EXPIRY, EDGE_LATCH,
ILLEGAL_INSTRUCTION.
Each clause says that `exec` answers the next state of the row's own effect, for every state and operands that meet its
hypotheses;
`s.kept E` is `E` with what no command changes. Where the manual leaves a point open the clauses follow log entries 85, 84 (the
model's choices). -/
def Obligations.SlotDeliveryAndDebugRowsTakeEffect : Prop :=
  (∀ (n x i : Nat) (o : DieOp) (l : List PsOutcome) (s : State), s.executes n = true → (s.sq n).hand = some i → s.slot? n (x % 8) = none → s.dop? i = some o →
    ((s.withPs l).beforeConfirms o o.parts).1 = true →
    exec (.srTake n x l) s = .next (s.kept (let s2 := (((s.withPs l).beforeConfirms o o.parts).2.setDop i { o with st := .open (x % 8) }).setSlot n (x % 8) { op := i, kind := o.kind, die := o.die };
      ((s2.setSq n { s2.sq n with hand := none }).handNext n).endPs)))
  ∧ (∀ (n x : Nat) (v : OutSlot) (o : DieOp) (s : State), s.executes n = true → s.slot? n (x % 8) = some v → v.started = none → s.dop? v.op = some o →
    exec (.srConfirm n x) s = .next (s.kept (let s2 := (s.setSlot n (x % 8) { v with started := some s.clock }).setDop v.op { o with started := some s.clock, runFrom := s.clock };
      if o.kind = 1 ∨ o.kind = 2 then o.parts.foldl (fun (u : State) p => (u.useFlight p.use).elim u (fun k => u.logStarted k)) s2 else s2)))
  ∧ (∀ (n x oc : Nat) (v : OutSlot) (s : State), s.executes n = true → oc < 3 → s.slot? n (x % 8) = some v →
    exec (.srOpend n x oc) s = .next (s.kept (((s.setSq n { s.sq n with slots := tdel (s.sq n).slots (x % 8) }).dieAlive n v.die).opEnd v.op oc)))
  ∧ (∀ (n x : Nat) (v : OutSlot) (s : State), s.executes n = true → s.slot? n (x % 8) = some v →
    exec (.srAck n x) s = .next (s.kept (s.setSlot n (x % 8) { v with poll := false })))
  ∧ (∀ (n x : Nat) (v : OutSlot) (o : DieOp) (s : State), s.executes n = true → s.slot? n (x % 8) = some v → s.dop? v.op = some o →
    exec (.srSuspack n x true) s = .next (s.kept (((s.setSlot n (x % 8) { v with suspended := true, suspReq := false }).setDop v.op
      { o with suspended := true, suspFrom := s.clock, suspCount := o.suspCount + 1, suspReads := 0 }).addF (F.CH_COUNT_SUSPENDS n) 1))
    ∧ exec (.srSuspack n x false) s = .next (s.kept ((s.setSlot n (x % 8) { v with suspended := false, resReq := false }).setDop v.op
      { o with suspended := false, runFrom := s.clock, susTime := if o.suspended then o.susTime + (s.clock - o.suspFrom) else o.susTime })))
  ∧ (∀ (n : Nat) (y : Xch) (s : State), s.executes n = true → (s.sq n).xch = some y → y.entry = true →
    exec (.srEntryOk n) s = .next (s.kept ((s.xchEnd n 1 1).chPump n)))
  ∧ (∀ (n : Nat) (c : Cand) (s : State), n < 8 → s.deliveryDue n = true → s.breakHere n = false → s.seqOffer n = none → (s.sq n).bestCand = some c →
    exec (.eventDelivery n) s = .next (s.kept (s.deliverCand n c)))
  ∧ (∀ (n : Nat) (s : State), (s.sq n).halted = false → s.breakHere n = true → exec (.breakpointHalt n) s = .next (s.kept (s.haltSeq n)))
  ∧ (∀ (n i : Nat) (s : State), (s.sq n).halted = false → (s.timer n i).running = true → (s.timer n i).inUs = true → (s.timer n i).left = 0 →
    exec (.timerExpiry n i) s = .next (s.kept (s.setTimer n i { s.timer n i with running := bit (s.timer n i).cfg 17, left := if bit (s.timer n i).cfg 17 then (s.timer n i).start else 0, pend := true, pcfg := (s.timer n i).cfg })))
  ∧ (∀ (n e : Nat) (level : Bool) (s : State), (s.edge n e).cfg % 32 < 4 → s.rbIgnored n ((s.edge n e).cfg % 32) = false → bits (s.edge n e).cfg 5 2 = 2 → (s.edge n e).armed = true → (s.edge n e).latched = false →
    level ≠ (s.edge n e).level → exec (.edgeLatch n e level) s = .next (s.kept (s.setEdge n e { s.edge n e with level := level, latched := true })))
  ∧ (∀ (n : Nat) (x : SeqIn) (s : State), s.fetchable n = true → seqDecode (s.nextWord n) = none → x.fetchEcc = 0 → exec (.illegalInstruction n x) s = .next (s.kept (s.machineFault n 1 (s.sq n).pc)))
end

