-- ==== Sys2Proof/Laws/Tables.lean ====
section
/-!
SUPPORT. Tables and stores of bytes: what a read gives after a write, and that every operation keeps the canonical form.
-/

namespace Sys2Proof.Machine

variable {α : Type}

@[simp] theorem tget_nil (d : α) (k : Nat) : tget d [] k = d := rfl

@[simp] theorem tget_tput (d : α) (l : List (Nat × α)) (k k' : Nat) (v : α) :
    tget d (tput l k v) k' = if k = k' then v else tget d l k' := by
  induction l with
  | nil => simp [tput, tget]
  | cons p l ih =>
    obtain ⟨a, b⟩ := p
    simp only [tput]
    split
    · simp [tget]
    · split
      · rename_i h; subst h; by_cases h : a = k' <;> simp [tget, h]
      · rename_i h1 h2
        by_cases h : a = k'
        · subst h; simp [tget, Ne.symm h2]
        · simp [tget, h, ih]

theorem tget_tdel_other (d : α) (l : List (Nat × α)) {k k' : Nat} (h : k ≠ k') : tget d (tdel l k) k' = tget d l k' := by
  induction l with
  | nil => rfl
  | cons p l ih =>
    obtain ⟨a, b⟩ := p
    by_cases ha : a = k
    · subst ha; simp [tdel, tget, h, ih]
    · simp only [tdel, ha, if_false, tget, ih]

/-- Writing one key leaves what another reads as. -/
theorem tget_tset_other [DecidableEq α] (d e : α) (l : List (Nat × α)) {k k' : Nat} (v : α) (h : k ≠ k') :
    tget e (tset d l k v) k' = tget e l k' := by
  unfold tset; split
  · exact tget_tdel_other e l h
  · simp [h]

section Canonical
variable [DecidableEq α] {d : Nat → α}

theorem twfFrom_mono {l : List (Nat × α)} {lo lo' : Nat} (h : lo' ≤ lo) (w : twfFrom d lo l = true) : twfFrom d lo' l = true := by
  cases l with
  | nil => rfl
  | cons p l =>
    simp only [twfFrom, Bool.and_eq_true, Nat.ble_eq] at w ⊢
    exact ⟨⟨h.trans w.1.1, w.1.2⟩, w.2⟩

/-- A key below the table's lowest is not listed. -/
theorem tget_low {l : List (Nat × α)} {lo k : Nat} (w : twfFrom d lo l = true) (h : k < lo) (e : α) : tget e l k = e := by
  induction l generalizing lo with
  | nil => rfl
  | cons p l ih =>
    simp only [twfFrom, Bool.and_eq_true, Nat.ble_eq] at w
    have : p.1 ≠ k := by omega
    simp only [tget, this, if_false]
    exact ih w.2 (by omega)

theorem twfFrom_tput {l : List (Nat × α)} {lo k : Nat} {v : α} (w : twfFrom d lo l = true) (h : lo ≤ k) (hv : v ≠ d k) :
    twfFrom d lo (tput l k v) = true := by
  induction l generalizing lo with
  | nil => simp [tput, twfFrom, h, hv]
  | cons p l ih =>
    obtain ⟨a, b⟩ := p
    simp only [twfFrom, Bool.and_eq_true, Nat.ble_eq] at w
    simp only [tput]
    split
    · rename_i hk
      simp only [twfFrom, Bool.and_eq_true, Nat.ble_eq, decide_eq_true_eq]
      exact ⟨⟨h, hv⟩, ⟨by omega, by simpa using w.1.2⟩, w.2⟩
    · split
      · rename_i ha; subst ha
        simp only [twfFrom, Bool.and_eq_true, Nat.ble_eq, decide_eq_true_eq]
        exact ⟨⟨h, hv⟩, w.2⟩
      · simp only [twfFrom, Bool.and_eq_true, Nat.ble_eq]
        exact ⟨w.1, ih w.2 (by omega)⟩

theorem twfFrom_tdel {l : List (Nat × α)} {lo : Nat} (k : Nat) (w : twfFrom d lo l = true) : twfFrom d lo (tdel l k) = true := by
  induction l generalizing lo with
  | nil => rfl
  | cons p l ih =>
    obtain ⟨a, b⟩ := p
    simp only [twfFrom, Bool.and_eq_true, Nat.ble_eq] at w
    simp only [tdel]
    split
    · exact ih (twfFrom_mono (by omega) w.2)
    · simp only [twfFrom, Bool.and_eq_true, Nat.ble_eq]
      exact ⟨w.1, ih w.2⟩

/-- Every write keeps the canonical form. -/
theorem twf_tset {l : List (Nat × α)} (k : Nat) (v : α) (w : twf d l = true) : twf d (tset (d k) l k v) = true := by
  unfold tset; split
  · exact twfFrom_tdel k w
  · rename_i h; exact twfFrom_tput w (Nat.zero_le k) h

end Canonical

@[simp] theorem tget_tdel (e : α) (l : List (Nat × α)) (k k' : Nat) : tget e (tdel l k) k' = if k = k' then e else tget e l k' := by
  by_cases h : k = k'
  · subst h
    induction l with
    | nil => simp [tdel]
    | cons p l ih =>
      obtain ⟨a, b⟩ := p
      by_cases h : a = k
      · simpa [tdel, h] using ih
      · simpa [tdel, h, tget] using ih
  · simp [h, tget_tdel_other e l h]

/-- A read after a write. -/
@[simp] theorem tget_tset [DecidableEq α] (d : α) (l : List (Nat × α)) (k k' : Nat) (v : α) :
    tget d (tset d l k v) k' = if k = k' then v else tget d l k' := by
  unfold tset; split
  · rename_i h; subst h; simp
  · simp

/-! ### Stores of bytes -/

theorem twf_writeBytes {d : Byte} {m : List (Nat × Byte)} (a : Nat) (l : List Byte) (w : twf (fun _ => d) m = true) :
    twf (fun _ => d) (writeBytes d m a l) = true := by
  induction l generalizing m a with
  | nil => exact w
  | cons b l ih => exact ih (a + 1) (twf_tset (d := fun _ => d) a b w)

/-- A write of bytes leaves every other byte. -/
theorem tget_writeBytes_out {d : Byte} (m : List (Nat × Byte)) (a : Nat) (l : List Byte) {x : Nat} (h : x < a ∨ a + l.length ≤ x) :
    tget d (writeBytes d m a l) x = tget d m x := by
  induction l generalizing m a with
  | nil => rfl
  | cons b l ih =>
    simp only [List.length_cons] at h
    rw [writeBytes, ih _ _ (by omega), tget_tset_other d d m b (by omega)]

/-- A write of bytes puts each at its place. -/
theorem tget_writeBytes_in (d : Byte) (m : List (Nat × Byte)) (a : Nat) (l : List Byte) {i : Nat}
    (h : i < l.length) : tget d (writeBytes d m a l) (a + i) = l[i] := by
  induction l generalizing m a i with
  | nil => simp at h
  | cons b l ih =>
    rw [writeBytes]
    cases i with
    | zero => rw [tget_writeBytes_out _ _ _ (by omega)]; simp
    | succ i =>
      have := ih (m := tset d m a b) (a + 1) (i := i) (by simpa using h)
      simpa [Nat.add_assoc, Nat.add_comm 1 i] using this

/-! ### Lists -/

@[simp] theorem listSet_length (l : List α) (i : Nat) (v : α) : (listSet l i v).length = l.length := by
  induction l generalizing i with
  | nil => rfl
  | cons a l ih => cases i <;> simp [listSet, ih]

theorem listGet_listSet_same (d : α) (l : List α) (i : Nat) (v : α) (h : i < l.length) : listGet d (listSet l i v) i = v := by
  induction l generalizing i with
  | nil => simp at h
  | cons a l ih =>
    cases i with
    | zero => rfl
    | succ i => exact ih i (by simpa using h)

theorem listGet_listSet_other (d : α) (l : List α) {i j : Nat} (v : α) (h : i ≠ j) : listGet d (listSet l i v) j = listGet d l j := by
  induction l generalizing i j with
  | nil => rfl
  | cons a l ih =>
    cases i <;> cases j <;> simp_all [listSet, listGet]

end Sys2Proof.Machine
end

