-- ==== Sys2Proof/Laws/State.lean ====
section
/-!
SUPPORT. What each named update of the state leaves as it is, field by field, and what it changes.
-/

namespace Sys2Proof.Machine

variable (s t : State)

@[simp] theorem State.setReg_pending (a : Nat) (v : Word) (w : Nat) : (s.setReg a v w).pending = s.pending := rfl
@[simp] theorem State.setReg_clock (a : Nat) (v : Word) (w : Nat) : (s.setReg a v w).clock = s.clock := rfl
@[simp] theorem State.setReg_freeN (a : Nat) (v : Word) (w : Nat) : (s.setReg a v w).freeN = s.freeN := rfl
@[simp] theorem State.setReg_formB (a : Nat) (v : Word) (w : Nat) : (s.setReg a v w).formB = s.formB := rfl
@[simp] theorem State.setReg_staged (a : Nat) (v : Word) (w : Nat) : (s.setReg a v w).staged = s.staged := rfl
@[simp] theorem State.setReg_aon (a : Nat) (v : Word) (w : Nat) : (s.setReg a v w).aon = s.aon := rfl
@[simp] theorem State.setReg_balls (a : Nat) (v : Word) (w : Nat) : (s.setReg a v w).balls = s.balls := rfl
@[simp] theorem State.setReg_rmv (a : Nat) (v : Word) (w : Nat) : (s.setReg a v w).rmv = s.rmv := rfl
@[simp] theorem State.setReg_trail (a : Nat) (v : Word) (w : Nat) : (s.setReg a v w).trail = s.trail := rfl
@[simp] theorem State.setReg_keep (a : Nat) (v : Word) (w : Nat) : (s.setReg a v w).keep = s.keep := rfl
@[simp] theorem State.setReg_host (a : Nat) (v : Word) (w : Nat) : (s.setReg a v w).host = s.host := rfl
@[simp] theorem State.setReg_log (a : Nat) (v : Word) (w : Nat) : (s.setReg a v w).log = s.log := rfl
@[simp] theorem State.setReg_port (a : Nat) (v : Word) (w : Nat) : (s.setReg a v w).port = s.port := rfl
@[simp] theorem State.setReg_router (a : Nat) (v : Word) (w : Nat) : (s.setReg a v w).router = s.router := rfl
@[simp] theorem State.setReg_svcNest (a : Nat) (v : Word) (w : Nat) : (s.setReg a v w).svcNest = s.svcNest := rfl
@[simp] theorem State.setReg_svcPc (a : Nat) (v : Word) (w : Nat) : (s.setReg a v w).svcPc = s.svcPc := rfl
@[simp] theorem State.setReg_wds (a : Nat) (v : Word) (w : Nat) : (s.setReg a v w).wds = s.wds := rfl
@[simp] theorem State.setReg_therm (a : Nat) (v : Word) (w : Nat) : (s.setReg a v w).therm = s.therm := rfl
@[simp] theorem State.setReg_fqs (a : Nat) (v : Word) (w : Nat) : (s.setReg a v w).fqs = s.fqs := rfl
@[simp] theorem State.setReg_hmp (a : Nat) (v : Word) (w : Nat) : (s.setReg a v w).hmp = s.hmp := rfl
@[simp] theorem State.setReg_agl (a : Nat) (v : Word) (w : Nat) : (s.setReg a v w).agl = s.agl := rfl
@[simp] theorem State.setReg_pcie (a : Nat) (v : Word) (w : Nat) : (s.setReg a v w).pcie = s.pcie := rfl
@[simp] theorem State.setReg_rt (a : Nat) (v : Word) (w : Nat) : (s.setReg a v w).rt = s.rt := rfl
@[simp] theorem State.setReg_chans (a : Nat) (v : Word) (w : Nat) : (s.setReg a v w).chans = s.chans := rfl
@[simp] theorem State.setReg_dops (a : Nat) (v : Word) (w : Nat) : (s.setReg a v w).dops = s.dops := rfl
@[simp] theorem State.setReg_nextOp (a : Nat) (v : Word) (w : Nat) : (s.setReg a v w).nextOp = s.nextOp := rfl
@[simp] theorem State.setReg_seqs (a : Nat) (v : Word) (w : Nat) : (s.setReg a v w).seqs = s.seqs := rfl
@[simp] theorem State.setReg_cws (a : Nat) (v : Word) (w : Nat) : (s.setReg a v w).cws = s.cws := rfl
@[simp] theorem State.setReg_cwOut (a : Nat) (v : Word) (w : Nat) : (s.setReg a v w).cwOut = s.cwOut := rfl
@[simp] theorem State.setReg_codecTurn (a : Nat) (v : Word) (w : Nat) : (s.setReg a v w).codecTurn = s.codecTurn := rfl
@[simp] theorem State.setReg_nextCw (a : Nat) (v : Word) (w : Nat) : (s.setReg a v w).nextCw = s.nextCw := rfl
@[simp] theorem State.setReg_map (a : Nat) (v : Word) (w : Nat) : (s.setReg a v w).map = s.map := rfl
@[simp] theorem State.setReg_prot (a : Nat) (v : Word) (w : Nat) : (s.setReg a v w).prot = s.prot := rfl
@[simp] theorem State.setReg_cal (a : Nat) (v : Word) (w : Nat) : (s.setReg a v w).cal = s.cal := rfl
@[simp] theorem State.setReg_casc (a : Nat) (v : Word) (w : Nat) : (s.setReg a v w).casc = s.casc := rfl
@[simp] theorem State.setReg_test (a : Nat) (v : Word) (w : Nat) : (s.setReg a v w).test = s.test := rfl
@[simp] theorem State.setReg_sent (a : Nat) (v : Word) (w : Nat) : (s.setReg a v w).sent = s.sent := rfl

@[simp] theorem State.setStaged_pending (a : Nat) (v : Word) (w : Nat) : (s.setStaged a v w).pending = s.pending := rfl
@[simp] theorem State.setStaged_clock (a : Nat) (v : Word) (w : Nat) : (s.setStaged a v w).clock = s.clock := rfl
@[simp] theorem State.setStaged_freeN (a : Nat) (v : Word) (w : Nat) : (s.setStaged a v w).freeN = s.freeN := rfl
@[simp] theorem State.setStaged_formB (a : Nat) (v : Word) (w : Nat) : (s.setStaged a v w).formB = s.formB := rfl
@[simp] theorem State.setStaged_regs (a : Nat) (v : Word) (w : Nat) : (s.setStaged a v w).regs = s.regs := rfl
@[simp] theorem State.setStaged_aon (a : Nat) (v : Word) (w : Nat) : (s.setStaged a v w).aon = s.aon := rfl
@[simp] theorem State.setStaged_balls (a : Nat) (v : Word) (w : Nat) : (s.setStaged a v w).balls = s.balls := rfl
@[simp] theorem State.setStaged_rmv (a : Nat) (v : Word) (w : Nat) : (s.setStaged a v w).rmv = s.rmv := rfl
@[simp] theorem State.setStaged_trail (a : Nat) (v : Word) (w : Nat) : (s.setStaged a v w).trail = s.trail := rfl
@[simp] theorem State.setStaged_keep (a : Nat) (v : Word) (w : Nat) : (s.setStaged a v w).keep = s.keep := rfl
@[simp] theorem State.setStaged_host (a : Nat) (v : Word) (w : Nat) : (s.setStaged a v w).host = s.host := rfl
@[simp] theorem State.setStaged_log (a : Nat) (v : Word) (w : Nat) : (s.setStaged a v w).log = s.log := rfl
@[simp] theorem State.setStaged_port (a : Nat) (v : Word) (w : Nat) : (s.setStaged a v w).port = s.port := rfl
@[simp] theorem State.setStaged_router (a : Nat) (v : Word) (w : Nat) : (s.setStaged a v w).router = s.router := rfl
@[simp] theorem State.setStaged_svcNest (a : Nat) (v : Word) (w : Nat) : (s.setStaged a v w).svcNest = s.svcNest := rfl
@[simp] theorem State.setStaged_svcPc (a : Nat) (v : Word) (w : Nat) : (s.setStaged a v w).svcPc = s.svcPc := rfl
@[simp] theorem State.setStaged_wds (a : Nat) (v : Word) (w : Nat) : (s.setStaged a v w).wds = s.wds := rfl
@[simp] theorem State.setStaged_therm (a : Nat) (v : Word) (w : Nat) : (s.setStaged a v w).therm = s.therm := rfl
@[simp] theorem State.setStaged_fqs (a : Nat) (v : Word) (w : Nat) : (s.setStaged a v w).fqs = s.fqs := rfl
@[simp] theorem State.setStaged_hmp (a : Nat) (v : Word) (w : Nat) : (s.setStaged a v w).hmp = s.hmp := rfl
@[simp] theorem State.setStaged_agl (a : Nat) (v : Word) (w : Nat) : (s.setStaged a v w).agl = s.agl := rfl
@[simp] theorem State.setStaged_pcie (a : Nat) (v : Word) (w : Nat) : (s.setStaged a v w).pcie = s.pcie := rfl
@[simp] theorem State.setStaged_rt (a : Nat) (v : Word) (w : Nat) : (s.setStaged a v w).rt = s.rt := rfl
@[simp] theorem State.setStaged_chans (a : Nat) (v : Word) (w : Nat) : (s.setStaged a v w).chans = s.chans := rfl
@[simp] theorem State.setStaged_dops (a : Nat) (v : Word) (w : Nat) : (s.setStaged a v w).dops = s.dops := rfl
@[simp] theorem State.setStaged_nextOp (a : Nat) (v : Word) (w : Nat) : (s.setStaged a v w).nextOp = s.nextOp := rfl
@[simp] theorem State.setStaged_seqs (a : Nat) (v : Word) (w : Nat) : (s.setStaged a v w).seqs = s.seqs := rfl
@[simp] theorem State.setStaged_cws (a : Nat) (v : Word) (w : Nat) : (s.setStaged a v w).cws = s.cws := rfl
@[simp] theorem State.setStaged_cwOut (a : Nat) (v : Word) (w : Nat) : (s.setStaged a v w).cwOut = s.cwOut := rfl
@[simp] theorem State.setStaged_codecTurn (a : Nat) (v : Word) (w : Nat) : (s.setStaged a v w).codecTurn = s.codecTurn := rfl
@[simp] theorem State.setStaged_nextCw (a : Nat) (v : Word) (w : Nat) : (s.setStaged a v w).nextCw = s.nextCw := rfl
@[simp] theorem State.setStaged_map (a : Nat) (v : Word) (w : Nat) : (s.setStaged a v w).map = s.map := rfl
@[simp] theorem State.setStaged_prot (a : Nat) (v : Word) (w : Nat) : (s.setStaged a v w).prot = s.prot := rfl
@[simp] theorem State.setStaged_cal (a : Nat) (v : Word) (w : Nat) : (s.setStaged a v w).cal = s.cal := rfl
@[simp] theorem State.setStaged_casc (a : Nat) (v : Word) (w : Nat) : (s.setStaged a v w).casc = s.casc := rfl
@[simp] theorem State.setStaged_test (a : Nat) (v : Word) (w : Nat) : (s.setStaged a v w).test = s.test := rfl
@[simp] theorem State.setStaged_sent (a : Nat) (v : Word) (w : Nat) : (s.setStaged a v w).sent = s.sent := rfl

@[simp] theorem State.set_pending (f : Fld) (v w : Nat) : (s.set f v w).pending = s.pending := rfl
@[simp] theorem State.set_clock (f : Fld) (v w : Nat) : (s.set f v w).clock = s.clock := rfl
@[simp] theorem State.set_freeN (f : Fld) (v w : Nat) : (s.set f v w).freeN = s.freeN := rfl
@[simp] theorem State.set_formB (f : Fld) (v w : Nat) : (s.set f v w).formB = s.formB := rfl
@[simp] theorem State.set_staged (f : Fld) (v w : Nat) : (s.set f v w).staged = s.staged := rfl
@[simp] theorem State.set_aon (f : Fld) (v w : Nat) : (s.set f v w).aon = s.aon := rfl
@[simp] theorem State.set_balls (f : Fld) (v w : Nat) : (s.set f v w).balls = s.balls := rfl
@[simp] theorem State.set_rmv (f : Fld) (v w : Nat) : (s.set f v w).rmv = s.rmv := rfl
@[simp] theorem State.set_trail (f : Fld) (v w : Nat) : (s.set f v w).trail = s.trail := rfl
@[simp] theorem State.set_keep (f : Fld) (v w : Nat) : (s.set f v w).keep = s.keep := rfl
@[simp] theorem State.set_host (f : Fld) (v w : Nat) : (s.set f v w).host = s.host := rfl
@[simp] theorem State.set_log (f : Fld) (v w : Nat) : (s.set f v w).log = s.log := rfl
@[simp] theorem State.set_port (f : Fld) (v w : Nat) : (s.set f v w).port = s.port := rfl
@[simp] theorem State.set_router (f : Fld) (v w : Nat) : (s.set f v w).router = s.router := rfl
@[simp] theorem State.set_svcNest (f : Fld) (v w : Nat) : (s.set f v w).svcNest = s.svcNest := rfl
@[simp] theorem State.set_svcPc (f : Fld) (v w : Nat) : (s.set f v w).svcPc = s.svcPc := rfl
@[simp] theorem State.set_wds (f : Fld) (v w : Nat) : (s.set f v w).wds = s.wds := rfl
@[simp] theorem State.set_therm (f : Fld) (v w : Nat) : (s.set f v w).therm = s.therm := rfl
@[simp] theorem State.set_fqs (f : Fld) (v w : Nat) : (s.set f v w).fqs = s.fqs := rfl
@[simp] theorem State.set_hmp (f : Fld) (v w : Nat) : (s.set f v w).hmp = s.hmp := rfl
@[simp] theorem State.set_agl (f : Fld) (v w : Nat) : (s.set f v w).agl = s.agl := rfl
@[simp] theorem State.set_pcie (f : Fld) (v w : Nat) : (s.set f v w).pcie = s.pcie := rfl
@[simp] theorem State.set_rt (f : Fld) (v w : Nat) : (s.set f v w).rt = s.rt := rfl
@[simp] theorem State.set_chans (f : Fld) (v w : Nat) : (s.set f v w).chans = s.chans := rfl
@[simp] theorem State.set_dops (f : Fld) (v w : Nat) : (s.set f v w).dops = s.dops := rfl
@[simp] theorem State.set_nextOp (f : Fld) (v w : Nat) : (s.set f v w).nextOp = s.nextOp := rfl
@[simp] theorem State.set_seqs (f : Fld) (v w : Nat) : (s.set f v w).seqs = s.seqs := rfl
@[simp] theorem State.set_cws (f : Fld) (v w : Nat) : (s.set f v w).cws = s.cws := rfl
@[simp] theorem State.set_cwOut (f : Fld) (v w : Nat) : (s.set f v w).cwOut = s.cwOut := rfl
@[simp] theorem State.set_codecTurn (f : Fld) (v w : Nat) : (s.set f v w).codecTurn = s.codecTurn := rfl
@[simp] theorem State.set_nextCw (f : Fld) (v w : Nat) : (s.set f v w).nextCw = s.nextCw := rfl
@[simp] theorem State.set_map (f : Fld) (v w : Nat) : (s.set f v w).map = s.map := rfl
@[simp] theorem State.set_prot (f : Fld) (v w : Nat) : (s.set f v w).prot = s.prot := rfl
@[simp] theorem State.set_cal (f : Fld) (v w : Nat) : (s.set f v w).cal = s.cal := rfl
@[simp] theorem State.set_casc (f : Fld) (v w : Nat) : (s.set f v w).casc = s.casc := rfl
@[simp] theorem State.set_test (f : Fld) (v w : Nat) : (s.set f v w).test = s.test := rfl
@[simp] theorem State.set_sent (f : Fld) (v w : Nat) : (s.set f v w).sent = s.sent := rfl

@[simp] theorem State.setStagedF_pending (f : Fld) (v w : Nat) : (s.setStagedF f v w).pending = s.pending := rfl
@[simp] theorem State.setStagedF_clock (f : Fld) (v w : Nat) : (s.setStagedF f v w).clock = s.clock := rfl
@[simp] theorem State.setStagedF_freeN (f : Fld) (v w : Nat) : (s.setStagedF f v w).freeN = s.freeN := rfl
@[simp] theorem State.setStagedF_formB (f : Fld) (v w : Nat) : (s.setStagedF f v w).formB = s.formB := rfl
@[simp] theorem State.setStagedF_regs (f : Fld) (v w : Nat) : (s.setStagedF f v w).regs = s.regs := rfl
@[simp] theorem State.setStagedF_aon (f : Fld) (v w : Nat) : (s.setStagedF f v w).aon = s.aon := rfl
@[simp] theorem State.setStagedF_balls (f : Fld) (v w : Nat) : (s.setStagedF f v w).balls = s.balls := rfl
@[simp] theorem State.setStagedF_rmv (f : Fld) (v w : Nat) : (s.setStagedF f v w).rmv = s.rmv := rfl
@[simp] theorem State.setStagedF_trail (f : Fld) (v w : Nat) : (s.setStagedF f v w).trail = s.trail := rfl
@[simp] theorem State.setStagedF_keep (f : Fld) (v w : Nat) : (s.setStagedF f v w).keep = s.keep := rfl
@[simp] theorem State.setStagedF_host (f : Fld) (v w : Nat) : (s.setStagedF f v w).host = s.host := rfl
@[simp] theorem State.setStagedF_log (f : Fld) (v w : Nat) : (s.setStagedF f v w).log = s.log := rfl
@[simp] theorem State.setStagedF_port (f : Fld) (v w : Nat) : (s.setStagedF f v w).port = s.port := rfl
@[simp] theorem State.setStagedF_router (f : Fld) (v w : Nat) : (s.setStagedF f v w).router = s.router := rfl
@[simp] theorem State.setStagedF_svcNest (f : Fld) (v w : Nat) : (s.setStagedF f v w).svcNest = s.svcNest := rfl
@[simp] theorem State.setStagedF_svcPc (f : Fld) (v w : Nat) : (s.setStagedF f v w).svcPc = s.svcPc := rfl
@[simp] theorem State.setStagedF_wds (f : Fld) (v w : Nat) : (s.setStagedF f v w).wds = s.wds := rfl
@[simp] theorem State.setStagedF_therm (f : Fld) (v w : Nat) : (s.setStagedF f v w).therm = s.therm := rfl
@[simp] theorem State.setStagedF_fqs (f : Fld) (v w : Nat) : (s.setStagedF f v w).fqs = s.fqs := rfl
@[simp] theorem State.setStagedF_hmp (f : Fld) (v w : Nat) : (s.setStagedF f v w).hmp = s.hmp := rfl
@[simp] theorem State.setStagedF_agl (f : Fld) (v w : Nat) : (s.setStagedF f v w).agl = s.agl := rfl
@[simp] theorem State.setStagedF_pcie (f : Fld) (v w : Nat) : (s.setStagedF f v w).pcie = s.pcie := rfl
@[simp] theorem State.setStagedF_rt (f : Fld) (v w : Nat) : (s.setStagedF f v w).rt = s.rt := rfl
@[simp] theorem State.setStagedF_chans (f : Fld) (v w : Nat) : (s.setStagedF f v w).chans = s.chans := rfl
@[simp] theorem State.setStagedF_dops (f : Fld) (v w : Nat) : (s.setStagedF f v w).dops = s.dops := rfl
@[simp] theorem State.setStagedF_nextOp (f : Fld) (v w : Nat) : (s.setStagedF f v w).nextOp = s.nextOp := rfl
@[simp] theorem State.setStagedF_seqs (f : Fld) (v w : Nat) : (s.setStagedF f v w).seqs = s.seqs := rfl
@[simp] theorem State.setStagedF_cws (f : Fld) (v w : Nat) : (s.setStagedF f v w).cws = s.cws := rfl
@[simp] theorem State.setStagedF_cwOut (f : Fld) (v w : Nat) : (s.setStagedF f v w).cwOut = s.cwOut := rfl
@[simp] theorem State.setStagedF_codecTurn (f : Fld) (v w : Nat) : (s.setStagedF f v w).codecTurn = s.codecTurn := rfl
@[simp] theorem State.setStagedF_nextCw (f : Fld) (v w : Nat) : (s.setStagedF f v w).nextCw = s.nextCw := rfl
@[simp] theorem State.setStagedF_map (f : Fld) (v w : Nat) : (s.setStagedF f v w).map = s.map := rfl
@[simp] theorem State.setStagedF_prot (f : Fld) (v w : Nat) : (s.setStagedF f v w).prot = s.prot := rfl
@[simp] theorem State.setStagedF_cal (f : Fld) (v w : Nat) : (s.setStagedF f v w).cal = s.cal := rfl
@[simp] theorem State.setStagedF_casc (f : Fld) (v w : Nat) : (s.setStagedF f v w).casc = s.casc := rfl
@[simp] theorem State.setStagedF_test (f : Fld) (v w : Nat) : (s.setStagedF f v w).test = s.test := rfl
@[simp] theorem State.setStagedF_sent (f : Fld) (v w : Nat) : (s.setStagedF f v w).sent = s.sent := rfl

@[simp] theorem State.setEv_pending (n : Nat) (e : EvSrc) : (s.setEv n e).pending = s.pending := rfl
@[simp] theorem State.setEv_clock (n : Nat) (e : EvSrc) : (s.setEv n e).clock = s.clock := rfl
@[simp] theorem State.setEv_freeN (n : Nat) (e : EvSrc) : (s.setEv n e).freeN = s.freeN := rfl
@[simp] theorem State.setEv_formB (n : Nat) (e : EvSrc) : (s.setEv n e).formB = s.formB := rfl
@[simp] theorem State.setEv_regs (n : Nat) (e : EvSrc) : (s.setEv n e).regs = s.regs := rfl
@[simp] theorem State.setEv_staged (n : Nat) (e : EvSrc) : (s.setEv n e).staged = s.staged := rfl
@[simp] theorem State.setEv_aon (n : Nat) (e : EvSrc) : (s.setEv n e).aon = s.aon := rfl
@[simp] theorem State.setEv_balls (n : Nat) (e : EvSrc) : (s.setEv n e).balls = s.balls := rfl
@[simp] theorem State.setEv_rmv (n : Nat) (e : EvSrc) : (s.setEv n e).rmv = s.rmv := rfl
@[simp] theorem State.setEv_trail (n : Nat) (e : EvSrc) : (s.setEv n e).trail = s.trail := rfl
@[simp] theorem State.setEv_keep (n : Nat) (e : EvSrc) : (s.setEv n e).keep = s.keep := rfl
@[simp] theorem State.setEv_host (n : Nat) (e : EvSrc) : (s.setEv n e).host = s.host := rfl
@[simp] theorem State.setEv_log (n : Nat) (e : EvSrc) : (s.setEv n e).log = s.log := rfl
@[simp] theorem State.setEv_port (n : Nat) (e : EvSrc) : (s.setEv n e).port = s.port := rfl
@[simp] theorem State.setEv_svcNest (n : Nat) (e : EvSrc) : (s.setEv n e).svcNest = s.svcNest := rfl
@[simp] theorem State.setEv_svcPc (n : Nat) (e : EvSrc) : (s.setEv n e).svcPc = s.svcPc := rfl
@[simp] theorem State.setEv_wds (n : Nat) (e : EvSrc) : (s.setEv n e).wds = s.wds := rfl
@[simp] theorem State.setEv_therm (n : Nat) (e : EvSrc) : (s.setEv n e).therm = s.therm := rfl
@[simp] theorem State.setEv_fqs (n : Nat) (e : EvSrc) : (s.setEv n e).fqs = s.fqs := rfl
@[simp] theorem State.setEv_hmp (n : Nat) (e : EvSrc) : (s.setEv n e).hmp = s.hmp := rfl
@[simp] theorem State.setEv_agl (n : Nat) (e : EvSrc) : (s.setEv n e).agl = s.agl := rfl
@[simp] theorem State.setEv_pcie (n : Nat) (e : EvSrc) : (s.setEv n e).pcie = s.pcie := rfl
@[simp] theorem State.setEv_rt (n : Nat) (e : EvSrc) : (s.setEv n e).rt = s.rt := rfl
@[simp] theorem State.setEv_chans (n : Nat) (e : EvSrc) : (s.setEv n e).chans = s.chans := rfl
@[simp] theorem State.setEv_dops (n : Nat) (e : EvSrc) : (s.setEv n e).dops = s.dops := rfl
@[simp] theorem State.setEv_nextOp (n : Nat) (e : EvSrc) : (s.setEv n e).nextOp = s.nextOp := rfl
@[simp] theorem State.setEv_seqs (n : Nat) (e : EvSrc) : (s.setEv n e).seqs = s.seqs := rfl
@[simp] theorem State.setEv_cws (n : Nat) (e : EvSrc) : (s.setEv n e).cws = s.cws := rfl
@[simp] theorem State.setEv_cwOut (n : Nat) (e : EvSrc) : (s.setEv n e).cwOut = s.cwOut := rfl
@[simp] theorem State.setEv_codecTurn (n : Nat) (e : EvSrc) : (s.setEv n e).codecTurn = s.codecTurn := rfl
@[simp] theorem State.setEv_nextCw (n : Nat) (e : EvSrc) : (s.setEv n e).nextCw = s.nextCw := rfl
@[simp] theorem State.setEv_map (n : Nat) (e : EvSrc) : (s.setEv n e).map = s.map := rfl
@[simp] theorem State.setEv_prot (n : Nat) (e : EvSrc) : (s.setEv n e).prot = s.prot := rfl
@[simp] theorem State.setEv_cal (n : Nat) (e : EvSrc) : (s.setEv n e).cal = s.cal := rfl
@[simp] theorem State.setEv_casc (n : Nat) (e : EvSrc) : (s.setEv n e).casc = s.casc := rfl
@[simp] theorem State.setEv_test (n : Nat) (e : EvSrc) : (s.setEv n e).test = s.test := rfl
@[simp] theorem State.setEv_sent (n : Nat) (e : EvSrc) : (s.setEv n e).sent = s.sent := rfl

@[simp] theorem State.send_pending (m : Msg) : (s.send m).pending = s.pending := rfl
@[simp] theorem State.send_clock (m : Msg) : (s.send m).clock = s.clock := rfl
@[simp] theorem State.send_freeN (m : Msg) : (s.send m).freeN = s.freeN := rfl
@[simp] theorem State.send_formB (m : Msg) : (s.send m).formB = s.formB := rfl
@[simp] theorem State.send_regs (m : Msg) : (s.send m).regs = s.regs := rfl
@[simp] theorem State.send_staged (m : Msg) : (s.send m).staged = s.staged := rfl
@[simp] theorem State.send_aon (m : Msg) : (s.send m).aon = s.aon := rfl
@[simp] theorem State.send_balls (m : Msg) : (s.send m).balls = s.balls := rfl
@[simp] theorem State.send_rmv (m : Msg) : (s.send m).rmv = s.rmv := rfl
@[simp] theorem State.send_trail (m : Msg) : (s.send m).trail = s.trail := rfl
@[simp] theorem State.send_keep (m : Msg) : (s.send m).keep = s.keep := rfl
@[simp] theorem State.send_host (m : Msg) : (s.send m).host = s.host := rfl
@[simp] theorem State.send_log (m : Msg) : (s.send m).log = s.log := rfl
@[simp] theorem State.send_port (m : Msg) : (s.send m).port = s.port := rfl
@[simp] theorem State.send_router (m : Msg) : (s.send m).router = s.router := rfl
@[simp] theorem State.send_svcNest (m : Msg) : (s.send m).svcNest = s.svcNest := rfl
@[simp] theorem State.send_svcPc (m : Msg) : (s.send m).svcPc = s.svcPc := rfl
@[simp] theorem State.send_wds (m : Msg) : (s.send m).wds = s.wds := rfl
@[simp] theorem State.send_therm (m : Msg) : (s.send m).therm = s.therm := rfl
@[simp] theorem State.send_fqs (m : Msg) : (s.send m).fqs = s.fqs := rfl
@[simp] theorem State.send_hmp (m : Msg) : (s.send m).hmp = s.hmp := rfl
@[simp] theorem State.send_agl (m : Msg) : (s.send m).agl = s.agl := rfl
@[simp] theorem State.send_pcie (m : Msg) : (s.send m).pcie = s.pcie := rfl
@[simp] theorem State.send_rt (m : Msg) : (s.send m).rt = s.rt := rfl
@[simp] theorem State.send_chans (m : Msg) : (s.send m).chans = s.chans := rfl
@[simp] theorem State.send_dops (m : Msg) : (s.send m).dops = s.dops := rfl
@[simp] theorem State.send_nextOp (m : Msg) : (s.send m).nextOp = s.nextOp := rfl
@[simp] theorem State.send_seqs (m : Msg) : (s.send m).seqs = s.seqs := rfl
@[simp] theorem State.send_cws (m : Msg) : (s.send m).cws = s.cws := rfl
@[simp] theorem State.send_cwOut (m : Msg) : (s.send m).cwOut = s.cwOut := rfl
@[simp] theorem State.send_codecTurn (m : Msg) : (s.send m).codecTurn = s.codecTurn := rfl
@[simp] theorem State.send_nextCw (m : Msg) : (s.send m).nextCw = s.nextCw := rfl
@[simp] theorem State.send_map (m : Msg) : (s.send m).map = s.map := rfl
@[simp] theorem State.send_prot (m : Msg) : (s.send m).prot = s.prot := rfl
@[simp] theorem State.send_cal (m : Msg) : (s.send m).cal = s.cal := rfl
@[simp] theorem State.send_casc (m : Msg) : (s.send m).casc = s.casc := rfl
@[simp] theorem State.send_test (m : Msg) : (s.send m).test = s.test := rfl

@[simp] theorem State.setSq_pending (n : Nat) (q : Seq) : (s.setSq n q).pending = s.pending := rfl
@[simp] theorem State.setSq_clock (n : Nat) (q : Seq) : (s.setSq n q).clock = s.clock := rfl
@[simp] theorem State.setSq_freeN (n : Nat) (q : Seq) : (s.setSq n q).freeN = s.freeN := rfl
@[simp] theorem State.setSq_formB (n : Nat) (q : Seq) : (s.setSq n q).formB = s.formB := rfl
@[simp] theorem State.setSq_regs (n : Nat) (q : Seq) : (s.setSq n q).regs = s.regs := rfl
@[simp] theorem State.setSq_staged (n : Nat) (q : Seq) : (s.setSq n q).staged = s.staged := rfl
@[simp] theorem State.setSq_aon (n : Nat) (q : Seq) : (s.setSq n q).aon = s.aon := rfl
@[simp] theorem State.setSq_balls (n : Nat) (q : Seq) : (s.setSq n q).balls = s.balls := rfl
@[simp] theorem State.setSq_rmv (n : Nat) (q : Seq) : (s.setSq n q).rmv = s.rmv := rfl
@[simp] theorem State.setSq_trail (n : Nat) (q : Seq) : (s.setSq n q).trail = s.trail := rfl
@[simp] theorem State.setSq_keep (n : Nat) (q : Seq) : (s.setSq n q).keep = s.keep := rfl
@[simp] theorem State.setSq_host (n : Nat) (q : Seq) : (s.setSq n q).host = s.host := rfl
@[simp] theorem State.setSq_log (n : Nat) (q : Seq) : (s.setSq n q).log = s.log := rfl
@[simp] theorem State.setSq_port (n : Nat) (q : Seq) : (s.setSq n q).port = s.port := rfl
@[simp] theorem State.setSq_router (n : Nat) (q : Seq) : (s.setSq n q).router = s.router := rfl
@[simp] theorem State.setSq_svcNest (n : Nat) (q : Seq) : (s.setSq n q).svcNest = s.svcNest := rfl
@[simp] theorem State.setSq_svcPc (n : Nat) (q : Seq) : (s.setSq n q).svcPc = s.svcPc := rfl
@[simp] theorem State.setSq_wds (n : Nat) (q : Seq) : (s.setSq n q).wds = s.wds := rfl
@[simp] theorem State.setSq_therm (n : Nat) (q : Seq) : (s.setSq n q).therm = s.therm := rfl
@[simp] theorem State.setSq_fqs (n : Nat) (q : Seq) : (s.setSq n q).fqs = s.fqs := rfl
@[simp] theorem State.setSq_hmp (n : Nat) (q : Seq) : (s.setSq n q).hmp = s.hmp := rfl
@[simp] theorem State.setSq_agl (n : Nat) (q : Seq) : (s.setSq n q).agl = s.agl := rfl
@[simp] theorem State.setSq_pcie (n : Nat) (q : Seq) : (s.setSq n q).pcie = s.pcie := rfl
@[simp] theorem State.setSq_rt (n : Nat) (q : Seq) : (s.setSq n q).rt = s.rt := rfl
@[simp] theorem State.setSq_chans (n : Nat) (q : Seq) : (s.setSq n q).chans = s.chans := rfl
@[simp] theorem State.setSq_dops (n : Nat) (q : Seq) : (s.setSq n q).dops = s.dops := rfl
@[simp] theorem State.setSq_nextOp (n : Nat) (q : Seq) : (s.setSq n q).nextOp = s.nextOp := rfl
@[simp] theorem State.setSq_cws (n : Nat) (q : Seq) : (s.setSq n q).cws = s.cws := rfl
@[simp] theorem State.setSq_cwOut (n : Nat) (q : Seq) : (s.setSq n q).cwOut = s.cwOut := rfl
@[simp] theorem State.setSq_codecTurn (n : Nat) (q : Seq) : (s.setSq n q).codecTurn = s.codecTurn := rfl
@[simp] theorem State.setSq_nextCw (n : Nat) (q : Seq) : (s.setSq n q).nextCw = s.nextCw := rfl
@[simp] theorem State.setSq_map (n : Nat) (q : Seq) : (s.setSq n q).map = s.map := rfl
@[simp] theorem State.setSq_prot (n : Nat) (q : Seq) : (s.setSq n q).prot = s.prot := rfl
@[simp] theorem State.setSq_cal (n : Nat) (q : Seq) : (s.setSq n q).cal = s.cal := rfl
@[simp] theorem State.setSq_casc (n : Nat) (q : Seq) : (s.setSq n q).casc = s.casc := rfl
@[simp] theorem State.setSq_test (n : Nat) (q : Seq) : (s.setSq n q).test = s.test := rfl
@[simp] theorem State.setSq_sent (n : Nat) (q : Seq) : (s.setSq n q).sent = s.sent := rfl

@[simp] theorem State.setChan_pending (n : Nat) (c : Chan) : (s.setChan n c).pending = s.pending := rfl
@[simp] theorem State.setChan_clock (n : Nat) (c : Chan) : (s.setChan n c).clock = s.clock := rfl
@[simp] theorem State.setChan_freeN (n : Nat) (c : Chan) : (s.setChan n c).freeN = s.freeN := rfl
@[simp] theorem State.setChan_formB (n : Nat) (c : Chan) : (s.setChan n c).formB = s.formB := rfl
@[simp] theorem State.setChan_regs (n : Nat) (c : Chan) : (s.setChan n c).regs = s.regs := rfl
@[simp] theorem State.setChan_staged (n : Nat) (c : Chan) : (s.setChan n c).staged = s.staged := rfl
@[simp] theorem State.setChan_aon (n : Nat) (c : Chan) : (s.setChan n c).aon = s.aon := rfl
@[simp] theorem State.setChan_balls (n : Nat) (c : Chan) : (s.setChan n c).balls = s.balls := rfl
@[simp] theorem State.setChan_rmv (n : Nat) (c : Chan) : (s.setChan n c).rmv = s.rmv := rfl
@[simp] theorem State.setChan_trail (n : Nat) (c : Chan) : (s.setChan n c).trail = s.trail := rfl
@[simp] theorem State.setChan_keep (n : Nat) (c : Chan) : (s.setChan n c).keep = s.keep := rfl
@[simp] theorem State.setChan_host (n : Nat) (c : Chan) : (s.setChan n c).host = s.host := rfl
@[simp] theorem State.setChan_log (n : Nat) (c : Chan) : (s.setChan n c).log = s.log := rfl
@[simp] theorem State.setChan_port (n : Nat) (c : Chan) : (s.setChan n c).port = s.port := rfl
@[simp] theorem State.setChan_router (n : Nat) (c : Chan) : (s.setChan n c).router = s.router := rfl
@[simp] theorem State.setChan_svcNest (n : Nat) (c : Chan) : (s.setChan n c).svcNest = s.svcNest := rfl
@[simp] theorem State.setChan_svcPc (n : Nat) (c : Chan) : (s.setChan n c).svcPc = s.svcPc := rfl
@[simp] theorem State.setChan_wds (n : Nat) (c : Chan) : (s.setChan n c).wds = s.wds := rfl
@[simp] theorem State.setChan_therm (n : Nat) (c : Chan) : (s.setChan n c).therm = s.therm := rfl
@[simp] theorem State.setChan_fqs (n : Nat) (c : Chan) : (s.setChan n c).fqs = s.fqs := rfl
@[simp] theorem State.setChan_hmp (n : Nat) (c : Chan) : (s.setChan n c).hmp = s.hmp := rfl
@[simp] theorem State.setChan_agl (n : Nat) (c : Chan) : (s.setChan n c).agl = s.agl := rfl
@[simp] theorem State.setChan_pcie (n : Nat) (c : Chan) : (s.setChan n c).pcie = s.pcie := rfl
@[simp] theorem State.setChan_rt (n : Nat) (c : Chan) : (s.setChan n c).rt = s.rt := rfl
@[simp] theorem State.setChan_dops (n : Nat) (c : Chan) : (s.setChan n c).dops = s.dops := rfl
@[simp] theorem State.setChan_nextOp (n : Nat) (c : Chan) : (s.setChan n c).nextOp = s.nextOp := rfl
@[simp] theorem State.setChan_seqs (n : Nat) (c : Chan) : (s.setChan n c).seqs = s.seqs := rfl
@[simp] theorem State.setChan_cws (n : Nat) (c : Chan) : (s.setChan n c).cws = s.cws := rfl
@[simp] theorem State.setChan_cwOut (n : Nat) (c : Chan) : (s.setChan n c).cwOut = s.cwOut := rfl
@[simp] theorem State.setChan_codecTurn (n : Nat) (c : Chan) : (s.setChan n c).codecTurn = s.codecTurn := rfl
@[simp] theorem State.setChan_nextCw (n : Nat) (c : Chan) : (s.setChan n c).nextCw = s.nextCw := rfl
@[simp] theorem State.setChan_map (n : Nat) (c : Chan) : (s.setChan n c).map = s.map := rfl
@[simp] theorem State.setChan_prot (n : Nat) (c : Chan) : (s.setChan n c).prot = s.prot := rfl
@[simp] theorem State.setChan_cal (n : Nat) (c : Chan) : (s.setChan n c).cal = s.cal := rfl
@[simp] theorem State.setChan_casc (n : Nat) (c : Chan) : (s.setChan n c).casc = s.casc := rfl
@[simp] theorem State.setChan_test (n : Nat) (c : Chan) : (s.setChan n c).test = s.test := rfl
@[simp] theorem State.setChan_sent (n : Nat) (c : Chan) : (s.setChan n c).sent = s.sent := rfl

@[simp] theorem State.setDop_pending (i : Nat) (o : DieOp) : (s.setDop i o).pending = s.pending := rfl
@[simp] theorem State.setDop_clock (i : Nat) (o : DieOp) : (s.setDop i o).clock = s.clock := rfl
@[simp] theorem State.setDop_freeN (i : Nat) (o : DieOp) : (s.setDop i o).freeN = s.freeN := rfl
@[simp] theorem State.setDop_formB (i : Nat) (o : DieOp) : (s.setDop i o).formB = s.formB := rfl
@[simp] theorem State.setDop_regs (i : Nat) (o : DieOp) : (s.setDop i o).regs = s.regs := rfl
@[simp] theorem State.setDop_staged (i : Nat) (o : DieOp) : (s.setDop i o).staged = s.staged := rfl
@[simp] theorem State.setDop_aon (i : Nat) (o : DieOp) : (s.setDop i o).aon = s.aon := rfl
@[simp] theorem State.setDop_balls (i : Nat) (o : DieOp) : (s.setDop i o).balls = s.balls := rfl
@[simp] theorem State.setDop_rmv (i : Nat) (o : DieOp) : (s.setDop i o).rmv = s.rmv := rfl
@[simp] theorem State.setDop_trail (i : Nat) (o : DieOp) : (s.setDop i o).trail = s.trail := rfl
@[simp] theorem State.setDop_keep (i : Nat) (o : DieOp) : (s.setDop i o).keep = s.keep := rfl
@[simp] theorem State.setDop_host (i : Nat) (o : DieOp) : (s.setDop i o).host = s.host := rfl
@[simp] theorem State.setDop_log (i : Nat) (o : DieOp) : (s.setDop i o).log = s.log := rfl
@[simp] theorem State.setDop_port (i : Nat) (o : DieOp) : (s.setDop i o).port = s.port := rfl
@[simp] theorem State.setDop_router (i : Nat) (o : DieOp) : (s.setDop i o).router = s.router := rfl
@[simp] theorem State.setDop_svcNest (i : Nat) (o : DieOp) : (s.setDop i o).svcNest = s.svcNest := rfl
@[simp] theorem State.setDop_svcPc (i : Nat) (o : DieOp) : (s.setDop i o).svcPc = s.svcPc := rfl
@[simp] theorem State.setDop_wds (i : Nat) (o : DieOp) : (s.setDop i o).wds = s.wds := rfl
@[simp] theorem State.setDop_therm (i : Nat) (o : DieOp) : (s.setDop i o).therm = s.therm := rfl
@[simp] theorem State.setDop_fqs (i : Nat) (o : DieOp) : (s.setDop i o).fqs = s.fqs := rfl
@[simp] theorem State.setDop_hmp (i : Nat) (o : DieOp) : (s.setDop i o).hmp = s.hmp := rfl
@[simp] theorem State.setDop_agl (i : Nat) (o : DieOp) : (s.setDop i o).agl = s.agl := rfl
@[simp] theorem State.setDop_pcie (i : Nat) (o : DieOp) : (s.setDop i o).pcie = s.pcie := rfl
@[simp] theorem State.setDop_rt (i : Nat) (o : DieOp) : (s.setDop i o).rt = s.rt := rfl
@[simp] theorem State.setDop_chans (i : Nat) (o : DieOp) : (s.setDop i o).chans = s.chans := rfl
@[simp] theorem State.setDop_nextOp (i : Nat) (o : DieOp) : (s.setDop i o).nextOp = s.nextOp := rfl
@[simp] theorem State.setDop_seqs (i : Nat) (o : DieOp) : (s.setDop i o).seqs = s.seqs := rfl
@[simp] theorem State.setDop_cws (i : Nat) (o : DieOp) : (s.setDop i o).cws = s.cws := rfl
@[simp] theorem State.setDop_cwOut (i : Nat) (o : DieOp) : (s.setDop i o).cwOut = s.cwOut := rfl
@[simp] theorem State.setDop_codecTurn (i : Nat) (o : DieOp) : (s.setDop i o).codecTurn = s.codecTurn := rfl
@[simp] theorem State.setDop_nextCw (i : Nat) (o : DieOp) : (s.setDop i o).nextCw = s.nextCw := rfl
@[simp] theorem State.setDop_map (i : Nat) (o : DieOp) : (s.setDop i o).map = s.map := rfl
@[simp] theorem State.setDop_prot (i : Nat) (o : DieOp) : (s.setDop i o).prot = s.prot := rfl
@[simp] theorem State.setDop_cal (i : Nat) (o : DieOp) : (s.setDop i o).cal = s.cal := rfl
@[simp] theorem State.setDop_casc (i : Nat) (o : DieOp) : (s.setDop i o).casc = s.casc := rfl
@[simp] theorem State.setDop_test (i : Nat) (o : DieOp) : (s.setDop i o).test = s.test := rfl
@[simp] theorem State.setDop_sent (i : Nat) (o : DieOp) : (s.setDop i o).sent = s.sent := rfl

@[simp] theorem State.delDop_pending (i : Nat) : (s.delDop i).pending = s.pending := rfl
@[simp] theorem State.delDop_clock (i : Nat) : (s.delDop i).clock = s.clock := rfl
@[simp] theorem State.delDop_freeN (i : Nat) : (s.delDop i).freeN = s.freeN := rfl
@[simp] theorem State.delDop_formB (i : Nat) : (s.delDop i).formB = s.formB := rfl
@[simp] theorem State.delDop_regs (i : Nat) : (s.delDop i).regs = s.regs := rfl
@[simp] theorem State.delDop_staged (i : Nat) : (s.delDop i).staged = s.staged := rfl
@[simp] theorem State.delDop_aon (i : Nat) : (s.delDop i).aon = s.aon := rfl
@[simp] theorem State.delDop_balls (i : Nat) : (s.delDop i).balls = s.balls := rfl
@[simp] theorem State.delDop_rmv (i : Nat) : (s.delDop i).rmv = s.rmv := rfl
@[simp] theorem State.delDop_trail (i : Nat) : (s.delDop i).trail = s.trail := rfl
@[simp] theorem State.delDop_keep (i : Nat) : (s.delDop i).keep = s.keep := rfl
@[simp] theorem State.delDop_host (i : Nat) : (s.delDop i).host = s.host := rfl
@[simp] theorem State.delDop_log (i : Nat) : (s.delDop i).log = s.log := rfl
@[simp] theorem State.delDop_port (i : Nat) : (s.delDop i).port = s.port := rfl
@[simp] theorem State.delDop_router (i : Nat) : (s.delDop i).router = s.router := rfl
@[simp] theorem State.delDop_svcNest (i : Nat) : (s.delDop i).svcNest = s.svcNest := rfl
@[simp] theorem State.delDop_svcPc (i : Nat) : (s.delDop i).svcPc = s.svcPc := rfl
@[simp] theorem State.delDop_wds (i : Nat) : (s.delDop i).wds = s.wds := rfl
@[simp] theorem State.delDop_therm (i : Nat) : (s.delDop i).therm = s.therm := rfl
@[simp] theorem State.delDop_fqs (i : Nat) : (s.delDop i).fqs = s.fqs := rfl
@[simp] theorem State.delDop_hmp (i : Nat) : (s.delDop i).hmp = s.hmp := rfl
@[simp] theorem State.delDop_agl (i : Nat) : (s.delDop i).agl = s.agl := rfl
@[simp] theorem State.delDop_pcie (i : Nat) : (s.delDop i).pcie = s.pcie := rfl
@[simp] theorem State.delDop_rt (i : Nat) : (s.delDop i).rt = s.rt := rfl
@[simp] theorem State.delDop_chans (i : Nat) : (s.delDop i).chans = s.chans := rfl
@[simp] theorem State.delDop_nextOp (i : Nat) : (s.delDop i).nextOp = s.nextOp := rfl
@[simp] theorem State.delDop_seqs (i : Nat) : (s.delDop i).seqs = s.seqs := rfl
@[simp] theorem State.delDop_cws (i : Nat) : (s.delDop i).cws = s.cws := rfl
@[simp] theorem State.delDop_cwOut (i : Nat) : (s.delDop i).cwOut = s.cwOut := rfl
@[simp] theorem State.delDop_codecTurn (i : Nat) : (s.delDop i).codecTurn = s.codecTurn := rfl
@[simp] theorem State.delDop_nextCw (i : Nat) : (s.delDop i).nextCw = s.nextCw := rfl
@[simp] theorem State.delDop_map (i : Nat) : (s.delDop i).map = s.map := rfl
@[simp] theorem State.delDop_prot (i : Nat) : (s.delDop i).prot = s.prot := rfl
@[simp] theorem State.delDop_cal (i : Nat) : (s.delDop i).cal = s.cal := rfl
@[simp] theorem State.delDop_casc (i : Nat) : (s.delDop i).casc = s.casc := rfl
@[simp] theorem State.delDop_test (i : Nat) : (s.delDop i).test = s.test := rfl
@[simp] theorem State.delDop_sent (i : Nat) : (s.delDop i).sent = s.sent := rfl

@[simp] theorem State.setFq_pending (q : Nat) (v : Fq) : (s.setFq q v).pending = s.pending := rfl
@[simp] theorem State.setFq_clock (q : Nat) (v : Fq) : (s.setFq q v).clock = s.clock := rfl
@[simp] theorem State.setFq_freeN (q : Nat) (v : Fq) : (s.setFq q v).freeN = s.freeN := rfl
@[simp] theorem State.setFq_formB (q : Nat) (v : Fq) : (s.setFq q v).formB = s.formB := rfl
@[simp] theorem State.setFq_regs (q : Nat) (v : Fq) : (s.setFq q v).regs = s.regs := rfl
@[simp] theorem State.setFq_staged (q : Nat) (v : Fq) : (s.setFq q v).staged = s.staged := rfl
@[simp] theorem State.setFq_aon (q : Nat) (v : Fq) : (s.setFq q v).aon = s.aon := rfl
@[simp] theorem State.setFq_balls (q : Nat) (v : Fq) : (s.setFq q v).balls = s.balls := rfl
@[simp] theorem State.setFq_rmv (q : Nat) (v : Fq) : (s.setFq q v).rmv = s.rmv := rfl
@[simp] theorem State.setFq_trail (q : Nat) (v : Fq) : (s.setFq q v).trail = s.trail := rfl
@[simp] theorem State.setFq_keep (q : Nat) (v : Fq) : (s.setFq q v).keep = s.keep := rfl
@[simp] theorem State.setFq_host (q : Nat) (v : Fq) : (s.setFq q v).host = s.host := rfl
@[simp] theorem State.setFq_log (q : Nat) (v : Fq) : (s.setFq q v).log = s.log := rfl
@[simp] theorem State.setFq_port (q : Nat) (v : Fq) : (s.setFq q v).port = s.port := rfl
@[simp] theorem State.setFq_router (q : Nat) (v : Fq) : (s.setFq q v).router = s.router := rfl
@[simp] theorem State.setFq_svcNest (q : Nat) (v : Fq) : (s.setFq q v).svcNest = s.svcNest := rfl
@[simp] theorem State.setFq_svcPc (q : Nat) (v : Fq) : (s.setFq q v).svcPc = s.svcPc := rfl
@[simp] theorem State.setFq_wds (q : Nat) (v : Fq) : (s.setFq q v).wds = s.wds := rfl
@[simp] theorem State.setFq_therm (q : Nat) (v : Fq) : (s.setFq q v).therm = s.therm := rfl
@[simp] theorem State.setFq_hmp (q : Nat) (v : Fq) : (s.setFq q v).hmp = s.hmp := rfl
@[simp] theorem State.setFq_agl (q : Nat) (v : Fq) : (s.setFq q v).agl = s.agl := rfl
@[simp] theorem State.setFq_pcie (q : Nat) (v : Fq) : (s.setFq q v).pcie = s.pcie := rfl
@[simp] theorem State.setFq_rt (q : Nat) (v : Fq) : (s.setFq q v).rt = s.rt := rfl
@[simp] theorem State.setFq_chans (q : Nat) (v : Fq) : (s.setFq q v).chans = s.chans := rfl
@[simp] theorem State.setFq_dops (q : Nat) (v : Fq) : (s.setFq q v).dops = s.dops := rfl
@[simp] theorem State.setFq_nextOp (q : Nat) (v : Fq) : (s.setFq q v).nextOp = s.nextOp := rfl
@[simp] theorem State.setFq_seqs (q : Nat) (v : Fq) : (s.setFq q v).seqs = s.seqs := rfl
@[simp] theorem State.setFq_cws (q : Nat) (v : Fq) : (s.setFq q v).cws = s.cws := rfl
@[simp] theorem State.setFq_cwOut (q : Nat) (v : Fq) : (s.setFq q v).cwOut = s.cwOut := rfl
@[simp] theorem State.setFq_codecTurn (q : Nat) (v : Fq) : (s.setFq q v).codecTurn = s.codecTurn := rfl
@[simp] theorem State.setFq_nextCw (q : Nat) (v : Fq) : (s.setFq q v).nextCw = s.nextCw := rfl
@[simp] theorem State.setFq_map (q : Nat) (v : Fq) : (s.setFq q v).map = s.map := rfl
@[simp] theorem State.setFq_prot (q : Nat) (v : Fq) : (s.setFq q v).prot = s.prot := rfl
@[simp] theorem State.setFq_cal (q : Nat) (v : Fq) : (s.setFq q v).cal = s.cal := rfl
@[simp] theorem State.setFq_casc (q : Nat) (v : Fq) : (s.setFq q v).casc = s.casc := rfl
@[simp] theorem State.setFq_test (q : Nat) (v : Fq) : (s.setFq q v).test = s.test := rfl
@[simp] theorem State.setFq_sent (q : Nat) (v : Fq) : (s.setFq q v).sent = s.sent := rfl

@[simp] theorem State.setFlight_pending (k : Nat) (f : Flight) : (s.setFlight k f).pending = s.pending := rfl
@[simp] theorem State.setFlight_clock (k : Nat) (f : Flight) : (s.setFlight k f).clock = s.clock := rfl
@[simp] theorem State.setFlight_freeN (k : Nat) (f : Flight) : (s.setFlight k f).freeN = s.freeN := rfl
@[simp] theorem State.setFlight_formB (k : Nat) (f : Flight) : (s.setFlight k f).formB = s.formB := rfl
@[simp] theorem State.setFlight_regs (k : Nat) (f : Flight) : (s.setFlight k f).regs = s.regs := rfl
@[simp] theorem State.setFlight_staged (k : Nat) (f : Flight) : (s.setFlight k f).staged = s.staged := rfl
@[simp] theorem State.setFlight_aon (k : Nat) (f : Flight) : (s.setFlight k f).aon = s.aon := rfl
@[simp] theorem State.setFlight_balls (k : Nat) (f : Flight) : (s.setFlight k f).balls = s.balls := rfl
@[simp] theorem State.setFlight_rmv (k : Nat) (f : Flight) : (s.setFlight k f).rmv = s.rmv := rfl
@[simp] theorem State.setFlight_trail (k : Nat) (f : Flight) : (s.setFlight k f).trail = s.trail := rfl
@[simp] theorem State.setFlight_keep (k : Nat) (f : Flight) : (s.setFlight k f).keep = s.keep := rfl
@[simp] theorem State.setFlight_log (k : Nat) (f : Flight) : (s.setFlight k f).log = s.log := rfl
@[simp] theorem State.setFlight_port (k : Nat) (f : Flight) : (s.setFlight k f).port = s.port := rfl
@[simp] theorem State.setFlight_router (k : Nat) (f : Flight) : (s.setFlight k f).router = s.router := rfl
@[simp] theorem State.setFlight_svcNest (k : Nat) (f : Flight) : (s.setFlight k f).svcNest = s.svcNest := rfl
@[simp] theorem State.setFlight_svcPc (k : Nat) (f : Flight) : (s.setFlight k f).svcPc = s.svcPc := rfl
@[simp] theorem State.setFlight_wds (k : Nat) (f : Flight) : (s.setFlight k f).wds = s.wds := rfl
@[simp] theorem State.setFlight_therm (k : Nat) (f : Flight) : (s.setFlight k f).therm = s.therm := rfl
@[simp] theorem State.setFlight_fqs (k : Nat) (f : Flight) : (s.setFlight k f).fqs = s.fqs := rfl
@[simp] theorem State.setFlight_hmp (k : Nat) (f : Flight) : (s.setFlight k f).hmp = s.hmp := rfl
@[simp] theorem State.setFlight_agl (k : Nat) (f : Flight) : (s.setFlight k f).agl = s.agl := rfl
@[simp] theorem State.setFlight_pcie (k : Nat) (f : Flight) : (s.setFlight k f).pcie = s.pcie := rfl
@[simp] theorem State.setFlight_rt (k : Nat) (f : Flight) : (s.setFlight k f).rt = s.rt := rfl
@[simp] theorem State.setFlight_chans (k : Nat) (f : Flight) : (s.setFlight k f).chans = s.chans := rfl
@[simp] theorem State.setFlight_dops (k : Nat) (f : Flight) : (s.setFlight k f).dops = s.dops := rfl
@[simp] theorem State.setFlight_nextOp (k : Nat) (f : Flight) : (s.setFlight k f).nextOp = s.nextOp := rfl
@[simp] theorem State.setFlight_seqs (k : Nat) (f : Flight) : (s.setFlight k f).seqs = s.seqs := rfl
@[simp] theorem State.setFlight_cws (k : Nat) (f : Flight) : (s.setFlight k f).cws = s.cws := rfl
@[simp] theorem State.setFlight_cwOut (k : Nat) (f : Flight) : (s.setFlight k f).cwOut = s.cwOut := rfl
@[simp] theorem State.setFlight_codecTurn (k : Nat) (f : Flight) : (s.setFlight k f).codecTurn = s.codecTurn := rfl
@[simp] theorem State.setFlight_nextCw (k : Nat) (f : Flight) : (s.setFlight k f).nextCw = s.nextCw := rfl
@[simp] theorem State.setFlight_map (k : Nat) (f : Flight) : (s.setFlight k f).map = s.map := rfl
@[simp] theorem State.setFlight_prot (k : Nat) (f : Flight) : (s.setFlight k f).prot = s.prot := rfl
@[simp] theorem State.setFlight_cal (k : Nat) (f : Flight) : (s.setFlight k f).cal = s.cal := rfl
@[simp] theorem State.setFlight_casc (k : Nat) (f : Flight) : (s.setFlight k f).casc = s.casc := rfl
@[simp] theorem State.setFlight_test (k : Nat) (f : Flight) : (s.setFlight k f).test = s.test := rfl
@[simp] theorem State.setFlight_sent (k : Nat) (f : Flight) : (s.setFlight k f).sent = s.sent := rfl

@[simp] theorem State.setQp_pending (q : Nat) (v : Qp) : (s.setQp q v).pending = s.pending := rfl
@[simp] theorem State.setQp_clock (q : Nat) (v : Qp) : (s.setQp q v).clock = s.clock := rfl
@[simp] theorem State.setQp_freeN (q : Nat) (v : Qp) : (s.setQp q v).freeN = s.freeN := rfl
@[simp] theorem State.setQp_formB (q : Nat) (v : Qp) : (s.setQp q v).formB = s.formB := rfl
@[simp] theorem State.setQp_regs (q : Nat) (v : Qp) : (s.setQp q v).regs = s.regs := rfl
@[simp] theorem State.setQp_staged (q : Nat) (v : Qp) : (s.setQp q v).staged = s.staged := rfl
@[simp] theorem State.setQp_aon (q : Nat) (v : Qp) : (s.setQp q v).aon = s.aon := rfl
@[simp] theorem State.setQp_balls (q : Nat) (v : Qp) : (s.setQp q v).balls = s.balls := rfl
@[simp] theorem State.setQp_rmv (q : Nat) (v : Qp) : (s.setQp q v).rmv = s.rmv := rfl
@[simp] theorem State.setQp_trail (q : Nat) (v : Qp) : (s.setQp q v).trail = s.trail := rfl
@[simp] theorem State.setQp_keep (q : Nat) (v : Qp) : (s.setQp q v).keep = s.keep := rfl
@[simp] theorem State.setQp_log (q : Nat) (v : Qp) : (s.setQp q v).log = s.log := rfl
@[simp] theorem State.setQp_port (q : Nat) (v : Qp) : (s.setQp q v).port = s.port := rfl
@[simp] theorem State.setQp_router (q : Nat) (v : Qp) : (s.setQp q v).router = s.router := rfl
@[simp] theorem State.setQp_svcNest (q : Nat) (v : Qp) : (s.setQp q v).svcNest = s.svcNest := rfl
@[simp] theorem State.setQp_svcPc (q : Nat) (v : Qp) : (s.setQp q v).svcPc = s.svcPc := rfl
@[simp] theorem State.setQp_wds (q : Nat) (v : Qp) : (s.setQp q v).wds = s.wds := rfl
@[simp] theorem State.setQp_therm (q : Nat) (v : Qp) : (s.setQp q v).therm = s.therm := rfl
@[simp] theorem State.setQp_fqs (q : Nat) (v : Qp) : (s.setQp q v).fqs = s.fqs := rfl
@[simp] theorem State.setQp_hmp (q : Nat) (v : Qp) : (s.setQp q v).hmp = s.hmp := rfl
@[simp] theorem State.setQp_agl (q : Nat) (v : Qp) : (s.setQp q v).agl = s.agl := rfl
@[simp] theorem State.setQp_pcie (q : Nat) (v : Qp) : (s.setQp q v).pcie = s.pcie := rfl
@[simp] theorem State.setQp_rt (q : Nat) (v : Qp) : (s.setQp q v).rt = s.rt := rfl
@[simp] theorem State.setQp_chans (q : Nat) (v : Qp) : (s.setQp q v).chans = s.chans := rfl
@[simp] theorem State.setQp_dops (q : Nat) (v : Qp) : (s.setQp q v).dops = s.dops := rfl
@[simp] theorem State.setQp_nextOp (q : Nat) (v : Qp) : (s.setQp q v).nextOp = s.nextOp := rfl
@[simp] theorem State.setQp_seqs (q : Nat) (v : Qp) : (s.setQp q v).seqs = s.seqs := rfl
@[simp] theorem State.setQp_cws (q : Nat) (v : Qp) : (s.setQp q v).cws = s.cws := rfl
@[simp] theorem State.setQp_cwOut (q : Nat) (v : Qp) : (s.setQp q v).cwOut = s.cwOut := rfl
@[simp] theorem State.setQp_codecTurn (q : Nat) (v : Qp) : (s.setQp q v).codecTurn = s.codecTurn := rfl
@[simp] theorem State.setQp_nextCw (q : Nat) (v : Qp) : (s.setQp q v).nextCw = s.nextCw := rfl
@[simp] theorem State.setQp_map (q : Nat) (v : Qp) : (s.setQp q v).map = s.map := rfl
@[simp] theorem State.setQp_prot (q : Nat) (v : Qp) : (s.setQp q v).prot = s.prot := rfl
@[simp] theorem State.setQp_cal (q : Nat) (v : Qp) : (s.setQp q v).cal = s.cal := rfl
@[simp] theorem State.setQp_casc (q : Nat) (v : Qp) : (s.setQp q v).casc = s.casc := rfl
@[simp] theorem State.setQp_test (q : Nat) (v : Qp) : (s.setQp q v).test = s.test := rfl
@[simp] theorem State.setQp_sent (q : Nat) (v : Qp) : (s.setQp q v).sent = s.sent := rfl

@[simp] theorem State.setWd_pending (k : Nat) (v : Watchdog) : (s.setWd k v).pending = s.pending := rfl
@[simp] theorem State.setWd_clock (k : Nat) (v : Watchdog) : (s.setWd k v).clock = s.clock := rfl
@[simp] theorem State.setWd_freeN (k : Nat) (v : Watchdog) : (s.setWd k v).freeN = s.freeN := rfl
@[simp] theorem State.setWd_formB (k : Nat) (v : Watchdog) : (s.setWd k v).formB = s.formB := rfl
@[simp] theorem State.setWd_regs (k : Nat) (v : Watchdog) : (s.setWd k v).regs = s.regs := rfl
@[simp] theorem State.setWd_staged (k : Nat) (v : Watchdog) : (s.setWd k v).staged = s.staged := rfl
@[simp] theorem State.setWd_aon (k : Nat) (v : Watchdog) : (s.setWd k v).aon = s.aon := rfl
@[simp] theorem State.setWd_balls (k : Nat) (v : Watchdog) : (s.setWd k v).balls = s.balls := rfl
@[simp] theorem State.setWd_rmv (k : Nat) (v : Watchdog) : (s.setWd k v).rmv = s.rmv := rfl
@[simp] theorem State.setWd_trail (k : Nat) (v : Watchdog) : (s.setWd k v).trail = s.trail := rfl
@[simp] theorem State.setWd_keep (k : Nat) (v : Watchdog) : (s.setWd k v).keep = s.keep := rfl
@[simp] theorem State.setWd_host (k : Nat) (v : Watchdog) : (s.setWd k v).host = s.host := rfl
@[simp] theorem State.setWd_log (k : Nat) (v : Watchdog) : (s.setWd k v).log = s.log := rfl
@[simp] theorem State.setWd_port (k : Nat) (v : Watchdog) : (s.setWd k v).port = s.port := rfl
@[simp] theorem State.setWd_router (k : Nat) (v : Watchdog) : (s.setWd k v).router = s.router := rfl
@[simp] theorem State.setWd_svcNest (k : Nat) (v : Watchdog) : (s.setWd k v).svcNest = s.svcNest := rfl
@[simp] theorem State.setWd_svcPc (k : Nat) (v : Watchdog) : (s.setWd k v).svcPc = s.svcPc := rfl
@[simp] theorem State.setWd_therm (k : Nat) (v : Watchdog) : (s.setWd k v).therm = s.therm := rfl
@[simp] theorem State.setWd_fqs (k : Nat) (v : Watchdog) : (s.setWd k v).fqs = s.fqs := rfl
@[simp] theorem State.setWd_hmp (k : Nat) (v : Watchdog) : (s.setWd k v).hmp = s.hmp := rfl
@[simp] theorem State.setWd_agl (k : Nat) (v : Watchdog) : (s.setWd k v).agl = s.agl := rfl
@[simp] theorem State.setWd_pcie (k : Nat) (v : Watchdog) : (s.setWd k v).pcie = s.pcie := rfl
@[simp] theorem State.setWd_rt (k : Nat) (v : Watchdog) : (s.setWd k v).rt = s.rt := rfl
@[simp] theorem State.setWd_chans (k : Nat) (v : Watchdog) : (s.setWd k v).chans = s.chans := rfl
@[simp] theorem State.setWd_dops (k : Nat) (v : Watchdog) : (s.setWd k v).dops = s.dops := rfl
@[simp] theorem State.setWd_nextOp (k : Nat) (v : Watchdog) : (s.setWd k v).nextOp = s.nextOp := rfl
@[simp] theorem State.setWd_seqs (k : Nat) (v : Watchdog) : (s.setWd k v).seqs = s.seqs := rfl
@[simp] theorem State.setWd_cws (k : Nat) (v : Watchdog) : (s.setWd k v).cws = s.cws := rfl
@[simp] theorem State.setWd_cwOut (k : Nat) (v : Watchdog) : (s.setWd k v).cwOut = s.cwOut := rfl
@[simp] theorem State.setWd_codecTurn (k : Nat) (v : Watchdog) : (s.setWd k v).codecTurn = s.codecTurn := rfl
@[simp] theorem State.setWd_nextCw (k : Nat) (v : Watchdog) : (s.setWd k v).nextCw = s.nextCw := rfl
@[simp] theorem State.setWd_map (k : Nat) (v : Watchdog) : (s.setWd k v).map = s.map := rfl
@[simp] theorem State.setWd_prot (k : Nat) (v : Watchdog) : (s.setWd k v).prot = s.prot := rfl
@[simp] theorem State.setWd_cal (k : Nat) (v : Watchdog) : (s.setWd k v).cal = s.cal := rfl
@[simp] theorem State.setWd_casc (k : Nat) (v : Watchdog) : (s.setWd k v).casc = s.casc := rfl
@[simp] theorem State.setWd_test (k : Nat) (v : Watchdog) : (s.setWd k v).test = s.test := rfl
@[simp] theorem State.setWd_sent (k : Nat) (v : Watchdog) : (s.setWd k v).sent = s.sent := rfl

@[simp] theorem State.setHbuf_pending (b : Nat) (v : HBuf) : (s.setHbuf b v).pending = s.pending := rfl
@[simp] theorem State.setHbuf_clock (b : Nat) (v : HBuf) : (s.setHbuf b v).clock = s.clock := rfl
@[simp] theorem State.setHbuf_freeN (b : Nat) (v : HBuf) : (s.setHbuf b v).freeN = s.freeN := rfl
@[simp] theorem State.setHbuf_formB (b : Nat) (v : HBuf) : (s.setHbuf b v).formB = s.formB := rfl
@[simp] theorem State.setHbuf_regs (b : Nat) (v : HBuf) : (s.setHbuf b v).regs = s.regs := rfl
@[simp] theorem State.setHbuf_staged (b : Nat) (v : HBuf) : (s.setHbuf b v).staged = s.staged := rfl
@[simp] theorem State.setHbuf_aon (b : Nat) (v : HBuf) : (s.setHbuf b v).aon = s.aon := rfl
@[simp] theorem State.setHbuf_balls (b : Nat) (v : HBuf) : (s.setHbuf b v).balls = s.balls := rfl
@[simp] theorem State.setHbuf_rmv (b : Nat) (v : HBuf) : (s.setHbuf b v).rmv = s.rmv := rfl
@[simp] theorem State.setHbuf_trail (b : Nat) (v : HBuf) : (s.setHbuf b v).trail = s.trail := rfl
@[simp] theorem State.setHbuf_keep (b : Nat) (v : HBuf) : (s.setHbuf b v).keep = s.keep := rfl
@[simp] theorem State.setHbuf_host (b : Nat) (v : HBuf) : (s.setHbuf b v).host = s.host := rfl
@[simp] theorem State.setHbuf_log (b : Nat) (v : HBuf) : (s.setHbuf b v).log = s.log := rfl
@[simp] theorem State.setHbuf_port (b : Nat) (v : HBuf) : (s.setHbuf b v).port = s.port := rfl
@[simp] theorem State.setHbuf_router (b : Nat) (v : HBuf) : (s.setHbuf b v).router = s.router := rfl
@[simp] theorem State.setHbuf_svcNest (b : Nat) (v : HBuf) : (s.setHbuf b v).svcNest = s.svcNest := rfl
@[simp] theorem State.setHbuf_svcPc (b : Nat) (v : HBuf) : (s.setHbuf b v).svcPc = s.svcPc := rfl
@[simp] theorem State.setHbuf_wds (b : Nat) (v : HBuf) : (s.setHbuf b v).wds = s.wds := rfl
@[simp] theorem State.setHbuf_therm (b : Nat) (v : HBuf) : (s.setHbuf b v).therm = s.therm := rfl
@[simp] theorem State.setHbuf_fqs (b : Nat) (v : HBuf) : (s.setHbuf b v).fqs = s.fqs := rfl
@[simp] theorem State.setHbuf_agl (b : Nat) (v : HBuf) : (s.setHbuf b v).agl = s.agl := rfl
@[simp] theorem State.setHbuf_pcie (b : Nat) (v : HBuf) : (s.setHbuf b v).pcie = s.pcie := rfl
@[simp] theorem State.setHbuf_rt (b : Nat) (v : HBuf) : (s.setHbuf b v).rt = s.rt := rfl
@[simp] theorem State.setHbuf_chans (b : Nat) (v : HBuf) : (s.setHbuf b v).chans = s.chans := rfl
@[simp] theorem State.setHbuf_dops (b : Nat) (v : HBuf) : (s.setHbuf b v).dops = s.dops := rfl
@[simp] theorem State.setHbuf_nextOp (b : Nat) (v : HBuf) : (s.setHbuf b v).nextOp = s.nextOp := rfl
@[simp] theorem State.setHbuf_seqs (b : Nat) (v : HBuf) : (s.setHbuf b v).seqs = s.seqs := rfl
@[simp] theorem State.setHbuf_cws (b : Nat) (v : HBuf) : (s.setHbuf b v).cws = s.cws := rfl
@[simp] theorem State.setHbuf_cwOut (b : Nat) (v : HBuf) : (s.setHbuf b v).cwOut = s.cwOut := rfl
@[simp] theorem State.setHbuf_codecTurn (b : Nat) (v : HBuf) : (s.setHbuf b v).codecTurn = s.codecTurn := rfl
@[simp] theorem State.setHbuf_nextCw (b : Nat) (v : HBuf) : (s.setHbuf b v).nextCw = s.nextCw := rfl
@[simp] theorem State.setHbuf_map (b : Nat) (v : HBuf) : (s.setHbuf b v).map = s.map := rfl
@[simp] theorem State.setHbuf_prot (b : Nat) (v : HBuf) : (s.setHbuf b v).prot = s.prot := rfl
@[simp] theorem State.setHbuf_cal (b : Nat) (v : HBuf) : (s.setHbuf b v).cal = s.cal := rfl
@[simp] theorem State.setHbuf_casc (b : Nat) (v : HBuf) : (s.setHbuf b v).casc = s.casc := rfl
@[simp] theorem State.setHbuf_test (b : Nat) (v : HBuf) : (s.setHbuf b v).test = s.test := rfl
@[simp] theorem State.setHbuf_sent (b : Nat) (v : HBuf) : (s.setHbuf b v).sent = s.sent := rfl

@[simp] theorem State.setCw_pending (c : Nat) (v : Cw) : (s.setCw c v).pending = s.pending := rfl
@[simp] theorem State.setCw_clock (c : Nat) (v : Cw) : (s.setCw c v).clock = s.clock := rfl
@[simp] theorem State.setCw_freeN (c : Nat) (v : Cw) : (s.setCw c v).freeN = s.freeN := rfl
@[simp] theorem State.setCw_formB (c : Nat) (v : Cw) : (s.setCw c v).formB = s.formB := rfl
@[simp] theorem State.setCw_regs (c : Nat) (v : Cw) : (s.setCw c v).regs = s.regs := rfl
@[simp] theorem State.setCw_staged (c : Nat) (v : Cw) : (s.setCw c v).staged = s.staged := rfl
@[simp] theorem State.setCw_aon (c : Nat) (v : Cw) : (s.setCw c v).aon = s.aon := rfl
@[simp] theorem State.setCw_balls (c : Nat) (v : Cw) : (s.setCw c v).balls = s.balls := rfl
@[simp] theorem State.setCw_rmv (c : Nat) (v : Cw) : (s.setCw c v).rmv = s.rmv := rfl
@[simp] theorem State.setCw_trail (c : Nat) (v : Cw) : (s.setCw c v).trail = s.trail := rfl
@[simp] theorem State.setCw_keep (c : Nat) (v : Cw) : (s.setCw c v).keep = s.keep := rfl
@[simp] theorem State.setCw_host (c : Nat) (v : Cw) : (s.setCw c v).host = s.host := rfl
@[simp] theorem State.setCw_log (c : Nat) (v : Cw) : (s.setCw c v).log = s.log := rfl
@[simp] theorem State.setCw_port (c : Nat) (v : Cw) : (s.setCw c v).port = s.port := rfl
@[simp] theorem State.setCw_router (c : Nat) (v : Cw) : (s.setCw c v).router = s.router := rfl
@[simp] theorem State.setCw_svcNest (c : Nat) (v : Cw) : (s.setCw c v).svcNest = s.svcNest := rfl
@[simp] theorem State.setCw_svcPc (c : Nat) (v : Cw) : (s.setCw c v).svcPc = s.svcPc := rfl
@[simp] theorem State.setCw_wds (c : Nat) (v : Cw) : (s.setCw c v).wds = s.wds := rfl
@[simp] theorem State.setCw_therm (c : Nat) (v : Cw) : (s.setCw c v).therm = s.therm := rfl
@[simp] theorem State.setCw_fqs (c : Nat) (v : Cw) : (s.setCw c v).fqs = s.fqs := rfl
@[simp] theorem State.setCw_hmp (c : Nat) (v : Cw) : (s.setCw c v).hmp = s.hmp := rfl
@[simp] theorem State.setCw_agl (c : Nat) (v : Cw) : (s.setCw c v).agl = s.agl := rfl
@[simp] theorem State.setCw_pcie (c : Nat) (v : Cw) : (s.setCw c v).pcie = s.pcie := rfl
@[simp] theorem State.setCw_rt (c : Nat) (v : Cw) : (s.setCw c v).rt = s.rt := rfl
@[simp] theorem State.setCw_chans (c : Nat) (v : Cw) : (s.setCw c v).chans = s.chans := rfl
@[simp] theorem State.setCw_dops (c : Nat) (v : Cw) : (s.setCw c v).dops = s.dops := rfl
@[simp] theorem State.setCw_nextOp (c : Nat) (v : Cw) : (s.setCw c v).nextOp = s.nextOp := rfl
@[simp] theorem State.setCw_seqs (c : Nat) (v : Cw) : (s.setCw c v).seqs = s.seqs := rfl
@[simp] theorem State.setCw_cwOut (c : Nat) (v : Cw) : (s.setCw c v).cwOut = s.cwOut := rfl
@[simp] theorem State.setCw_codecTurn (c : Nat) (v : Cw) : (s.setCw c v).codecTurn = s.codecTurn := rfl
@[simp] theorem State.setCw_nextCw (c : Nat) (v : Cw) : (s.setCw c v).nextCw = s.nextCw := rfl
@[simp] theorem State.setCw_map (c : Nat) (v : Cw) : (s.setCw c v).map = s.map := rfl
@[simp] theorem State.setCw_prot (c : Nat) (v : Cw) : (s.setCw c v).prot = s.prot := rfl
@[simp] theorem State.setCw_cal (c : Nat) (v : Cw) : (s.setCw c v).cal = s.cal := rfl
@[simp] theorem State.setCw_casc (c : Nat) (v : Cw) : (s.setCw c v).casc = s.casc := rfl
@[simp] theorem State.setCw_test (c : Nat) (v : Cw) : (s.setCw c v).test = s.test := rfl
@[simp] theorem State.setCw_sent (c : Nat) (v : Cw) : (s.setCw c v).sent = s.sent := rfl

@[simp] theorem State.delCw_pending (c : Nat) : (s.delCw c).pending = s.pending := rfl
@[simp] theorem State.delCw_clock (c : Nat) : (s.delCw c).clock = s.clock := rfl
@[simp] theorem State.delCw_freeN (c : Nat) : (s.delCw c).freeN = s.freeN := rfl
@[simp] theorem State.delCw_formB (c : Nat) : (s.delCw c).formB = s.formB := rfl
@[simp] theorem State.delCw_regs (c : Nat) : (s.delCw c).regs = s.regs := rfl
@[simp] theorem State.delCw_staged (c : Nat) : (s.delCw c).staged = s.staged := rfl
@[simp] theorem State.delCw_aon (c : Nat) : (s.delCw c).aon = s.aon := rfl
@[simp] theorem State.delCw_balls (c : Nat) : (s.delCw c).balls = s.balls := rfl
@[simp] theorem State.delCw_rmv (c : Nat) : (s.delCw c).rmv = s.rmv := rfl
@[simp] theorem State.delCw_trail (c : Nat) : (s.delCw c).trail = s.trail := rfl
@[simp] theorem State.delCw_keep (c : Nat) : (s.delCw c).keep = s.keep := rfl
@[simp] theorem State.delCw_host (c : Nat) : (s.delCw c).host = s.host := rfl
@[simp] theorem State.delCw_log (c : Nat) : (s.delCw c).log = s.log := rfl
@[simp] theorem State.delCw_port (c : Nat) : (s.delCw c).port = s.port := rfl
@[simp] theorem State.delCw_router (c : Nat) : (s.delCw c).router = s.router := rfl
@[simp] theorem State.delCw_svcNest (c : Nat) : (s.delCw c).svcNest = s.svcNest := rfl
@[simp] theorem State.delCw_svcPc (c : Nat) : (s.delCw c).svcPc = s.svcPc := rfl
@[simp] theorem State.delCw_wds (c : Nat) : (s.delCw c).wds = s.wds := rfl
@[simp] theorem State.delCw_therm (c : Nat) : (s.delCw c).therm = s.therm := rfl
@[simp] theorem State.delCw_fqs (c : Nat) : (s.delCw c).fqs = s.fqs := rfl
@[simp] theorem State.delCw_hmp (c : Nat) : (s.delCw c).hmp = s.hmp := rfl
@[simp] theorem State.delCw_agl (c : Nat) : (s.delCw c).agl = s.agl := rfl
@[simp] theorem State.delCw_pcie (c : Nat) : (s.delCw c).pcie = s.pcie := rfl
@[simp] theorem State.delCw_rt (c : Nat) : (s.delCw c).rt = s.rt := rfl
@[simp] theorem State.delCw_chans (c : Nat) : (s.delCw c).chans = s.chans := rfl
@[simp] theorem State.delCw_dops (c : Nat) : (s.delCw c).dops = s.dops := rfl
@[simp] theorem State.delCw_nextOp (c : Nat) : (s.delCw c).nextOp = s.nextOp := rfl
@[simp] theorem State.delCw_seqs (c : Nat) : (s.delCw c).seqs = s.seqs := rfl
@[simp] theorem State.delCw_cwOut (c : Nat) : (s.delCw c).cwOut = s.cwOut := rfl
@[simp] theorem State.delCw_codecTurn (c : Nat) : (s.delCw c).codecTurn = s.codecTurn := rfl
@[simp] theorem State.delCw_nextCw (c : Nat) : (s.delCw c).nextCw = s.nextCw := rfl
@[simp] theorem State.delCw_map (c : Nat) : (s.delCw c).map = s.map := rfl
@[simp] theorem State.delCw_prot (c : Nat) : (s.delCw c).prot = s.prot := rfl
@[simp] theorem State.delCw_cal (c : Nat) : (s.delCw c).cal = s.cal := rfl
@[simp] theorem State.delCw_casc (c : Nat) : (s.delCw c).casc = s.casc := rfl
@[simp] theorem State.delCw_test (c : Nat) : (s.delCw c).test = s.test := rfl
@[simp] theorem State.delCw_sent (c : Nat) : (s.delCw c).sent = s.sent := rfl

@[simp] theorem State.setTpRun_pending (t : Nat) (v : TpRun) : (s.setTpRun t v).pending = s.pending := rfl
@[simp] theorem State.setTpRun_clock (t : Nat) (v : TpRun) : (s.setTpRun t v).clock = s.clock := rfl
@[simp] theorem State.setTpRun_freeN (t : Nat) (v : TpRun) : (s.setTpRun t v).freeN = s.freeN := rfl
@[simp] theorem State.setTpRun_formB (t : Nat) (v : TpRun) : (s.setTpRun t v).formB = s.formB := rfl
@[simp] theorem State.setTpRun_regs (t : Nat) (v : TpRun) : (s.setTpRun t v).regs = s.regs := rfl
@[simp] theorem State.setTpRun_staged (t : Nat) (v : TpRun) : (s.setTpRun t v).staged = s.staged := rfl
@[simp] theorem State.setTpRun_aon (t : Nat) (v : TpRun) : (s.setTpRun t v).aon = s.aon := rfl
@[simp] theorem State.setTpRun_balls (t : Nat) (v : TpRun) : (s.setTpRun t v).balls = s.balls := rfl
@[simp] theorem State.setTpRun_rmv (t : Nat) (v : TpRun) : (s.setTpRun t v).rmv = s.rmv := rfl
@[simp] theorem State.setTpRun_trail (t : Nat) (v : TpRun) : (s.setTpRun t v).trail = s.trail := rfl
@[simp] theorem State.setTpRun_keep (t : Nat) (v : TpRun) : (s.setTpRun t v).keep = s.keep := rfl
@[simp] theorem State.setTpRun_host (t : Nat) (v : TpRun) : (s.setTpRun t v).host = s.host := rfl
@[simp] theorem State.setTpRun_log (t : Nat) (v : TpRun) : (s.setTpRun t v).log = s.log := rfl
@[simp] theorem State.setTpRun_port (t : Nat) (v : TpRun) : (s.setTpRun t v).port = s.port := rfl
@[simp] theorem State.setTpRun_router (t : Nat) (v : TpRun) : (s.setTpRun t v).router = s.router := rfl
@[simp] theorem State.setTpRun_svcNest (t : Nat) (v : TpRun) : (s.setTpRun t v).svcNest = s.svcNest := rfl
@[simp] theorem State.setTpRun_svcPc (t : Nat) (v : TpRun) : (s.setTpRun t v).svcPc = s.svcPc := rfl
@[simp] theorem State.setTpRun_wds (t : Nat) (v : TpRun) : (s.setTpRun t v).wds = s.wds := rfl
@[simp] theorem State.setTpRun_therm (t : Nat) (v : TpRun) : (s.setTpRun t v).therm = s.therm := rfl
@[simp] theorem State.setTpRun_fqs (t : Nat) (v : TpRun) : (s.setTpRun t v).fqs = s.fqs := rfl
@[simp] theorem State.setTpRun_hmp (t : Nat) (v : TpRun) : (s.setTpRun t v).hmp = s.hmp := rfl
@[simp] theorem State.setTpRun_agl (t : Nat) (v : TpRun) : (s.setTpRun t v).agl = s.agl := rfl
@[simp] theorem State.setTpRun_pcie (t : Nat) (v : TpRun) : (s.setTpRun t v).pcie = s.pcie := rfl
@[simp] theorem State.setTpRun_rt (t : Nat) (v : TpRun) : (s.setTpRun t v).rt = s.rt := rfl
@[simp] theorem State.setTpRun_chans (t : Nat) (v : TpRun) : (s.setTpRun t v).chans = s.chans := rfl
@[simp] theorem State.setTpRun_dops (t : Nat) (v : TpRun) : (s.setTpRun t v).dops = s.dops := rfl
@[simp] theorem State.setTpRun_nextOp (t : Nat) (v : TpRun) : (s.setTpRun t v).nextOp = s.nextOp := rfl
@[simp] theorem State.setTpRun_seqs (t : Nat) (v : TpRun) : (s.setTpRun t v).seqs = s.seqs := rfl
@[simp] theorem State.setTpRun_cws (t : Nat) (v : TpRun) : (s.setTpRun t v).cws = s.cws := rfl
@[simp] theorem State.setTpRun_cwOut (t : Nat) (v : TpRun) : (s.setTpRun t v).cwOut = s.cwOut := rfl
@[simp] theorem State.setTpRun_codecTurn (t : Nat) (v : TpRun) : (s.setTpRun t v).codecTurn = s.codecTurn := rfl
@[simp] theorem State.setTpRun_nextCw (t : Nat) (v : TpRun) : (s.setTpRun t v).nextCw = s.nextCw := rfl
@[simp] theorem State.setTpRun_map (t : Nat) (v : TpRun) : (s.setTpRun t v).map = s.map := rfl
@[simp] theorem State.setTpRun_prot (t : Nat) (v : TpRun) : (s.setTpRun t v).prot = s.prot := rfl
@[simp] theorem State.setTpRun_cal (t : Nat) (v : TpRun) : (s.setTpRun t v).cal = s.cal := rfl
@[simp] theorem State.setTpRun_casc (t : Nat) (v : TpRun) : (s.setTpRun t v).casc = s.casc := rfl
@[simp] theorem State.setTpRun_sent (t : Nat) (v : TpRun) : (s.setTpRun t v).sent = s.sent := rfl

@[simp] theorem State.setTap_pending (v : Tap) : (s.setTap v).pending = s.pending := rfl
@[simp] theorem State.setTap_clock (v : Tap) : (s.setTap v).clock = s.clock := rfl
@[simp] theorem State.setTap_freeN (v : Tap) : (s.setTap v).freeN = s.freeN := rfl
@[simp] theorem State.setTap_formB (v : Tap) : (s.setTap v).formB = s.formB := rfl
@[simp] theorem State.setTap_regs (v : Tap) : (s.setTap v).regs = s.regs := rfl
@[simp] theorem State.setTap_staged (v : Tap) : (s.setTap v).staged = s.staged := rfl
@[simp] theorem State.setTap_aon (v : Tap) : (s.setTap v).aon = s.aon := rfl
@[simp] theorem State.setTap_balls (v : Tap) : (s.setTap v).balls = s.balls := rfl
@[simp] theorem State.setTap_rmv (v : Tap) : (s.setTap v).rmv = s.rmv := rfl
@[simp] theorem State.setTap_trail (v : Tap) : (s.setTap v).trail = s.trail := rfl
@[simp] theorem State.setTap_keep (v : Tap) : (s.setTap v).keep = s.keep := rfl
@[simp] theorem State.setTap_host (v : Tap) : (s.setTap v).host = s.host := rfl
@[simp] theorem State.setTap_log (v : Tap) : (s.setTap v).log = s.log := rfl
@[simp] theorem State.setTap_port (v : Tap) : (s.setTap v).port = s.port := rfl
@[simp] theorem State.setTap_router (v : Tap) : (s.setTap v).router = s.router := rfl
@[simp] theorem State.setTap_svcNest (v : Tap) : (s.setTap v).svcNest = s.svcNest := rfl
@[simp] theorem State.setTap_svcPc (v : Tap) : (s.setTap v).svcPc = s.svcPc := rfl
@[simp] theorem State.setTap_wds (v : Tap) : (s.setTap v).wds = s.wds := rfl
@[simp] theorem State.setTap_therm (v : Tap) : (s.setTap v).therm = s.therm := rfl
@[simp] theorem State.setTap_fqs (v : Tap) : (s.setTap v).fqs = s.fqs := rfl
@[simp] theorem State.setTap_hmp (v : Tap) : (s.setTap v).hmp = s.hmp := rfl
@[simp] theorem State.setTap_agl (v : Tap) : (s.setTap v).agl = s.agl := rfl
@[simp] theorem State.setTap_pcie (v : Tap) : (s.setTap v).pcie = s.pcie := rfl
@[simp] theorem State.setTap_rt (v : Tap) : (s.setTap v).rt = s.rt := rfl
@[simp] theorem State.setTap_chans (v : Tap) : (s.setTap v).chans = s.chans := rfl
@[simp] theorem State.setTap_dops (v : Tap) : (s.setTap v).dops = s.dops := rfl
@[simp] theorem State.setTap_nextOp (v : Tap) : (s.setTap v).nextOp = s.nextOp := rfl
@[simp] theorem State.setTap_seqs (v : Tap) : (s.setTap v).seqs = s.seqs := rfl
@[simp] theorem State.setTap_cws (v : Tap) : (s.setTap v).cws = s.cws := rfl
@[simp] theorem State.setTap_cwOut (v : Tap) : (s.setTap v).cwOut = s.cwOut := rfl
@[simp] theorem State.setTap_codecTurn (v : Tap) : (s.setTap v).codecTurn = s.codecTurn := rfl
@[simp] theorem State.setTap_nextCw (v : Tap) : (s.setTap v).nextCw = s.nextCw := rfl
@[simp] theorem State.setTap_map (v : Tap) : (s.setTap v).map = s.map := rfl
@[simp] theorem State.setTap_prot (v : Tap) : (s.setTap v).prot = s.prot := rfl
@[simp] theorem State.setTap_cal (v : Tap) : (s.setTap v).cal = s.cal := rfl
@[simp] theorem State.setTap_casc (v : Tap) : (s.setTap v).casc = s.casc := rfl
@[simp] theorem State.setTap_sent (v : Tap) : (s.setTap v).sent = s.sent := rfl

@[simp] theorem State.takeFree_fst : s.takeFree.1 = s.freeN := rfl
@[simp] theorem State.freeBits_freeN (w : Nat) : (s.freeBits w).2.freeN = s.freeN + 1 := rfl
@[simp] theorem State.send_sent (m : Msg) : (s.send m).sent = m :: s.sent := rfl
@[simp] theorem State.setTap_tap (v : Tap) : (s.setTap v).test.tap = v := rfl
@[simp] theorem State.setDop_dops (i : Nat) (o : DieOp) : (s.setDop i o).dops = tput s.dops i o := rfl

/-- Every command answers a next state. -/
theorem State.outcome_next : ∃ u, s.outcome t = .next u := ⟨_, rfl⟩

theorem State.outcome_eq : s.outcome t = .next (s.kept t) := rfl
@[simp] theorem State.kept_pending : (s.kept t).pending = s.pending := rfl
@[simp] theorem State.kept_formB : (s.kept t).formB = s.formB := rfl
@[simp] theorem State.kept_clock : (s.kept t).clock = t.clock := rfl
@[simp] theorem State.kept_freeN : (s.kept t).freeN = t.freeN := rfl
@[simp] theorem State.kept_regs : (s.kept t).regs = t.regs := rfl
@[simp] theorem State.kept_staged : (s.kept t).staged = t.staged := rfl
@[simp] theorem State.kept_aon : (s.kept t).aon = t.aon := rfl
@[simp] theorem State.kept_balls : (s.kept t).balls = t.balls := rfl
@[simp] theorem State.kept_rmv : (s.kept t).rmv = t.rmv := rfl
@[simp] theorem State.kept_trail : (s.kept t).trail = t.trail := rfl
@[simp] theorem State.kept_host : (s.kept t).host = t.host := rfl
@[simp] theorem State.kept_log : (s.kept t).log = t.log := rfl
@[simp] theorem State.kept_port : (s.kept t).port = t.port := rfl
@[simp] theorem State.kept_router : (s.kept t).router = t.router := rfl
@[simp] theorem State.kept_svcNest : (s.kept t).svcNest = t.svcNest := rfl
@[simp] theorem State.kept_svcPc : (s.kept t).svcPc = t.svcPc := rfl
@[simp] theorem State.kept_wds : (s.kept t).wds = t.wds := rfl
@[simp] theorem State.kept_therm : (s.kept t).therm = t.therm := rfl
@[simp] theorem State.kept_fqs : (s.kept t).fqs = t.fqs := rfl
@[simp] theorem State.kept_hmp : (s.kept t).hmp = t.hmp := rfl
@[simp] theorem State.kept_agl : (s.kept t).agl = t.agl := rfl
@[simp] theorem State.kept_pcie : (s.kept t).pcie = t.pcie := rfl
@[simp] theorem State.kept_rt : (s.kept t).rt = t.rt := rfl
@[simp] theorem State.kept_chans : (s.kept t).chans = t.chans := rfl
@[simp] theorem State.kept_dops : (s.kept t).dops = t.dops := rfl
@[simp] theorem State.kept_nextOp : (s.kept t).nextOp = t.nextOp := rfl
@[simp] theorem State.kept_seqs : (s.kept t).seqs = t.seqs := rfl
@[simp] theorem State.kept_cws : (s.kept t).cws = t.cws := rfl
@[simp] theorem State.kept_cwOut : (s.kept t).cwOut = t.cwOut := rfl
@[simp] theorem State.kept_codecTurn : (s.kept t).codecTurn = t.codecTurn := rfl
@[simp] theorem State.kept_nextCw : (s.kept t).nextCw = t.nextCw := rfl
@[simp] theorem State.kept_map : (s.kept t).map = t.map := rfl
@[simp] theorem State.kept_prot : (s.kept t).prot = t.prot := rfl
@[simp] theorem State.kept_cal : (s.kept t).cal = t.cal := rfl
@[simp] theorem State.kept_casc : (s.kept t).casc = t.casc := rfl
@[simp] theorem State.kept_test : (s.kept t).test = t.test := rfl
@[simp] theorem State.kept_sent : (s.kept t).sent = t.sent := rfl
@[simp] theorem State.kept_ps : (s.kept t).keep.ps = t.keep.ps := rfl
@[simp] theorem State.kept_nor : (s.kept t).keep.nor = t.keep.nor := rfl

/-- A sequencer reads back as it was set. -/
theorem State.sq_setSq (n k : Nat) (q : Seq) : (s.setSq n q).sq k = if n = k then q else s.sq k :=
  tget_tset _ s.seqs n k q

/-- A register reads back as it was set, and the others are left. -/
theorem State.reg_setReg (a w b x : Nat) (v : Word) : (s.setReg a v w).reg b x = if regKey a w = regKey b x then v else s.reg b x := by
  unfold State.reg State.setReg
  by_cases h : regKey a w = regKey b x
  · simp [h]
  · simp [h, tget_tset_other _ _ s.regs v h]

end Sys2Proof.Machine
end

