-- ==== Sys2Proof/Laws/Access.lean ====
section
/-!
SUPPORT. Fields of registers: what a field reads after one was set.
-/

namespace Sys2Proof.Machine

theorem testBit_bits (v lo w i : Nat) : (bits v lo w).testBit i = (decide (i < w) && v.testBit (lo + i)) := by
  unfold bits
  rw [Nat.testBit_mod_two_pow, Nat.testBit_shiftRight]

theorem bits_lt (v lo w : Nat) : bits v lo w < 2 ^ w := Nat.mod_lt _ (by positivity)

/-- A number split at bit `lo` and at bit `lo + w`. -/
theorem bits_split (v lo w : Nat) : v = v % 2 ^ lo + bits v lo w * 2 ^ lo + v / 2 ^ (lo + w) * 2 ^ (lo + w) := by
  unfold bits
  rw [Nat.shiftRight_eq_div_pow]
  have e : (2 : Nat) ^ (lo + w) = 2 ^ lo * 2 ^ w := pow_add 2 lo w
  have h1 := Nat.mod_add_div v (2 ^ lo)
  have h2 := Nat.mod_add_div (v / 2 ^ lo) (2 ^ w)
  rw [Nat.div_div_eq_div_mul] at h2
  rw [e]
  calc v = v % 2 ^ lo + 2 ^ lo * (v / 2 ^ lo) := h1.symm
    _ = v % 2 ^ lo + 2 ^ lo * (v / 2 ^ lo % 2 ^ w + 2 ^ w * (v / (2 ^ lo * 2 ^ w))) := by rw [h2]
    _ = _ := by ring

theorem putBits_split (v lo w x : Nat) :
    putBits v lo w x = v % 2 ^ lo + x % 2 ^ w * 2 ^ lo + v / 2 ^ (lo + w) * 2 ^ (lo + w) := by
  have h := bits_split v lo w
  unfold putBits
  omega

theorem bits_putBits_same (v lo w x : Nat) : bits (putBits v lo w x) lo w = x % 2 ^ w := by
  rw [putBits_split]
  unfold bits
  rw [Nat.shiftRight_eq_div_pow]
  have hl : v % 2 ^ lo < 2 ^ lo := Nat.mod_lt _ (by positivity)
  have e : (2 : Nat) ^ (lo + w) = 2 ^ w * 2 ^ lo := by rw [pow_add, Nat.mul_comm]
  have : (v % 2 ^ lo + x % 2 ^ w * 2 ^ lo + v / 2 ^ (lo + w) * 2 ^ (lo + w)) / 2 ^ lo = x % 2 ^ w + v / 2 ^ (lo + w) * 2 ^ w := by
    rw [e, show v % 2 ^ lo + x % 2 ^ w * 2 ^ lo + v / (2 ^ w * 2 ^ lo) * (2 ^ w * 2 ^ lo)
        = v % 2 ^ lo + (x % 2 ^ w + v / (2 ^ w * 2 ^ lo) * 2 ^ w) * 2 ^ lo by ring,
      Nat.add_mul_div_right _ _ (by positivity), Nat.div_eq_of_lt hl, Nat.zero_add]
  rw [this, Nat.add_mul_mod_self_right, Nat.mod_mod]

theorem testBit_putBits (v lo w x i : Nat) :
    (putBits v lo w x).testBit i = if lo ≤ i ∧ i < lo + w then x.testBit (i - lo) else v.testBit i := by
  have hl : v % 2 ^ lo < 2 ^ lo := Nat.mod_lt _ (by positivity)
  have hx : v % 2 ^ lo + x % 2 ^ w * 2 ^ lo < 2 ^ (lo + w) := by
    have : x % 2 ^ w + 1 ≤ 2 ^ w := Nat.mod_lt _ (by positivity)
    calc v % 2 ^ lo + x % 2 ^ w * 2 ^ lo < 2 ^ lo + x % 2 ^ w * 2 ^ lo := by omega
      _ = (x % 2 ^ w + 1) * 2 ^ lo := by ring
      _ ≤ 2 ^ w * 2 ^ lo := Nat.mul_le_mul_right _ this
      _ = 2 ^ (lo + w) := by rw [pow_add, Nat.mul_comm]
  rw [putBits_split, Nat.add_comm, Nat.mul_comm (v / 2 ^ (lo + w)), Nat.testBit_two_pow_mul_add _ hx]
  rw [Nat.add_comm (v % 2 ^ lo), Nat.mul_comm (x % 2 ^ w), Nat.testBit_two_pow_mul_add _ hl]
  by_cases h1 : i < lo
  · simp [h1, show i < lo + w by omega, show ¬ lo ≤ i by omega, Nat.testBit_mod_two_pow]
  · by_cases h2 : i < lo + w
    · simp [h1, h2, show lo ≤ i by omega, Nat.testBit_mod_two_pow, show i - lo < w by omega]
    · simp [h2, Nat.testBit_div_two_pow, show i - (lo + w) + (lo + w) = i by omega]

theorem bits_putBits_other (v lo w x lo' w' : Nat) (h : lo + w ≤ lo' ∨ lo' + w' ≤ lo) : bits (putBits v lo w x) lo' w' = bits v lo' w' := by
  apply Nat.eq_of_testBit_eq
  intro i
  rw [testBit_bits, testBit_bits, testBit_putBits]
  by_cases hi : i < w'
  · have : ¬ (lo ≤ lo' + i ∧ lo' + i < lo + w) := by omega
    simp [this]
  · simp [hi]

theorem bits_ofNat32 (n lo w : Nat) (h : lo + w ≤ 32) : bits (BitVec.ofNat 32 n).toNat lo w = bits n lo w := by
  apply Nat.eq_of_testBit_eq
  intro i
  rw [testBit_bits, testBit_bits, BitVec.toNat_ofNat, Nat.testBit_mod_two_pow]
  by_cases hi : i < w
  · simp [show lo + i < 32 by omega]
  · simp [hi]

variable (s t : State)

/-- A field reads back what it was set to. -/
theorem State.get_set (f : Fld) (v w : Nat) (h : f.lo + f.width ≤ 32) : (s.set f v w).get f w = v % 2 ^ f.width := by
  unfold State.get State.set
  rw [State.reg_setReg, if_pos rfl, bits_ofNat32 _ _ _ h, bits_putBits_same]

/-- Setting a field leaves a field of another register. -/
theorem State.get_set_other (f g : Fld) (v w x : Nat) (h : regKey f.addr w ≠ regKey g.addr x) : (s.set f v w).get g x = s.get g x := by
  unfold State.get State.set
  rw [State.reg_setReg]
  simp [h]

/-- Setting a field leaves the other fields of its register. -/
theorem State.get_set_beside (f g : Fld) (v w : Nat) (ha : f.addr = g.addr) (hg : g.lo + g.width ≤ 32)
    (h : f.lo + f.width ≤ g.lo ∨ g.lo + g.width ≤ f.lo) : (s.set f v w).get g w = s.get g w := by
  unfold State.get State.set
  rw [State.reg_setReg, ha, if_pos rfl, bits_ofNat32 _ _ _ hg, bits_putBits_other _ _ _ _ _ _ h]

@[simp] theorem State.kept_get (f : Fld) (w : Nat) : (s.kept t).get f w = t.get f w := rfl
@[simp] theorem State.kept_reg (a w : Nat) : (s.kept t).reg a w = t.reg a w := rfl
@[simp] theorem State.kept_sq (n : Nat) : (s.kept t).sq n = t.sq n := rfl
@[simp] theorem State.kept_ev (n : Nat) : (s.kept t).ev n = t.ev n := rfl

/-- An access of a queue whose pointers are good is performed (R237). -/
theorem State.viaQ_one {s : State} {q : Nat} (f : State → State) (h : s.qSound q = true) : s.viaQ [q] f = f s := by
  unfold State.viaQ; simp [h]

/-- The same of an access of two queues. -/
theorem State.viaQ_two {s : State} {q r : Nat} (f : State → State) (h : s.qSound q = true) (h' : s.qSound r = true) : s.viaQ [q, r] f = f s := by
  unfold State.viaQ; simp [h, h']

/-- An access of a fabric queue whose pointers are good is performed. -/
theorem State.fqAccess_of_sound {s : State} {q : Nat} (f : State → State) (hq : q < 48) (h : s.qSound q = true) : s.fqAccess q false f = f s := by
  unfold State.fqAccess
  rw [if_neg (by omega)]
  exact State.viaQ_one f h

end Sys2Proof.Machine
end

