-- ==== Sys2Proof/Laws/Otp.lean ====
section
/-!
SUPPORT. The OTP row: what merging keeps, and what every command leaves.
-/

namespace Sys2Proof.Machine

/-- What merging an OTP row into another leaves of the old one: its programmed bits, its locked slots, its canonical form. -/
theorem otpMerge_get (locks : Nat) (new : List (Nat × Byte)) : ∀ (old : List (Nat × Byte)) (a : Nat),
    bitsKept (tget 0 old a) (tget 0 (otpMerge locks old new) a) ∧
    (bit locks (a / 64) = true → tget 0 (otpMerge locks old new) a = tget 0 old a) ∧
    (twf (fun _ => (0 : Byte)) old = true → twf (fun _ => (0 : Byte)) (otpMerge locks old new) = true) := by
  induction new with
  | nil => intro old a; simp [otpMerge, bitsKept]
  | cons p l ih =>
    intro old a
    have e : otpMerge locks old (p :: l) = otpMerge locks (otpByte locks old p) l := rfl
    rw [e]
    obtain ⟨h1, h2, h3⟩ := ih (otpByte locks old p) a
    have b1 : bitsKept (tget 0 old a) (tget 0 (otpByte locks old p) a) := by
      unfold otpByte bitsKept; split
      · simp
      · rw [tget_tset]; split
        · rename_i h; subst h; ext i; simp; tauto
        · simp
    refine ⟨?_, ?_, ?_⟩
    · unfold bitsKept at *
      generalize tget 0 old a = x at *
      generalize tget 0 (otpByte locks old p) a = y at *
      generalize tget 0 (otpMerge locks (otpByte locks old p) l) a = z at *
      conv_lhs => rw [← b1]
      rw [BitVec.and_assoc, h1, b1]
    · intro hl; rw [h2 hl]; unfold otpByte; split
      · rfl
      · rw [tget_tset]; split
        · rename_i g h; subst h; exact absurd hl g
        · rfl
    · intro w; apply h3; unfold otpByte; split
      · exact w
      · exact twf_tset (d := fun _ => (0:Byte)) _ _ w

theorem bit_or (a b n : Nat) : bit (a ||| b) n = (bit a n || bit b n) := by
  unfold bit
  have h (x : Nat) : ((x >>> n) % 2 == 1) = x.testBit n := by
    rw [Nat.testBit, Nat.and_comm, Nat.and_one_is_mod]
    rcases Nat.mod_two_eq_zero_or_one (x >>> n) with h | h <;> rw [h] <;> decide
  rw [h, h, h, Nat.testBit_or]

/-- What every command leaves of the OTP row (R457, R458). -/
theorem State.kept_otp (s u : State) (w : otpCanonical s) :
    otpCanonical (s.kept u) ∧ otpKept s (s.kept u) ∧ otpLockHolds s (s.kept u) ∧
      (∀ n : Nat, bit s.keep.otpLocks n = true → bit (s.kept u).keep.otpLocks n = true) := by
  have h := otpMerge_get s.keep.otpLocks u.keep.otp s.keep.otp
  refine ⟨(h 0).2.2 w, fun a => (h a).1, fun a => (h a).2.1, fun n hn => ?_⟩
  show bit (s.keep.otpLocks ||| u.keep.otpLocks) n = true
  rw [bit_or, hn]; rfl

/-- Every command answers a next state, and that state is `kept` of something. -/
theorem exec_kept (c : Instr) (s : State) : ∃ u, exec c s = .next (s.kept u) := by
  cases c <;> exact ⟨_, rfl⟩

end Sys2Proof.Machine
end

