-- ==== Sys2Proof/Laws/Memory.lean ====
section
/-!
SUPPORT. The canonical form of the stores: PS, eNOR and OTP have it after reset, and every operation on a store keeps it.
-/

namespace Sys2Proof.Machine

/-- Writing one byte keeps the form. -/
theorem Memory.wf_tset {d : Nat → Byte} {m : List (Nat × Byte)} (a : Nat) (b : Byte) (w : Memory.wf d m = true) :
    Memory.wf d (tset (d a) m a b) = true := twf_tset (d := d) a b w

/-- Writing bytes keeps it. -/
theorem Memory.wf_writeBytes {d : Byte} {m : List (Nat × Byte)} (a : Nat) (l : List Byte) (w : Memory.wf (fun _ => d) m = true) :
    Memory.wf (fun _ => d) (writeBytes d m a l) = true := twf_writeBytes a l w

/-- Programming eNOR bytes keeps it. -/
theorem Memory.wf_norWrite {doubt : List (Nat × Nat)} {m : List (Nat × Byte)} (a : Nat) (l : List Byte)
    (w : Memory.wf (norDefault doubt) m = true) : Memory.wf (norDefault doubt) (norWrite doubt m a l) = true := by
  induction l generalizing m a with
  | nil => exact w
  | cons b l ih => exact ih (a + 1) (Memory.wf_tset a b w)

/-- Dropping entries and changing what unlisted bytes read elsewhere keeps it. -/
theorem Memory.wf_filter {d e : Nat → Byte} (q : Nat × Byte → Bool) (h : ∀ p : Nat × Byte, q p = true → e p.1 = d p.1) :
    ∀ (m : List (Nat × Byte)) (lo : Nat), twfFrom d lo m = true → twfFrom e lo (m.filter q) = true := by
  intro m
  induction m with
  | nil => intro lo _; rfl
  | cons p l ih =>
    intro lo w
    obtain ⟨k, v⟩ := p
    simp only [twfFrom, Bool.and_eq_true, decide_eq_true_eq, Nat.ble_eq] at w
    have r := ih (k + 1) w.2
    by_cases hq : q (k, v) = true
    · rw [List.filter_cons_of_pos hq]
      simp only [twfFrom, Bool.and_eq_true, decide_eq_true_eq, Nat.ble_eq]
      exact ⟨⟨w.1.1, by rw [h _ hq]; exact w.1.2⟩, r⟩
    · rw [List.filter_cons_of_neg hq]
      exact twfFrom_mono (by omega) r

/-- Placing bytes in PS keeps its form. -/
theorem State.psPut_wf (s : State) (a : Nat) (l : List Byte) (w : Memory.wf (fun _ => 0) s.keep.ps = true) :
    Memory.wf (fun _ => 0) (s.psPut a l).keep.ps = true := Memory.wf_writeBytes a l w

/-- Programming the eNOR keeps its form. -/
theorem State.norPut_wf (s : State) (a : Nat) (l : List Byte) (w : Memory.wf (norDefault s.keep.norDoubt) s.keep.nor = true) :
    Memory.wf (norDefault (s.norPut a l).keep.norDoubt) (s.norPut a l).keep.nor = true := Memory.wf_norWrite a l w

/-- An address of a sector lies in the sector's range. -/
theorem sectorRange_of {a c : Nat} (h : sectorOf a = c) : (sectorRange c).1 ≤ a ∧ a < (sectorRange c).1 + (sectorRange c).2 := by
  unfold sectorOf at h
  unfold sectorRange
  split at h <;> split <;> constructor <;> dsimp only <;> omega

/-- Erasing a sector keeps the form, whether the erase passes or leaves the sector open. -/
theorem State.norClear_wf (s : State) (c : Nat) (ok : Bool) (w : Memory.wf (norDefault s.keep.norDoubt) s.keep.nor = true) :
    Memory.wf (norDefault (s.norClear c ok).keep.norDoubt) (s.norClear c ok).keep.nor = true := by
  have out : ∀ p : Nat × Byte, (!(decide ((sectorRange c).1 ≤ p.1) && decide (p.1 < (sectorRange c).1 + (sectorRange c).2))) = true →
      sectorOf p.1 ≠ c := by
    intro p hp e
    have := sectorRange_of e
    simp [this.1, this.2] at hp
  have find : ∀ a, sectorOf a ≠ c → (s.keep.norDoubt.filter (fun p => p.1 != c)).find? (fun p => p.1 == sectorOf a) =
      s.keep.norDoubt.find? (fun p => p.1 == sectorOf a) := by
    intro a ha
    rw [List.find?_filter]
    congr 1
    funext p
    by_cases e : p.1 = sectorOf a
    · simp [e, ha]
    · simp [e]
  unfold State.norClear
  dsimp only
  cases ok
  · refine Memory.wf_filter _ ?_ _ _ w
    intro p hp
    have ha := out p hp
    show norDefault ((c, _) :: _) p.1 = _
    unfold norDefault
    rw [List.find?_cons_of_neg (by simpa using Ne.symm ha), find _ ha]
  · refine Memory.wf_filter _ ?_ _ _ w
    intro p hp
    have ha := out p hp
    show norDefault (s.keep.norDoubt.filter (fun p => p.1 != c)) p.1 = _
    unfold norDefault
    rw [find _ ha]

/-- Programming OTP bits keeps the form of the row. -/
theorem State.otpOr_wf (s : State) (slot off : Nat) (l : List Byte) (w : Memory.wf (fun _ => 0) s.keep.otp = true) :
    Memory.wf (fun _ => 0) (s.otpOr slot off l).keep.otp = true := Memory.wf_writeBytes _ _ w

/-- Every command keeps the form of the OTP row. -/
theorem State.kept_otp_wf (s u : State) (w : Memory.wf (fun _ => 0) s.keep.otp = true) :
    Memory.wf (fun _ => 0) (s.kept u).keep.otp = true := (State.kept_otp s u w).1

/-- After reset every store has its form. -/
theorem State.reset_wf : Memory.wf (fun _ => 0) State.reset.keep.ps = true ∧
    Memory.wf (norDefault State.reset.keep.norDoubt) State.reset.keep.nor = true ∧ Memory.wf (fun _ => 0) State.reset.keep.otp = true := by
  refine ⟨by decide +kernel, rfl, rfl⟩

end Sys2Proof.Machine
end

