-- ==== Sys2Proof/Laws/Ops.lean ====
section
/-!
SUPPORT. What the shared operations leave: posting an event, changing the device state, queueing a frame, leaving the Trailhead.
-/

namespace Sys2Proof.Machine

@[simp] theorem State.get_setEv (s : State) (n : Nat) (e : EvSrc) (f : Fld) (w : Nat) : (s.setEv n e).get f w = s.get f w := rfl

/-- Posting an event changes only the event source and the count of coalesced events. -/
theorem State.get_post (s : State) (n d : Nat) (f : Fld) (w : Nat) (h : regKey F.EVR_COUNT_COALESCED.addr 0 ≠ regKey f.addr w) :
    (s.post n d).get f w = s.get f w := by
  unfold State.post
  dsimp only
  split
  · unfold State.addF; rw [State.get_set_other _ _ _ _ _ _ h]; rfl
  · rfl

theorem State.trail_post (s : State) (n d : Nat) : (s.post n d).trail = s.trail := by
  unfold State.post
  dsimp only
  split <;> rfl

theorem State.balls_post (s : State) (n d : Nat) : (s.post n d).balls = s.balls := by
  unfold State.post
  dsimp only
  split <;> rfl

/-- The state code after a change of state. -/
theorem State.st_setState (s : State) (v r : Nat) (h : v < 16) : (s.setState v r).st = v := by
  unfold State.st State.setState
  rw [State.get_post _ _ _ _ _ (by decide), State.get_set_other _ _ _ _ _ _ (by decide), State.get_set_other _ _ _ _ _ _ (by decide),
    State.get_set _ _ _ _ (by decide)]
  exact Nat.mod_eq_of_lt h


theorem State.trail_setState (s : State) (v r : Nat) : (s.setState v r).trail = s.trail := by
  unfold State.setState
  rw [State.trail_post]; rfl

theorem State.balls_setState (s : State) (v r : Nat) : (s.setState v r).balls =
    { s.balls with wpLow := !(v == stReady || v == stLimited || v == stRemoving) } := by
  unfold State.setState
  rw [State.balls_post]; rfl

@[simp] theorem State.kept_st (s t : State) : (s.kept t).st = t.st := rfl

theorem State.regs_setLnk (s : State) (l : Nat) (v : Link) : (s.setLnk l v).regs = s.regs := by
  unfold State.setLnk; split
  · rfl
  · split <;> rfl

theorem State.get_of_regs (s t : State) (h : s.regs = t.regs) (f : Fld) (w : Nat) : s.get f w = t.get f w := by
  unfold State.get State.reg; rw [h]

/-- What is sent leaves the registers. -/
theorem State.regs_sends {α : Type} (g : α → Msg) (l : List α) : ∀ s : State,
    (l.foldl (fun (s : State) p => s.send (g p)) s).regs = s.regs := by
  induction l with
  | nil => intro s; rfl
  | cons a l ih => intro s; exact ih _

theorem State.regs_wire (s : State) (l : Nat) (b : List Byte) : (s.wire l b).regs = s.regs := by
  unfold State.wire; dsimp only; rw [State.regs_sends, State.regs_setLnk]

theorem State.st_linkFrame (s : State) (a b : Nat) (l : List Byte) : (s.linkFrame a b l).st = s.st :=
  State.get_of_regs _ _ (State.regs_wire ..) _ _

theorem State.st_cmdRaise (s : State) : s.cmdRaise.st = s.st := by
  unfold State.cmdRaise State.cmdLimitSet; dsimp only; split
  · rw [State.st_linkFrame]; rfl
  · rfl

theorem State.regs_sendFrame (s : State) (l q : Nat) (i : TxItem) : (s.sendFrame l q i).regs = s.regs := by
  unfold State.sendFrame; rw [State.regs_wire]; rfl

theorem State.regs_setAll (s : State) (l typ : Nat) (b : List Byte) : (s.setAll l typ b).regs = s.regs := by
  unfold State.setAll
  suffices h : ∀ (ks : List Nat) (s : State), (ks.foldl (fun (s : State) k => s.setOn l typ b k) s).regs = s.regs from h _ _
  intro ks
  induction ks with
  | nil => intro s; rfl
  | cons k ks ih =>
    intro s
    rw [List.foldl_cons, ih]
    unfold State.setOn; dsimp only
    exact State.regs_setLnk ..

theorem State.regs_linkFlush (l n : Nat) : ∀ s : State, (s.linkFlush l n).regs = s.regs := by
  induction n with
  | zero => intro s; rfl
  | succ n ih =>
    intro s
    unfold State.linkFlush
    dsimp only
    split
    · rfl
    · split
      · rw [ih, State.regs_sendFrame]; exact State.regs_setLnk ..
      · rfl

theorem State.regs_leaveL1 (s : State) (l : Nat) : (s.leaveL1 l).regs = s.regs := by
  unfold State.leaveL1; dsimp only; split
  · rw [State.regs_setAll]; exact State.regs_setLnk ..
  · rfl

/-- Queueing a frame leaves the registers. -/
theorem State.regs_linkSend (s : State) (l : Nat) (i : TxItem) : (s.linkSend l i).regs = s.regs := by
  unfold State.linkSend; rw [State.regs_linkFlush, State.regs_leaveL1, State.regs_setLnk]

/-- Only a cascade member sends JOIN. -/
theorem State.joinSend_of_role (s : State) (h : s.cascRole ≠ 2) : s.joinSend = s := by
  unfold State.joinSend; rw [if_pos (Or.inl h)]

/-- The flow-control pins leave the device state. -/
theorem State.st_fcEval (s : State) : s.fcEval.st = s.st := by
  unfold State.fcEval State.fcSet; split
  · rfl
  · split
    · rfl
    · unfold State.fabEvent State.st
      rw [State.get_post _ _ _ _ _ (by decide), State.get_set_other _ _ _ _ _ _ (by decide)]
      rfl

/-- Entering a state, creating queue pair 0 and raising the CMD LIMIT, as step 8 does, leave the device in the state named. -/
theorem State.st_step8 (s : State) (v r : Nat) (h : v < 16) : ((s.setState v r).createPair0.cmdRaise).st = v := by
  rw [State.st_cmdRaise]
  exact State.st_setState _ _ _ h

/-- A microsecond of the supervisor changes only its program counter and the count of free values. -/
theorem State.svcRun_eq (s : State) : ∃ (a : Nat) (v : Word), s.svcRun = { s with freeN := a, svcPc := v } := by
  unfold State.svcRun; split
  · exact ⟨s.freeN, s.svcPc, rfl⟩
  · exact ⟨_, _, rfl⟩

/-- Repeating what changes nothing changes nothing. -/
theorem iterate_of_fix {α : Type} (f : α → α) (n : Nat) (u : α) (h : f u = u) : iterate f n u = u := by
  induction n with
  | zero => rfl
  | succ n ih => show iterate f n (f u) = u; rw [h]; exact ih

end Sys2Proof.Machine
end

