-- ==== Sys2Proof/Laws/Seq.lean ====
section
/-!
SUPPORT. What the operations of a sequencer leave: its registers and flags after an update, a row whose meaning does not fault, and
events.
-/

namespace Sys2Proof.Machine

/-- `bit` is `Nat.testBit`. -/
theorem bit_testBit (x n : Nat) : bit x n = x.testBit n := by
  unfold bit
  rw [Nat.testBit, Nat.and_comm, Nat.and_one_is_mod]
  rcases Nat.mod_two_eq_zero_or_one (x >>> n) with h | h <;> rw [h] <;> decide

/-- A flag after a flag is set. -/
theorem bit_setFlag (f i j : Nat) (b : Bool) : bit (setFlag f i b) j = if j = i then b else bit f j := by
  rw [bit_testBit, bit_testBit]
  unfold setFlag
  rw [testBit_putBits]
  by_cases h : j = i
  · subst h; simp; cases b <;> rfl
  · have : ¬ (i ≤ j ∧ j < i + 1) := by omega
    rw [if_neg this, if_neg h]

/-- The five flags survive the cut to five bits. -/
theorem bit_mod32 (f i : Nat) (h : i < 5) : bit (f % 32) i = bit f i := by
  rw [bit_testBit, bit_testBit, show 32 = 2 ^ 5 by rfl, Nat.testBit_mod_two_pow]; simp [h]

/-- A sequencer after one is set. -/
@[simp] theorem sq_setSq (s : State) (n m : Nat) (q : Seq) : (s.setSq n q).sq m = if n = m then q else s.sq m := by
  unfold State.sq State.setSq; simp

/-- A V register after one is set. -/
theorem sv_setV (s : State) (n d m i : Nat) (r : Word) : (s.setV n d r).sv m i = if n = m ∧ d = i then r else s.sv m i := by
  unfold State.sv State.setV; rw [sq_setSq]
  by_cases h : n = m
  · subst h; simp
  · simp [h]

/-- Setting flags keeps V. -/
@[simp] theorem sv_setFl (s : State) (n f m i : Nat) : (s.setFl n f).sv m i = s.sv m i := by
  unfold State.sv State.setFl; rw [sq_setSq]; split
  · rename_i h; subst h; rfl
  · rfl

/-- The flags set. -/
@[simp] theorem flags_setFl (s : State) (n f : Nat) : ((s.setFl n f).sq n).flags = f % 32 := by
  unfold State.setFl; simp

/-- Setting V keeps the flags. -/
@[simp] theorem flags_setV (s : State) (n d m : Nat) (r : Word) : ((s.setV n d r).sq m).flags = (s.sq m).flags := by
  unfold State.setV; rw [sq_setSq]; split
  · rename_i h; subst h; rfl
  · rfl

/-- The queue is no V register. -/
@[simp] theorem kept_sv (s t : State) (n i : Nat) : (s.kept t).sv n i = t.sv n i := rfl

/-- Fetching keeps V. -/
@[simp] theorem fetched_sv (s : State) (n i : Nat) : (s.fetched n).sv n i = s.sv n i := by
  unfold State.sv State.fetched; simp

/-- Fetching keeps the flags. -/
@[simp] theorem fetched_flags (s : State) (n : Nat) : ((s.fetched n).sq n).flags = (s.sq n).flags := by
  unfold State.fetched; simp

/-- A row of a sequencer instruction whose meaning does not fault. -/
theorem seqRow_ok (s u : State) (n : Nat) (o : SOp) (x : SeqIn) (h : s.runs n o x)
    (hu : seqExec o n (s.nextWord n) (s.sq n).pc x (s.fetched n) = .ok u) : s.seqRow n o x = u := by
  obtain ⟨r1, r2, r3, r4⟩ := h
  have e : s.seqRow n o x = (match seqExec o n (s.nextWord n) (s.sq n).pc x (s.fetched n) with
      | .ok t => if (s.sq n).haltReq then t.haltSeq n else t
      | .fault c => if (s.sq n).haltReq then (s.machineFault n c (s.sq n).pc).haltSeq n else s.machineFault n c (s.sq n).pc
      | .waits => s.setSq n { s.sq n with issued := true }) := by
    unfold State.seqRow State.seqRun
    rw [if_pos ⟨r1, r2⟩]
    dsimp only
    rw [if_neg (by rw [r3]; decide), if_neg (by rw [r3]; decide)]
    rfl
  rw [e, hu]; simp [r4]
/-- Z and N from a result. -/
@[simp] theorem bit_flagsZN (f : Nat) (r : Word) (i : Nat) :
    bit (flagsZN f r) i = if i = 1 then r.msb else if i = 0 then r == 0 else bit f i := by
  unfold flagsZN; rw [bit_setFlag, bit_setFlag]

/-- The flags of an addition or subtraction. -/
@[simp] theorem bit_flagsZNCV (f : Nat) (r : Word) (c v : Bool) (i : Nat) : bit (flagsZNCV f r c v) i =
    if i = 3 then v else if i = 2 then c else if i = 1 then r.msb else if i = 0 then r == 0 else bit f i := by
  unfold flagsZNCV; rw [bit_setFlag, bit_setFlag, bit_flagsZN]
/-- An instruction that ends in a result and flags completes with them. -/
theorem alu_done (s : State) (n w : Nat) (r : Word × Nat) (P : State → Prop) (c : Instr) (o : SOp) (x : SeqIn)
    (h : s.runs n o x) (hc : exec c s = .next (s.kept (s.seqRow n o x)))
    (he : seqExec o n (s.nextWord n) (s.sq n).pc x (s.fetched n) = (s.fetched n).alu n w r)
    (hP : P (s.kept ((((s.fetched n).setV n (wD w) r.1).setFl n r.2)))) : completes c s P := by
  refine ⟨_, ?_, hP⟩
  rw [hc, seqRow_ok s _ n o x h (by rw [he]; rfl)]

/-- Posting an event keeps the sequencers. -/
@[simp] theorem sq_post (s : State) (k d n : Nat) : (s.post k d).sq n = s.sq n := by
  unfold State.post; dsimp only; split <;> rfl

/-- Posting an event keeps V. -/
@[simp] theorem sv_post (s : State) (k d n i : Nat) : (s.post k d).sv n i = s.sv n i := by
  unfold State.sv; rw [sq_post]

/-- So does posting an event of a sequencer. -/
@[simp] theorem sq_seqEvent (s : State) (n k d m : Nat) : (s.seqEvent n k d).sq m = s.sq m := by
  unfold State.seqEvent State.postBit; rw [sq_post]; rfl

/-- The same of V. -/
@[simp] theorem sv_seqEvent (s : State) (n k d m i : Nat) : (s.seqEvent n k d).sv m i = s.sv m i := by
  unfold State.sv; rw [sq_seqEvent]

/-- Posting an event keeps every other source. -/
theorem ev_post (s : State) (k d m : Nat) (hm : m ≠ k) : (s.post k d).ev m = s.ev m := by
  unfold State.post State.ev State.setEv; dsimp only; split <;> simp [State.addF, State.set, State.setReg, Ne.symm hm]

/-- The source posted is pending. -/
theorem pend_post (s : State) (k d : Nat) : ((s.post k d).ev k).pend = true := by
  unfold State.post State.ev State.setEv; dsimp only
  have : ∀ e : EvSrc, (tget {} (tset {} s.router.src k e) k) = e := by intro e; simp
  split <;> simp only [State.addF, State.set, State.setReg, this] <;> (repeat split) <;> simp_all

end Sys2Proof.Machine
end

