-- ==== Sys2Proof/Tests/Slice0.lean ====
section
/-!
SUPPORT. Tests: for every statement with hypotheses a state and operands that meet them (`wit_…`), the spec's check values and worked
cases (`test_…`), and commands that `Instr.wf` refuses (`test_wf_…`). Every expected value is the spec's or worked out by hand from it.
-/

namespace Sys2Proof.Tests
open Sys2Proof Sys2Proof.Machine

set_option Elab.async false
set_option linter.unusedVariables false

theorem pairEq {α β : Type} {p : α × β} {a : α} (h : p.1 = a) : p = (a, p.2) := by cases p; cases h; rfl
theorem getEq {α : Type} {o : Option α} (h : o.isSome = true) : o = some (o.get h) := by cases o with
  | none => cases h
  | some a => rfl
def wUp (st : Nat) : State := ({ trail := { step := 8, done := [1, 2, 3, 4, 5, 6, 7, 8] } } : State).set F.GLB_STAT_STATE st
def wReady : State := wUp stReady
def wWord (o : SOp) (extra : Nat) : Word := BitVec.ofNat 32 (((seqRows.find? (fun r => r.op == o)).elim 0 SRow.pat) + extra)
def wSeq (o : SOp) (extra : Nat) (q : Seq) : State :=
  { wReady with seqs := [(0, { q with st := 1, progs := [{ base := false, code := [wWord o extra] }] })] }
def wHeld (s : State) : State := { s with hmp := { s.hmp with bufs := [(0, { ref := 1, owner := 3 })] } }
def wV (l : List Word) : Seq := { v := withIdx l }
def wBytes (op : Nat) (l : List (Nat × Byte)) : List Byte := (List.range 64).map (fun i => if i = 0 then BitVec.ofNat 8 op else tget 0 l i)
def wFlight (op : Nat) (l : List (Nat × Byte)) : Flight :=
  { qid := 1, tag := 0, gen := 0, bytes := wBytes op l, mutates := false, fprint := 0 }
def wFly (op : Nat) (l : List (Nat × Byte)) : State := { wReady with host := { flights := [(0, wFlight op l)] } }
def wTrail (step : Nat) (l : List Nat) : State := { wUp stTrailhead with trail := { step, done := l } }
def wAon (a : Aon) : State := { wReady with clock := 1000, aon := a }
def wLive (s : State) (n : Nat) : State := { s with clock := n }
def wDie : Die := { state := 1, pageBytes := 16384, pages := 4, blocks := 4 }
def wChan (s : State) (n : Nat) (c : Chan) : State := { s with chans := [(n, c)] }
def wSq (s : State) (q : Seq) : State := { s with seqs := [(0, q)] }
def wOp (s : State) (o : DieOp) : State := { s with dops := [(0, o)] }
def wQp (s : State) (v : Qp) : State := { s with host := { s.host with qps := [(1, v)] } }
def wL0 : Link := { state := 6, ctlLimit := 64, rdatLimit := 64, active := 1 }
def wAgl (s : State) (l : Link) : State := { s with agl := l }
def wFqs (q : Nat) (v : Fq) : State := wReady.setFq q v
def wFlyD (op : Nat) (l : List (Nat × Byte)) (d : Die) : State := wChan (wFly op l) 0 { dies := [(0, d)] }
def wStr (v : Stream) : State := { wReady with map := { streams := [(0, v)] } }
def wCw (u : CwUse) : Cw := { use := u, ch := 0, die := 0, row := 0, k := 0, rate := 0, cpp := 1, seed := 0, xtag := 0 }
theorem consEq {α : Type} {l : List α} (h : l ≠ []) : l = l.head h :: l.tail := by cases l with
  | nil => cases h rfl
  | cons a l => rfl
def wVol : State → State := fun s => (s.set F.VOL_CFG_KIND 1).set F.VOL_LEN_LEN 8
def wQ (s : State) (q : Nat) (w : QWork) : State := s.qPut q { work := w }
def wFull : State := wQ (wReady.set F.CODEC_CFG_ERASED_ZEROS 0) 10 (.cw 0)
def wLk (l : Link) : State := wAgl wReady l
def wItem : TxItem := { typ := 0x24 }
def wRole (r : Nat) : State := { wReady.set F.GLB_STAT_CASC_ROLE r with casc := { cl0 := wL0, cl1 := wL0 } }
def wPcie : State := { wReady.set F.GLB_STAT_HOST_MODE 1 with pcie := { ltssm := 3, dlUp := true, cfg := [(4, 6)] }, rmv := { lanesStarted := true } }
def wDreq : Dreq := { flight := 0, off := 0, len := 4 }
def wBal : State := { wReady with rt := { on := true, bal := 100000000 } }
def wTap : State := { wReady with aon := { por := true } }
def wTm : State := { wReady with aon := { por := true, straps := 0x80 } }
def wSp (crc : Byte) : Byte := crc
theorem copyZero (s : State) (h : s.keep.ps = []) (i : Nat) : s.copyBytes norRecord i = List.replicate 512 0 := by
  unfold State.copyBytes State.psRead
  rw [h]
  simp [readBytes, tget, norRecord, List.map_const']
set_option maxRecDepth 100000 in
theorem crcZero : norRecordOk (List.replicate 512 0) = false := by decide +kernel
theorem pendZero (s : State) (h : s.keep.ps = []) : s.norPend = 0xFF := by
  unfold State.norPend State.norRec State.copyInUse State.copyPass
  simp only [copyZero s h, crcZero, Bool.and_false]
  decide +kernel
def wPendPs : List (Nat × Byte) := [(0x83004, 0x8C), (0x83005, 0x3B), (0x83006, 0x7B), (0x83007, 0x35), (0x83008, 7)]
set_option maxRecDepth 100000 in
theorem pendSeven (s : State) (h : s.keep.ps = wPendPs) (hw : s.keep.psTorn = []) : s.norPend = 7 := by
  have h0 : s.copyBytes norRecord 0 = [0, 0, 0, 0, 0x8C, 0x3B, 0x7B, 0x35, 7] ++ List.replicate 503 0 := by
    unfold State.copyBytes State.psRead
    rw [h]
    decide +kernel
  have h1 : s.copyBytes norRecord 1 = List.replicate 512 0 := by
    unfold State.copyBytes State.psRead
    rw [h]
    decide +kernel
  have h2 : norRecordOk ([0, 0, 0, 0, 0x8C, 0x3B, 0x7B, 0x35, 7] ++ List.replicate 503 0) = true := by decide +kernel
  have w : ∀ a, s.psWhole a = true := fun a => by simp [State.psWhole, hw]
  unfold State.norPend State.norRec State.copyInUse State.copyPass
  simp only [h0, h1, h2, crcZero, w, Bool.and_false, Bool.and_self]
  decide +kernel
def wHeld2 (s : State) : State := { s with hmp := { s.hmp with bufs := [(0, { ref := 1, owner := 2 })] } }

def nextOf (o : Host.Outcome State Fault Refusal) : State :=
  match o with
  | .next t => t
  | _ => {}
def ascii9 : List Byte := [0x31, 0x32, 0x33, 0x34, 0x35, 0x36, 0x37, 0x38, 0x39]
/-- The flags DZ, V, C, N, Z of sequencer 0 as a number. -/
def flagsOf (s : State) : Nat := (s.sq 0).flags

/-! ### Check values and worked cases of the spec -/

/-- R105. -/
theorem test_crc8 : crc8 ascii9 = 0xF4 := by decide +kernel
/-- R146. -/
theorem test_crc32 : crc32 ascii9 = 0xCBF43926 := by decide +kernel
/-- "Service port and parameters", worked case: GET_STATUS of offset 0x00 is A6 00 66, its answer 00 16 48 7E 6A A1. -/
theorem test_get_status : (nextOf (exec (.spGetStatus 0 0x66) wReady)).port.reply = [0x00, 0x16, 0x48, 0x7E, 0x6A, 0xA1] := by decide +kernel
/-- The same: SET_PAGE to 0x41 is A5 41 99. -/
theorem test_set_page : (nextOf (exec (.spSetPage 0x41 0x99) wReady)).get F.SP_PAGE_PAGE = 0x41 := by decide +kernel
/-- A wrong CRC sets no page (R106). -/
theorem test_set_page_crc : (nextOf (exec (.spSetPage 0x41 0x98) wReady)).get F.SP_PAGE_PAGE = 0 := by decide +kernel
/-- The same chapter, "a rejected threshold commit": warning 110, trip 108. -/
theorem test_commit_rejected :
    let t := nextOf (exec (.cmtCommit .sp 0x3C00010E {}) ((wReady.setStagedF F.THERM_CFG_WARN 110).setStagedF F.THERM_CFG_TRIP 108))
    t.get F.CMT_STAT_RESULT = 2 ∧ t.get F.CMT_STAT_GROUP = 0x0E ∧ t.get F.CMT_STAT_FIRST_PAIR = 0 ∧
      bits (t.get (F.CMT_RES_G 1)) 24 4 = 2 ∧ t.get F.THERM_CFG_WARN = 105 ∧ t.get F.THERM_CFG_TRIP = 120 := by decide +kernel
/-- The same: with 115 the check passes and the result is PENDING. -/
theorem test_commit_pending :
    (nextOf (exec (.cmtCommit .sp 0x3C00010E {}) ((wReady.setStagedF F.THERM_CFG_WARN 110).setStagedF F.THERM_CFG_TRIP 115))).get
      F.CMT_STAT_RESULT = 5 := by decide +kernel
/-- The keys of Table 25-2. -/
theorem test_unlock_keys :
    unlockKey 9 = 0x4E5509F6 ∧ unlockKey 6 = 0x4E5506F9 ∧ unlockKey 8 = 0x4E5508F7 ∧ unlockKey 0xB = 0x4E550BF4 := by decide
/-- "eNOR, OTP and the persistent store": MSEC_9 has code 0x49 and begins at 0x12_0000; MSEC_16 holds 0x20_01FF. -/
theorem test_sectors : sectorOf 0x120000 = 0x49 ∧ sectorOf 0x2001FF = 0x50 ∧ sectorOf 0x260000 = 0x53 := by decide +kernel
/-- "Codec and read retry", the worked case of the seed. -/
theorem test_seed : ((wReady.set F.RND_CFG_RND_EN 1).set F.RND_CFG_SALT 0x12345678).cwSeed 0x4A42 2 = 0x0844AD1A := by decide +kernel
/-- The same: the mask begins 0x29, 0xC3. -/
theorem test_mask : randomise 0x0844AD1A [0, 0] = [0x29, 0xC3] := by decide +kernel
/-- "The Ration energy ledger", worked case: 25.8 mJ less 13.5 mJ, in units of 1/256 µJ. -/
theorem test_holdup :
    (({ wReady with rt := {} } |>.set F.RMV_CFG_HOLD_TIME 0x64).setReg 0x3103 0x410205DC).availNow = 12300 * 256 := by decide +kernel
/-- The same: a refill of 6,000 mW is 1,536 units in a microsecond. -/
theorem test_refill :
    ((nextOf (exec (.ledgerUpdate 5000 0 0) { (wReady.setReg 0x3102 0x1770083C) with rt := { on := true, isns := true } })).rt.bal) = 1536 := by
  decide +kernel
/-- "Link patterns and test", worked case: 3.0 × 10¹² compared bits. -/
theorem test_tp_bits :
    let t := wReady.tpAdd 2 3000000000000 0 0
    t.get F.TP_BITS_HI_BITS 2 = 0x2BA ∧ t.get F.TP_BITS_LO_BITS 2 = 0x7DEF3000 := by decide +kernel
/-- "Calibration", worked case: the centres of the read windows. -/
theorem test_deskew :
    (nextOf (exec (.trainingEnd 3 [{ ce := 1, rd := [(31, 139), (28, 140), (35, 141), (30, 132), (0, 255), (0, 255), (0, 255), (0, 255)], wr := List.replicate 8 (30, 140) }])
      { wChan (wReady.set (F.CH_IF_RATE 3) 0xD) 3 { training := true, dies := [(4, wDie)] } with cal := { jobs := [(3, { path := .sp })] } })).get
      (F.CAL_RDQ_DQ 0) (3 * 8 + 1) = 0x51585455 := by decide +kernel
/-- "Sequencer machine", worked case: the words of the fragment. -/
theorem test_fragment :
    seqDecode 0xAC000000 = some .kick ∧ seqDecode 0x44900006 = some .ldh ∧ seqDecode 0x20C00200 = some .movi ∧
      seqDecode 0x0508C015 = some .divu ∧ seqDecode 0x80800120 = some .b := by decide +kernel
/-- The same: 4,096 by 512, into V4 and V5. -/
theorem test_divu :
    let t := nextOf (exec (.seqDivu 0 {}) (wSeq .divu 0x0108C000 (wV [0, 0, 0x1000, 0x200])))
    t.sv 0 4 = 8 ∧ t.sv 0 5 = 0 ∧ flagsOf t = 0 := by decide +kernel
/-- The same with V3 = 0: N and DZ. -/
theorem test_divu_zero :
    let t := nextOf (exec (.seqDivu 0 {}) (wSeq .divu 0x0108C000 (wV [0, 0, 0x1000, 0])))
    t.sv 0 4 = 0xFFFFFFFF ∧ t.sv 0 5 = 0x1000 ∧ flagsOf t = 0b10010 ∧ (t.ev 165).pend = false := by decide +kernel

/-! ### Table 14-5: results at the edges (Vd is V0, Va is V1, Vb is V2) -/

/-- Sequencer 0 with this instruction on these operands, all five flags as given before. -/
def wEdge (o : SOp) (a b : Word) (f : Nat) : State := wSeq o (1 * 2 ^ 18 + 2 * 2 ^ 14) { wV [0, a, b] with flags := f }
theorem test_add : let t := nextOf (exec (.seqAdd 0 {}) (wEdge .add 0x7FFFFFFF 1 0)); t.sv 0 0 = 0x80000000 ∧ flagsOf t = 0b01010 := by
  decide +kernel
theorem test_neg : let t := nextOf (exec (.seqNeg 0 {}) (wSeq .neg (1 * 2 ^ 18) (wV [0, 0x80000000])))
    t.sv 0 0 = 0x80000000 ∧ flagsOf t = 0b01010 := by decide +kernel
theorem test_divs_overflow : let t := nextOf (exec (.seqDivs 0 {}) (wEdge .divs 0x80000000 0xFFFFFFFF 0))
    t.sv 0 0 = 0x80000000 ∧ t.sv 0 1 = 0 ∧ flagsOf t = 0b01010 := by decide +kernel
theorem test_divs_sign : let t := nextOf (exec (.seqDivs 0 {}) (wEdge .divs 0xFFFFFFF9 2 0))
    t.sv 0 0 = 0xFFFFFFFD ∧ t.sv 0 1 = 0xFFFFFFFF ∧ flagsOf t = 0b00010 := by decide +kernel
theorem test_mul_wraps : let t := nextOf (exec (.seqMul 0 {}) (wEdge .mul 0x10000 0x10000 0)); t.sv 0 0 = 0 ∧ flagsOf t = 0b01001 := by
  decide +kernel
theorem test_mul_signed : let t := nextOf (exec (.seqMul 0 {}) (wEdge .mul 0xFFFFFFFF 0xFFFFFFFF 0)); t.sv 0 0 = 1 ∧ flagsOf t = 0 := by
  decide +kernel
theorem test_shl_32 : let t := nextOf (exec (.seqShl 0 {}) (wEdge .shl 5 32 0)); t.sv 0 0 = 0 ∧ flagsOf t = 0b00101 := by decide +kernel
theorem test_shl_256 : let t := nextOf (exec (.seqShl 0 {}) (wEdge .shl 5 0x100 0b00100)); t.sv 0 0 = 5 ∧ flagsOf t = 0b00100 := by
  decide +kernel
theorem test_shr_33 : let t := nextOf (exec (.seqShr 0 {}) (wEdge .shr 0xFFFFFFFF 33 0b00100)); t.sv 0 0 = 0 ∧ flagsOf t = 0b00001 := by
  decide +kernel
theorem test_sar_40 : let t := nextOf (exec (.seqSar 0 {}) (wEdge .sar 0x80000001 40 0)); t.sv 0 0 = 0xFFFFFFFF ∧ flagsOf t = 0b00110 := by
  decide +kernel
theorem test_ror_33 : let t := nextOf (exec (.seqRor 0 {}) (wEdge .ror 1 33 0)); t.sv 0 0 = 0x80000000 ∧ flagsOf t = 0b00110 := by
  decide +kernel

/-! ### Queues, buffers and stores -/

/-- "The queue fabric", worked case: Q_44 holds a slot and three payload entries of a 150-byte packet. -/
def wPacket : State :=
  wReady.fqPut 44 { slotOpen := true, vis := 0, ring := [{ data := List.replicate 64 0, vb := 8, lslot := true },
    { data := List.replicate 64 7, vb := 64 }, { data := List.replicate 64 7, vb := 64 }], parts := [{ data := List.replicate 22 7 }] }
/-- CLOSE with 150: VB, POS and LSLOT of each entry, and the slot's bytes 96 00 00 00 03 00. -/
theorem test_close_150 :
    let l := ((nextOf (exec (.fqClose 44 150 false) wPacket)).fq 44).entries
    l.map (fun e => e.vb + e.pos * 2 ^ 7 + b2n e.lslot * 2 ^ 9) = [0x288, 0x140, 0x140, 0x196] ∧
      (l.headD {}).data.take 7 = [0x96, 0, 0, 0, 3, 0, 0] ∧ ((nextOf (exec (.fqClose 44 150 false) wPacket)).fq 44).vis = 4 := by decide +kernel
/-- CLOSE with 100 discards the last entry and shortens the one before. -/
theorem test_close_100 :
    let l := ((nextOf (exec (.fqClose 44 100 false) wPacket)).fq 44).entries
    l.map (fun e => e.vb + e.pos * 2 ^ 7 + b2n e.lslot * 2 ^ 9) = [0x288, 0x140, 0x1A4] ∧
      (l.headD {}).data.take 7 = [0x64, 0, 0, 0, 2, 0, 0] := by decide +kernel
/-- A released buffer goes behind the buffers freed before it (R253). -/
theorem test_release_order :
    let s := { wReady with hmp := { fresh := 2048, freed := [9, 4], bufs := [(7, { ref := 1, owner := 3 })] } }
    (nextOf (exec (.referenceRelease 7 3 0) s)).freeList = [9, 4, 7] := by decide +kernel
/-- OTP: programming sets bits and clears none (R457). -/
theorem test_otp_or : tget 0 (otpMerge 0 [(64, 0x0F)] [(64, 0x30)]) 64 = 0x3F ∧ tget 0 (otpMerge 2 [(64, 0x0F)] [(64, 0x30)]) 64 = 0x0F := by
  decide +kernel
/-- A PS unit is 32 bytes (R463). -/
theorem test_ps_write :
    let t := nextOf (exec (.psWrite 1 (List.replicate 32 0xAB) [.ok 0]) wReady)
    tget 0 t.keep.ps 31 = 0 ∧ tget 0 t.keep.ps 32 = 0xAB ∧ tget 0 t.keep.ps 63 = 0xAB ∧ tget 0 t.keep.ps 64 = 0 := by decide +kernel

/-! ### Coding of the link (R135, R136) -/

/-- D21.5 has equal codes in both columns; D0.0 at negative disparity is 100111 0100. -/
theorem test_8b10b : (enc8b10b false 0xB5).1 = msbBits 10 0b1010101010 ∧ (enc8b10b true 0xB5).1 = msbBits 10 0b1010101010 ∧
    enc8b10b false 0 = (msbBits 10 0b1001110100, false) := by decide +kernel
/-- What zeros become after a COM, with the LFSR as PCI Express runs it (log entry 137). -/
theorem test_scrambler_agl1 : (additive lfsr1 0xFFFF (List.replicate 32 false)).1 = wireBits [0xFF, 0x17, 0xC0, 0x14] := by decide +kernel
/-- The seeds of logical lanes 0 and 3. -/
theorem test_seeds_agl3 : seed3 0 = 0x1DBFBC ∧ seed3 3 = 0x2E8C8F := by decide +kernel
/-- Byte `i` of the stream goes to lane `i` mod 4. -/
theorem test_stripe : stripe 4 1 [10, 11, 12, 13, 14, 15] = [11, 15] := by decide +kernel

/-! ### Registers, events, watchdogs -/

/-- RST_CAUSE names a pin reset (R69). -/
theorem test_pin_reset : (nextOf (exec .resetNLow (wAon { rails := [4], por := true }))).get F.RST_CAUSE_LAST = 1 := by decide +kernel
/-- ID_PART is read only: a write answers READ_ONLY or leaves it (R8). -/
theorem test_id_part : (nextOf (exec (.registerWrite .sp 0 0 {}) wReady)).reg 0 = 0x6A7E4816 := by decide +kernel
/-- "Events, watchdogs and thermal", worked case: WD_CFG_0 0x0294_0172. -/
theorem test_wd_window :
    let s := (wReady.setReg 0x540 0x02940172)
    s.get (F.WD_CFG_MAX 0) = 660 ∧ s.get (F.WD_CFG_MIN 0) = 370 := by decide +kernel
/-- A service at the lower edge of the window, 3,700 µs, is good (R491). -/
theorem test_wd_good :
    ((nextOf (exec .wd0Service { wReady.set F.WD_CTL_EN 0x1FF with wds := [(0, { run := true, first := false, elapsed := 3700, min := 370, max := 660 })] })).wd 0).elapsed = 0 := by
  decide +kernel
/-- A second post of a pending source keeps the first data and sets OVR (R482). -/
theorem test_post_coalesces :
    let e := (nextOf (exec (.eventPost 40 2) (wReady.post 40 1))).ev 40
    e.pend = true ∧ e.data = 1 ∧ e.ovr = true := by decide +kernel
/-- Before step 8 of the Trailhead the ledger is disabled (R269). -/
theorem test_reset_ledger : State.reset.rt.on = false := by decide +kernel

/-! ### Well-formedness refuses (one ill-formed command of each kind of check, beside a well-formed one) -/

theorem test_wf_rail : (Instr.brownout 9).wf = false ∧ (Instr.brownout 8).wf = true := by decide
theorem test_wf_supply : (Instr.supplyRailValid (.rail 5)).wf = false ∧ (Instr.supplyRailValid .xtal).wf = true := by decide
theorem test_wf_straps : (Instr.trailheadStart 256 [0, 0, 0, 0] {}).wf = false ∧ (Instr.trailheadStart 0 [0, 0, 0] {}).wf = false := by decide
theorem test_wf_target : (Instr.dieDiscovery [{ ch := 8, ce := 0, planes := 1 }]).wf = false ∧ (Instr.dieDiscovery [{ ch := 0, ce := 8, planes := 1 }]).wf = false ∧
    (Instr.dieDiscovery [{ ch := 0, ce := 0, planes := 3 }]).wf = false ∧ (Instr.dieDiscovery []).wf = true := by decide
theorem test_wf_register : (Instr.registerWrite .sp 0x4000 0 {}).wf = false ∧ (Instr.registerWrite .sp 0x3FFF 0 {}).wf = true := by decide
theorem test_wf_group : (Instr.commitHold 32).wf = false ∧ (Instr.commitHold 14).wf = true := by decide
theorem test_wf_link : (Instr.skp 3).wf = false ∧ (Instr.aglDetectQuietEnd 0 16).wf = false ∧ (Instr.skp 2).wf = true := by decide
theorem test_wf_seq : (Instr.aglAck 0 4096).wf = false ∧ (Instr.aglCredit 0 0 65536).wf = false ∧ (Instr.aglAck 0 4095).wf = true := by decide
theorem test_wf_config : (Instr.configRequest false 0x1000 15 0).wf = false ∧ (Instr.configRequest false 0 16 0).wf = false := by decide
theorem test_wf_port : (Instr.submissionPortWrite 64 0 [] 0).wf = false ∧ (Instr.submissionPortWrite 1 60 [0, 0, 0, 0, 0] 0).wf = false := by decide
theorem test_wf_vector : (Instr.msixUnmask 32).wf = false ∧ (Instr.msixUnmask 31).wf = true := by decide
theorem test_wf_queue : (Instr.consumerRead 48 false).wf = false ∧ (Instr.producerFlush 0 8).wf = false ∧ (Instr.consumerRead 47 false).wf = true := by decide
theorem test_wf_owner : (Instr.referenceRelease 0 16 0).wf = false ∧ (Instr.referenceRelease 0 15 0).wf = true := by decide
theorem test_wf_channel : (Instr.codewordTake 8).wf = false ∧ (Instr.seqAdd 8 {}).wf = false ∧ (Instr.seqAdd 7 {}).wf = true := by decide
theorem test_wf_slot : (Instr.srConfirm 0 8).wf = false ∧ (Instr.srAck 0 256).wf = false ∧ (Instr.timerExpiry 0 8).wf = false := by decide
theorem test_wf_unit : (Instr.psWrite 0x8000 (List.replicate 32 0) [.ok 0]).wf = false ∧ (Instr.psWrite 0 [] [.ok 0]).wf = false := by decide
theorem test_wf_source : (Instr.eventPost 384 0).wf = false ∧ (Instr.eventPost 383 0).wf = true := by decide
theorem test_wf_watchdog : (Instr.wdLate 9).wf = false ∧ (Instr.wdLate 8).wf = true := by decide
theorem test_wf_sample : (Instr.sensorSample [] [] 0).wf = false := by decide
theorem test_wf_cascade : (Instr.cascPing { l := 0, seq := 0, dst := 0, src := 0 }).wf = false ∧ (Instr.cascPing { l := 1, seq := 4096, dst := 0, src := 0 }).wf = false ∧
    (Instr.cascPing { l := 2, seq := 0, dst := 15, src := 1 }).wf = true := by decide
theorem test_wf_member : (Instr.memberLost 0 0 []).wf = false ∧ (Instr.memberLost 4 0 []).wf = false := by decide
theorem test_wf_scan : (Instr.tapExtest (some (2 ^ 544, 0))).wf = false ∧ (Instr.tapExtest none).wf = true := by decide +kernel
theorem test_wf_tp_access : (Instr.tpAccess (2 ^ 48) {}).wf = false := by decide
theorem test_wf_lanes : (Instr.laneAdaptation 6 0).wf = false ∧ (Instr.evrPendClear .sp 12 0 {}).wf = false := by decide

/-! ### The hypotheses of the statements about rules can be met, each clause for itself -/

theorem wit_StepRunsTheFrontCommand : ({ wReady with pending := [.resetNLow] } : State).pending = .resetNLow :: [] := by decide +kernel
theorem wit_EmptyQueue_no_keep : ({} : State).pending = [] ∧ ({} : State).keepValid = false := by decide +kernel
theorem wit_EmptyQueue_keep : (wAon { rails := [4] }).pending = [] ∧ (wAon { rails := [4] }).keepValid = true ∧
    (wAon { rails := [4] }).rmv.orderly = none ∧ (wAon { rails := [4] }).test.runs = [] ∧ (wAon { rails := [4] }).qFront 0 = none := by decide +kernel
theorem wit_StepTakesOneCommand : ∃ t, step ({ wReady with pending := [.starve 0] } : State) = .next t := ⟨_, rfl⟩
theorem wit_ProgrammedOtpBitsStay :
    ∃ t, step ({ wReady with pending := [.starve 0], keep := { otp := [(64, 3)], otpLocks := 2 } } : State) = .next t ∧
      otpCanonical ({ wReady with pending := [.starve 0], keep := { otp := [(64, 3)], otpLocks := 2 } } : State) ∧
      bit ({ wReady with pending := [.starve 0], keep := { otp := [(64, 3)], otpLocks := 2 } } : State).keep.otpLocks 1 = true :=
  ⟨_, rfl, by decide +kernel, by decide +kernel⟩
/-- A sequencer can run each instruction on any V registers and flags; the word has all operand fields 0 but those given. -/
theorem wit_runs (o : SOp) (h : o ∈ [SOp.add, .adc, .sub, .sbc, .and, .or, .xor, .shl, .shr, .sar, .rol, .ror, .mul, .divs, .divu, .cmp, .tst,
    .neg, .not, .mov, .addi, .andi, .ori, .xori, .cmpi, .movi, .movhi, .movs]) : (wSeq o 0 {}).runs 0 o {} := by
  have d : ∀ o ∈ [SOp.add, .adc, .sub, .sbc, .and, .or, .xor, .shl, .shr, .sar, .rol, .ror, .mul, .divs, .divu, .cmp, .tst, .neg, .not, .mov,
      .addi, .andi, .ori, .xori, .cmpi, .movi, .movhi, .movs],
      (wSeq o 0 {}).fetchable 0 = true ∧ seqDecode ((wSeq o 0 {}).nextWord 0) = some o := by decide +kernel
  exact ⟨(d o h).1, (d o h).2, rfl, rfl⟩
theorem wit_runs_shi (k : Nat) (h : k ∈ [0, 1, 2, 3]) :
    (wSeq .shi (k * 2 ^ 16) {}).runs 0 .shi {} ∧ bits ((wSeq .shi (k * 2 ^ 16) {}).nextWord 0) 16 2 = k := by
  have d : ∀ k ∈ [0, 1, 2, 3], ((wSeq .shi (k * 2 ^ 16) {}).fetchable 0 = true ∧
      seqDecode ((wSeq .shi (k * 2 ^ 16) {}).nextWord 0) = some .shi) ∧ bits ((wSeq .shi (k * 2 ^ 16) {}).nextWord 0) 16 2 = k := by decide +kernel
  exact ⟨⟨(d k h).1.1, (d k h).1.2, rfl, rfl⟩, (d k h).2⟩
theorem wit_Carry_neg : (wSeq .neg (1 * 2 ^ 18) (wV [0, 0x80000000])).runs 0 .neg {} ∧
    (wSeq .neg (1 * 2 ^ 18) (wV [0, 0x80000000])).sv 0 (wA ((wSeq .neg (1 * 2 ^ 18) (wV [0, 0x80000000])).nextWord 0)) = 0x80000000 :=
  ⟨⟨by decide +kernel, by decide +kernel, rfl, rfl⟩, by decide +kernel⟩
/-- Shift amounts 0, 31, 32, 33 and 255 in Vb. -/
theorem wit_Shifts (k : Nat) (h : k ∈ [0, 31, 32, 33, 255]) : (wEdge .shl 5 (BitVec.ofNat 32 k) 0).runs 0 .shl {} ∧
    ((wEdge .shl 5 (BitVec.ofNat 32 k) 0).sv 0 (wB ((wEdge .shl 5 (BitVec.ofNat 32 k) 0).nextWord 0))).toNat % 256 = k := by
  have d : ∀ k ∈ [0, 31, 32, 33, 255], ((wEdge .shl 5 (BitVec.ofNat 32 k) 0).fetchable 0 = true ∧
      seqDecode ((wEdge .shl 5 (BitVec.ofNat 32 k) 0).nextWord 0) = some .shl) ∧
      ((wEdge .shl 5 (BitVec.ofNat 32 k) 0).sv 0 (wB ((wEdge .shl 5 (BitVec.ofNat 32 k) 0).nextWord 0))).toNat % 256 = k := by decide +kernel
  exact ⟨⟨(d k h).1.1, (d k h).1.2, rfl, rfl⟩, (d k h).2⟩
/-- A division by zero with the DZ event on, one with it off, the overflow, and an ordinary division. -/
theorem wit_Division (o : SOp) (h : o ∈ [SOp.divs, .divu]) (a b e : Nat)
    (k : (a, b, e) ∈ [(5, 0, 0), (5, 0, 1), (0x80000000, 0xFFFFFFFF, 0), (7, 2, 0)]) :
    ((wEdge o (BitVec.ofNat 32 a) (BitVec.ofNat 32 b) 0).set (F.SEQ_CTL_DZ_EVENT 0) e).runs 0 o {} ∧
      ((wEdge o (BitVec.ofNat 32 a) (BitVec.ofNat 32 b) 0).set (F.SEQ_CTL_DZ_EVENT 0) e).get (F.SEQ_CTL_DZ_EVENT 0) = e := by
  have d : ∀ o ∈ [SOp.divs, .divu], ∀ x ∈ [(5, 0, 0), (5, 0, 1), (0x80000000, 0xFFFFFFFF, 0), (7, 2, 0)],
      (((wEdge o (BitVec.ofNat 32 x.1) (BitVec.ofNat 32 x.2.1) 0).set (F.SEQ_CTL_DZ_EVENT 0) x.2.2).fetchable 0 = true ∧
        seqDecode (((wEdge o (BitVec.ofNat 32 x.1) (BitVec.ofNat 32 x.2.1) 0).set (F.SEQ_CTL_DZ_EVENT 0) x.2.2).nextWord 0) = some o) ∧
      ((wEdge o (BitVec.ofNat 32 x.1) (BitVec.ofNat 32 x.2.1) 0).set (F.SEQ_CTL_DZ_EVENT 0) x.2.2).get (F.SEQ_CTL_DZ_EVENT 0) = x.2.2 := by
    decide +kernel
  have g := d o h (a, b, e) k
  exact ⟨⟨g.1.1, g.1.2, rfl, rfl⟩, g.2⟩
theorem wit_Division_odd : wD 0x04400014 % 2 = 1 := by decide
theorem wit_MachineFaultEntry :
    let s := { wReady with seqs := [(7, { st := 1, pc := 0xFFF, progs := [{ base := false, code := List.replicate 4096 0xFFFFFFFF }] })] }
    s.fetchable 7 = true ∧ seqDecode (s.nextWord 7) = none ∧ (s.sq 7).inflt = false ∧ (s.sq 7).xch = none ∧ ({} : SeqIn).fetchEcc = 0 := by decide +kernel
/-- LDL and STL at local RAM address 0x7FC, 0x000, 0x800 (RANGE), 0x001 (ALIGN) and 0xFFF (both). -/
theorem wit_LocalRam (o : SOp) (h : o ∈ [SOp.ldl, .stl]) (a : Nat) (k : a ∈ [0x7FC, 0, 0x800, 1, 0xFFF]) :
    (wSeq o a {}).runs 0 o {} ∧ (wSimm ((wSeq o a {}).nextWord 0)).toNat = a ∧ ((wSeq o a {}).sq 0).inflt = false ∧
      ((wSeq o a {}).sq 0).xch = none ∧ (wSeq o a {}).sv 0 (wA ((wSeq o a {}).nextWord 0)) = 0 := by
  have d : ∀ o ∈ [SOp.ldl, .stl], ∀ a ∈ [0x7FC, 0, 0x800, 1, 0xFFF],
      ((wSeq o a {}).fetchable 0 = true ∧ seqDecode ((wSeq o a {}).nextWord 0) = some o) ∧ (wSimm ((wSeq o a {}).nextWord 0)).toNat = a ∧
      ((wSeq o a {}).sq 0).inflt = false ∧ ((wSeq o a {}).sq 0).xch = none ∧ (wSeq o a {}).sv 0 (wA ((wSeq o a {}).nextWord 0)) = 0 := by
    decide +kernel
  have g := d o h a k
  exact ⟨⟨g.1.1, g.1.2, rfl, rfl⟩, g.2⟩
theorem wit_Posting_first : (383 : Nat) < 384 ∧ (wReady.ev 383).pend = false ∧ bit (wReady.get (F.EVR_CFG_TMASK 383)) 9 = false := by
  decide +kernel
theorem wit_Posting_again : let s := (wReady.set (F.EVR_CFG_TMASK 0) 0x200).post 0 5
    (s.ev 0).pend = true ∧ (s.ev 0).hf = true ∧ bit (s.get (F.EVR_CFG_TMASK 0)) 9 = true := by decide +kernel
theorem someEq {α : Type} {o : Option α} {q : α → Bool} (h : o.any q = true) : ∃ a, o = some a ∧ q a = true := by
  cases o with
  | none => cases h
  | some a => exact ⟨a, rfl, h⟩
/-- A plain register with a field of each type: GLB_EVT's page and others, on the service path. -/
theorem wit_PlainRegisterWrite (c : FieldType × Nat) (h : c ∈ [(.rw, 13), (.wo, 0x401), (.rs, 0x581), (.w1c, 9), (.ro, 0xC0), (.rx, 0x42)]) :
    ∃ d f, wReady.takesWrite .svc c.2 0 ∧ wReady.pcieMode = false ∧ wReady.plainReg .svc c.2 0 {} = true ∧ regDef? c.2 = some d ∧ f ∈ d.fields ∧ f.ty = c.1 := by
  have k : ∀ c ∈ [(FieldType.rw, 13), (.wo, 0x401), (.rs, 0x581), (.w1c, 9), (.ro, 0xC0), (.rx, 0x42)],
      (wReady.pathServes .svc c.2 = true ∧ wReady.writeRefused .svc c.2 0 = 0 ∧ wReady.absentPage (c.2 / 64) = false) ∧
      wReady.plainReg .svc c.2 0 {} = true ∧ (regDef? c.2).any (fun d => d.fields.any (fun f => f.ty == c.1)) = true := by decide +kernel
  obtain ⟨t, p, r⟩ := k c h
  obtain ⟨d, e, r⟩ := someEq r
  obtain ⟨f, m, q⟩ := List.any_eq_true.1 r
  exact ⟨d, f, t, rfl, p, e, m, by simpa using q⟩
/-- A group locked down for the session counts as closed although it stands open. -/
theorem wit_ExpertWrite_locked (p : Path) (h : p ∈ [Path.sp, .host]) :
    let s := { wReady with port := { session := 0x2000, lockSp := { openGroups := 0x2000 }, lockHost := { openGroups := 0x2000 } } }
    bit (s.lockOf p).openGroups (pageGroup (0x3340 / 64)) = true ∧ bit s.lockedDown (pageGroup (0x3340 / 64)) = true := by
  have d : ∀ p ∈ [Path.sp, .host],
      let s := { wReady with port := { session := 0x2000, lockSp := { openGroups := 0x2000 }, lockHost := { openGroups := 0x2000 } } }
      bit (s.lockOf p).openGroups (pageGroup (0x3340 / 64)) = true ∧ bit s.lockedDown (pageGroup (0x3340 / 64)) = true := by decide +kernel
  exact d p h
theorem wit_ExpertWrite (p : Path) (h : p ∈ [Path.sp, .host]) : pageExpert (0x3140 / 64) = true ∧ wReady.absentPage (0x3140 / 64) = false ∧
    bit (wReady.lockOf p).openGroups (pageGroup (0x3140 / 64)) = false := by
  have d : ∀ p ∈ [Path.sp, .host], pageExpert (0x3140 / 64) = true ∧ wReady.absentPage (0x3140 / 64) = false ∧
    bit (wReady.lockOf p).openGroups (pageGroup (0x3140 / 64)) = false := by decide +kernel
  exact d p h
/-- With POR released and with POR held. -/
theorem wit_PinReset (p : Bool) : let s := wAon { rails := [4], por := p }
    s.keepValid = true ∧ s.aon.resetN = true ∧ s.keep.norOp = none ∧ s.cycleCauses = [] ∧ otpCanonical s := by cases p <;> decide +kernel
theorem wit_Removal_unarmed : wReady.get F.RMV_STAT_ARMED = 0 := by decide +kernel
theorem wit_Removal_removing : (wUp stRemoving).st = stRemoving := by decide +kernel
theorem wit_FrameLayout_longest : (0xFF : Nat) < 256 ∧ (4095 : Nat) < 4096 ∧ (List.replicate 12 (0 : Byte)).length = 12 ∧
    (List.replicate 512 (0 : Byte)).length % 4 = 0 ∧ (List.replicate 512 (0 : Byte)).length ≤ 512 := by decide +kernel
theorem wit_ConsumerRead : let s := wFqs 47 { ring := [{}], vis := 1 }
    (47 : Nat) < 48 ∧ s.qSound 47 = true ∧ (s.fq 47).ring = {} :: [] ∧ 1 ≤ (s.fq 47).vis ∧ ({} : FqEntry).work = .none ∧ (s.fq 47).held = [] := by
  decide +kernel
/-- One buffer, 16 buffers and a chain of two can be granted. -/
theorem wit_Hamper_grant (n : Nat) (h : n ∈ [1, 2, 16]) : wReady.hmp.waits.any (fun w => ownerPool w.owner == ownerPool 0x0D) = false ∧
    wReady.hmpRoom 0x0D n = true := by
  have d : ∀ n ∈ [1, 2, 16], wReady.hmp.waits.any (fun w => ownerPool w.owner == ownerPool 0x0D) = false ∧ wReady.hmpRoom 0x0D n = true := by
    decide +kernel
  exact d n h
theorem wit_Hamper_release : let s := wHeld wReady
    s.refOk 0 = true ∧ (s.hbuf (refBuf 0)).ref = 1 ∧ (s.hbuf (refBuf 0)).next = none ∧ (s.hbuf (refBuf 0)).poison = false ∧ s.hmp.waits = [] := by
  decide +kernel
/-- WD_0 running and enabled, with an elapsed time of `e`. -/
def wWd (e : Nat) (first : Bool) : State := { wReady.set F.WD_CTL_EN 0x1FF with wds := [(0, { run := true, first, elapsed := e, min := 370, max := 660 })] }
theorem wit_Watchdog_off : (wReady.wd 0).run = false := by decide +kernel
theorem wit_Watchdog_edges : (wWd 3700 false).wdEnabled 0 = true ∧ ((wWd 3700 false).wd 0).run = true ∧
    10 * ((wWd 3700 false).wd 0).min ≤ ((wWd 3700 false).wd 0).elapsed ∧ ((wWd 6600 false).wd 0).elapsed ≤ 10 * ((wWd 6600 false).wd 0).max ∧
    ((wWd 0 true).wd 0).first = true ∧ ((wWd 3699 false).wd 0).elapsed < 10 * ((wWd 3699 false).wd 0).min ∧
    ((wWd 3699 false).wd 0).first = false ∧ 10 * ((wWd 6601 false).wd 0).max < ((wWd 6601 false).wd 0).elapsed := by decide +kernel
theorem wit_Watchdog_alone : (wWd 3699 false).cycleCauses = [] ∧ (wWd 3699 false).lateWds = [] ∧ (wWd 6601 false).cycleCauses = [] := by decide +kernel
theorem wit_Ledger : ({ wReady with rt := { on := true } } : State).rt.on = true ∧ wReady.rt.on = false := by decide +kernel
theorem wit_PersistentStoreWrite : (0x7FFF : Nat) < 0x8000 ∧ wReady.keep.psFault = false ∧
    ({ wReady with keep := { psFault := true } } : State).keep.psFault = true := by decide +kernel

/-! ### The hypotheses of the completion statements can be met: one witness a clause -/

theorem wit_supplyRailValid_0 :
    ∃ (r : Nat) (s : State), r < 4 ∧ s.aon.rails.contains r = false :=
  by refine
      ⟨0, wReady, ?_, ?_⟩ <;> decide +kernel

theorem wit_supplyRailValid_1 :
    ∃ (s : State), s.aon.rails.contains 4 = false :=
  ⟨wReady, by decide +kernel⟩

theorem wit_supplyRailValid_2 :
    ∃ (s : State), s.aon.xtal = false ∧ s.aon.rails.contains 4 = true :=
  by refine
      ⟨(wAon { rails := [4] }), ?_, ?_⟩ <;> decide +kernel

theorem wit_porRelease_0 :
    ∃ (s : State), s.aon.por = false ∧ (∀ r < 5, s.aon.rails.contains r = true) ∧ s.aon.xtal = true ∧ s.aon.validFrom + 1000 ≤
      s.clock :=
  by refine
      ⟨{ wReady with clock := 1000, aon := { rails := [0, 1, 2, 3, 4], xtal := true } }, ?_, ?_, ?_, ?_⟩ <;> decide +kernel

theorem wit_brownout_0 :
    ∃ (r : Nat) (s : State), r < 4 ∧ s.keepValid = true ∧ s.aon.rails.contains r = true :=
  by refine
      ⟨0, (wAon { rails := [0, 4] }), ?_, ?_, ?_⟩ <;> decide +kernel

theorem wit_brownout_1 :
    ∃ (g : Nat) (s : State), g < 4 :=
  ⟨0, wReady, by decide +kernel⟩

theorem wit_vddKeepLoss_0 :
    ∃ (s : State), s.keepValid = true :=
  ⟨(wAon { rails := [4] }), by decide +kernel⟩

theorem wit_resetNLow_0 :
    ∃ (s : State), s.keepValid = true ∧ s.aon.resetN = true :=
  by refine
      ⟨(wAon { rails := [4], por := true }), ?_, ?_⟩ <;> decide +kernel

theorem wit_presenceInputChange_0 :
    ∃ (p : Bool) (w : Bool) (s : State), (¬ (s.aon.prsntN = p ∧ s.aon.pwrFailN = w)) :=
  ⟨false, false, wReady, by decide +kernel⟩

theorem wit_presenceArmed_0 :
    ∃ (s : State), s.keepValid = true ∧ s.present = true ∧ s.get F.RMV_STAT_ARMED = 0 ∧ s.aon.presFrom + 1000 ≤ s.clock ∧
      s.live = false :=
  by refine
      ⟨{ ({} : State) with clock := 1000, aon := { rails := [4], prsntN := false } }, ?_, ?_, ?_, ?_, ?_⟩ <;> decide +kernel

theorem wit_presenceArmed_1 :
    ∃ (s : State), s.keepValid = true ∧ s.present = true ∧ s.get F.RMV_STAT_ARMED = 0 ∧ s.aon.presFrom + 1000 ≤ s.clock ∧
      s.live = true ∧ s.balls.clocksGated = false :=
  by refine
      ⟨(wAon { rails := [4], prsntN := false }), ?_, ?_, ?_, ?_, ?_, ?_⟩ <;> decide +kernel

theorem wit_rejoinReset_0 :
    ∃ (s : State), s.rmv.parked = true ∧ s.present = true ∧ max s.rmv.parkedFrom s.aon.presFrom + 10000 ≤ s.clock :=
  by refine
      ⟨{ wReady with clock := 10000, aon := { prsntN := false }, rmv := { parked := true } }, ?_, ?_, ?_⟩ <;> decide +kernel

theorem wit_park_0 :
    ∃ (s : State), s.st = stRemoving ∧ s.get F.RMV_STAT_PHASE = 3 :=
  by refine
      ⟨((wUp stRemoving).set F.RMV_STAT_PHASE 3), ?_, ?_⟩ <;> decide +kernel

theorem wit_loggingPhase_0 :
    ∃ (s : State), s.st = stRemoving ∧ s.get F.RMV_STAT_PHASE = 2 ∧ s.settled = true :=
  by refine
      ⟨((wUp stRemoving).set F.RMV_STAT_PHASE 2), ?_, ?_, ?_⟩ <;> decide +kernel

theorem wit_removal_0 :
    ∃ (w : Bool) (s : State), s.live = true ∧ s.get F.RMV_STAT_ARMED = 1 ∧ s.st ≠ stRemoving :=
  by refine
      ⟨false, (wReady.set F.RMV_STAT_ARMED 1), ?_, ?_, ?_⟩ <;> decide +kernel

theorem wit_removal_1 :
    ∃ (s : State), s.live = true ∧ s.get F.RMV_STAT_ARMED = 1 ∧ s.st ≠ stRemoving :=
  by refine
      ⟨(wReady.set F.RMV_STAT_ARMED 1), ?_, ?_, ?_⟩ <;> decide +kernel

theorem wit_pllFail_0 :
    ∃ (s : State), s.live = true ∧ s.pcieMode = true ∧ bit s.aon.straps 6 = true :=
  by refine
      ⟨{ wReady.set F.GLB_STAT_HOST_MODE 1 with aon := { straps := 64 } }, ?_, ?_, ?_⟩ <;> decide +kernel

theorem wit_orderlyReset_0 :
    ∃ (c : Cause) (s : State), c ≠ .thermal ∧ (c = .cascade → s.cascRole = 2) ∧ s.rmv.orderly = none :=
  by refine
      ⟨.soft, wReady, ?_, ?_, ?_⟩ <;> decide +kernel

theorem wit_orderlyResetLimit_0 :
    ∃ (c : Cause) (s : State), s.rmv.orderly = some c ∧ s.rmv.orderlyFrom + 20000 ≤ s.clock :=
  by refine
      ⟨.soft, { wReady with clock := 20000, rmv := { orderly := some .soft } }, ?_, ?_⟩ <;> decide +kernel

theorem wit_trailheadStart_0 :
    ∃ (straps : Nat) (vccq : List Nat) (start : StartIn) (s : State), s.aon.por = true ∧ s.aon.resetN = true ∧ s.live = false :=
  by refine
      ⟨0, [], {}, { ({} : State) with aon := { por := true } }, ?_, ?_, ?_⟩ <;> decide +kernel

set_option maxRecDepth 100000 in
theorem wit_keepBusUp_0 :
    ∃ (o : List PsOutcome) (s : State), s.trailOn = true ∧ s.norPend = 0xFF ∧ s.did 2 = false :=
  by refine
      ⟨[], (wTrail 1 [1]), ?_, pendZero _ rfl, ?_⟩ <;> decide +kernel

set_option maxRecDepth 100000 in
theorem wit_keepBusUp_1 :
    ∃ (o : List PsOutcome) (s : State), s.trailOn = true ∧ s.did 2 = true ∧ s.norPend ≠ 0xFF ∧ s.therm.stop = false ∧
      s.keep.norOp = none :=
  by refine
      ⟨[], { wTrail 3 [1, 2] with keep := { ps := wPendPs } }, ?_, ?_, ((pendSeven _ rfl rfl).trans_ne (by decide)), ?_, ?_⟩
        <;> decide +kernel

set_option maxRecDepth 100000 in
theorem wit_sviSelection_0 :
    ∃ (bad : List Nat) (s : State), s.trailOn = true ∧ s.did 2 = true ∧ s.did 3 = false ∧ s.keep.norOp = none ∧ s.norPend =
      0xFF :=
  by refine
      ⟨[], (wTrail 3 [1, 2]), ?_, ?_, ?_, ?_, pendZero _ rfl⟩ <;> decide +kernel

set_option maxRecDepth 100000 in
theorem wit_spbSelection_0 :
    ∃ (bad : List Nat) (o : List PsOutcome) (s : State) (s1 : State), s.trailOn = true ∧ s.trail.found = true ∧ s.did 4 =
      false ∧ s.bestSpb (s.get F.FW_SVI_SLOT) [s.spbCode 0 bad, s.spbCode 1 bad] = none ∧ s1 = (List.range 2).foldl (fun (u :
      State) i => u.setSlotStat (2 + i) (u.spbVer i (listGet 0 [s.spbCode 0 bad, s.spbCode 1 bad] i)) (spbShown (listGet 0
      [s.spbCode 0 bad, s.spbCode 1 bad] i) (u.spbClass (s.get F.FW_SVI_SLOT) i) false false)) s :=
  by refine
      ⟨[], [], { wTrail 4 [1, 2, 3] with trail := { step := 4, done := [1, 2, 3], found := true } }, _, ?_, ?_, ?_, ?_, rfl⟩
        <;> decide +kernel

set_option maxRecDepth 100000 in
theorem wit_spbSelection_1 :
    ∃ (bad : List Nat) (o : List PsOutcome) (u : Option Nat) (s : State), s.trailOn = true ∧ s.trail.found = true ∧ s.did 4 =
      false ∧ (s.bestSpb (s.get F.FW_SVI_SLOT) [s.spbCode 0 bad, s.spbCode 1 bad]).all (fun b => b.2 != 1) = true ∧ u =
      ((s.bestSpb (s.get F.FW_SVI_SLOT) [s.spbCode 0 bad, s.spbCode 1 bad]).filter (fun b => b.2 == 0)).map (fun b => b.1) :=
  by refine
      ⟨[], [], _, { wTrail 4 [1, 2, 3] with trail := { step := 4, done := [1, 2, 3], found := true } }, ?_, ?_, ?_, ?_, rfl⟩
        <;> decide +kernel

theorem wit_logbookRecovery_0 :
    ∃ (o : List PsOutcome) (s : State), s.trailOn = true ∧ s.did 2 = true ∧ s.did 5 = false :=
  by refine
      ⟨[], (wTrail 3 [1, 2]), ?_, ?_, ?_⟩ <;> decide +kernel

theorem wit_dieReadyWaitEnd_0 :
    ∃ (s : State), s.discovers = true ∧ s.trail.waited = false :=
  by refine
      ⟨(wTrail 3 [1, 2]), ?_, ?_⟩ <;> decide +kernel

theorem wit_dieDiscovery_0 :
    ∃ (found : List FoundTarget) (s : State), s.discovers = true ∧ s.trail.waited = true :=
  by refine
      ⟨[], { wTrail 3 [1, 2] with trail := { step := 3, done := [1, 2], waited := true } }, ?_, ?_⟩ <;> decide +kernel

theorem wit_calRestoreOrTrain_0 :
    ∃ (verify : Nat) (s : State), s.trailOn = true ∧ s.did 4 = true ∧ s.trail.classified = true ∧ s.did 7 = false ∧
      s.therm.stop = false ∧ s.seqs.any (fun p => p.2.xch.isSome) = false ∧ s.restorable = none :=
  by refine
      ⟨0, { wTrail 4 [1, 2, 3, 4] with trail := { step := 4, done := [1, 2, 3, 4], classified := true } }, ?_, ?_, ?_, ?_, ?_,
        ?_, ?_⟩ <;> decide +kernel

theorem wit_trailheadFinish_0 :
    ∃ (rng : Bool) (o : List PsOutcome) (s : State), s.trailOn = true ∧ s.did 7 = true ∧ s.did 5 = true ∧ bit s.aon.straps 7 =
      false ∧ s.therm.stop = false ∧ s.chans.any (fun p => p.2.training) = false :=
  by refine
      ⟨false, [], (wTrail 7 [1, 2, 3, 4, 5, 7]), ?_, ?_, ?_, ?_, ?_, ?_⟩ <;> decide +kernel

theorem wit_laneTrainingStart_0 :
    ∃ (s : State), s.live = true ∧ s.get F.RMV_STAT_ARMED ≠ 0 ∧ s.rmv.lanesStarted = false ∧ s.st ≠ stRemoving ∧ bit
      s.aon.straps 7 = false :=
  by refine
      ⟨(wReady.set F.RMV_STAT_ARMED 1), ?_, ?_, ?_, ?_, ?_⟩ <;> decide +kernel

theorem wit_enorWordProgramEnd_0 :
    ∃ (s : State) (op : NorOp) (a : Nat) (d : Nat), s.keep.norOp = some op ∧ op.erase = false ∧ op.words = [(a, d)] :=
  by refine
      ⟨{ wReady with keep := { norOp := some { origin := .path .sp, erase := false, words := [(0, 0)] } } },
        { origin := .path .sp, erase := false, words := [(0, 0)] }, 0, 0, ?_, ?_, ?_⟩ <;> decide +kernel

set_option maxRecDepth 100000 in
theorem wit_enorEraseEnd_0 :
    ∃ (s : State) (op : NorOp) (s1 : State) (u : State), s.keep.norOp = some op ∧ op.erase = true ∧ op.suspended = false ∧
      s.keep.norStopped = false ∧ s1 = (if op.sector = 7 then
      { ((s.norClear op.sector true).set F.JNL_STAT_NEXT 0) with keep := { (s.norClear op.sector true).keep with jnlFullPosted := false } }
      else s.norClear op.sector true) ∧ s1.norRecWrite 0xFF none = (true, u) :=
  by refine
      ⟨{ wReady with keep := { norOp := some { origin := .path .sp, erase := true, sector := 8 } } },
        { origin := .path .sp, erase := true, sector := 8 }, _, _, ?_, ?_, ?_, ?_, rfl, pairEq ?_⟩ <;> decide +kernel

theorem wit_eraseSuspended_0 :
    ∃ (s : State) (op : NorOp), s.keep.norOp = some op ∧ op.erase = true ∧ op.suspended = false ∧ s.keep.norStopped = false ∧
      s.get F.NOR_CFG_MIN_RUN * 100 ≤ s.clock - op.since :=
  by refine
      ⟨{ wReady.set F.NOR_CFG_BUSY_MODE 1 with clock := 100000, keep := { norOp := some { origin := .path .sp, erase := true, sector := 8 }, norReads := [⟨0, 0, 1⟩] } },
        { origin := .path .sp, erase := true, sector := 8 }, ?_, ?_, ?_, ?_, ?_⟩ <;> decide +kernel

theorem wit_eraseResume_0 :
    ∃ (s : State) (op : NorOp), s.keep.norOp = some op ∧ op.erase = true ∧ op.suspended = true ∧ s.keep.norStopped = false ∧
      (s.keep.norReads = [] ∨ s.get F.NOR_CFG_BUSY_MODE = 0 ∨ 200 ≤ s.clock - op.since) :=
  by refine
      ⟨{ wReady with keep := { norOp := some { origin := .path .sp, erase := true, sector := 8, suspended := true } } },
        { origin := .path .sp, erase := true, sector := 8, suspended := true }, ?_, ?_, ?_, ?_, ?_⟩ <;> decide +kernel

theorem wit_norRead_0 :
    ∃ (k : Nat) (f : Flight) (s : State) (s0 : State), s.canStart k 0x40 = some f ∧ s.kmemOpen = true ∧ s.getBufs 0x0A k
      (moves (leAt f.bytes 24 4)) = (true, s0) ∧ leAt f.bytes 20 3 + leAt f.bytes 24 4 ≤ 0x800000 :=
  by refine
      ⟨0, (wFlight 0x40 [(24, 8)]), (wFly 0x40 [(24, 8)]), _, ?_, ?_, pairEq ?_, ?_⟩ <;> decide +kernel

theorem wit_norProgram_0 :
    ∃ (k : Nat) (f : Flight) (s : State), s.canStart k 0x41 = some f ∧ s.kmemOpen = true ∧ f.got = leAt f.bytes 24 4 ∧ leAt
      f.bytes 20 3 + leAt f.bytes 24 4 ≤ 0x800000 :=
  by refine
      ⟨0, (wFlight 0x41 [(22, 1)]), (wFly 0x41 [(22, 1)]), ?_, ?_, ?_, ?_⟩ <;> decide +kernel

theorem wit_norErase_0 :
    ∃ (k : Nat) (f : Flight) (s : State), s.canStart k 0x42 = some f ∧ s.kmemOpen = true :=
  by refine
      ⟨0, (wFlight 0x42 [(16, 8)]), (wFly 0x42 [(16, 8)]), ?_, ?_⟩ <;> decide +kernel

theorem wit_journalAppend_0 :
    ∃ (s : State) (r : List Byte) (rest : List (List Byte)), s.keep.jnlHeld = r :: rest ∧ s.keep.norOp = none ∧ s.therm.stop =
      false ∧ s.get F.JNL_STAT_NEXT < 512 :=
  by refine
      ⟨{ wReady with keep := { jnlHeld := [[1]] } }, [1], [], ?_, ?_, ?_, ?_⟩ <;> decide +kernel

theorem wit_keepBusTransfer_0 :
    ∃ (target : KeepTarget) (addr : Nat) (n : Nat) (s : State), n ≤ 3 :=
  ⟨.ps, 0, 0, wReady, by decide +kernel⟩

theorem wit_keepBusTransfer_1 :
    ∃ (addr : Nat) (n : Nat) (s : State), 3 < n :=
  ⟨0x82000, 4, wReady, by decide +kernel⟩

theorem wit_logbookRead_0 :
    ∃ (k : Nat) (f : Flight) (s : State) (s0 : State), s.canStart k 0x31 = some f ∧ s.getBufs 0x01 k (moves (32 * leAt f.bytes
      24 2)) = (true, s0) ∧ (s.log.degraded = true → leAt f.bytes 20 2 ≤ 0x3FF) :=
  by refine
      ⟨0, (wFlight 0x31 [(24, 1)]), (wFly 0x31 [(24, 1)]), _, ?_, pairEq ?_, ?_⟩ <;> decide +kernel

theorem wit_logbookMark_0 :
    ∃ (k : Nat) (f : Flight) (s : State), s.canStart k 0x32 = some f :=
  ⟨0, (wFlight 0x32 []), (wFly 0x32 []), by decide +kernel⟩

theorem wit_logbookWrite_0 :
    ∃ (k : Nat) (o : List PsOutcome) (f : Flight) (s : State), s.flight? k = some f ∧ f.journalled = true ∧ f.logOpen = true :=
  by refine
      ⟨0, [], { wFlight 0 [] with logOpen := true },
        { wReady with host := { flights := [(0, { wFlight 0 [] with logOpen := true })] } }, ?_, ?_, ?_⟩ <;> decide +kernel

theorem wit_imageActivate_0 :
    ∃ (k : Nat) (bad : List Nat) (o : List PsOutcome) (f : Flight) (s : State), s.canStart k 0x43 = some f :=
  ⟨0, [], [], (wFlight 0x43 []), (wFly 0x43 []), by decide +kernel⟩

theorem wit_seqExchange_0 :
    ∃ (k : Nat) (f : Flight) (s : State), s.canStart k 0x44 = some f ∧ s.seqs.any (fun q => q.2.xch.isSome) = false :=
  by refine
      ⟨0, (wFlight 0x44 []), (wFly 0x44 []), ?_, ?_⟩ <;> decide +kernel

theorem wit_quietPoint_0 :
    ∃ (n : Nat) (x : Xch) (s : State), (s.sq n).xch = some x ∧ s.quietDue n = true :=
  by refine
      ⟨0, {}, (wSq wReady { st := 1, xch := some {} }), ?_, ?_⟩ <;> decide +kernel

theorem wit_quietTimeout_0 :
    ∃ (n : Nat) (x : Xch) (s : State), (s.sq n).xch = some x ∧ s.xchWaits n = true ∧ 1000 ≤ x.age :=
  by refine
      ⟨0, { age := 1000 }, (wSq wReady { st := 1, xch := some { age := 1000 } }), ?_, ?_, ?_⟩ <;> decide +kernel

theorem wit_entryTimeout_0 :
    ∃ (n : Nat) (x : Xch) (s : State), (s.sq n).xch = some x ∧ 100 ≤ x.age ∧ x.entry = true :=
  by refine
      ⟨0, { age := 100, entry := true }, (wSq wReady { st := 1, xch := some { age := 100, entry := true } }), ?_, ?_, ?_⟩ <;>
        decide +kernel

theorem wit_admissionDecision_0 :
    ∃ (s : State), s.st ≠ stRemoving ∧ s.rt.on = true ∧ s.works = true ∧ s.therm.stop = false :=
  by refine
      ⟨{ wReady with rt := { on := true } }, ?_, ?_, ?_, ?_⟩ <;> decide +kernel

theorem wit_admissionDecision_1 :
    ∃ (r : LReq) (l : List LReq) (s : State), s.st = stRemoving ∧ s.rt.reqs = r :: l :=
  by refine
      ⟨(.dec 0), [], { wUp stRemoving with rt := { reqs := [.dec 0] } }, ?_, ?_⟩ <;> decide +kernel

theorem wit_starve_0 :
    ∃ (i : Nat) (t : Nat) (o : DieOp) (s : State), s.dop? i = some o ∧ o.waitFrom = some t ∧ o.st = .granted ∧ o.blocking =
      false ∧ s.get F.RATION_WAIT_STARVE_US ≠ 0 ∧ s.get F.RATION_WAIT_STARVE_US ≤ s.clock - t ∧ (¬(s.covered (s.opCost o).1 =
      true ∧ s.huAnswer o = 2)) :=
  by refine
      ⟨0, 0, { ch := 0, kind := 0, die := 0, parts := [], st := .granted, waitFrom := some 0 }, (wLive (wOp wReady
        { ch := 0, kind := 0, die := 0, parts := [], st := .granted, waitFrom := some 0 }) 1000000), ?_, ?_, ?_, ?_, ?_, ?_,
        ?_⟩ <;> decide +kernel

theorem wit_huWaitTimeout_0 :
    ∃ (i : Nat) (t : Nat) (o : DieOp) (s : State), s.dop? i = some o ∧ o.huFrom = some t ∧ o.st = .granted ∧ s.aon.holdupOk =
      false ∧ s.get F.RATION_WAIT_HU_WAIT_MS ≠ 0 ∧ s.get F.RATION_WAIT_HU_WAIT_MS * 1000 ≤ s.clock - t :=
  by refine
      ⟨0, 0, { ch := 0, kind := 0, die := 0, parts := [], st := .granted, huFrom := some 0 },
        { wOp wReady { ch := 0, kind := 0, die := 0, parts := [], st := .granted, huFrom := some 0 } with clock := 100000000, aon := { holdupOk := false } },
        ?_, ?_, ?_, ?_, ?_, ?_⟩ <;> decide +kernel

theorem wit_completionPost_0 :
    ∃ (q : Nat) (c : Cpl) (l : List Cpl) (s : State), (s.qp q).ready.filter (fun c => !c.silent) = c :: l ∧ (s.qp q).st ≠
      .absent ∧ (s.qp q).bound = true ∧ ((s.qp q).cqTail + 1) % (s.qp q).cqDepth ≠ (s.qp q).cqHead ∧ s.qOpen 21 1 0 = true ∧
      s.hostCanSend
      { typ := 0x24, hdr := natLE 1 q ++ natLE 1 0 ++ natLE 2 (s.qp q).cqTail, payload := s.cplEntry q (s.qp q) c, addr := (s.qp q).base + 16 * (s.qp q).cqTail }
      = true ∧ s.qSound 21 = true :=
  by refine
      ⟨1, { flight := 0, tag := 0, status := 0, qual := 0, result := 0 }, [], (wAgl (wQp wReady
        { st := .active, bound := true, ready := [{ flight := 0, tag := 0, status := 0, qual := 0, result := 0 }] }) wL0), ?_,
        ?_, ?_, ?_, ?_, ?_, ?_⟩ <;> decide +kernel

theorem wit_commandTake_0 :
    ∃ (q : Nat) (k : Nat) (s : State), s.rmv.orderly = none ∧ s.intakeHeld = false ∧ s.roundWinner = some q ∧ s.freeFlight =
      some k ∧ s.qSound 22 = true ∧ s.qSound 37 = true :=
  by refine
      ⟨1, 0, (wQp wReady { st := .active, tail := 1, bound := true }), ?_, ?_, ?_, ?_, ?_, ?_⟩ <;> decide +kernel

theorem wit_commandTake_1 :
    ∃ (q : Nat) (k : Nat) (s : State), s.rmv.orderly = none ∧ s.intakeHeld = false ∧ s.roundWinner = some q ∧ s.freeFlight =
      some k ∧ s.qSound 22 = true ∧ s.qSound 37 = true ∧ (opAssisted (leAt (s.headCmd q) 0 1) = true → s.qCan 37 1 0 = true) :=
  by refine
      ⟨1, 0, (wQp wReady { st := .active, tail := 1, bound := true }), ?_, ?_, ?_, ?_, ?_, ?_, ?_⟩ <;> decide +kernel

theorem wit_cmdNop_0 :
    ∃ (k : Nat) (f : Flight) (s : State), s.canStart k 0x7F = some f :=
  ⟨0, (wFlight 0x7F []), (wFly 0x7F []), by decide +kernel⟩

theorem wit_mailboxTimeout_0 :
    ∃ (k : Nat) (f : Flight) (s : State), s.flight? k = some f ∧ f.mailbox = true ∧ 100000 ≤ s.clock - f.since :=
  by refine
      ⟨0, { wFlight 0 [] with mailbox := true },
        { wReady with clock := 100000, host := { flights := [(0, { wFlight 0 [] with mailbox := true })] } }, ?_, ?_, ?_⟩ <;>
        decide +kernel

theorem wit_submissionPortWrite_0 :
    ∃ (q : Nat) (data : List Byte) (s : State), (s.qp q).st ≠ .absent ∧ (s.qp q).st ≠ .deleting ∧ data.length = 64 ∧ ((s.qp
      q).fill + 1) % (s.qp q).sqDepth ≠ (s.qp q).head :=
  by refine
      ⟨1, (List.replicate 64 0), (wQp wReady { st := .active }), ?_, ?_, ?_, ?_⟩ <;> decide +kernel

theorem wit_submissionPortWrite_1 :
    ∃ (q : Nat) (off : Nat) (data : List Byte) (s : State), (s.qp q).st ≠ .absent ∧ (s.qp q).st ≠ .deleting ∧ (off ≠ 0 ∨
      data.length ≠ 64 ∨ ((s.qp q).fill + 1) % (s.qp q).sqDepth = (s.qp q).head) :=
  by refine
      ⟨1, 0, (List.replicate 64 0), (wQp wReady { st := .active, fill := 31 }), ?_, ?_, ?_⟩ <;> decide +kernel

theorem wit_sqDoorbell_0 :
    ∃ (q : Nat) (w : Word) (s : State), (s.qp q).st ≠ .absent ∧ (s.qp q).st ≠ .deleting ∧ w.toNat ≠ (s.qp q).tail ∧ w.toNat <
      (s.qp q).sqDepth ∧ ringAfter (s.qp q).sqDepth (s.qp q).tail (s.qp q).fill w.toNat = true :=
  by refine
      ⟨1, 2, (wQp wReady { st := .active, fill := 2 }), ?_, ?_, ?_, ?_, ?_⟩ <;> decide +kernel

theorem wit_sqDoorbell_1 :
    ∃ (q : Nat) (w : Word) (s : State), (s.qp q).st ≠ .absent ∧ (s.qp q).st ≠ .deleting ∧ w.toNat ≠ (s.qp q).tail ∧ (¬
      (w.toNat < (s.qp q).sqDepth ∧ ringAfter (s.qp q).sqDepth (s.qp q).tail (s.qp q).fill w.toNat = true)) :=
  by refine
      ⟨1, 3, (wQp wReady { st := .active, fill := 2 }), ?_, ?_, ?_, ?_⟩ <;> decide +kernel

theorem wit_cqHeadDoorbell_0 :
    ∃ (q : Nat) (w : Word) (s : State), (s.qp q).st ≠ .absent ∧ w.toNat < (s.qp q).cqDepth ∧ ringAfter (s.qp q).cqDepth (s.qp
      q).cqHead (s.qp q).cqTail w.toNat = true :=
  by refine
      ⟨1, 2, (wQp wReady { st := .active, cqTail := 2 }), ?_, ?_, ?_⟩ <;> decide +kernel

theorem wit_fcHoldExpiry_0 :
    ∃ (k : Nat) (s : State), s.st ≠ stRemoving :=
  ⟨0, wReady, by decide +kernel⟩

theorem wit_producerWrite_0 :
    ∃ (q : Nat) (prod : Nat) (data : List Byte) (user : Nat) (fl : Option Nat) (bufs : List Nat) (s : State), q < 48 ∧
      s.qSound q = true ∧ 0 < data.length ∧ data.length ≤ fqPW q ∧ (s.fq q).held.any (fun e => e.prod == prod) = false :=
  by refine
      ⟨0, 0, [1], 0, none, [], wReady, ?_, ?_, ?_, ?_, ?_⟩ <;> decide +kernel

theorem wit_producerFlush_0 :
    ∃ (q : Nat) (prod : Nat) (s : State), q < 48 :=
  ⟨0, 0, wReady, by decide +kernel⟩

theorem wit_packTimeout_0 :
    ∃ (q : Nat) (prod : Nat) (s : State), q < 48 ∧ s.reg 0xE40 ≠ 0 :=
  by refine
      ⟨0, 0, (wReady.setReg 0xE40 1), ?_, ?_⟩ <;> decide +kernel

theorem wit_consumerRead_0 :
    ∃ (q : Nat) (e : FqEntry) (l : List FqEntry) (s : State), q < 48 ∧ s.qSound q = true ∧ (s.fq q).ring = e :: l ∧ (s.fq
      q).vis ≠ 0 ∧ e.work = .none :=
  by refine
      ⟨0, _, _, (wReady.qPut 0 {}), ?_, ?_, consEq ?_, ?_, ?_⟩ <;> decide +kernel

theorem wit_consumerRead_1 :
    ∃ (q : Nat) (s : State), q < 48 ∧ s.qSound q = true ∧ s.qWork q ≠ .none :=
  by refine
      ⟨10, (wQ wReady 10 (.cw 0)), ?_, ?_, ?_⟩ <;> decide +kernel

theorem wit_fqCommit_0 :
    ∃ (q : Nat) (s : State), q < 48 ∧ s.qSound q = true ∧ fqMode q = 1 ∧ (s.fq q).parts = [] :=
  by refine
      ⟨10, wReady, ?_, ?_, ?_, ?_⟩ <;> decide +kernel

theorem wit_fqRewind_0 :
    ∃ (q : Nat) (s : State), q < 48 ∧ s.qSound q = true ∧ fqMode q = 1 :=
  by refine
      ⟨10, wReady, ?_, ?_, ?_⟩ <;> decide +kernel

theorem wit_fqOpen_0 :
    ∃ (q : Nat) (s : State), q < 48 ∧ s.qSound q = true ∧ fqMode q = 2 ∧ (s.fq q).slotOpen = false ∧ (s.fq q).credits q 0 ≠ 0 :=
  by refine
      ⟨42, wReady, ?_, ?_, ?_, ?_, ?_⟩ <;> decide +kernel

theorem wit_fqOpen_1 :
    ∃ (q : Nat) (s : State), q < 48 ∧ s.qSound q = true ∧ fqMode q = 2 ∧ (s.fq q).slotOpen = true :=
  by refine
      ⟨42, (wFqs 42 { slotOpen := true }), ?_, ?_, ?_, ?_⟩ <;> decide +kernel

theorem wit_fqClose_0 :
    ∃ (q : Nat) (len : Nat) (s : State), q < 48 ∧ s.qSound q = true ∧ fqMode q = 2 ∧ (s.fq q).slotOpen = true ∧ (s.fq q).parts
      = [] :=
  by refine
      ⟨42, 0, (wFqs 42 { slotOpen := true }), ?_, ?_, ?_, ?_, ?_⟩ <;> decide +kernel

theorem wit_spillRequest_0 :
    ∃ (q : Nat) (l : List Nat) (s : State) (s1 : State), fqSpill q = true ∧ fqDepth q - (s.fq q).ring.length - (s.fq
      q).parts.length ≤ 8 ∧ (s.fq q).bufs.length < s.spillCfg q ∧ (s.fq q).spillOpen q = 0 ∧ s.hmpRequest 7 1 false false =
      (.granted l, s1) :=
  by refine
      ⟨37, [2048], (wFqs 37 { ring := List.replicate 30 {} }), _, ?_, ?_, ?_, ?_, pairEq ?_⟩ <;> decide +kernel

theorem wit_allocRequest_0 :
    ∃ (owner : Nat) (n : Nat) (chain : Bool) (wait : Bool) (s : State) (s1 : State) (g : List Nat), owner ≤ 0x0D ∧ 1 ≤ n ∧ n ≤
      16 ∧ (chain = true → 2 ≤ n) ∧ s.hmpRequest owner n chain wait = (.granted g, s1) :=
  by refine
      ⟨0, 1, false, false, wReady, _, [2048], ?_, ?_, ?_, ?_, pairEq ?_⟩ <;> decide +kernel

theorem wit_referenceRelease_0 :
    ∃ (r : Nat) (who : Nat) (ecc : Nat) (s : State), s.refOk r = false :=
  ⟨0, 0, 0, wReady, by decide +kernel⟩

theorem wit_referenceRelease_1 :
    ∃ (r : Nat) (who : Nat) (ecc : Nat) (s : State), s.refOk r = true :=
  ⟨0, 0, 0, (wHeld wReady), by decide +kernel⟩

theorem wit_auditScan_0 :
    ∃ (corr : Nat) (s : State), s.get F.AUDIT_CFG_PERIOD ≠ 0 :=
  ⟨0, (wReady.set F.AUDIT_CFG_PERIOD 1), by decide +kernel⟩

theorem wit_programRaw_0 :
    ∃ (k : Nat) (f : Flight) (s : State), s.canStart k 0x10 = some f ∧ s.rawCheck (rawAddr f.bytes).1 (rawAddr f.bytes).2.1
      (rawAddr f.bytes).2.2 (leAt f.bytes 19 1) (s.diePar (rawAddr f.bytes).1 (rawAddr f.bytes).2.1).tprog (bit (leAt f.bytes
      18 1) 1) = none ∧ (bit (leAt f.bytes 18 1) 0 = true ∨ s.guardAllows (rawAddr f.bytes).1 (rawAddr f.bytes).2.1 ((rawAddr
      f.bytes).2.2 - (rawAddr f.bytes).2.2 % (s.die (rawAddr f.bytes).1 (rawAddr f.bytes).2.1).pages) ((rawAddr f.bytes).2.2 %
      (s.die (rawAddr f.bytes).1 (rawAddr f.bytes).2.1).pages) = true) ∧ f.got = leAt f.bytes 19 1 * s.rawPage f ∧ s.qOpen 1 1
      0 = true :=
  by refine
      ⟨0, (wFlight 0x10 [(18, 1)]), { wFlyD 0x10 [(18, 1)] wDie with host := { flights := [(0, wFlight 0x10 [(18, 1)])] } },
        ?_, ?_, ?_, ?_, ?_⟩ <;> decide +kernel

theorem wit_eraseRaw_0 :
    ∃ (k : Nat) (f : Flight) (s : State), s.canStart k 0x11 = some f ∧ s.rawCheck (rawAddr f.bytes).1 (rawAddr f.bytes).2.1
      (rawAddr f.bytes).2.2 1 (s.diePar (rawAddr f.bytes).1 (rawAddr f.bytes).2.1).tbers false = none ∧ (rawAddr f.bytes).2.2
      % (s.die (rawAddr f.bytes).1 (rawAddr f.bytes).2.1).pages = 0 ∧ s.qOpen 1 1 0 = true :=
  by refine
      ⟨0, (wFlight 0x11 []), (wFlyD 0x11 [] wDie), ?_, ?_, ?_, ?_⟩ <;> decide +kernel

theorem wit_readRaw_0 :
    ∃ (k : Nat) (f : Flight) (s : State) (s0 : State), s.canStart k 0x02 = some f ∧ (s.die (rawAddr f.bytes).1 (rawAddr
      f.bytes).2.1).state = 1 ∧ (s.die (rawAddr f.bytes).1 (rawAddr f.bytes).2.1).rowOk (rawAddr f.bytes).2.2 = true ∧ leAt
      f.bytes 18 1 % 4 ≠ 0 ∧ leAt f.bytes 24 4 + leAt f.bytes 28 4 ≤ (s.die (rawAddr f.bytes).1 (rawAddr
      f.bytes).2.1).pageBytes ∧ s.regionOk (rawAddr f.bytes).1 ((s.die (rawAddr f.bytes).1 (rawAddr f.bytes).2.1).blockOf
      (rawAddr f.bytes).2.2) false = true ∧ s.qOpen 1 1 0 = true ∧ s.getBufs 8 k (moves (leAt f.bytes 28 4)) = (true, s0) :=
  by refine
      ⟨0, (wFlight 0x02 [(18, 1), (28, 16)]), (wFlyD 0x02 [(18, 1), (28, 16)] wDie), _, ?_, ?_, ?_, ?_, ?_, ?_, ?_, pairEq ?_⟩
        <;> decide +kernel

theorem wit_readRaw_1 :
    ∃ (k : Nat) (f : Flight) (s : State) (s0 : State), s.canStart k 0x02 = some f ∧ (s.die (rawAddr f.bytes).1 (rawAddr
      f.bytes).2.1).state = 1 ∧ (s.die (rawAddr f.bytes).1 (rawAddr f.bytes).2.1).rowOk (rawAddr f.bytes).2.2 = true ∧ leAt
      f.bytes 18 1 % 4 = 0 ∧ leAt f.bytes 24 4 + leAt f.bytes 28 4 ≤ 4096 * (s.layout (s.die (rawAddr f.bytes).1 (rawAddr
      f.bytes).2.1).cls).2 ∧ s.layoutOk (s.die (rawAddr f.bytes).1 (rawAddr f.bytes).2.1).cls = true ∧ s.regionOk (rawAddr
      f.bytes).1 ((s.die (rawAddr f.bytes).1 (rawAddr f.bytes).2.1).blockOf (rawAddr f.bytes).2.2) false = true ∧ s.qOpen 1 1
      0 = true ∧ s.getBufs 8 k (moves (leAt f.bytes 28 4)) = (true, s0) :=
  by refine
      ⟨0, (wFlight 0x02 [(28, 16)]), (wFlyD 0x02 [(28, 16)] wDie), _, ?_, ?_, ?_, ?_, ?_, ?_, ?_, ?_, pairEq ?_⟩ <;>
        decide +kernel

theorem wit_dieOpEnd_0 :
    ∃ (n : Nat) (x : Nat) (passed : Bool) (data : List (List Byte)) (v : OutSlot) (o : DieOp) (s : State), s.qSound (10 + n %
      8) = true ∧ s.slot? n x = some v ∧ s.dop? v.op = some o ∧ v.started.isSome = true ∧ s.qOpen 34 1 n = true ∧ o.reads =
      false :=
  by refine
      ⟨0, 0, false, [], { op := 0, started := some 0 }, { ch := 0, kind := 1, die := 0, parts := [] }, (wOp (wSq wReady
        { st := 1, slots := [(0, { op := 0, started := some 0 })] }) { ch := 0, kind := 1, die := 0, parts := [] }), ?_, ?_,
        ?_, ?_, ?_, ?_⟩ <;> decide +kernel

theorem wit_schedulingDecision_0 :
    ∃ (n : Nat) (s : State), n < 8 ∧ s.works = true ∧ s.therm.stop = false ∧ s.chHold n = false ∧ (s.chan n).training = false
      ∧ s.tpHolds n = false :=
  by refine
      ⟨0, wReady, ?_, ?_, ?_, ?_, ?_, ?_⟩ <;> decide +kernel

theorem wit_suspendDecision_0 :
    ∃ (n : Nat) (i : Nat) (j : Nat) (o : DieOp) (r : DieOp) (s : State), s.chOps n = [(i, o), (j, r)] ∧ s.shouldSuspend o =
      true ∧ r.reads = true ∧ r.suspended = false :=
  by refine
      ⟨0, 0, 1, { ch := 0, kind := 1, die := 0, parts := [], started := some 0 },
        { ch := 0, kind := 0, die := 0, parts := [], prioFix := 7 },
        { wChan (wReady.set (F.CH_SUSP_SUSP_EN 0) 1) 0 { bundle := some 0 } with clock := 100000, dops := [(0, { ch := 0, kind := 1, die := 0, parts := [], started := some 0 }), (1, { ch := 0, kind := 0, die := 0, parts := [], prioFix := 7 })] },
        ?_, ?_, ?_, ?_⟩ <;> decide +kernel

theorem wit_suspendDecision_1 :
    ∃ (n : Nat) (i : Nat) (o : DieOp) (s : State), s.chOps n = [(i, o)] ∧ s.shouldSuspend o = false ∧ s.shouldResume o = true :=
  by refine
      ⟨0, 0, { ch := 0, kind := 1, die := 0, parts := [], started := some 0, suspended := true }, (wOp wReady
        { ch := 0, kind := 1, die := 0, parts := [], started := some 0, suspended := true }), ?_, ?_, ?_⟩ <;> decide +kernel

theorem wit_dieTimeout_0 :
    ∃ (i : Nat) (t : Nat) (o : DieOp) (s : State), s.dop? i = some o ∧ o.started = some t ∧ o.suspended = false ∧ 2 * s.opMax
      o + o.susTime ≤ s.clock - t ∧ (s.die o.ch o.die).lunReset = true :=
  by refine
      ⟨0, 0, { ch := 0, kind := 1, die := 0, parts := [], started := some 0 }, (wLive (wOp (wChan wReady 0
        { dies := [(0, { wDie with lunReset := true })] }) { ch := 0, kind := 1, die := 0, parts := [], started := some 0 })
        1000000000), ?_, ?_, ?_, ?_, ?_⟩ <;> decide +kernel

theorem wit_codewordTake_0 :
    ∃ (n : Nat) (c : Nat) (e : Nat) (w : Cw) (s : State), n < 8 ∧ s.qSound (10 + n) = true ∧ s.codecTakes = true ∧
      s.codecTurnOk n = true ∧ s.qWork (10 + n) = .cw c ∧ s.cw? c = some w ∧ s.hardEngine = some e ∧ w.phase = .landed ∧
      w.pass = 0 ∧ s.codecHold = false ∧ s.retryChainOk = true ∧ s.chainStale w.buf 2 = none ∧ w.soft = 0 ∧ w.step ≠ 0 :=
  by refine
      ⟨0, 0, 2, { wCw .cal with step := 1, phase := .landed, buf := 0 }, (wHeld2
        { wFull with cws := [(0, { wCw .cal with step := 1, phase := .landed, buf := 0 })] }), ?_, ?_, ?_, ?_, ?_, ?_, ?_, ?_,
        ?_, ?_, ?_, ?_, ?_, ?_⟩ <;> decide +kernel

theorem wit_codewordTake_1 :
    ∃ (n : Nat) (c : Nat) (e : Nat) (w : Cw) (s : State), n < 8 ∧ s.qSound (10 + n) = true ∧ s.codecTakes = true ∧
      s.codecTurnOk n = true ∧ s.qWork (10 + n) = .cw c ∧ s.cw? c = some w ∧ s.hardEngine = some e ∧ w.phase = .landed ∧
      w.pass = 0 ∧ s.codecHold = false ∧ s.retryChainOk = true ∧ s.chainStale w.buf 2 = none ∧ w.soft = 0 ∧ w.step = 0 :=
  by refine
      ⟨0, 0, 2, { wCw .cal with phase := .landed, buf := 0 }, (wHeld2
        { wFull with cws := [(0, { wCw .cal with phase := .landed, buf := 0 })] }), ?_, ?_, ?_, ?_, ?_, ?_, ?_, ?_, ?_, ?_,
        ?_, ?_, ?_, ?_⟩ <;> decide +kernel

theorem wit_decodeEnd_0 :
    ∃ (e : Nat) (iter : Nat) (unsat : Nat) (c : Nat) (w : Cw) (s : State), s.qSound 18 = true ∧ s.qSound 35 = true ∧
      s.cws.find? (fun p => p.2.phase == .busy e) = some (c, w) ∧ w.softRefs = [] :=
  by refine
      ⟨0, 0, 0, 0, { wCw .cal with phase := .busy 0 }, { wReady with cws := [(0, { wCw .cal with phase := .busy 0 })] }, ?_,
        ?_, ?_, ?_⟩ <;> decide +kernel

theorem wit_decodeEnd_1 :
    ∃ (e : Nat) (iter : Nat) (unsat : Nat) (c : Nat) (x : List Byte) (w : Cw) (s : State), s.qSound 18 = true ∧ s.qSound 35 =
      true ∧ s.cws.find? (fun p => p.2.phase == .busy e) = some (c, w) ∧ w.softRefs = [] :=
  by refine
      ⟨0, 0, 0, 0, [], { wCw .cal with phase := .busy 0 }, { wReady with cws := [(0, { wCw .cal with phase := .busy 0 })] },
        ?_, ?_, ?_, ?_⟩ <;> decide +kernel

theorem wit_codecEncode_0 :
    ∃ (k : Nat) (i : Nat) (f : Flight) (g : List Nat) (s : State) (s1 : State), s.flight? k = some f ∧ leAt f.bytes 0 1 = 0x10
      ∧ f.run = true ∧ f.fails = 0 ∧ f.phase ≠ .ready ∧ i < leAt f.bytes 19 1 ∧ f.sent = i ∧ s.qOpen 25 1 0 = true ∧ s.opStall
      true = false ∧ s.hmpRequest 3 (moves (s.die (rawAddr f.bytes).1 (rawAddr f.bytes).2.1).pageBytes) (decide (2 ≤ moves
      (s.die (rawAddr f.bytes).1 (rawAddr f.bytes).2.1).pageBytes)) false = (.granted g, s1) :=
  by refine
      ⟨0, 0, { wFlight 0x10 [(19, 1)] with run := true }, [2048, 2049, 2050, 2051],
        { wChan wReady 0 { dies := [(0, wDie)] } with host := { flights := [(0, { wFlight 0x10 [(19, 1)] with run := true })] } },
        _, ?_, ?_, ?_, ?_, ?_, ?_, ?_, ?_, ?_, pairEq ?_⟩ <;> decide +kernel

theorem wit_mapTranslate_0 :
    ∃ (k : Nat) (i : Nat) (f : Flight) (s : State) (s1 : State), s.qSound 1 = true ∧ s.flight? k = some f ∧ leAt f.bytes 0 1 =
      0x01 ∧ s.qWork 1 = .alb k ∧ f.run = true ∧ f.phase ≠ .ready ∧ i < leAt f.bytes 24 2 ∧ (List.range (i + 1)).map (fun j =>
      f.units.any (fun u => u.1 == j)) = List.replicate i true ++ [false] ∧ s.opStall false = false ∧ s.faultFull (.host k i)
      = false ∧ (s.setFlight k { f with units := tput f.units i 1 }).lookup (leAt f.bytes 16 1 % 16) (f.localAlb i) (.host k
      i) = some s1 :=
  by refine
      ⟨0, 0, { wFlight 0x01 [(24, 1)] with run := true }, (wQ
        { wReady with host := { flights := [(0, { wFlight 0x01 [(24, 1)] with run := true })] } } 1 (.alb 0)), _, ?_, ?_, ?_,
        ?_, ?_, ?_, ?_, ?_, ?_, ?_, getEq ?_⟩ <;> decide +kernel

theorem wit_mapFaultDone_0 :
    ∃ (c : Nat) (w : Cw) (s : State), s.qSound 35 = true ∧ s.qWork 35 = .cw c ∧ s.opStall false = false ∧ s.qCan 36
      (((s.map.faults.find? (fun f => f.cw == c)).map MapFault.streamWaits).getD 0) 0 = true ∧ ((s.qTake 35).cwFlush).cw? c =
      some w :=
  by refine
      ⟨0, (wCw .cal), (wQ { wReady with cws := [(0, wCw .cal)] } 35 (.cw 0)), ?_, ?_, ?_, ?_, ?_⟩ <;> decide +kernel

theorem wit_mapWrite_0 :
    ∃ (k : Nat) (f : Flight) (s : State), s.canStart k 0x12 = some f ∧ f.got = 8 * leAt f.bytes 24 2 ∧ s.qOpen 1 1 0 = true ∧
      s.mapWriteCheck f = none :=
  by refine
      ⟨0, (wFlight 0x12 []), ((wVol (wFly 0x12 [])).set F.VOL_CFG_MODE 1), ?_, ?_, ?_, ?_⟩ <;> decide +kernel

theorem wit_mapFlush_0 :
    ∃ (k : Nat) (f : Flight) (s : State), s.canStart k 0x13 = some f ∧ s.qOpen 1 1 0 = true ∧ bit (leAt f.bytes 16 1) 7 = true :=
  by refine
      ⟨0, (wFlight 0x13 [(16, 0x80)]), (wFly 0x13 [(16, 0x80)]), ?_, ?_, ?_⟩ <;> decide +kernel

theorem wit_mapFlush_1 :
    ∃ (k : Nat) (f : Flight) (s : State), s.canStart k 0x13 = some f ∧ s.qOpen 1 1 0 = true ∧ bit (leAt f.bytes 16 1) 7 =
      false ∧ s.isContent (leAt f.bytes 16 1 % 16) = true :=
  by refine
      ⟨0, (wFlight 0x13 []), (wVol (wFly 0x13 [])), ?_, ?_, ?_, ?_⟩ <;> decide +kernel

theorem wit_readAlb_0 :
    ∃ (k : Nat) (f : Flight) (s : State) (s0 : State), s.canStart k 0x01 = some f ∧ s.isContent (leAt f.bytes 16 1 % 16) =
      true ∧ leAt f.bytes 20 4 + leAt f.bytes 24 2 ≤ s.globalLen (leAt f.bytes 16 1 % 16) ∧ s.localVol (leAt f.bytes 16 1 %
      16) = true ∧ s.noKey (leAt f.bytes 16 1 % 16) = false ∧ s.qCan 1 1 0 = true ∧ s.qOpen 23 1 0 = true ∧
      (let st := (List.range (leAt f.bytes 24 2)).foldl (fun (u : State) i => u.residentTidy (leAt f.bytes 16 1 % 16) (leAt f.bytes 20 4 + i)) s;
      st.getBufs 8 k (leAt f.bytes 24 2 - ((List.range (leAt f.bytes 24 2)).filter (fun i => ((st.residentAt (leAt f.bytes 16
      1 % 16) (leAt f.bytes 20 4 + i)).bind (fun t => (st.stream t).bufOf (leAt f.bytes 20 4 + i))).any (fun r => decide
      ((st.hbuf (refBuf r)).ref < 15)))).length)) = (true, s0) :=
  by refine
      ⟨0, (wFlight 0x01 [(20, 7), (24, 1)]), (wVol (wFly 0x01 [(20, 7), (24, 1)])), _, ?_, ?_, ?_, ?_, ?_, ?_, ?_, pairEq ?_⟩
        <;> decide +kernel

theorem wit_xtsDecrypt_0 :
    ∃ (c : Nat) (w : Cw) (s : State), s.qSound 18 = true ∧ s.qWork 18 = .cw c ∧ s.cw? c = some w ∧ s.secureCan w = true :=
  by refine
      ⟨0, (wCw (.host 0 0)), (wQ { wReady with cws := [(0, wCw (.host 0 0))] } 18 (.cw 0)), ?_, ?_, ?_, ?_⟩ <;> decide +kernel

theorem wit_frameDecompress_0 :
    ∃ (j : Nat) (v : FrameJob) (b : Nat) (s : State), s.map.frames.find? (fun p => p.1 == j) = some (j, v) ∧ v.ready = true ∧
      s.contexts.contains j = true ∧ s.frameCan v = true ∧ s.frameAwaits v = false ∧ v.bad = some b :=
  by refine
      ⟨0, { vol := 0, alb := 0, n := 0, bad := some 0 }, 0,
        { wReady with map := { frames := [(0, { vol := 0, alb := 0, n := 0, bad := some 0 })] } }, ?_, ?_, ?_, ?_, ?_, ?_⟩ <;>
        decide +kernel

theorem wit_frameDecompress_1 :
    ∃ (j : Nat) (v : FrameJob) (s : State), s.map.frames.find? (fun p => p.1 == j) = some (j, v) ∧ v.ready = true ∧
      s.contexts.contains j = true ∧ s.frameCan v = true ∧ s.frameAwaits v = false ∧ v.bad = none :=
  by refine
      ⟨0, { vol := 0, alb := 0, n := 0 }, { wReady with map := { frames := [(0, { vol := 0, alb := 0, n := 0 })] } }, ?_, ?_,
        ?_, ?_, ?_, ?_⟩ <;> decide +kernel

theorem wit_streamOpen_0 :
    ∃ (k : Nat) (t : Nat) (f : Flight) (s : State), s.canStart k 0x03 = some f ∧ s.isContent (leAt f.bytes 16 1 % 16) = true ∧
      s.noKey (leAt f.bytes 16 1 % 16) = false ∧ leAt f.bytes 20 4 + leAt f.bytes 24 4 ≤ s.globalLen (leAt f.bytes 16 1 % 16)
      ∧ leAt f.bytes 20 4 < s.globalLen (leAt f.bytes 16 1 % 16) ∧ leAt f.bytes 24 4 ≠ 0xFFFFFFFF ∧ (List.range 32).find? (fun
      t => (s.stream t).state == 0) = some t :=
  by refine
      ⟨0, 0, (wFlight 0x03 []), (wVol (wFly 0x03 [])), ?_, ?_, ?_, ?_, ?_, ?_, ?_⟩ <;> decide +kernel

theorem wit_streamCredit_0 :
    ∃ (k : Nat) (f : Flight) (s : State), s.canStart k 0x04 = some f ∧ (s.stream (leAt f.bytes 16 1 % 32)).state ≠ 0 :=
  by refine
      ⟨0, (wFlight 0x04 []), { wFly 0x04 [] with map := { streams := [(0, { state := 1 })] } }, ?_, ?_⟩ <;> decide +kernel

theorem wit_streamClose_0 :
    ∃ (k : Nat) (f : Flight) (s : State), s.canStart k 0x05 = some f ∧ (s.stream (leAt f.bytes 16 1 % 32)).state ≠ 0 ∧
      (s.stream (leAt f.bytes 16 1 % 32)).closing = none :=
  by refine
      ⟨0, (wFlight 0x05 []), { wFly 0x05 [] with map := { streams := [(0, { state := 1 })] } }, ?_, ?_, ?_⟩ <;> decide +kernel

theorem wit_prefetchIssue_0 :
    ∃ (t : Nat) (s : State), (s.stream t).state = 1 ∧ (s.stream t).closing = none ∧ (s.stream t).next < min ((s.stream t).w +
      (s.stream t).depth) (s.stream t).stop ∧ s.works = true ∧ s.therm.stop = false ∧ s.streamsHold = false ∧ (s.stream
      t).flying.contains (s.stream t).next = true :=
  by refine
      ⟨0, (wStr { state := 1, depth := 4, stop := 8, flying := [0] }), ?_, ?_, ?_, ?_, ?_, ?_, ?_⟩ <;> decide +kernel

theorem wit_prefetchIssue_1 :
    ∃ (t : Nat) (r : Nat) (s : State) (s1 : State) (s3 : State), (s.stream t).state = 1 ∧ (s.stream t).closing = none ∧
      (s.stream t).next < min ((s.stream t).w + (s.stream t).depth) (s.stream t).stop ∧ s.works = true ∧ s.therm.stop = false
      ∧ s.streamsHold = false ∧ (s.stream t).flying.contains (s.stream t).next = false ∧ (s.stream t).resident.any (fun x =>
      x.1 == (s.stream t).next) = false ∧ (s.stream t).flying.length < s.get F.STR_CFG_PF_MAX ∧ s.opStall false = false ∧
      s.qCan 36 1 0 = true ∧ (s.stream t).bufOf (s.stream t).next = none ∧ s.hmpRequest 6 1 false false = (.granted [r], s1) ∧
      (s1.setStream t
      { s.stream t with next := (s.stream t).next + 1, flying := (s.stream t).flying ++ [(s.stream t).next], bufs := tput (s.stream t).bufs (s.stream t).next r }).prefetchSend
      t (s.stream t).vol (s.stream t).next = some s3 :=
  by refine
      ⟨0, 2048, (wStr { state := 1, depth := 4, stop := 8 }), _, _, ?_, ?_, ?_, ?_, ?_, ?_, ?_, ?_, ?_, ?_, ?_, ?_, pairEq ?_,
        getEq ?_⟩ <;> decide +kernel

theorem wit_streamResident_0 :
    ∃ (x : Arrival) (s : State), s.qSound 36 = true ∧ s.qWork 36 = .arrival x :=
  by refine
      ⟨{ t := 0, a := 0, st := 0 }, (wQ (wStr { state := 1, depth := 4, stop := 8, bufs := [(0, 0)] }) 36 (.arrival
        { t := 0, a := 0, st := 0 })), ?_, ?_⟩ <;> decide +kernel

theorem wit_streamPush_0 :
    ∃ (t : Nat) (a : Nat) (data : List Byte) (i : TxItem) (l : List TxItem) (s : State), (s.stream t).resident.find? (fun x =>
      x.1 == (s.stream t).w) = some (a, data) ∧ (s.stream t).state = 1 ∧ (s.stream t).credit ≠ 0 ∧ (s.stream t).closing = none
      ∧ s.works = true ∧ s.streamsHold = false ∧ ((s.stream t).bufOf (s.stream t).w).any s.refOk = true ∧ (s.stream t).xadm =
      true ∧ s.qOpen 23 1 0 = true ∧ s.pushItems t (s.stream t) data = i :: l ∧ s.hostCanSend i = true :=
  by refine
      ⟨0, 0, [1, 2, 3, 4], _, _, (wHeld (wAgl (wStr
        { state := 1, depth := 4, stop := 8, credit := 1, resident := [(0, [1, 2, 3, 4])], bufs := [(0, 0)], xadm := true })
        wL0)), ?_, ?_, ?_, ?_, ?_, ?_, ?_, ?_, ?_, consEq ?_, ?_⟩ <;> decide +kernel

theorem wit_streamPush_1 :
    ∃ (t : Nat) (a : Nat) (data : List Byte) (s : State), (s.stream t).resident.find? (fun x => x.1 == (s.stream t).w) = some
      (a, data) ∧ (s.stream t).state = 1 ∧ (s.stream t).credit ≠ 0 ∧ (s.stream t).closing = none ∧ s.works = true ∧
      s.streamsHold = false ∧ ((s.stream t).bufOf (s.stream t).w).any s.refOk = true ∧ (s.stream t).xadm = false :=
  by refine
      ⟨0, 0, [1, 2, 3, 4], (wHeld (wAgl (wStr
        { state := 1, depth := 4, stop := 8, credit := 1, resident := [(0, [1, 2, 3, 4])], bufs := [(0, 0)] }) wL0)), ?_, ?_,
        ?_, ?_, ?_, ?_, ?_, ?_⟩ <;> decide +kernel

theorem wit_authBegin_0 :
    ∃ (k : Nat) (f : Flight) (ok : Bool) (s : State), s.canStart k 0x20 = some f ∧ leAt f.bytes 20 4 = 400 ∧ leAt f.bytes 24 4
      = 168 ∧ f.got = 400 ∧ s.secOpen = true :=
  by refine
      ⟨0, { wFlight 0x20 [(20, 0x90), (21, 1), (24, 168)] with got := 400 }, false,
        { wReady with host := { flights := [(0, { wFlight 0x20 [(20, 0x90), (21, 1), (24, 168)] with got := 400 })] } }, ?_,
        ?_, ?_, ?_, ?_⟩ <;> decide +kernel

theorem wit_authFinish_0 :
    ∃ (k : Nat) (f : Flight) (s : State), s.canStart k 0x21 = some f ∧ leAt f.bytes 20 4 = 96 ∧ leAt f.bytes 24 4 = 256 ∧
      f.got = 96 ∧ s.secOpen = true ∧ (s.session (leAt f.bytes 16 1 % 4)).st = 1 ∧ s.get F.AUTH_CFG_AUTH_TMO = 0 :=
  by refine
      ⟨0, { wFlight 0x21 [(20, 96), (25, 1)] with got := 96 },
        { wReady.set F.AUTH_CFG_AUTH_TMO 0 with host := { flights := [(0, { wFlight 0x21 [(20, 96), (25, 1)] with got := 96 })] }, prot := { sessions := [(0, { st := 1 })] } },
        ?_, ?_, ?_, ?_, ?_, ?_, ?_⟩ <;> decide +kernel

theorem wit_authFinish_1 :
    ∃ (k : Nat) (f : Flight) (ok : Bool) (s : State), s.canStart k 0x21 = some f ∧ leAt f.bytes 20 4 = 96 ∧ leAt f.bytes 24 4
      = 256 ∧ f.got = 96 ∧ s.secOpen = true ∧ (s.session (leAt f.bytes 16 1 % 4)).st ≠ 1 :=
  by refine
      ⟨0, { wFlight 0x21 [(20, 96), (25, 1)] with got := 96 }, false,
        { wReady with host := { flights := [(0, { wFlight 0x21 [(20, 96), (25, 1)] with got := 96 })] } }, ?_, ?_, ?_, ?_, ?_,
        ?_⟩ <;> decide +kernel

theorem wit_keyLoad_0 :
    ∃ (k : Nat) (f : Flight) (s : State), s.canStart k 0x22 = some f ∧ leAt f.bytes 20 4 = 404 ∧ f.got = 404 ∧ s.secOpen =
      true ∧ leAt (f.dataBytes 404) 0 1 < 4 ∧ leAt (f.dataBytes 404) 1 3 = 0 ∧ s.isContent (leAt f.bytes 16 1 % 16) = true :=
  by refine
      ⟨0, { wFlight 0x22 [(20, 0x94), (21, 1)] with got := 404 },
        { wVol wReady with host := { flights := [(0, { wFlight 0x22 [(20, 0x94), (21, 1)] with got := 404 })] } }, ?_, ?_, ?_,
        ?_, ?_, ?_, ?_⟩ <;> decide +kernel

theorem wit_imprintCheck_0 :
    ∃ (k : Nat) (f : Flight) (s : State), s.canStart k 0x23 = some f ∧ bit (leAt f.bytes 16 1) 0 = false ∧ s.prot.job = none ∧
      s.secOpen = true ∧ 2 ≤ s.lifecycle :=
  by refine
      ⟨0, (wFlight 0x23 []), { wFly 0x23 [] with keep := { otp := [(384, 2)] } }, ?_, ?_, ?_, ?_, ?_⟩ <;> decide +kernel

theorem wit_imprintEnrol_0 :
    ∃ (k : Nat) (o : List PsOutcome) (f : Flight) (s : State) (all : List (Nat × Nat)), s.canStart k 0x23 = some f ∧ bit (leAt
      f.bytes 16 1) 0 = true ∧ s.prot.job = none ∧ s.secOpen = true ∧ s.enrolCheck (leAt f.bytes 20 1) = none ∧ all = (setBits
      (leAt f.bytes 20 1) 8).flatMap (fun n => (s.diesInUse n).map (fun d => (n, d))) ∧ all ≠ [] ∧ (all.take 64).any (fun d =>
      decide ((s.die d.1 d.2).pageBytes < 8192) || s.impOverlap d) = false :=
  by refine
      ⟨0, [], (wFlight 0x23 [(16, 1), (20, 1)]), { wFlyD 0x23 [(16, 1), (20, 1)] wDie with keep := { otp := [(384, 1)] } }, _,
        ?_, ?_, ?_, ?_, ?_, rfl, ?_, ?_⟩ <;> decide +kernel

theorem wit_imprintEnrol_1 :
    ∃ (k : Nat) (o : List PsOutcome) (j : ImpJob) (s : State), s.canStart k 0x23 = none ∧ s.prot.job = some j ∧ j.flight = k ∧
      j.enrol = true ∧ (j.failed = true ∨ j.swept [0, 1] = true) ∧ s.dops.all (fun p => !s.opServes k p.2) = true :=
  by refine
      ⟨0, [], { flight := 0, enrol := true, dies := [], failed := true },
        { wReady with prot := { job := some { flight := 0, enrol := true, dies := [], failed := true } } }, ?_, ?_, ?_, ?_,
        ?_, ?_⟩ <;> decide +kernel

set_option maxRecDepth 100000 in
theorem wit_counterInc_0 :
    ∃ (k : Nat) (o : List PsOutcome) (f : Flight) (s : State) (s3 : State), s.canStart k 0x24 = some f ∧ s.kmemOpen = true ∧
      s.prot.sessions.all (fun p => !(p.2.st == 2 && bit p.2.flags 2)) = false ∧ s.ctrValue (leAt f.bytes 16 1 % 16) ≠ 2 ^ 64
      - 1 ∧ (((((s.startRun k f).kmemAsk k).kmemTell k).logStarted k).withPs o).psWrite (0x83400 + 32 * (leAt f.bytes 16 1 %
      16) + 16 * s.ctrTarget (leAt f.bytes 16 1 % 16)) (natLE 8 (s.ctrValue (leAt f.bytes 16 1 % 16) + 1) ++ natLE 4 (crc32
      (natLE 8 (s.ctrValue (leAt f.bytes 16 1 % 16) + 1))) ++ natLE 4 0) = (true, s3) :=
  by refine
      ⟨0, [], (wFlight 0x24 []), { wFly 0x24 [] with prot := { sessions := [(0, { st := 2, flags := 4 })] } }, _, ?_, ?_, ?_,
        ?_, pairEq ?_⟩ <;> decide +kernel

set_option maxRecDepth 100000 in
theorem wit_counterInc_1 :
    ∃ (k : Nat) (o : List PsOutcome) (f : Flight) (s : State), s.canStart k 0x24 = some f ∧ s.kmemOpen = true ∧
      s.prot.sessions.all (fun p => !(p.2.st == 2 && bit p.2.flags 2)) = true :=
  by refine
      ⟨0, [], (wFlight 0x24 []), (wFly 0x24 []), ?_, ?_, ?_⟩ <;> decide +kernel

theorem wit_eventPost_0 :
    ∃ (n : Nat) (data : Nat) (s : State), n < 384 :=
  ⟨0, 0, wReady, by decide +kernel⟩

theorem wit_svcEndService_0 :
    ∃ (n : Nat) (s : State), s.svcNest.any (fun p => p.1 == n) = true :=
  ⟨0, { wReady with svcNest := [(0, 0)] }, by decide +kernel⟩

theorem wit_hfEvtSend_0 :
    ∃ (e : HfEntry) (l : List HfEntry) (s : State), s.router.hfq = e :: l ∧ s.cascRole ≠ 2 ∧ s.pcieMode = false ∧
      s.hostCanSend e.frame = true :=
  by refine
      ⟨⟨0, 0, 0⟩, [], { wAgl wReady wL0 with router := { hfq := [⟨0, 0, 0⟩] } }, ?_, ?_, ?_, ?_⟩ <;> decide +kernel

theorem wit_wdLate_0 :
    ∃ (k : Nat) (s : State), s.wdIsLate k = true :=
  ⟨0, { wReady.set F.WD_CTL_EN 1 with wds := [(0, { run := true, elapsed := 1000000 })] }, by decide +kernel⟩

theorem wit_wdWarn_0 :
    ∃ (k : Nat) (s : State), (s.wd k).run = true ∧ s.wdEnabled k = true ∧ (s.wd k).frozen = false ∧ (s.wd k).warned = false ∧
      s.get F.WD_CTL_WARN ≠ 0 ∧ 10 * ((s.wd k).max - s.get F.WD_CTL_WARN) ≤ (s.wd k).elapsed :=
  by refine
      ⟨0, { (wReady.set F.WD_CTL_EN 1).set F.WD_CTL_WARN 1 with wds := [(0, { run := true, elapsed := 1000000 })] }, ?_, ?_,
        ?_, ?_, ?_, ?_⟩ <;> decide +kernel

theorem wit_svcDebugHalt_0 :
    ∃ (s : State), s.get F.GLB_STAT_SVC_HALT ≠ 1 :=
  ⟨wReady, by decide +kernel⟩

theorem wit_svcDebugResume_0 :
    ∃ (s : State), s.get F.GLB_STAT_SVC_HALT ≠ 0 :=
  ⟨(wReady.set F.GLB_STAT_SVC_HALT 1), by decide +kernel⟩

theorem wit_commitApply_0 :
    ∃ (g : Nat) (accept : Bool) (res : List Eye) (s : State), s.boundaryOk g = true ∧ s.commitPending g = true :=
  by refine
      ⟨10, false, [], { wReady with port := { pend := [(10, 0)] } }, ?_, ?_⟩ <;> decide +kernel

theorem wit_commitHold_0 :
    ∃ (g : Nat) (t : Nat) (s : State), s.port.pend.find? (fun p => p.1 == g) = some (g, t) ∧ s.get F.CMT_CFG_HOLD_AFTER ≠ 0 ∧
      s.get F.CMT_CFG_HOLD_AFTER * 1000 ≤ s.clock - t ∧ g < 2 ∧ s.port.hold.contains g = false :=
  by refine
      ⟨0, 0, { wReady.set F.CMT_CFG_HOLD_AFTER 1 with clock := 1000, port := { pend := [(0, 0)] } }, ?_, ?_, ?_, ?_, ?_⟩ <;>
        decide +kernel

theorem wit_ledgerUpdate_0 :
    ∃ (vT : Nat) (diff : Int) (onDie : Nat) (s : State), s.rt.on = true :=
  ⟨0, 0, 0, { wReady with rt := { on := true } }, by decide +kernel⟩

theorem wit_aglDetectQuietEnd_0 :
    ∃ (l : Nat) (found : Nat) (s : State), l < 3 ∧ (s.lnk l).state = 1 ∧ maskOf ((setBits found (s.laneCount l)).filter (bit
      (s.laneMask l))) ≠ 0 :=
  by refine
      ⟨0, 1, (wLk { wL0 with state := 1 }), ?_, ?_, ?_⟩ <;> decide +kernel

theorem wit_aglTrainingTimeout_0 :
    ∃ (l : Nat) (s : State), l < 3 ∧ ((s.lnk l).state = 3 ∨ (s.lnk l).state = 4 ∨ (s.lnk l).state = 5) :=
  by refine
      ⟨0, (wLk { wL0 with state := 3 }), ?_, ?_⟩ <;> decide +kernel

theorem wit_aglTrainingTimeout_1 :
    ∃ (l : Nat) (s : State), l < 3 ∧ (s.lnk l).state = 9 :=
  by refine
      ⟨0, (wLk { wL0 with state := 9 }), ?_, ?_⟩ <;> decide +kernel

theorem wit_idlBytesReceived_0 :
    ∃ (l : Nat) (s : State), l < 3 ∧ (s.lnk l).state = 5 ∧ 2 ≤ (s.lnk l).ts :=
  by refine
      ⟨0, (wLk { wL0 with state := 5, ts := 2 }), ?_, ?_, ?_⟩ <;> decide +kernel

theorem wit_idlBytesReceived_1 :
    ∃ (l : Nat) (s : State), l < 3 ∧ (s.lnk l).state = 9 :=
  by refine
      ⟨0, (wLk { wL0 with state := 9 }), ?_, ?_⟩ <;> decide +kernel

theorem wit_equalisation_0 :
    ∃ (l : Nat) (asks : List Nat) (asked : List Nat) (s : State), l < 3 ∧ (s.lnk l).state = 8 :=
  by refine
      ⟨0, [], [], (wLk { wL0 with state := 8 }), ?_, ?_⟩ <;> decide +kernel

theorem wit_equalisation_1 :
    ∃ (l : Nat) (asks : List Nat) (asked : List Nat) (s : State) (u : State), l < 3 ∧ (s.lnk l).state = 8 ∧ s.get
      F.AGL_EQ_FIXED = 1 ∧ u = ((s.eqSets l 0 (fun _ t => t)).eqSets l 1 (fun _ t => t)).eqSets l 3 (fun k t =>
      { t with preset := listGet 0 asked k % 8 }) :=
  by refine
      ⟨0, [], [], (wAgl (wReady.set F.AGL_EQ_FIXED 1) { wL0 with state := 8 }), _, ?_, ?_, ?_, rfl⟩ <;> decide +kernel

theorem wit_aln_0 :
    ∃ (s : State), s.agl.state = 6 :=
  ⟨(wLk wL0), by decide +kernel⟩

theorem wit_aln_1 :
    ∃ (l : Nat) (s : State), (l = 1 ∨ l = 2) ∧ (s.lnk l).state = 6 ∧ s.boundaryOk 1 = true :=
  by refine
      ⟨1, (wRole 1), ?_, ?_, ?_⟩ <;> decide +kernel

theorem wit_skpAlnInterval_0 :
    ∃ (l : Nat) (s : State), l < 3 ∧ (s.lnk l).state = 6 ∧ (s.lnk l).alnTurn = false ∧ s.upperEnd l = false :=
  by refine
      ⟨0, (wLk wL0), ?_, ?_, ?_, ?_⟩ <;> decide +kernel

theorem wit_eios_0 :
    ∃ (l : Nat) (s : State), l < 3 ∧ (s.lnk l).state = 6 ∧ (s.lnk l).pm ≠ 0 ∧ s.linkQueued l = false :=
  by refine
      ⟨0, (wLk { wL0 with pm := 1 }), ?_, ?_, ?_, ?_⟩ <;> decide +kernel

theorem wit_eios_1 :
    ∃ (l : Nat) (s : State), l < 3 ∧ (s.lnk l).state = 7 ∧ (s.lnk l).chgTo ≠ 0 :=
  by refine
      ⟨0, (wLk { wL0 with state := 7, chgTo := 1 }), ?_, ?_, ?_⟩ <;> decide +kernel

theorem wit_eieos_0 :
    ∃ (l : Nat) (s : State), l < 3 ∧ (s.lnk l).state = 0xA :=
  by refine
      ⟨0, (wLk { wL0 with state := 0xA }), ?_, ?_⟩ <;> decide +kernel

theorem wit_electricalIdleExit_0 :
    ∃ (l : Nat) (s : State), l < 3 ∧ (s.lnk l).state = 0xB :=
  by refine
      ⟨0, (wLk { wL0 with state := 0xB }), ?_, ?_⟩ <;> decide +kernel

theorem wit_malformedFrame_0 :
    ∃ (l : Nat) (typ : Nat) (s : State), l < 3 ∧ (¬ (l = 0 ∧ s.pcieMode = true)) ∧ (s.lnk l).state = 6 :=
  by refine
      ⟨0, 0, (wLk wL0), ?_, ?_, ?_⟩ <;> decide +kernel

theorem wit_framingError_0 :
    ∃ (l : Nat) (s : State), l < 3 ∧ (¬ (l = 0 ∧ s.pcieMode = true)) ∧ (s.lnk l).state = 6 :=
  by refine
      ⟨0, (wLk wL0), ?_, ?_, ?_⟩ <;> decide +kernel

theorem wit_frameCrcFail_0 :
    ∃ (l : Nat) (s : State), l < 3 ∧ (¬ (l = 0 ∧ s.pcieMode = true)) ∧ (s.lnk l).state = 6 :=
  by refine
      ⟨0, (wLk wL0), ?_, ?_, ?_⟩ <;> decide +kernel

theorem wit_ackTimer_0 :
    ∃ (l : Nat) (s : State), l < 3 ∧ (s.lnk l).state = 6 ∧ 0 < (s.lnk l).unacked :=
  by refine
      ⟨0, (wLk { wL0 with unacked := 1 }), ?_, ?_, ?_⟩ <;> decide +kernel

theorem wit_aglAck_0 :
    ∃ (l : Nat) (seq : Nat) (v : Link) (s : State), l < 3 ∧ (¬ (l = 0 ∧ s.pcieMode = true)) ∧ (s.lnk l).state = 6 ∧ (s.lnk
      l).acked seq = some v :=
  by refine
      ⟨0, 0, _, (wLk { wL0 with retry := [(0, wItem)] }), ?_, ?_, ?_, getEq ?_⟩ <;> decide +kernel

theorem wit_aglNak_0 :
    ∃ (l : Nat) (seq : Nat) (v : Link) (s : State), l < 3 ∧ (¬ (l = 0 ∧ s.pcieMode = true)) ∧ (s.lnk l).state = 6 ∧ (s.lnk
      l).acked seq = some v :=
  by refine
      ⟨0, 0, _, (wLk { wL0 with retry := [(0, wItem)] }), ?_, ?_, ?_, getEq ?_⟩ <;> decide +kernel

theorem wit_replayTimer_0 :
    ∃ (l : Nat) (s : State), l < 3 ∧ (¬ (l = 0 ∧ s.pcieMode = true)) ∧ (s.lnk l).state = 6 ∧ (s.lnk l).retry ≠ [] ∧ (s.lnk
      l).tries < s.get F.AGL_REPLAY_REPLAY_MAX :=
  by refine
      ⟨0, (wLk { wL0 with retry := [(0, wItem)] }), ?_, ?_, ?_, ?_, ?_⟩ <;> decide +kernel

theorem wit_replayTimer_1 :
    ∃ (l : Nat) (s : State), l < 3 ∧ (¬ (l = 0 ∧ s.pcieMode = true)) ∧ (s.lnk l).state = 6 ∧ (s.lnk l).retry ≠ [] ∧ s.get
      F.AGL_REPLAY_REPLAY_MAX ≤ (s.lnk l).tries ∧ 2 ≤ (s.lnk l).recov :=
  by refine
      ⟨0, (wLk { wL0 with retry := [(0, wItem)], tries := 100, recov := 2 }), ?_, ?_, ?_, ?_, ?_, ?_⟩ <;> decide +kernel

theorem wit_aglCredit_0 :
    ∃ (limit : Nat) (s : State), (s.lnk 0).state = 6 :=
  ⟨0, (wLk wL0), by decide +kernel⟩

theorem wit_aglCredit_1 :
    ∃ (limit : Nat) (s : State), (s.lnk 0).state = 6 :=
  ⟨0, (wLk wL0), by decide +kernel⟩

theorem wit_creditRefresh_0 :
    ∃ (s : State), (s.lnk 0).state = 6 ∧ s.st ≠ stTrailhead :=
  by refine
      ⟨(wLk wL0), ?_, ?_⟩ <;> decide +kernel

theorem wit_linkCtlReset_0 :
    ∃ (s : State) (s1 : State), s.agl.state = 6 ∧ s.ctlFirst 0 = (true, s1) :=
  by refine
      ⟨(wLk wL0), _, ?_, pairEq ?_⟩ <;> decide +kernel

theorem wit_linkCtlRetrain_0 :
    ∃ (l : Nat) (s : State) (s1 : State), l < 3 ∧ (s.lnk l).state = 6 ∧ s.ctlFirst l = (true, s1) :=
  by refine
      ⟨0, (wLk wL0), _, ?_, ?_, pairEq ?_⟩ <;> decide +kernel

theorem wit_cascJoin_0 :
    ∃ (h : CHead) (uid : List Byte) (sviVer : Nat) (state : Nat) (form : Nat) (epoch : Nat) (s : State) (s1 : State),
      s.cascCtlRx h 1 1 [] (sliceB uid 0 8 ++ natLE 2 sviVer ++ natLE 1 state ++ natLE 1 form ++ natLE 2 epoch ++ [0, 0]) =
      (true, s1) ∧ s1.st ≠ stTrailhead ∧ 1 ≤ h.src ∧ h.src ≤ 3 ∧ s1.joinRefusal h.src uid sviVer state epoch = 0 :=
  by refine
      ⟨{ l := 1, seq := 0, dst := 0, src := 1 }, [], 0, stReady, 0, 0, (wRole 1), _, pairEq ?_, ?_, ?_, ?_, ?_⟩ <;>
        decide +kernel

theorem wit_cascJoinRepeat_0 :
    ∃ (at_ : Nat) (s : State), s.casc.joinAt = some at_ ∧ 1000 ≤ s.clock - at_ :=
  by refine
      ⟨0, { wReady with clock := 1000, casc := { joinAt := some 0 } }, ?_, ?_⟩ <;> decide +kernel

theorem wit_cascJoinAck_0 :
    ∃ (h : CHead) (epoch : Nat) (reason : Nat) (s : State) (s1 : State), s.cascCtlRx h 2 2 [] (natLE 2 epoch ++ natLE 1 1 ++
      natLE 1 reason) = (true, s1) :=
  ⟨{ l := 1, seq := 0, dst := 0, src := 0 }, 0, 0, (wRole 2), _, pairEq (by decide +kernel)⟩

theorem wit_cascadeResetOrder_0 :
    ∃ (h : CHead) (s : State) (s1 : State), s.cascCtlRx h 2 3 [] [] = (true, s1) :=
  ⟨{ l := 1, seq := 0, dst := 0, src := 0 }, (wRole 2), _, pairEq (by decide +kernel)⟩

theorem wit_cascRemove_0 :
    ∃ (h : CHead) (src : Nat) (reason : Nat) (s : State) (s1 : State), s.cascCtlRx h 2 4 [] [] = (true, s1) ∧ s1.live = true ∧
      s1.st ≠ stRemoving :=
  by refine
      ⟨{ l := 1, seq := 0, dst := 0, src := 0 }, 0, 0, (wRole 2), _, pairEq ?_, ?_, ?_⟩ <;> decide +kernel

theorem wit_cascPingTimer_0 :
    ∃ (s : State), s.cascRole = 1 ∧ 100 ≤ s.clock - s.casc.pingAt :=
  by refine
      ⟨{ wRole 1 with clock := 100 }, ?_, ?_⟩ <;> decide +kernel

theorem wit_cascPing_0 :
    ∃ (h : CHead) (s : State) (s1 : State), s.cascCtlRx h 2 5 [] [] = (true, s1) :=
  ⟨{ l := 1, seq := 0, dst := 0, src := 0 }, (wRole 2), _, pairEq (by decide +kernel)⟩

theorem wit_cascPong_0 :
    ∃ (h : CHead) (s : State) (s1 : State), s.cascCtlRx h 1 6 [] [] = (true, s1) ∧ s1.joined h.src = true :=
  by refine
      ⟨{ l := 1, seq := 0, dst := 0, src := 1 },
        { wRole 1 with casc := { cl0 := wL0, members := [(1, { joined := true })] } }, _, pairEq ?_, ?_⟩ <;> decide +kernel

theorem wit_memberLost_0 :
    ∃ (m : Nat) (beyond : List Nat) (s : State), s.joined m = true ∧ 500 ≤ s.clock - (s.member m).pongAt :=
  by refine
      ⟨1, [], { wRole 1 with clock := 500, casc := { cl0 := wL0, members := [(1, { joined := true })] } }, ?_, ?_⟩ <;>
        decide +kernel

theorem wit_cascShare_0 :
    ∃ (h : CHead) (refill : Nat) (burst : Nat) (hu : Nat) (s : State) (s1 : State), s.cascCtlRx h 2 7 [] (natLE 2 refill ++
      natLE 1 burst ++ [0] ++ natLE 2 hu ++ [0, 0]) = (true, s1) :=
  ⟨{ l := 1, seq := 0, dst := 0, src := 0 }, 0, 0, 0, (wRole 2), _, pairEq (by decide +kernel)⟩

theorem wit_cReqVolRead_0 :
    ∃ (h : CHead) (xid : Nat) (prio : Nat) (vol : Nat) (alb : Nat) (count : Nat) (s : State) (s1 : State), s.cascRx h 0x31
      (cReqHeader 1 xid prio vol alb) (natLE 4 count) = (true, s1) ∧ s.cascRole = 2 :=
  by refine
      ⟨{ l := 1, seq := 0, dst := 0, src := 0 }, 0, 0, 0, 0, 0, (wRole 2), _, pairEq ?_, ?_⟩ <;> decide +kernel

theorem wit_cReqCmd_0 :
    ∃ (h : CHead) (xid : Nat) (prio : Nat) (cmd : List Byte) (s : State) (s1 : State), s.cascRx h 0x31 (cReqHeader 2 xid prio
      0 0) cmd = (true, s1) ∧ s.cascRole = 2 ∧ (s1.qp (bits (leAt cmd 4 1) 0 6)).st ≠ .absent ∧ (s1.setXid s1.cascFlight
      xid).cascRefusal = none :=
  by refine
      ⟨{ l := 1, seq := 0, dst := 0, src := 0 }, 0, 0, (wBytes 0x7F [(4, 1)]), (wQp (wRole 2) { st := .active }), _, pairEq
        ?_, ?_, ?_, ?_⟩ <;> decide +kernel

theorem wit_cData_0 :
    ∃ (h : CHead) (xid : Nat) (off : Nat) (last : Bool) (data : List Byte) (s : State) (s1 : State), s.cascRx h 0x32 ([0, 0]
      ++ natLE 2 xid ++ natLE 1 (b2n last) ++ [0] ++ natLE 4 off) data = (true, s1) ∧ s1.cascRole = 1 :=
  by refine
      ⟨{ l := 1, seq := 0, dst := 0, src := 1 }, 0, 0, false, [], (wRole 1), _, pairEq ?_, ?_⟩ <;> decide +kernel

theorem wit_cData_1 :
    ∃ (h : CHead) (xid : Nat) (off : Nat) (k : Nat) (x : Nat) (last : Bool) (data : List Byte) (s : State) (s1 : State),
      s.cascRx h 0x32 ([0, 0] ++ natLE 2 xid ++ natLE 1 (b2n last) ++ [0] ++ natLE 4 off) data = (true, s1) ∧ s1.cascRole ≠ 1
      ∧ s1.casc.xids.find? (fun p => p.2 == xid) = some (k, x) :=
  by refine
      ⟨{ l := 1, seq := 0, dst := 0, src := 0 }, 0, 0, 5, 0, false, [],
        { wRole 2 with casc := { cl0 := wL0, xids := [(5, 0)] } }, _, pairEq ?_, ?_, ?_⟩ <;> decide +kernel

theorem wit_cCpl_0 :
    ∃ (h : CHead) (xid : Nat) (k : Nat) (offs : List Nat) (entry : List Byte) (r : CRun) (s : State) (s1 : State), s.cascRx h
      0x33 ([0, 0] ++ natLE 2 xid) entry = (true, s1) ∧ s1.casc.runs.find? (fun r => r.dev == h.src && r.xid == xid) = some r
      ∧ r.use = .host k offs :=
  by refine
      ⟨{ l := 1, seq := 0, dst := 0, src := 1 }, 0, 0, [], [], ⟨0, 1, .host 0 [], [], 0⟩,
        { wRole 1 with casc := { cl0 := wL0, runs := [⟨0, 1, .host 0 [], [], 0⟩] } }, _, pairEq ?_, ?_, ?_⟩ <;> decide +kernel

theorem wit_cEvt_0 :
    ∃ (h : CHead) (source : Nat) (prio : Nat) (data : List Byte) (s : State) (s1 : State), s.cascRx h 0x34 ([0, 0] ++ natLE 2
      source ++ natLE 1 prio) data = (true, s1) ∧ s1.cascRole = 1 ∧ h.src ≠ 0 :=
  by refine
      ⟨{ l := 1, seq := 0, dst := 0, src := 1 }, 0, 0, [], (wRole 1), _, pairEq ?_, ?_, ?_⟩ <;> decide +kernel

theorem wit_cDreq_0 :
    ∃ (h : CHead) (xid : Nat) (off : Nat) (len : Nat) (k : Nat) (f : Flight) (r : CRun) (s : State) (s1 : State), s.cascCtlRx
      h 1 8 (natLE 2 xid) (natLE 4 off ++ natLE 4 len) = (true, s1) ∧ s1.casc.runs.find? (fun r => r.dev == h.src && r.xid ==
      xid) = some r ∧ r.use = .cmd k ∧ s1.flight? k = some f :=
  by refine
      ⟨{ l := 1, seq := 0, dst := 0, src := 1 }, 0, 0, 0, 0, (wFlight 0x41 []), ⟨0, 1, .cmd 0, [], 0⟩,
        { wRole 1 with casc := { cl0 := wL0, runs := [⟨0, 1, .cmd 0, [], 0⟩] }, host := { flights := [(0, wFlight 0x41 [])] } },
        _, pairEq ?_, ?_, ?_, ?_⟩ <;> decide +kernel

theorem wit_trainingEnd_0 :
    ∃ (n : Nat) (res : List Eye) (s : State), (s.chan n).training = true ∧ s.st = stTrailhead ∧ s.therm.stop = false :=
  by refine
      ⟨0, [], (wChan (wUp stTrailhead) 0 { training := true }), ?_, ?_, ?_⟩ <;> decide +kernel

theorem wit_trainingEnd_1 :
    ∃ (n : Nat) (res : List Eye) (j : CalJob) (s : State), (s.chan n).training = true ∧ s.st ≠ stTrailhead ∧ s.st ≠ stRemoving
      ∧ s.cal.jobs.find? (fun p => p.1 == n) = some (n, j) ∧ s.trainOk n (s.rate n) res = true :=
  by refine
      ⟨0, [], { path := .sp }, { wChan wReady 0 { training := true } with cal := { jobs := [(0, { path := .sp })] } }, ?_, ?_,
        ?_, ?_, ?_⟩ <;> decide +kernel

theorem wit_trackingMeasurement_0 :
    ∃ (n : Nat) (ce : Nat) (dqs : Option Word) (wins : List (Nat × Nat)) (e : Eye) (s : State), e = Eye.of ce dqs wins ∧ n < 8
      ∧ s.get F.CAL_CFG_TRACK_EN ≠ 0 ∧ s.fast n = true ∧ s.get (F.CAL_CH_HOST_SET n) ≠ 1 ∧ s.works = true ∧ s.therm.stop =
      false ∧ (s.chan n).training = false ∧ s.chHold n = false ∧ (s.targets n).contains e.ce = true ∧ s.trackDue n = true ∧
      e.found = true ∧ s.get F.CAL_CFG_MIN_EYE ≤ eyeWidth e ∧ (withIdx (s.eyeVals n (s.rate n) e)).all (fun p => s.reg (0x2F81
      + p.1) (n * 8 + e.ce) == p.2) = false :=
  by refine
      ⟨0, 0, (some 0), (List.replicate 16 (30, 140)), _,
        { wChan ((wReady.set F.CAL_CFG_TRACK_EN 1).set (F.CH_IF_RATE 0) 7) 0 { dies := [(0, wDie)] } with clock := 1000000000 },
        rfl, ?_, ?_, ?_, ?_, ?_, ?_, ?_, ?_, ?_, ?_, ?_, ?_, ?_⟩ <;> decide +kernel

theorem wit_staleTimeout_0 :
    ∃ (n : Nat) (s : State), n < 8 :=
  ⟨0, wReady, by decide +kernel⟩

theorem wit_laneAdaptation_0 :
    ∃ (k : Nat) (v : Word) (s : State), s.agl.state = 6 ∧ s.eqLanes.contains k = true :=
  by refine
      ⟨0, 0, (wLk { wL0 with gen := 2 }), ?_, ?_⟩ <;> decide +kernel

theorem wit_autoSave_0 :
    ∃ (o : List PsOutcome) (from_ : Nat) (s : State), s.cal.autoFrom = some from_ ∧ s.get F.CAL_CFG_AUTO_SAVE ≠ 0 ∧
      s.chans.any (fun p => p.2.stale) = false :=
  by refine
      ⟨[], 0, { wReady.set F.CAL_CFG_AUTO_SAVE 1 with cal := { autoFrom := some 0 } }, ?_, ?_, ?_⟩ <;> decide +kernel

theorem wit_sensorSample_0 :
    ∃ (raw : List (Option Int)) (mv : List Nat) (low : Nat) (s : State), s.live = true ∧ s.balls.clocksGated = false :=
  by refine
      ⟨[], [], 0, wReady, ?_, ?_⟩ <;> decide +kernel

theorem wit_graceEnd_0 :
    ∃ (s : State), s.therm.grace = true ∧ s.therm.graceFrom + s.therm.graceMs * 1000 ≤ s.clock :=
  by refine
      ⟨{ wReady with therm := { grace := true } }, ?_, ?_⟩ <;> decide +kernel

theorem wit_tpRunEnd_0 :
    ∃ (t : Nat) (rx : List (List Bool)) (r : TpRun) (s : State), (s.tpFeed t rx).tpRun? t = some r ∧ (s.tpFeed t rx).tpOver t
      r = true :=
  by refine
      ⟨0, [], { pattern := 0, start := 0, dur := 5 },
        { wReady with clock := 5, test := { runs := [(0, { pattern := 0, start := 0, dur := 5 })] } }, ?_, ?_⟩ <;>
        decide +kernel

theorem wit_tpRunEnd_1 :
    ∃ (t : Nat) (rx : List (List Bool)) (r : TpRun) (s : State), (s.tpFeed t rx).tpRun? t = some r ∧ (s.tpFeed t rx).tpOver t
      r = false :=
  by refine
      ⟨0, [], { pattern := 0, start := 0, dur := 5 },
        { wReady with clock := 4, test := { runs := [(0, { pattern := 0, start := 0, dur := 5 })] } }, ?_, ?_⟩ <;>
        decide +kernel

theorem wit_testPattern_0 :
    ∃ (k : Nat) (rx : List (List Bool)) (f : Flight) (s : State), s.canStart k 0x50 = some f ∧ s.tpRun? (leAt f.bytes 16 1) =
      none ∧ s.st ≠ stLimited ∧ s.tpAvailable (leAt f.bytes 16 1) (leAt f.bytes 17 1 / 16) false = true :=
  by refine
      ⟨0, [], (wFlight 0x50 []), (wFly 0x50 []), ?_, ?_, ?_, ?_⟩ <;> decide +kernel

theorem wit_tapReset_0 :
    ∃ (s : State), s.tapOn = true :=
  ⟨wTap, by decide +kernel⟩

theorem wit_tapIdcode_0 :
    ∃ (s : State), s.tapOn = true :=
  ⟨wTap, by decide +kernel⟩

theorem wit_tapSamplePreload_0 :
    ∃ (cap : Nat) (preload : Nat) (s : State), s.tapOn = true :=
  ⟨0, 0, wTap, by decide +kernel⟩

theorem wit_tapExtest_0 :
    ∃ (scan : Option (Nat × Nat)) (s : State), s.tapOn = true ∧ s.tmode = true :=
  by refine
      ⟨none, wTm, ?_, ?_⟩ <;> decide +kernel

theorem wit_tapExtest_1 :
    ∃ (scan : Option (Nat × Nat)) (s : State), s.tapOn = true ∧ s.tmode = false :=
  by refine
      ⟨none, wTap, ?_, ?_⟩ <;> decide +kernel

theorem wit_tapExtestPulse_0 :
    ∃ (scan : Option (Nat × Nat)) (s : State), s.tapOn = true ∧ s.tmode = true :=
  by refine
      ⟨none, wTm, ?_, ?_⟩ <;> decide +kernel

theorem wit_tapExtestTrain_0 :
    ∃ (scan : Option (Nat × Nat)) (s : State), s.tapOn = true ∧ s.tmode = true :=
  by refine
      ⟨none, wTm, ?_, ?_⟩ <;> decide +kernel

theorem wit_tapClamp_0 :
    ∃ (s : State), s.tapOn = true ∧ s.tmode = true :=
  by refine
      ⟨wTm, ?_, ?_⟩ <;> decide +kernel

theorem wit_tapHighz_0 :
    ∃ (s : State), s.tapOn = true ∧ s.tmode = true :=
  by refine
      ⟨wTm, ?_, ?_⟩ <;> decide +kernel

theorem wit_tapBypass_0 :
    ∃ (code : Byte) (s : State), s.tapOn = true ∧ tapListed code.toNat = false :=
  by refine
      ⟨0xFF, wTap, ?_, ?_⟩ <;> decide +kernel

theorem wit_tpAccess_0 :
    ∃ (dr : Nat) (x : RegIn) (s : State), s.tapOn = true ∧ s.tmode = true ∧ ((s.tapLoad 0x10 0).send (.tdo 48 ((s.tapLoad 0x10
      0).test.tap.code * 2 ^ 40 + (s.tapLoad 0x10 0).test.tap.word))).live = true :=
  by refine
      ⟨0, {}, wTm, ?_, ?_, ?_⟩ <;> decide +kernel

theorem wit_bistRun_0 :
    ∃ (mask : Byte) (s : State), s.tapOn = true ∧ s.tmode = true :=
  by refine
      ⟨0, wTm, ?_, ?_⟩ <;> decide +kernel

theorem wit_bistEnd_0 :
    ∃ (fails : Byte) (b : Bist) (s : State), s.test.bist = some b :=
  ⟨0, { mask := 1, start := 0 }, { wReady with test := { bist := some { mask := 1, start := 0 } } }, by decide +kernel⟩

theorem wit_spRead_0 :
    ∃ (off : Byte) (crc : Byte) (s : State), s.live = true ∧ s.spGate false [0xA1, off] crc = 0 ∧ off.toNat < 0x40 :=
  by refine
      ⟨0x3F, (BitVec.ofNat 8 (crc8 [0xA1, 0x3F])), wReady, ?_, ?_, ?_⟩ <;> decide +kernel

theorem wit_spGetStatus_0 :
    ∃ (off : Byte) (crc : Byte) (s : State), s.live = true ∧ s.spGate true [0xA6, off] crc = 0 ∧ off.toNat < 0x40 :=
  by refine
      ⟨0x3F, (BitVec.ofNat 8 (crc8 [0xA6, 0x3F])), wReady, ?_, ?_, ?_⟩ <;> decide +kernel

theorem wit_spWrite_0 :
    ∃ (off : Byte) (data : Word) (crc : Byte) (x : RegIn) (s : State), s.live = true ∧ s.spGate false ([0xA2, off] ++
      wordBytes data) crc = 0 ∧ off.toNat < 0x40 :=
  by refine
      ⟨0x3F, 0, (BitVec.ofNat 8 (crc8 ([0xA2, 0x3F] ++ wordBytes 0))), {}, wReady, ?_, ?_, ?_⟩ <;> decide +kernel

theorem wit_spBurstRead_0 :
    ∃ (off : Byte) (n : Byte) (crc : Byte) (s : State), s.live = true ∧ s.spGate false [0xA3, off, n] crc = 0 ∧ off.toNat <
      0x40 ∧ n ≠ 0 ∧ off.toNat + n.toNat ≤ 0x40 :=
  by refine
      ⟨0, 64, (BitVec.ofNat 8 (crc8 [0xA3, 0, 64])), wReady, ?_, ?_, ?_, ?_, ?_⟩ <;> decide +kernel

theorem wit_spBurstWrite_0 :
    ∃ (off : Byte) (n : Byte) (data : List Word) (crc : Byte) (x : RegIn) (s : State), s.live = true ∧ data.length = n.toNat ∧
      s.spGate false ([0xA4, off, n] ++ data.flatMap wordBytes) crc = 0 ∧ off.toNat < 0x40 ∧ n ≠ 0 ∧ off.toNat + n.toNat ≤
      0x40 :=
  by refine
      ⟨0, 1, [0], (BitVec.ofNat 8 (crc8 ([0xA4, 0, 1] ++ [(0 : Word)].flatMap wordBytes))), {}, wReady, ?_, ?_, ?_, ?_, ?_,
        ?_⟩ <;> decide +kernel

theorem wit_spSetPage_0 :
    ∃ (page : Byte) (crc : Byte) (s : State), s.live = true ∧ s.spGate false [0xA5, page] crc = 0 :=
  by refine
      ⟨0, (BitVec.ofNat 8 (crc8 [0xA5, 0])), wReady, ?_, ?_⟩ <;> decide +kernel

theorem wit_spUnlock_0 :
    ∃ (lock : Byte) (key : Word) (crc : Byte) (s : State), s.live = true ∧ s.spGate false ([0xA7, lock] ++ wordBytes key) crc
      = 0 :=
  by refine
      ⟨0, 0, (BitVec.ofNat 8 (crc8 ([0xA7, 0] ++ wordBytes 0))), wReady, ?_, ?_⟩ <;> decide +kernel

theorem wit_spBadOpcode_0 :
    ∃ (op : Byte) (s : State), s.live = true ∧ (¬ (0xA1 ≤ op.toNat ∧ op.toNat ≤ 0xA7)) :=
  by refine
      ⟨0, wReady, ?_, ?_⟩ <;> decide +kernel

theorem wit_spFrameAbort_0 :
    ∃ (l : List Byte) (s : State), s.live = true ∧ s.twoWire = false ∧ (l.head?).any (fun op => !spListed op) = false ∧ (∀ n :
      Nat, spLength l = some n → l.length < n) :=
  by refine
      ⟨[], wReady, ?_, ?_, ?_, ?_⟩ <;> decide +kernel

theorem wit_spFrameAbort_1 :
    ∃ (l : List Byte) (n : Nat) (s : State), s.live = true ∧ s.twoWire = false ∧ (l.head?).any (fun op => !spListed op) =
      false ∧ spLength l = some n ∧ n ≤ l.length :=
  by refine
      ⟨[0xA1, 0, 0], 3, wReady, ?_, ?_, ?_, ?_, ?_⟩ <;> decide +kernel

theorem wit_spFrameErr_0 :
    ∃ (l : List Byte) (s : State), s.live = true ∧ s.twoWire = true ∧ (l.head?).any (fun op => !spListed op) = false ∧ (¬
      (spLength l = some l.length ∧ l.length ≤ 260)) :=
  by refine
      ⟨[], { wReady with aon := { straps := 0x20 } }, ?_, ?_, ?_, ?_⟩ <;> decide +kernel

theorem wit_spReadTransfer_0 :
    ∃ (r : List Byte) (s : State), s.live = true ∧ s.twoWire = true ∧ s.port.held = some r :=
  by refine
      ⟨[0], { wReady with aon := { straps := 0x20 }, port := { held := some [0] } }, ?_, ?_, ?_⟩ <;> decide +kernel

theorem wit_regAccess_0 :
    ∃ (k : Nat) (x : RegIn) (f : Flight) (r : Nat × State) (s : State), s.canStart k 0x30 = some f ∧ bit (leAt f.bytes 16 1) 0
      = true ∧ r = (s.startRun k f).burstStarted k (leAt f.bytes 17 1 * 64 + leAt f.bytes 18 1) ((List.range (leAt f.bytes 19
      1)).map (fun i => BitVec.ofNat 32 (leAt f.bytes (32 + 4 * i) 4))) x :=
  by refine
      ⟨0, {}, (wFlight 0x30 [(16, 1)]), _, (wFly 0x30 [(16, 1)]), ?_, ?_, rfl⟩ <;> decide +kernel

theorem wit_regAccess_1 :
    ∃ (k : Nat) (x : RegIn) (f : Flight) (s : State), s.canStart k 0x30 = some f ∧ bit (leAt f.bytes 16 1) 0 = false :=
  by refine
      ⟨0, {}, (wFlight 0x30 []), (wFly 0x30 []), ?_, ?_⟩ <;> decide +kernel

theorem wit_regWr_0 :
    ∃ (seq : Nat) (addr : Nat) (data : List Word) (mm : Bool) (s : State) (s1 : State) (s2 : State), s.qSound 0 = true ∧
      s.qCan 0 1 0 = true ∧ s.rxFrame 0 seq = (true, s1) ∧ s1.cmdTake = (true, s2) ∧ addr % 4 = 0 ∧ data ≠ [] ∧ addr % 64 + 4
      * data.length ≤ 64 :=
  by refine
      ⟨0, 60, [0], false, (wLk { wL0 with cmdLimit := 4 }), _, _, ?_, ?_, pairEq ?_, pairEq ?_, ?_, ?_, ?_⟩ <;> decide +kernel

theorem wit_regRd_0 :
    ∃ (seq : Nat) (addr : Nat) (rtag : Nat) (rlen : Nat) (s : State) (s1 : State) (s2 : State) (r : List (Option Nat) ×
      State), s.qSound 0 = true ∧ s.hostPump.qOpen 0 1 0 = true ∧ s.hostPump.rxFrame 0 seq = (true, s1) ∧ s1.cmdTake = (true,
      s2) ∧ addr % 4 = 0 ∧ rlen ≠ 0 ∧ rlen ≤ 16 ∧ s2.st ≠ stRemoving ∧ s2.rmv.orderly = none ∧ r = (s2.qPass 0 {}).winReads
      addr rlen ∧ r.1.any Option.isNone = false :=
  by refine
      ⟨0, 0, 0, 1, (wLk { wL0 with cmdLimit := 4 }), _, _, _, ?_, ?_, pairEq ?_, pairEq ?_, ?_, ?_, ?_, ?_, ?_, rfl, ?_⟩ <;>
        decide +kernel

theorem wit_regRd_1 :
    ∃ (seq : Nat) (addr : Nat) (rtag : Nat) (rlen : Nat) (s : State) (s1 : State) (s2 : State), s.qSound 0 = true ∧
      s.hostPump.qOpen 0 1 0 = true ∧ s.hostPump.rxFrame 0 seq = (true, s1) ∧ s1.cmdTake = (true, s2) ∧ addr % 4 = 0 ∧ rlen ≠
      0 ∧ rlen ≤ 16 ∧ s2.st = stRemoving :=
  by refine
      ⟨0, 0, 0, 16, (wAgl (wUp stRemoving) { wL0 with cmdLimit := 4 }), _, _, ?_, ?_, pairEq ?_, pairEq ?_, ?_, ?_, ?_, ?_⟩
        <;> decide +kernel

theorem wit_dataTransmit_0 :
    ∃ (k : Nat) (f : Flight) (s : State), s.flight? k = some f ∧ f.sent < f.out.length ∧ f.phase ≠ .ready ∧ f.sent < f.xadm *
      4096 ∧ s.st ≠ stRemoving ∧ s.casc.xids.find? (fun p => p.1 == k) = none ∧ s.hostCanSend (s.dataItem f).2 = true :=
  by refine
      ⟨0, { wFlight 0x01 [] with out := [1, 2, 3, 4], xadm := 1 },
        { wLk wL0 with host := { flights := [(0, { wFlight 0x01 [] with out := [1, 2, 3, 4], xadm := 1 })] } }, ?_, ?_, ?_,
        ?_, ?_, ?_, ?_⟩ <;> decide +kernel

theorem wit_dreq_0 :
    ∃ (k : Nat) (f : Flight) (f1 : Flight) (s : State) (s1 : State) (i : TxItem), s.flight? k = some f ∧ s.boundRun k = none ∧
      f.phase = .accepted ∧ f.asked < s.dataNeed f ∧ f.fails = 0 ∧ s.works = true ∧ f.asked < f.xadm * 4096 ∧
      s.casc.xids.find? (fun p => p.1 == k) = none ∧ s.pcieMode = false ∧ s.getBufs 9 k (moves (f.asked + s.nextRange f
      (s.dataNeed f))) = (true, s1) ∧ s1.flight? k = some f1 ∧ i =
      { typ := 0x27, addr := leAt f.bytes 8 8 + f.asked, hdr := natLE 1 f.qid ++ [0] ++ natLE 2 f.tag ++ natLE 4 f.asked ++ natLE 2 (s.nextRange f (s.dataNeed f)) ++ [0, 0] }
      ∧ s1.hostCanSend i = true :=
  by refine
      ⟨0, { wFlight 0x41 [(24, 8)] with xadm := 1 }, _,
        { wLk wL0 with host := { flights := [(0, { wFlight 0x41 [(24, 8)] with xadm := 1 })] } }, _, _, ?_, ?_, ?_, ?_, ?_,
        ?_, ?_, ?_, ?_, pairEq ?_, getEq ?_, rfl, ?_⟩ <;> decide +kernel

theorem wit_wdata_0 :
    ∃ (seq : Nat) (sq : Nat) (tag : Nat) (off : Nat) (pad : Nat) (data : List Byte) (d : Dreq) (s : State) (s1 : State),
      s.qSound 24 = true ∧ s.qOpen 24 1 0 = true ∧ s.rxFrame 0 seq = (true, s1) ∧ data.length % 4 = 0 ∧ data ≠ [] ∧
      data.length ≤ 512 ∧ pad ≤ 3 ∧ s1.agl.dreqs.find? (fun x => x.sq == sq && x.ctag == tag && x.off + x.got == off && decide
      (x.got + (data.take (data.length - pad)).length ≤ x.len)) = some d :=
  by refine
      ⟨0, 0, 0, 0, 0, [1, 2, 3, 4], _,
        { wLk { wL0 with dreqs := [wDreq] } with host := { flights := [(0, wFlight 0x41 [(24, 4)])] } }, _, ?_, ?_, pairEq ?_,
        ?_, ?_, ?_, ?_, getEq ?_⟩ <;> decide +kernel

theorem wit_dreqDataTimeout_0 :
    ∃ (k : Nat) (d : Dreq) (s : State), s.agl.dreqs.find? (fun d => d.flight == k && decide (1000 ≤ s.clock - d.since)) = some
      d ∧ s.pcieMode = false ∧ d.dead = false :=
  by refine
      ⟨0, _, { wLk { wL0 with dreqs := [wDreq] } with clock := 1000 }, getEq ?_, ?_, ?_⟩ <;> decide +kernel

theorem wit_linkDown_0 :
    ∃ (l : Nat) (s : State), l < 3 ∧ (l = 0 → s.pcieMode = false) ∧ (s.lnk l).up = true :=
  by refine
      ⟨0, (wLk wL0), ?_, ?_, ?_⟩ <;> decide +kernel

theorem wit_configRequest_0 :
    ∃ (write : Bool) (addr : Nat) (be : Nat) (v : Word) (s : State) (u : State), s.pcieRuns = true ∧ u = s.pcieAwake.fcReturn
      false (b2n write) ∧ u.st = stTrailhead :=
  by refine
      ⟨false, 0, 0, 0, { wPcie.set F.GLB_STAT_STATE stTrailhead with formB := true }, _, ?_, rfl, ?_⟩ <;> decide +kernel

theorem wit_configRequest_1 :
    ∃ (addr : Nat) (be : Nat) (v : Word) (s : State) (u : State), s.pcieRuns = true ∧ u = s.pcieAwake.fcReturn false 1 ∧ u.st
      ≠ stTrailhead :=
  by refine
      ⟨0, 0, 0, wPcie, _, ?_, rfl, ?_⟩ <;> decide +kernel

theorem wit_configRequest_2 :
    ∃ (addr : Nat) (be : Nat) (v : Word) (s : State) (u : State), s.pcieRuns = true ∧ u = s.pcieAwake.fcReturn false 0 ∧ u.st
      ≠ stTrailhead :=
  by refine
      ⟨0, 0, 0, wPcie, _, ?_, rfl, ?_⟩ <;> decide +kernel

theorem wit_memoryWriteWindow_0 :
    ∃ (off : Nat) (dws : List (Nat × Word)) (mm : Bool) (s : State) (u : State), s.pcieRuns = true ∧ s.qSound 0 = true ∧
      s.qCan 0 (max 1 dws.length) 0 = true ∧ u = s.pcieAwake.fcReturn true ((dws.length + 3) / 4) ∧ u.memOn = true ∧ u.st ≠
      stTrailhead ∧ u.st ≠ stRemoving ∧ dws ≠ [] ∧ off % 4 = 0 ∧ 0x1000 ≤ off ∧ off < 0x2000 ∧ off % 64 + 4 * dws.length ≤ 64 :=
  by refine
      ⟨0x1FFC, [(15, 0)], false, wPcie, _, ?_, ?_, ?_, rfl, ?_, ?_, ?_, ?_, ?_, ?_, ?_, ?_⟩ <;> decide +kernel

theorem wit_memoryReadWindow_0 :
    ∃ (off : Nat) (n : Nat) (s : State) (u : State), s.pcieRuns = true ∧ s.qSound 0 = true ∧ s.qOpen 0 1 0 = true ∧ u =
      s.pcieAwake.fcReturn false 0 ∧ u.memOn = true ∧ u.st ≠ stTrailhead ∧ u.st ≠ stRemoving ∧ off < 0x10000 ∧ 1 ≤ n ∧ n ≤ 16
      ∧ off % 64 + 4 * n ≤ 64 :=
  by refine
      ⟨0xFFFC, 1, wPcie, _, ?_, ?_, ?_, rfl, ?_, ?_, ?_, ?_, ?_, ?_, ?_⟩ <;> decide +kernel

theorem wit_evtPop_0 :
    ∃ (s : State) (u : State), s.pcieRuns = true ∧ s.qSound 0 = true ∧ s.qOpen 0 1 0 = true ∧ u = s.pcieAwake.fcReturn false 0
      ∧ u.memOn = true ∧ u.st ≠ stTrailhead ∧ u.st ≠ stRemoving :=
  by refine
      ⟨wPcie, _, ?_, ?_, ?_, rfl, ?_, ?_, ?_⟩ <;> decide +kernel

theorem wit_writeDataCompletion_0 :
    ∃ (tag : Nat) (data : List Byte) (d : Dreq) (s : State) (u : State), s.pcieRuns = true ∧ s.qSound 24 = true ∧ s.qOpen 24 1
      0 = true ∧ u = (s.pcieAwake.tlpHeader (0x4A000000 + (data.length + 3) / 4 % 1024) 0).2 ∧ u.agl.dreqs.find? (fun d =>
      d.tag == tag) = some d ∧ d.got + data.length ≤ d.len :=
  by refine
      ⟨0, [1, 2, 3, 4], wDreq,
        { wPcie with host := { flights := [(0, wFlight 0x41 [(24, 4)])] }, agl := { dreqs := [wDreq] } }, _, ?_, ?_, ?_, rfl,
        ?_, ?_⟩ <;> decide +kernel

theorem wit_writeDataCompletion_1 :
    ∃ (tag : Nat) (status : Nat) (poison : Bool) (data : List Byte) (s : State) (r : List Nat × State), s.pcieRuns = true ∧
      s.qSound 24 = true ∧ s.qOpen 24 1 0 = true ∧ r = s.pcieAwake.tlpHeader (0x4A000000 + (data.length + 3) / 4 % 1024) 0 ∧
      r.2.agl.dreqs.find? (fun d => d.tag == tag) = none :=
  by refine
      ⟨0, 0, false, [], wPcie, _, ?_, ?_, ?_, rfl, ?_⟩ <;> decide +kernel

theorem wit_completionTimeout_0 :
    ∃ (tag : Nat) (t : Nat) (d : Dreq) (s : State), s.agl.dreqs.find? (fun d => d.tag == tag) = some d ∧ s.cplTimeout = some t
      ∧ s.pcieMode = true ∧ t ≤ s.clock - d.since :=
  by refine
      ⟨0, 50000, wDreq, { wPcie with clock := 1000000, agl := { dreqs := [wDreq] } }, ?_, ?_, ?_, ?_⟩ <;> decide +kernel

theorem wit_dlUp_0 :
    ∃ (speed : Nat) (width : Nat) (s : State), s.live = true ∧ s.pcieMode = true ∧ s.hostLanesIdle = false ∧ speed ≠ 0 ∧ speed
      ≤ bits s.pcie.adv 0 3 ∧ width ≤ bits s.pcie.adv 4 2 ∧ s.pcie.dlUp = false :=
  by refine
      ⟨1, 0, { wPcie with pcie := {}, rmv := { lanesStarted := true } }, ?_, ?_, ?_, ?_, ?_, ?_, ?_⟩ <;> decide +kernel

theorem wit_hotReset_0 :
    ∃ (s : State), s.pcieRuns = true :=
  ⟨wPcie, by decide +kernel⟩

theorem wit_linkDisable_0 :
    ∃ (s : State), s.pcieRuns = true :=
  ⟨wPcie, by decide +kernel⟩

theorem wit_perstNAssert_0 :
    ∃ (s : State), s.live = true ∧ s.pcieMode = true ∧ s.pcie.perst = false :=
  by refine
      ⟨wPcie, ?_, ?_, ?_⟩ <;> decide +kernel

theorem wit_d3hotEntry_0 :
    ∃ (s : State) (u : State), s.pcieRuns = true ∧ u = s.pcieAwake.fcReturn false 1 ∧ u.st ≠ stTrailhead :=
  by refine
      ⟨wPcie, _, ?_, rfl, ?_⟩ <;> decide +kernel

theorem wit_d0Return_0 :
    ∃ (s : State) (u : State), s.pcieRuns = true ∧ u = s.pcieAwake.fcReturn false 1 ∧ u.st ≠ stTrailhead :=
  by refine
      ⟨wPcie, _, ?_, rfl, ?_⟩ <;> decide +kernel

theorem wit_aspmL1Idle_0 :
    ∃ (s : State), s.pcieRuns = true ∧ s.pcie.ltssm = 3 ∧ s.pcie.d3 = false ∧ bit (s.cfgLE 0x80 1) 1 = true ∧ bit s.pcie.adv 7
      = true ∧ s.agl.tx = [] ∧ s.agl.dreqs = [] ∧ s.pcie.tlpRetry = [] ∧ s.get F.PCIE_PM_L1_IDLE ≤ s.clock - s.pcie.lastReq :=
  by refine
      ⟨{ wPcie with pcie := { ltssm := 3, dlUp := true, cfg := [(0x80, 2)], adv := 0xFF }, clock := 1000000 }, ?_, ?_, ?_, ?_,
        ?_, ?_, ?_, ?_, ?_⟩ <;> decide +kernel

theorem wit_msixUnmask_0 :
    ∃ (v : Nat) (s : State) (u : State), s.pcieRuns = true ∧ v < 32 ∧ s.qSound 0 = true ∧ s.qCan 0 1 0 = true ∧ u =
      s.pcieAwake.fcReturn true 1 ∧ u.memOn = true ∧ u.st ≠ stTrailhead ∧ u.st ≠ stRemoving :=
  by refine
      ⟨31, wPcie, _, ?_, ?_, ?_, ?_, rfl, ?_, ?_, ?_⟩ <;> decide +kernel

theorem wit_rstCtlSoft_0 :
    ∃ (p : Path) (v : Word) (x : RegIn) (s : State), bits v.toNat 24 8 = 0xC3 ∧ bit v.toNat 0 = true ∧ s.live = true ∧ s.st ≠
      stRemoving ∧ s.rmv.orderly = none ∧ s.takesWrite p 0xCD v :=
  by refine
      ⟨.svc, 0xC3000001, {}, wReady, ?_, ?_, ?_, ?_, ?_, ⟨?_, ?_, ?_⟩⟩ <;> decide +kernel

theorem wit_rstCtlSaveRmv_0 :
    ∃ (p : Path) (v : Word) (x : RegIn) (s : State), bits v.toNat 24 8 = 0xC3 ∧ bit v.toNat 1 = true ∧ bit v.toNat 0 = false ∧
      s.takesWrite p 0xCD v :=
  by refine
      ⟨.svc, 0xC3000002, {}, wReady, ?_, ?_, ?_, ⟨?_, ?_, ?_⟩⟩ <;> decide +kernel

theorem wit_faultStatClear_0 :
    ∃ (p : Path) (v : Word) (x : RegIn) (s : State), bit v.toNat 0 = true ∧ s.takesWrite p 0xCE v :=
  by refine
      ⟨.svc, 0x1, {}, wReady, ?_, ⟨?_, ?_, ?_⟩⟩ <;> decide +kernel

theorem wit_unlReq_0 :
    ∃ (p : Path) (v : Word) (x : RegIn) (s : State), p ≠ .svc ∧ p ≠ .tap ∧ bit (bits v.toNat 0 8) 7 = false ∧ bits (bits
      v.toNat 0 8) 0 7 ≤ 0x0D ∧ (s.lockOf p).fails < 8 ∧ bit s.lockedDown (bits (bits v.toNat 0 8) 0 7) = false ∧ (s.lockOf
      p).key = unlockKey (bits (bits v.toNat 0 8) 0 7) ∧ s.takesWrite p 0x47 v :=
  by refine
      ⟨.sp, 0x0, {}, { wReady with port := { lockSp := { key := unlockKey 0 } } }, ?_, ?_, ?_, ?_, ?_, ?_, ?_, ⟨?_, ?_, ?_⟩⟩
        <;> decide +kernel

theorem wit_unlKey_0 :
    ∃ (p : Path) (v : Word) (x : RegIn) (s : State), p ≠ .svc ∧ p ≠ .tap ∧ s.takesWrite p 0x46 v :=
  by refine
      ⟨.sp, 0x5A, {}, wReady, ?_, ?_, ⟨?_, ?_, ?_⟩⟩ <;> decide +kernel

theorem wit_accLockSet_0 :
    ∃ (p : Path) (v : Word) (x : RegIn) (s : State), bits v.toNat 24 8 = 0x96 ∧ s.takesWrite p 0x49 v :=
  by refine
      ⟨.sp, 0x96000000, {}, wReady, ?_, ⟨?_, ?_, ?_⟩⟩ <;> decide +kernel

theorem wit_cmtCommit_0 :
    ∃ (p : Path) (v : Word) (x : RegIn) (s : State), bits v.toNat 24 8 = 0x3C ∧ bits v.toNat 0 5 < 0x0F ∧ bits v.toNat 8 2 = 1
      ∧ s.commitPending (bits v.toNat 0 5) = false ∧ s.takesWrite p 0x80 v :=
  by refine
      ⟨.svc, 0x3C000100, {}, wReady, ?_, ?_, ?_, ?_, ⟨?_, ?_, ?_⟩⟩ <;> decide +kernel

theorem wit_cmtDiscard_0 :
    ∃ (p : Path) (v : Word) (x : RegIn) (s : State), bits v.toNat 24 8 = 0x3C ∧ bits v.toNat 0 5 < 0x0F ∧ bits v.toNat 8 2 = 2
      ∧ s.takesWrite p 0x80 v :=
  by refine
      ⟨.svc, 0x3C000200, {}, wReady, ?_, ?_, ?_, ⟨?_, ?_, ?_⟩⟩ <;> decide +kernel

theorem wit_imgCtlActivate_0 :
    ∃ (p : Path) (v : Word) (x : RegIn) (s : State), bits v.toNat 24 8 = 0x5A ∧ s.takesWrite p 0x107 v :=
  by refine
      ⟨.svc, 0x5A000000, {}, wReady, ?_, ⟨?_, ?_, ?_⟩⟩ <;> decide +kernel

theorem wit_epochSet_0 :
    ∃ (p : Path) (v : Word) (x : RegIn) (s : State), bits v.toNat 24 8 = 0xA5 ∧ (bit s.epochs.2.2 (b2n (bit v.toNat 16)) =
      true ∨ (if bit v.toNat 16 then s.epochs.2.1 else s.epochs.1) < bits v.toNat 0 16) ∧ s.takesWrite p 0x140 v :=
  by refine
      ⟨.svc, 0xA5000000, {}, wReady, ?_, ?_, ⟨?_, ?_, ?_⟩⟩ <;> decide +kernel

theorem wit_bootCfgWrite_0 :
    ∃ (p : Path) (v : Word) (x : RegIn) (s : State), s.takesWrite p 0x100 v :=
  by refine
      ⟨.svc, 0x0, {}, wReady, ⟨?_, ?_, ?_⟩⟩ <;> decide +kernel

theorem wit_qpCreate_0 :
    ∃ (p : Path) (v : Word) (x : RegIn) (s : State), bits v.toNat 24 8 = 0x71 ∧ bits v.toNat 0 3 = 1 ∧ (s.qp (s.selQp p)).st =
      .absent ∧ 1 ≤ (s.newQp (s.selQp p) true).sqLog2 ∧ (s.newQp (s.selQp p) true).sqLog2 ≤ 8 ∧ 1 ≤ (s.newQp (s.selQp p)
      true).cqLog2 ∧ (s.newQp (s.selQp p) true).cqLog2 ≤ 12 ∧ (s.newQp (s.selQp p) true).vec ≠ 0 ∧ (s.pcieMode = true →
      (s.newQp (s.selQp p) true).base ≠ 0) ∧ ((s.newQp (s.selQp p) true).dev ≠ 0 → s.joined (s.newQp (s.selQp p) true).dev =
      true) ∧ s.slotsUsed + (s.newQp (s.selQp p) true).sqDepth ≤ 4096 ∧ s.takesWrite p 0x907 v :=
  by refine
      ⟨.svc, 0x71000001, {}, wReady, ?_, ?_, ?_, ?_, ?_, ?_, ?_, ?_, ?_, ?_, ?_, ⟨?_, ?_, ?_⟩⟩ <;> decide +kernel

theorem wit_qpDelete_0 :
    ∃ (p : Path) (v : Word) (x : RegIn) (s : State), bits v.toNat 24 8 = 0x71 ∧ bits v.toNat 0 3 = 2 ∧ s.selQp p ≠ 0 ∧ (s.qp
      (s.selQp p)).st ≠ .absent ∧ s.takesWrite p 0x907 v :=
  by refine
      ⟨.svc, 0x71000002, {}, (wQp (wReady.set F.QP_SEL_QID 1 (pathNum .svc)) { st := .active }), ?_, ?_, ?_, ?_, ⟨?_, ?_, ?_⟩⟩
        <;> decide +kernel

theorem wit_qpSetPrio_0 :
    ∃ (p : Path) (v : Word) (x : RegIn) (s : State), bits v.toNat 24 8 = 0x71 ∧ bits v.toNat 0 3 = 3 ∧ (s.qp (s.selQp p)).st ≠
      .absent ∧ s.takesWrite p 0x907 v :=
  by refine
      ⟨.svc, 0x71000003, {}, (wQp (wReady.set F.QP_SEL_QID 1 (pathNum .svc)) { st := .active }), ?_, ?_, ?_, ⟨?_, ?_, ?_⟩⟩ <;>
        decide +kernel

theorem wit_qpBind_0 :
    ∃ (p : Path) (v : Word) (x : RegIn) (s : State), bits v.toNat 24 8 = 0x71 ∧ bits v.toNat 0 3 = 4 ∧ (s.qp (s.selQp p)).st ≠
      .absent ∧ (s.qp (s.selQp p)).bound = false ∧ s.cqBase (s.selQp p) ≠ 0 ∧ s.takesWrite p 0x907 v :=
  by refine
      ⟨.svc, 0x71000004, {}, (wQp ((wReady.set F.QP_SEL_QID 1 (pathNum .svc)).set F.QP_CQ_BASE_LO_ADDR 1 1)
        { st := .active }), ?_, ?_, ?_, ?_, ?_, ⟨?_, ?_, ?_⟩⟩ <;> decide +kernel

theorem wit_idlClr_0 :
    ∃ (p : Path) (v : Word) (x : RegIn) (s : State), bits v.toNat 24 8 = 0x69 ∧ (bit v.toNat 8 = true ∨ bits v.toNat 0 8 <
      s.get F.IDL_STAT_COUNT) ∧ s.takesWrite p 0xB0A v :=
  by refine
      ⟨.svc, 0x69000100, {}, wReady, ?_, ?_, ⟨?_, ?_, ?_⟩⟩ <;> decide +kernel

theorem wit_logInject_0 :
    ∃ (p : Path) (v : Word) (x : RegIn) (s : State), bits v.toNat 24 8 = 0xE7 ∧ bit v.toNat 0 = true ∧ s.log.degraded = false
      ∧ s.takesWrite p 0xB40 v :=
  by refine
      ⟨.svc, 0xE7000001, {}, wReady, ?_, ?_, ?_, ⟨?_, ?_, ?_⟩⟩ <;> decide +kernel

theorem wit_fqInject_0 :
    ∃ (p : Path) (v : Word) (x : RegIn) (s : State), bits v.toNat 24 8 = 0x3A ∧ bits v.toNat 0 6 < 48 ∧ s.takesWrite p 0xE42 v :=
  by refine
      ⟨.svc, 0x3A000000, {}, wReady, ?_, ?_, ⟨?_, ?_, ?_⟩⟩ <;> decide +kernel

theorem wit_fqWmWrite_0 :
    ∃ (p : Path) (v : Word) (x : RegIn) (s : State), 1 ≤ bits v.toNat 16 12 ∧ bits v.toNat 16 12 ≤ fqDepth (s.get F.FQ_SEL_QID
      (pathNum p)) + (if fqSpill (s.get F.FQ_SEL_QID (pathNum p)) then s.spillCfg (s.get F.FQ_SEL_QID (pathNum p)) * spillPer
      (s.get F.FQ_SEL_QID (pathNum p)) else 0) ∧ bits v.toNat 0 12 < bits v.toNat 16 12 ∧ s.takesWrite p 0xE06 v :=
  by refine
      ⟨.svc, 0x10000, {}, wReady, ?_, ?_, ?_, ⟨?_, ?_, ?_⟩⟩ <;> decide +kernel

theorem wit_hmpThrWrite_0 :
    ∃ (p : Path) (v : Word) (x : RegIn) (s : State), 1 ≤ bits v.toNat 0 11 ∧ bits v.toNat 0 11 + bits v.toNat 24 8 < bits
      v.toNat 12 11 ∧ bits v.toNat 12 11 + bits v.toNat 24 8 ≤ 2048 ∧ s.takesWrite p 0xC02 v :=
  by refine
      ⟨.svc, 0x2001, {}, wReady, ?_, ?_, ?_, ⟨?_, ?_, ?_⟩⟩ <;> decide +kernel

theorem wit_ownLimitWrite_0 :
    ∃ (p : Path) (k : Nat) (v : Word) (x : RegIn) (s : State), k < 16 ∧ bits v.toNat 16 12 ≤ 0x800 ∧ bits v.toNat 0 12 ≤ 0x800
      ∧ s.takesWrite p (0xC40 + k) v :=
  by refine
      ⟨.svc, 0, 0x0, {}, wReady, ?_, ?_, ?_, ⟨?_, ?_, ?_⟩⟩ <;> decide +kernel

theorem wit_hmpReleaseOwner_0 :
    ∃ (p : Path) (v : Word) (x : RegIn) (s : State), bits v.toNat 24 8 = 0x48 ∧ bits v.toNat 8 2 = 1 ∧ 4 ≤ bits v.toNat 0 5 ∧
      bits v.toNat 0 5 ≤ 0x0D ∧ s.takesWrite p 0xC50 v :=
  by refine
      ⟨.svc, 0x48000104, {}, wReady, ?_, ?_, ?_, ?_, ⟨?_, ?_, ?_⟩⟩ <;> decide +kernel

theorem wit_hmpScanNow_0 :
    ∃ (p : Path) (v : Word) (x : RegIn) (s : State), bits v.toNat 24 8 = 0x48 ∧ bits v.toNat 8 2 = 2 ∧ s.takesWrite p 0xC50 v :=
  by refine
      ⟨.svc, 0x48000200, {}, wReady, ?_, ?_, ⟨?_, ?_, ?_⟩⟩ <;> decide +kernel

theorem wit_hmpFreeOrphans_0 :
    ∃ (p : Path) (v : Word) (x : RegIn) (s : State), bits v.toNat 24 8 = 0x48 ∧ bits v.toNat 8 2 = 3 ∧ s.takesWrite p 0xC50 v :=
  by refine
      ⟨.svc, 0x48000300, {}, wReady, ?_, ?_, ⟨?_, ?_, ?_⟩⟩ <;> decide +kernel

theorem wit_rationSave_0 :
    ∃ (p : Path) (v : Word) (x : RegIn) (s : State), bits v.toNat 24 8 = 0xD2 ∧ bits v.toNat 0 2 = 1 ∧ s.takesWrite p 0x3143 v :=
  by refine
      ⟨.svc, 0xD2000001, {}, wReady, ?_, ?_, ⟨?_, ?_, ?_⟩⟩ <;> decide +kernel

theorem wit_rationDefaults_0 :
    ∃ (p : Path) (v : Word) (x : RegIn) (s : State), bits v.toNat 24 8 = 0xD2 ∧ bits v.toNat 0 2 = 2 ∧ s.takesWrite p 0x3143 v :=
  by refine
      ⟨.svc, 0xD2000002, {}, wReady, ?_, ?_, ⟨?_, ?_, ?_⟩⟩ <;> decide +kernel

theorem wit_rationCalibrate_0 :
    ∃ (p : Path) (v : Word) (x : RegIn) (s : State), bits v.toNat 24 8 = 0xD2 ∧ bits v.toNat 0 2 = 3 ∧ s.rt.isns = true ∧
      s.rt.on = true ∧ (s.die (bits (s.reg 0x3146).toNat 24 3) (bits (s.reg 0x3146).toNat 27 3 * 4 + bits (s.reg 0x3146).toNat
      30 2)).state = 1 ∧ (s.die (bits (s.reg 0x3146).toNat 24 3) (bits (s.reg 0x3146).toNat 27 3 * 4 + bits (s.reg
      0x3146).toNat 30 2)).cls = bits v.toNat 12 4 ∧ s.regionOk (bits (s.reg 0x3146).toNat 24 3) ((s.die (bits (s.reg
      0x3146).toNat 24 3) (bits (s.reg 0x3146).toNat 27 3 * 4 + bits (s.reg 0x3146).toNat 30 2)).blockOf (bits (s.reg
      0x3146).toNat 0 24)) true = true ∧ s.rt.cal = none ∧ s.takesWrite p 0x3143 v :=
  by refine
      ⟨.svc, 0xD2000003, {}, { wChan wReady 0 { dies := [(0, wDie)] } with rt := { isns := true, on := true } }, ?_, ?_, ?_,
        ?_, ?_, ?_, ?_, ?_, ⟨?_, ?_, ?_⟩⟩ <;> decide +kernel

theorem wit_calSave_0 :
    ∃ (p : Path) (v : Word) (x : RegIn) (s : State), bits v.toNat 24 8 = 0xCA ∧ bits v.toNat 0 3 = 1 ∧ s.get F.CAL_RES_BUSY
      (pathNum p) = 0 ∧ s.st = stReady ∧ s.chans.any (fun c => c.2.training) = false ∧ s.anyStale = false ∧ s.takesWrite p
      0x2F04 v :=
  by refine
      ⟨.svc, 0xCA000001, {}, wReady, ?_, ?_, ?_, ?_, ?_, ?_, ⟨?_, ?_, ?_⟩⟩ <;> decide +kernel

theorem wit_calRetrain_0 :
    ∃ (p : Path) (v : Word) (x : RegIn) (s : State), bits v.toNat 24 8 = 0xCA ∧ bits v.toNat 0 3 = 2 ∧ s.get F.CAL_RES_BUSY
      (pathNum p) = 0 ∧ s.takesWrite p 0x2F04 v :=
  by refine
      ⟨.svc, 0xCA000002, {}, wReady, ?_, ?_, ?_, ⟨?_, ?_, ?_⟩⟩ <;> decide +kernel

theorem wit_calImport_0 :
    ∃ (p : Path) (v : Word) (x : RegIn) (s : State), bits v.toNat 24 8 = 0xCA ∧ bits v.toNat 0 3 = 3 ∧ s.get F.CAL_RES_BUSY
      (pathNum p) = 0 ∧ snapOk (s.snapAt (0xE0000 + s.get F.CAL_IMPORT_OFFSET * 64)) = true ∧ leAt (s.snapAt (0xE0000 + s.get
      F.CAL_IMPORT_OFFSET * 64)) 12 1 = s.get F.SVI_MAN_0_CAL_LEVEL ∧ s.get F.CAL_IMPORT_OFFSET * 64 + 64 + leAt (s.snapAt
      (0xE0000 + s.get F.CAL_IMPORT_OFFSET * 64)) 4 4 ≤ 0x20000 ∧ sliceB ((s.snapAt (0xE0000 + s.get F.CAL_IMPORT_OFFSET *
      64)).drop 64) 0 8 = s.uid ∧ s.takesWrite p 0x2F04 v :=
  by refine
      ⟨.svc, 0xCA000003, {},
        { wReady with keep := { ps := [(0xE0004, 0x08), (0xE0008, 0x08), (0xE0009, 0x89), (0xE000A, 0x12), (0xE000B, 0x04)] } },
        ?_, ?_, ?_, ?_, ?_, ?_, ?_, ⟨?_, ?_, ?_⟩⟩ <;> decide +kernel

theorem wit_clearHost_0 :
    ∃ (p : Path) (v : Word) (x : RegIn) (s : State), bits v.toNat 24 8 = 0xCA ∧ bits v.toNat 0 3 = 4 ∧ s.get F.CAL_RES_BUSY
      (pathNum p) = 0 ∧ s.takesWrite p 0x2F04 v :=
  by refine
      ⟨.svc, 0xCA000004, {}, wReady, ?_, ?_, ?_, ⟨?_, ?_, ?_⟩⟩ <;> decide +kernel

theorem wit_seqDbgHalt_0 :
    ∃ (p : Path) (n : Nat) (v : Word) (x : RegIn) (s : State), n < 8 ∧ bits v.toNat 24 8 = 0xD6 ∧ bits v.toNat 0 2 = 1 ∧
      ((s.sq n).st = 1 ∨ (s.sq n).st = 2) ∧ (s.sq n).halted = false ∧ s.seqStop = false ∧ s.takesWrite p (0x2041 + 128 * n) v :=
  by refine
      ⟨.svc, 0, 0xD6000001, {}, (wSq wReady { st := 1 }), ?_, ?_, ?_, ?_, ?_, ?_, ⟨?_, ?_, ?_⟩⟩ <;> decide +kernel

theorem wit_seqDbgResume_0 :
    ∃ (p : Path) (n : Nat) (v : Word) (x : RegIn) (s : State), n < 8 ∧ bits v.toNat 24 8 = 0xD6 ∧ bits v.toNat 0 2 = 2 ∧ (s.sq
      n).halted = true ∧ s.takesWrite p (0x2041 + 128 * n) v :=
  by refine
      ⟨.svc, 0, 0xD6000002, {}, (wSq wReady { st := 1, halted := true }), ?_, ?_, ?_, ?_, ⟨?_, ?_, ?_⟩⟩ <;> decide +kernel

theorem wit_seqDbgStep_0 :
    ∃ (p : Path) (n : Nat) (v : Word) (x : RegIn) (s : State), n < 8 ∧ bits v.toNat 24 8 = 0xD6 ∧ bits v.toNat 0 2 = 3 ∧ (s.sq
      n).halted = true ∧ s.seqStop = false ∧ s.takesWrite p (0x2041 + 128 * n) v :=
  by refine
      ⟨.svc, 0, 0xD6000003, {}, (wSq wReady { st := 1, halted := true }), ?_, ?_, ?_, ?_, ?_, ⟨?_, ?_, ?_⟩⟩ <;> decide +kernel

theorem wit_seqDbgRdataWrite_0 :
    ∃ (p : Path) (n : Nat) (v : Word) (x : RegIn) (s : State), n < 8 ∧ (s.sq n).halted = true ∧ s.get ⟨0x2044 + 128 * n, 0, 5⟩
      (pathNum p) < 16 ∧ s.takesWrite p (0x2045 + 128 * n) v :=
  by refine
      ⟨.svc, 0, 0x0, {}, (wSq wReady { st := 1, halted := true }), ?_, ?_, ?_, ⟨?_, ?_, ?_⟩⟩ <;> decide +kernel

theorem wit_codecSave_0 :
    ∃ (p : Path) (v : Word) (x : RegIn) (s : State), bits v.toNat 24 8 = 0x6C ∧ bits v.toNat 0 2 = 1 ∧ s.takesWrite p 0x2490 v :=
  by refine
      ⟨.svc, 0x6C000001, {}, wReady, ?_, ?_, ⟨?_, ?_, ?_⟩⟩ <;> decide +kernel

theorem wit_codecDefaults_0 :
    ∃ (p : Path) (v : Word) (x : RegIn) (s : State), bits v.toNat 24 8 = 0x6C ∧ bits v.toNat 0 2 = 2 ∧ s.port.pend.any (fun c
      => c.1 == 0x0A) = false ∧ s.takesWrite p 0x2490 v :=
  by refine
      ⟨.svc, 0x6C000002, {}, wReady, ?_, ?_, ?_, ⟨?_, ?_, ?_⟩⟩ <;> decide +kernel

theorem wit_clearLearn_0 :
    ∃ (p : Path) (v : Word) (x : RegIn) (s : State), bits v.toNat 24 8 = 0x6C ∧ bits v.toNat 0 2 = 3 ∧ s.takesWrite p 0x2490 v :=
  by refine
      ⟨.svc, 0x6C000003, {}, wReady, ?_, ?_, ⟨?_, ?_, ?_⟩⟩ <;> decide +kernel

theorem wit_mapSave_0 :
    ∃ (p : Path) (v : Word) (x : RegIn) (s : State), bits v.toNat 24 8 = 0x4D ∧ bits v.toNat 8 3 = 1 ∧ s.takesWrite p 0x2704 v :=
  by refine
      ⟨.svc, 0x4D000100, {}, wReady, ?_, ?_, ⟨?_, ?_, ?_⟩⟩ <;> decide +kernel

theorem wit_mapInvalidate_0 :
    ∃ (p : Path) (v : Word) (x : RegIn) (s : State), bits v.toNat 24 8 = 0x4D ∧ bits v.toNat 8 3 = 2 ∧ s.takesWrite p 0x2704 v :=
  by refine
      ⟨.svc, 0x4D000200, {}, wReady, ?_, ?_, ⟨?_, ?_, ?_⟩⟩ <;> decide +kernel

theorem wit_mapRebuild_0 :
    ∃ (p : Path) (v : Word) (x : RegIn) (s : State), bits v.toNat 24 8 = 0x4D ∧ bits v.toNat 8 3 = 3 ∧ s.inBuild (bits v.toNat
      0 4) = true ∧ s.takesWrite p 0x2704 v :=
  by refine
      ⟨.svc, 0x4D000300, {}, ((wVol wReady).set F.VOL_CFG_MODE 1), ?_, ?_, ?_, ⟨?_, ?_, ?_⟩⟩ <;> decide +kernel

theorem wit_strCloseOne_0 :
    ∃ (p : Path) (v : Word) (x : RegIn) (s : State), bits v.toNat 24 8 = 0x5B ∧ bits v.toNat 8 2 = 1 ∧ s.takesWrite p 0x2908 v :=
  by refine
      ⟨.svc, 0x5B000100, {}, wReady, ?_, ?_, ⟨?_, ?_, ?_⟩⟩ <;> decide +kernel

theorem wit_strCloseAll_0 :
    ∃ (p : Path) (v : Word) (x : RegIn) (s : State), bits v.toNat 24 8 = 0x5B ∧ bits v.toNat 8 2 = 2 ∧ s.takesWrite p 0x2908 v :=
  by refine
      ⟨.svc, 0x5B000200, {}, wReady, ?_, ?_, ⟨?_, ?_, ?_⟩⟩ <;> decide +kernel

theorem wit_infLoad_0 :
    ∃ (p : Path) (v : Word) (x : RegIn) (s : State), bits v.toNat 24 8 = 0x1F ∧ bits v.toNat 8 2 = 1 ∧ s.takesWrite p 0x2A0B v :=
  by refine
      ⟨.svc, 0x1F000100, {}, wReady, ?_, ?_, ⟨?_, ?_, ?_⟩⟩ <;> decide +kernel

theorem wit_protProvision_0 :
    ∃ (p : Path) (v : Word) (x : RegIn) (s : State), bits v.toNat 24 8 = 0xB7 ∧ bits v.toNat 0 3 = 1 ∧ s.lifecycle = 0 ∧
      allZero (s.otpBytes 0 0 16) = false ∧ x.rng = true ∧ s.takesWrite p 0x2B02 v :=
  by refine
      ⟨.svc, 0xB7000001, { rng := true }, { wReady with keep := { otp := [(0, 1)] } }, ?_, ?_, ?_, ?_, ?_, ⟨?_, ?_, ?_⟩⟩ <;>
        decide +kernel

theorem wit_protWrap_0 :
    ∃ (p : Path) (v : Word) (x : RegIn) (s : State), bits v.toNat 24 8 = 0xB7 ∧ bits v.toNat 0 3 = 2 ∧ s.lifecycle = 2 ∧
      sliceB ((List.range 16).flatMap (fun i => natLE 4 (s.get (F.WRAP_KEY_DATA i)))) 0 32 ≠ sliceB ((List.range 16).flatMap
      (fun i => natLE 4 (s.get (F.WRAP_KEY_DATA i)))) 32 32 ∧ s.takesWrite p 0x2B02 v :=
  by refine
      ⟨.svc, 0xB7000002, {}, { wReady.set (F.WRAP_KEY_DATA 0) 1 with keep := { otp := [(384, 2)] } }, ?_, ?_, ?_, ?_, ⟨?_, ?_,
        ?_⟩⟩ <;> decide +kernel

theorem wit_protSeal_0 :
    ∃ (p : Path) (v : Word) (x : RegIn) (s : State), bits v.toNat 24 8 = 0xB7 ∧ bits v.toNat 0 3 = 3 ∧ s.lifecycle = 2 ∧
      allZero s.rootHash = false ∧ (List.range 16).any s.inBuild = false ∧ s.map.pages.any (fun c => c.dirty) = false ∧ s.get
      F.MAP_TBL_SRC = 1 ∧ s.get F.CODEC_TBL_SRC = 1 ∧ s.takesWrite p 0x2B02 v :=
  by refine
      ⟨.svc, 0xB7000003, {},
        { (wReady.set F.MAP_TBL_SRC 1).set F.CODEC_TBL_SRC 1 with keep := { otp := [(192, 1), (384, 2)] } }, ?_, ?_, ?_, ?_,
        ?_, ?_, ?_, ?_, ⟨?_, ?_, ?_⟩⟩ <;> decide +kernel

theorem wit_keyClear_0 :
    ∃ (p : Path) (v : Word) (x : RegIn) (s : State), bits v.toNat 24 8 = 0xB7 ∧ bits v.toNat 0 3 = 4 ∧ s.takesWrite p 0x2B02 v :=
  by refine
      ⟨.svc, 0xB7000004, {}, wReady, ?_, ?_, ⟨?_, ?_, ?_⟩⟩ <;> decide +kernel

theorem wit_sesClose_0 :
    ∃ (p : Path) (v : Word) (x : RegIn) (s : State), bits v.toNat 24 8 = 0xB7 ∧ bits v.toNat 0 3 = 5 ∧ s.takesWrite p 0x2B02 v :=
  by refine
      ⟨.svc, 0xB7000005, {}, wReady, ?_, ?_, ⟨?_, ?_, ?_⟩⟩ <;> decide +kernel

theorem wit_norCtlProgram_0 :
    ∃ (p : Path) (v : Word) (x : RegIn) (s : State), bits v.toNat 24 8 = 0x9E ∧ bits v.toNat 0 4 = 1 ∧ s.get F.NOR_RES_BUSY
      (pathNum p) = 0 ∧ s.nvBarred = none ∧ s.takesWrite p 0x2D49 v :=
  by refine
      ⟨.svc, 0x9E000001, {}, wReady, ?_, ?_, ?_, ?_, ⟨?_, ?_, ?_⟩⟩ <;> decide +kernel

theorem wit_norCtlProgramClear_0 :
    ∃ (p : Path) (v : Word) (x : RegIn) (s : State), bits v.toNat 24 8 = 0x9E ∧ bits v.toNat 0 4 = 2 ∧ s.get F.NOR_RES_BUSY
      (pathNum p) = 0 ∧ s.nvBarred = none ∧ s.takesWrite p 0x2D49 v :=
  by refine
      ⟨.svc, 0x9E000002, {}, wReady, ?_, ?_, ?_, ?_, ⟨?_, ?_, ?_⟩⟩ <;> decide +kernel

theorem wit_norCtlErase_0 :
    ∃ (p : Path) (v : Word) (x : RegIn) (s : State), bits v.toNat 24 8 = 0x9E ∧ bits v.toNat 0 4 = 3 ∧ s.get F.NOR_RES_BUSY
      (pathNum p) = 0 ∧ sectorCode (bits v.toNat 16 8) = true ∧ s.nvBarred = none ∧ s.takesWrite p 0x2D49 v :=
  by refine
      ⟨.svc, 0x9E000003, {}, wReady, ?_, ?_, ?_, ?_, ?_, ⟨?_, ?_, ?_⟩⟩ <;> decide +kernel

theorem wit_norCtlWp_0 :
    ∃ (p : Path) (v : Word) (x : RegIn) (s : State), bits v.toNat 24 8 = 0x9E ∧ bits v.toNat 0 4 = 4 ∧ s.get F.NOR_RES_BUSY
      (pathNum p) = 0 ∧ sectorCode (bits v.toNat 16 8) = true ∧ s.nvBarred = none ∧ s.takesWrite p 0x2D49 v :=
  by refine
      ⟨.svc, 0x9E000004, {}, wReady, ?_, ?_, ?_, ?_, ?_, ⟨?_, ?_, ?_⟩⟩ <;> decide +kernel

theorem wit_norCtlProtect_0 :
    ∃ (p : Path) (v : Word) (x : RegIn) (s : State), bits v.toNat 24 8 = 0x9E ∧ bits v.toNat 0 4 = 5 ∧ s.get F.NOR_RES_BUSY
      (pathNum p) = 0 ∧ sectorCode (bits v.toNat 16 8) = true ∧ s.nvBarred = none ∧ s.takesWrite p 0x2D49 v :=
  by refine
      ⟨.svc, 0x9E000005, {}, wReady, ?_, ?_, ?_, ?_, ?_, ⟨?_, ?_, ?_⟩⟩ <;> decide +kernel

theorem wit_norCtlPwChange_0 :
    ∃ (p : Path) (v : Word) (x : RegIn) (s : State), bits v.toNat 24 8 = 0x9E ∧ bits v.toNat 0 4 = 6 ∧ s.get F.NOR_RES_BUSY
      (pathNum p) = 0 ∧ s.nvBarred = none ∧ s.takesWrite p 0x2D49 v :=
  by refine
      ⟨.svc, 0x9E000006, {}, wReady, ?_, ?_, ?_, ?_, ⟨?_, ?_, ?_⟩⟩ <;> decide +kernel

theorem wit_norCtlRetire_0 :
    ∃ (p : Path) (v : Word) (x : RegIn) (s : State), bits v.toNat 24 8 = 0x9E ∧ bits v.toNat 0 4 = 7 ∧ s.get F.NOR_RES_BUSY
      (pathNum p) = 0 ∧ s.nvBarred = none ∧ s.takesWrite p 0x2D49 v :=
  by refine
      ⟨.svc, 0x9E000007, {}, wReady, ?_, ?_, ?_, ?_, ⟨?_, ?_, ?_⟩⟩ <;> decide +kernel

theorem wit_otpProgram_0 :
    ∃ (p : Path) (v : Word) (x : RegIn) (s : State), bits v.toNat 24 8 = 0xC5 ∧ bits v.toNat 0 2 = 1 ∧ s.otpBarred = false ∧
      otpCtlSlot (s.get F.OTP_SEL_SLOT (pathNum p)) = true ∧ s.otpLocked (s.get F.OTP_SEL_SLOT (pathNum p)) = false ∧
      s.takesWrite p 0x2D83 v :=
  by refine
      ⟨.svc, 0xC5000001, {}, (wReady.set F.OTP_SEL_SLOT 16 (pathNum .svc)), ?_, ?_, ?_, ?_, ?_, ⟨?_, ?_, ?_⟩⟩ <;>
        decide +kernel

theorem wit_otpLock_0 :
    ∃ (p : Path) (v : Word) (x : RegIn) (s : State), bits v.toNat 24 8 = 0xC5 ∧ bits v.toNat 0 2 = 2 ∧ s.otpBarred = false ∧
      otpCtlSlot (s.get F.OTP_SEL_SLOT (pathNum p)) = true ∧ s.otpLocked (s.get F.OTP_SEL_SLOT (pathNum p)) = false ∧
      s.takesWrite p 0x2D83 v :=
  by refine
      ⟨.svc, 0xC5000002, {}, (wReady.set F.OTP_SEL_SLOT 16 (pathNum .svc)), ?_, ?_, ?_, ?_, ?_, ⟨?_, ?_, ?_⟩⟩ <;>
        decide +kernel

theorem wit_psDataWrite_0 :
    ∃ (p : Path) (v : Word) (x : RegIn) (s : State), 0xE0000 ≤ s.get F.PS_ADDR_ADDR (pathNum p) * 4 ∧ s.takesWrite p 0x2E03 v :=
  by refine
      ⟨.svc, 0x0, {}, (wReady.set F.PS_ADDR_ADDR 0x38000 (pathNum .svc)), ?_, ⟨?_, ?_, ?_⟩⟩ <;> decide +kernel

theorem wit_evrPost_0 :
    ∃ (p : Path) (v : Word) (x : RegIn) (s : State), bits v.toNat 24 8 = 0xE1 ∧ bits v.toNat 0 9 < 384 ∧ s.takesWrite p 0x400
      v :=
  by refine
      ⟨.svc, 0xE1000000, {}, wReady, ?_, ?_, ⟨?_, ?_, ?_⟩⟩ <;> decide +kernel

theorem wit_evrPendClear_0 :
    ∃ (p : Path) (k : Nat) (v : Word) (x : RegIn) (s : State), k < 12 ∧ s.takesWrite p (0x240 + k) v :=
  by refine
      ⟨.svc, 0, 0x0, {}, wReady, ?_, ⟨?_, ?_, ?_⟩⟩ <;> decide +kernel

theorem wit_evrCfgWrite_0 :
    ∃ (p : Path) (n : Nat) (v : Word) (x : RegIn) (s : State), n < 384 ∧ s.takesWrite p (0x280 + n) v :=
  by refine
      ⟨.svc, 0, 0x0, {}, wReady, ?_, ⟨?_, ?_, ?_⟩⟩ <;> decide +kernel

theorem wit_wdCtlWrite_0 :
    ∃ (p : Path) (v : Word) (x : RegIn) (s : State), bits v.toNat 24 8 = 0x5D ∧ s.takesWrite p 0x549 v :=
  by refine
      ⟨.svc, 0x5D000000, {}, wReady, ?_, ⟨?_, ?_, ?_⟩⟩ <;> decide +kernel

theorem wit_tpStart_0 :
    ∃ (p : Path) (v : Word) (x : RegIn) (s : State), bits v.toNat 24 8 = 0x7C ∧ patternTarget (bits v.toNat 16 8) = true ∧
      bits v.toNat 0 2 = 1 ∧ s.tpRun? (bits v.toNat 16 8) = none ∧ s.tpAvailable (bits v.toNat 16 8) (s.get F.TP_CFG_PATTERN
      (bits v.toNat 16 8) / 16) (p == .tap) = true ∧ (0x20 ≤ bits v.toNat 16 8 → s.st = stLimited → s.get (F.CH_IF_RATE (bits
      v.toNat 16 8 - 0x20)) ≤ 2) ∧ s.takesWrite p 0x3341 v :=
  by refine
      ⟨.svc, 0x7C000001, {}, wReady, ?_, ?_, ?_, ?_, ?_, ?_, ⟨?_, ?_, ?_⟩⟩ <;> decide +kernel

theorem wit_tpStop_0 :
    ∃ (p : Path) (v : Word) (x : RegIn) (s : State), bits v.toNat 24 8 = 0x7C ∧ patternTarget (bits v.toNat 16 8) = true ∧
      bits v.toNat 0 2 = 2 ∧ (s.tpRun? (bits v.toNat 16 8)).isSome = true ∧ s.takesWrite p 0x3341 v :=
  by refine
      ⟨.svc, 0x7C000002, {}, { wReady with test := { runs := [(0, { pattern := 0, start := 0, dur := 5 })] } }, ?_, ?_, ?_,
        ?_, ⟨?_, ?_, ?_⟩⟩ <;> decide +kernel

theorem wit_bistCtlRun_0 :
    ∃ (p : Path) (v : Word) (x : RegIn) (s : State), bits v.toNat 24 8 = 0xB1 ∧ bit v.toNat 8 = true ∧ s.st = stServiceOnly ∧
      p = .sp ∧ s.test.bist = none ∧ s.takesWrite p 0x3342 v :=
  by refine
      ⟨.sp, 0xB1000100, {}, { wUp stServiceOnly with port := { lockSp := { openGroups := 0x2000 } } }, ?_, ?_, ?_, rfl, ?_,
        ⟨?_, ?_, ?_⟩⟩ <;> decide +kernel

theorem wit_resetMember_0 :
    ∃ (p : Path) (v : Word) (x : RegIn) (s : State), bits v.toNat 24 8 = 0xC7 ∧ bits v.toNat 8 2 = 1 ∧ bits v.toNat 0 2 ≠ 0 ∧
      s.cascRole = 1 ∧ s.takesWrite p 0x3204 v :=
  by refine
      ⟨.svc, 0xC7000101, {}, (wRole 1), ?_, ?_, ?_, ?_, ⟨?_, ?_, ?_⟩⟩ <;> decide +kernel

theorem wit_resetAll_0 :
    ∃ (p : Path) (v : Word) (x : RegIn) (s : State), bits v.toNat 24 8 = 0xC7 ∧ bits v.toNat 8 2 = 2 ∧ s.cascRole = 1 ∧
      s.takesWrite p 0x3204 v :=
  by refine
      ⟨.svc, 0xC7000200, {}, (wRole 1), ?_, ?_, ?_, ⟨?_, ?_, ?_⟩⟩ <;> decide +kernel

theorem wit_registerWrite_0 :
    ∃ (p : Path) (a : Nat) (v : Word) (x : RegIn) (s : State) (d : RegDef), s.plainReg p a v x = true ∧ (s.beginWrite
      x).regActs p a v x = none ∧ a ≠ 0x47 ∧ s.takesWrite p a v ∧ regDef? a = some d ∧ (¬ (s.pcieMode = true ∧ 0x600 ≤ a ∧ a <
      0x800)) ∧ (∀ f ∈ d.fields, f.vmin ≤ bits v.toNat f.lo f.width ∧ bits v.toNat f.lo f.width ≤ f.vmax) :=
  by refine
      ⟨.svc, 0xE40, 0x0, {}, wReady, _, ?_, ?_, ?_, ⟨?_, ?_, ?_⟩, getEq ?_, ?_, ?_⟩ <;> decide +kernel

theorem wit_norRdataRead_0 :
    ∃ (p : Path) (s : State), s.pathServes p 0x2D43 = true :=
  ⟨.svc, wReady, by decide +kernel⟩

theorem wit_seqNop_0 :
    ∃ (n : Nat) (w : Nat) (x : SeqIn) (s : State) (u : State), s.runs n .nop x ∧ w = s.nextWord n ∧ u = s.fetched n :=
  by refine
      ⟨0, (State.nextWord (wSeq .nop 0 {}) 0), {}, (wSeq .nop 0 {}), (State.fetched (wSeq .nop 0 {}) 0), ⟨?_, ?_, ?_⟩, rfl,
        rfl⟩ <;> decide +kernel

theorem wit_seqAdd_0 :
    ∃ (n : Nat) (w : Nat) (x : SeqIn) (s : State) (u : State), s.runs n .add x ∧ w = s.nextWord n ∧ u = s.fetched n :=
  by refine
      ⟨0, (State.nextWord (wSeq .add 0 {}) 0), {}, (wSeq .add 0 {}), (State.fetched (wSeq .add 0 {}) 0), ⟨?_, ?_, ?_⟩, rfl,
        rfl⟩ <;> decide +kernel

theorem wit_seqAdc_0 :
    ∃ (n : Nat) (w : Nat) (x : SeqIn) (s : State) (u : State), s.runs n .adc x ∧ w = s.nextWord n ∧ u = s.fetched n :=
  by refine
      ⟨0, (State.nextWord (wSeq .adc 0 {}) 0), {}, (wSeq .adc 0 {}), (State.fetched (wSeq .adc 0 {}) 0), ⟨?_, ?_, ?_⟩, rfl,
        rfl⟩ <;> decide +kernel

theorem wit_seqSub_0 :
    ∃ (n : Nat) (w : Nat) (x : SeqIn) (s : State) (u : State), s.runs n .sub x ∧ w = s.nextWord n ∧ u = s.fetched n :=
  by refine
      ⟨0, (State.nextWord (wSeq .sub 0 {}) 0), {}, (wSeq .sub 0 {}), (State.fetched (wSeq .sub 0 {}) 0), ⟨?_, ?_, ?_⟩, rfl,
        rfl⟩ <;> decide +kernel

theorem wit_seqSbc_0 :
    ∃ (n : Nat) (w : Nat) (x : SeqIn) (s : State) (u : State), s.runs n .sbc x ∧ w = s.nextWord n ∧ u = s.fetched n :=
  by refine
      ⟨0, (State.nextWord (wSeq .sbc 0 {}) 0), {}, (wSeq .sbc 0 {}), (State.fetched (wSeq .sbc 0 {}) 0), ⟨?_, ?_, ?_⟩, rfl,
        rfl⟩ <;> decide +kernel

theorem wit_seqAnd_0 :
    ∃ (n : Nat) (w : Nat) (x : SeqIn) (s : State) (u : State), s.runs n .and x ∧ w = s.nextWord n ∧ u = s.fetched n :=
  by refine
      ⟨0, (State.nextWord (wSeq .and 0 {}) 0), {}, (wSeq .and 0 {}), (State.fetched (wSeq .and 0 {}) 0), ⟨?_, ?_, ?_⟩, rfl,
        rfl⟩ <;> decide +kernel

theorem wit_seqOr_0 :
    ∃ (n : Nat) (w : Nat) (x : SeqIn) (s : State) (u : State), s.runs n .or x ∧ w = s.nextWord n ∧ u = s.fetched n :=
  by refine
      ⟨0, (State.nextWord (wSeq .or 0 {}) 0), {}, (wSeq .or 0 {}), (State.fetched (wSeq .or 0 {}) 0), ⟨?_, ?_, ?_⟩, rfl, rfl⟩
        <;> decide +kernel

theorem wit_seqXor_0 :
    ∃ (n : Nat) (w : Nat) (x : SeqIn) (s : State) (u : State), s.runs n .xor x ∧ w = s.nextWord n ∧ u = s.fetched n :=
  by refine
      ⟨0, (State.nextWord (wSeq .xor 0 {}) 0), {}, (wSeq .xor 0 {}), (State.fetched (wSeq .xor 0 {}) 0), ⟨?_, ?_, ?_⟩, rfl,
        rfl⟩ <;> decide +kernel

theorem wit_seqShl_0 :
    ∃ (n : Nat) (w : Nat) (x : SeqIn) (s : State) (u : State), s.runs n .shl x ∧ w = s.nextWord n ∧ u = s.fetched n :=
  by refine
      ⟨0, (State.nextWord (wSeq .shl 0 {}) 0), {}, (wSeq .shl 0 {}), (State.fetched (wSeq .shl 0 {}) 0), ⟨?_, ?_, ?_⟩, rfl,
        rfl⟩ <;> decide +kernel

theorem wit_seqShr_0 :
    ∃ (n : Nat) (w : Nat) (x : SeqIn) (s : State) (u : State), s.runs n .shr x ∧ w = s.nextWord n ∧ u = s.fetched n :=
  by refine
      ⟨0, (State.nextWord (wSeq .shr 0 {}) 0), {}, (wSeq .shr 0 {}), (State.fetched (wSeq .shr 0 {}) 0), ⟨?_, ?_, ?_⟩, rfl,
        rfl⟩ <;> decide +kernel

theorem wit_seqSar_0 :
    ∃ (n : Nat) (w : Nat) (x : SeqIn) (s : State) (u : State), s.runs n .sar x ∧ w = s.nextWord n ∧ u = s.fetched n :=
  by refine
      ⟨0, (State.nextWord (wSeq .sar 0 {}) 0), {}, (wSeq .sar 0 {}), (State.fetched (wSeq .sar 0 {}) 0), ⟨?_, ?_, ?_⟩, rfl,
        rfl⟩ <;> decide +kernel

theorem wit_seqRol_0 :
    ∃ (n : Nat) (w : Nat) (x : SeqIn) (s : State) (u : State), s.runs n .rol x ∧ w = s.nextWord n ∧ u = s.fetched n :=
  by refine
      ⟨0, (State.nextWord (wSeq .rol 0 {}) 0), {}, (wSeq .rol 0 {}), (State.fetched (wSeq .rol 0 {}) 0), ⟨?_, ?_, ?_⟩, rfl,
        rfl⟩ <;> decide +kernel

theorem wit_seqRor_0 :
    ∃ (n : Nat) (w : Nat) (x : SeqIn) (s : State) (u : State), s.runs n .ror x ∧ w = s.nextWord n ∧ u = s.fetched n :=
  by refine
      ⟨0, (State.nextWord (wSeq .ror 0 {}) 0), {}, (wSeq .ror 0 {}), (State.fetched (wSeq .ror 0 {}) 0), ⟨?_, ?_, ?_⟩, rfl,
        rfl⟩ <;> decide +kernel

theorem wit_seqMul_0 :
    ∃ (n : Nat) (w : Nat) (x : SeqIn) (s : State) (u : State), s.runs n .mul x ∧ w = s.nextWord n ∧ u = s.fetched n :=
  by refine
      ⟨0, (State.nextWord (wSeq .mul 0 {}) 0), {}, (wSeq .mul 0 {}), (State.fetched (wSeq .mul 0 {}) 0), ⟨?_, ?_, ?_⟩, rfl,
        rfl⟩ <;> decide +kernel

theorem wit_seqDivs_0 :
    ∃ (n : Nat) (w : Nat) (x : SeqIn) (s : State) (u : State), s.runs n .divs x ∧ w = s.nextWord n ∧ u = s.fetched n ∧ bit
      (aluDivs (u.sq n).flags (u.sv n (wA w)) (u.sv n (wB w))).2.2 4 = false :=
  by refine
      ⟨0, (State.nextWord (wSeq .divs (1 * 2 ^ 14) (wV [6, 3])) 0), {}, (wSeq .divs (1 * 2 ^ 14) (wV [6, 3])), (State.fetched
        (wSeq .divs (1 * 2 ^ 14) (wV [6, 3])) 0), ⟨?_, ?_, ?_⟩, rfl, rfl, ?_⟩ <;> decide +kernel

theorem wit_seqDivs_1 :
    ∃ (n : Nat) (w : Nat) (x : SeqIn) (s : State) (u : State), s.runs n .divs x ∧ w = s.nextWord n ∧ u = s.fetched n ∧ bit
      (aluDivs (u.sq n).flags (u.sv n (wA w)) (u.sv n (wB w))).2.2 4 = true ∧ u.get (F.SEQ_CTL_DZ_EVENT n) = 1 :=
  by refine
      ⟨0, (State.nextWord ((wSeq .divs (1 * 2 ^ 14) (wV [6, 0])).set (F.SEQ_CTL_DZ_EVENT 0) 1) 0), {}, ((wSeq .divs (1 * 2 ^
        14) (wV [6, 0])).set (F.SEQ_CTL_DZ_EVENT 0) 1), (State.fetched ((wSeq .divs (1 * 2 ^ 14) (wV [6, 0])).set
        (F.SEQ_CTL_DZ_EVENT 0) 1) 0), ⟨?_, ?_, ?_⟩, rfl, rfl, ?_, ?_⟩ <;> decide +kernel

theorem wit_seqDivu_0 :
    ∃ (n : Nat) (w : Nat) (x : SeqIn) (s : State) (u : State), s.runs n .divu x ∧ w = s.nextWord n ∧ u = s.fetched n ∧ bit
      (aluDivu (u.sq n).flags (u.sv n (wA w)) (u.sv n (wB w))).2.2 4 = false :=
  by refine
      ⟨0, (State.nextWord (wSeq .divu (1 * 2 ^ 14) (wV [6, 3])) 0), {}, (wSeq .divu (1 * 2 ^ 14) (wV [6, 3])), (State.fetched
        (wSeq .divu (1 * 2 ^ 14) (wV [6, 3])) 0), ⟨?_, ?_, ?_⟩, rfl, rfl, ?_⟩ <;> decide +kernel

theorem wit_seqDivu_1 :
    ∃ (n : Nat) (w : Nat) (x : SeqIn) (s : State) (u : State), s.runs n .divu x ∧ w = s.nextWord n ∧ u = s.fetched n ∧ bit
      (aluDivu (u.sq n).flags (u.sv n (wA w)) (u.sv n (wB w))).2.2 4 = true ∧ u.get (F.SEQ_CTL_DZ_EVENT n) = 1 :=
  by refine
      ⟨0, (State.nextWord ((wSeq .divu (1 * 2 ^ 14) (wV [6, 0])).set (F.SEQ_CTL_DZ_EVENT 0) 1) 0), {}, ((wSeq .divu (1 * 2 ^
        14) (wV [6, 0])).set (F.SEQ_CTL_DZ_EVENT 0) 1), (State.fetched ((wSeq .divu (1 * 2 ^ 14) (wV [6, 0])).set
        (F.SEQ_CTL_DZ_EVENT 0) 1) 0), ⟨?_, ?_, ?_⟩, rfl, rfl, ?_, ?_⟩ <;> decide +kernel

theorem wit_seqCmp_0 :
    ∃ (n : Nat) (w : Nat) (x : SeqIn) (s : State) (u : State), s.runs n .cmp x ∧ w = s.nextWord n ∧ u = s.fetched n :=
  by refine
      ⟨0, (State.nextWord (wSeq .cmp 0 {}) 0), {}, (wSeq .cmp 0 {}), (State.fetched (wSeq .cmp 0 {}) 0), ⟨?_, ?_, ?_⟩, rfl,
        rfl⟩ <;> decide +kernel

theorem wit_seqTst_0 :
    ∃ (n : Nat) (w : Nat) (x : SeqIn) (s : State) (u : State), s.runs n .tst x ∧ w = s.nextWord n ∧ u = s.fetched n :=
  by refine
      ⟨0, (State.nextWord (wSeq .tst 0 {}) 0), {}, (wSeq .tst 0 {}), (State.fetched (wSeq .tst 0 {}) 0), ⟨?_, ?_, ?_⟩, rfl,
        rfl⟩ <;> decide +kernel

theorem wit_seqNeg_0 :
    ∃ (n : Nat) (w : Nat) (x : SeqIn) (s : State) (u : State), s.runs n .neg x ∧ w = s.nextWord n ∧ u = s.fetched n :=
  by refine
      ⟨0, (State.nextWord (wSeq .neg 0 {}) 0), {}, (wSeq .neg 0 {}), (State.fetched (wSeq .neg 0 {}) 0), ⟨?_, ?_, ?_⟩, rfl,
        rfl⟩ <;> decide +kernel

theorem wit_seqNot_0 :
    ∃ (n : Nat) (w : Nat) (x : SeqIn) (s : State) (u : State), s.runs n .not x ∧ w = s.nextWord n ∧ u = s.fetched n :=
  by refine
      ⟨0, (State.nextWord (wSeq .not 0 {}) 0), {}, (wSeq .not 0 {}), (State.fetched (wSeq .not 0 {}) 0), ⟨?_, ?_, ?_⟩, rfl,
        rfl⟩ <;> decide +kernel

theorem wit_seqMov_0 :
    ∃ (n : Nat) (w : Nat) (x : SeqIn) (s : State) (u : State), s.runs n .mov x ∧ w = s.nextWord n ∧ u = s.fetched n :=
  by refine
      ⟨0, (State.nextWord (wSeq .mov 0 {}) 0), {}, (wSeq .mov 0 {}), (State.fetched (wSeq .mov 0 {}) 0), ⟨?_, ?_, ?_⟩, rfl,
        rfl⟩ <;> decide +kernel

theorem wit_seqAddi_0 :
    ∃ (n : Nat) (w : Nat) (x : SeqIn) (s : State) (u : State), s.runs n .addi x ∧ w = s.nextWord n ∧ u = s.fetched n :=
  by refine
      ⟨0, (State.nextWord (wSeq .addi 0 {}) 0), {}, (wSeq .addi 0 {}), (State.fetched (wSeq .addi 0 {}) 0), ⟨?_, ?_, ?_⟩, rfl,
        rfl⟩ <;> decide +kernel

theorem wit_seqAndi_0 :
    ∃ (n : Nat) (w : Nat) (x : SeqIn) (s : State) (u : State), s.runs n .andi x ∧ w = s.nextWord n ∧ u = s.fetched n :=
  by refine
      ⟨0, (State.nextWord (wSeq .andi 0 {}) 0), {}, (wSeq .andi 0 {}), (State.fetched (wSeq .andi 0 {}) 0), ⟨?_, ?_, ?_⟩, rfl,
        rfl⟩ <;> decide +kernel

theorem wit_seqOri_0 :
    ∃ (n : Nat) (w : Nat) (x : SeqIn) (s : State) (u : State), s.runs n .ori x ∧ w = s.nextWord n ∧ u = s.fetched n :=
  by refine
      ⟨0, (State.nextWord (wSeq .ori 0 {}) 0), {}, (wSeq .ori 0 {}), (State.fetched (wSeq .ori 0 {}) 0), ⟨?_, ?_, ?_⟩, rfl,
        rfl⟩ <;> decide +kernel

theorem wit_seqXori_0 :
    ∃ (n : Nat) (w : Nat) (x : SeqIn) (s : State) (u : State), s.runs n .xori x ∧ w = s.nextWord n ∧ u = s.fetched n :=
  by refine
      ⟨0, (State.nextWord (wSeq .xori 0 {}) 0), {}, (wSeq .xori 0 {}), (State.fetched (wSeq .xori 0 {}) 0), ⟨?_, ?_, ?_⟩, rfl,
        rfl⟩ <;> decide +kernel

theorem wit_seqShi_0 :
    ∃ (n : Nat) (w : Nat) (x : SeqIn) (s : State) (u : State), s.runs n .shi x ∧ w = s.nextWord n ∧ u = s.fetched n ∧ bits w
      16 2 = 0 :=
  by refine
      ⟨0, (State.nextWord (wSeq .shi 0 {}) 0), {}, (wSeq .shi 0 {}), (State.fetched (wSeq .shi 0 {}) 0), ⟨?_, ?_, ?_⟩, rfl,
        rfl, ?_⟩ <;> decide +kernel

theorem wit_seqShi_1 :
    ∃ (n : Nat) (w : Nat) (x : SeqIn) (s : State) (u : State), s.runs n .shi x ∧ w = s.nextWord n ∧ u = s.fetched n ∧ bits w
      16 2 = 1 :=
  by refine
      ⟨0, (State.nextWord (wSeq .shi 0x10000 {}) 0), {}, (wSeq .shi 0x10000 {}), (State.fetched (wSeq .shi 0x10000 {}) 0),
        ⟨?_, ?_, ?_⟩, rfl, rfl, ?_⟩ <;> decide +kernel

theorem wit_seqShi_2 :
    ∃ (n : Nat) (w : Nat) (x : SeqIn) (s : State) (u : State), s.runs n .shi x ∧ w = s.nextWord n ∧ u = s.fetched n ∧ bits w
      16 2 = 2 :=
  by refine
      ⟨0, (State.nextWord (wSeq .shi 0x20000 {}) 0), {}, (wSeq .shi 0x20000 {}), (State.fetched (wSeq .shi 0x20000 {}) 0),
        ⟨?_, ?_, ?_⟩, rfl, rfl, ?_⟩ <;> decide +kernel

theorem wit_seqShi_3 :
    ∃ (n : Nat) (w : Nat) (x : SeqIn) (s : State) (u : State), s.runs n .shi x ∧ w = s.nextWord n ∧ u = s.fetched n ∧ bits w
      16 2 = 3 :=
  by refine
      ⟨0, (State.nextWord (wSeq .shi 0x30000 {}) 0), {}, (wSeq .shi 0x30000 {}), (State.fetched (wSeq .shi 0x30000 {}) 0),
        ⟨?_, ?_, ?_⟩, rfl, rfl, ?_⟩ <;> decide +kernel

theorem wit_seqCmpi_0 :
    ∃ (n : Nat) (w : Nat) (x : SeqIn) (s : State) (u : State), s.runs n .cmpi x ∧ w = s.nextWord n ∧ u = s.fetched n :=
  by refine
      ⟨0, (State.nextWord (wSeq .cmpi 0 {}) 0), {}, (wSeq .cmpi 0 {}), (State.fetched (wSeq .cmpi 0 {}) 0), ⟨?_, ?_, ?_⟩, rfl,
        rfl⟩ <;> decide +kernel

theorem wit_seqMovi_0 :
    ∃ (n : Nat) (w : Nat) (x : SeqIn) (s : State) (u : State), s.runs n .movi x ∧ w = s.nextWord n ∧ u = s.fetched n :=
  by refine
      ⟨0, (State.nextWord (wSeq .movi 0 {}) 0), {}, (wSeq .movi 0 {}), (State.fetched (wSeq .movi 0 {}) 0), ⟨?_, ?_, ?_⟩, rfl,
        rfl⟩ <;> decide +kernel

theorem wit_seqMovhi_0 :
    ∃ (n : Nat) (w : Nat) (x : SeqIn) (s : State) (u : State), s.runs n .movhi x ∧ w = s.nextWord n ∧ u = s.fetched n :=
  by refine
      ⟨0, (State.nextWord (wSeq .movhi 0 {}) 0), {}, (wSeq .movhi 0 {}), (State.fetched (wSeq .movhi 0 {}) 0), ⟨?_, ?_, ?_⟩,
        rfl, rfl⟩ <;> decide +kernel

theorem wit_seqMovs_0 :
    ∃ (n : Nat) (w : Nat) (x : SeqIn) (s : State) (u : State), s.runs n .movs x ∧ w = s.nextWord n ∧ u = s.fetched n :=
  by refine
      ⟨0, (State.nextWord (wSeq .movs 0 {}) 0), {}, (wSeq .movs 0 {}), (State.fetched (wSeq .movs 0 {}) 0), ⟨?_, ?_, ?_⟩, rfl,
        rfl⟩ <;> decide +kernel

theorem wit_seqMfs_0 :
    ∃ (n : Nat) (w : Nat) (x : SeqIn) (s : State) (u : State), s.runs n .mfs x ∧ w = s.nextWord n ∧ u = s.fetched n :=
  by refine
      ⟨0, (State.nextWord (wSeq .mfs 0 {}) 0), {}, (wSeq .mfs 0 {}), (State.fetched (wSeq .mfs 0 {}) 0), ⟨?_, ?_, ?_⟩, rfl,
        rfl⟩ <;> decide +kernel

theorem wit_seqMts_0 :
    ∃ (n : Nat) (w : Nat) (x : SeqIn) (s : State) (u : State) (t : State), s.runs n .mts x ∧ w = s.nextWord n ∧ u = s.fetched
      n ∧ u.srWrite n (wImm w % 256) (u.sv n (wA w)).toNat x = .ok t :=
  by refine
      ⟨0, (State.nextWord (wSeq .mts 0 {}) 0), {}, (wSeq .mts 0 {}), (State.fetched (wSeq .mts 0 {}) 0), (State.setFl
        (State.fetched (wSeq .mts 0 {}) 0) 0 (State.sv (State.fetched (wSeq .mts 0 {}) 0) 0 (wA (State.nextWord (wSeq .mts 0
        {}) 0))).toNat), ⟨?_, ?_, ?_⟩, rfl, rfl, rfl⟩ <;> decide +kernel

theorem wit_seqPset_0 :
    ∃ (n : Nat) (w : Nat) (x : SeqIn) (s : State) (u : State), s.runs n .pset x ∧ w = s.nextWord n ∧ u = s.fetched n :=
  by refine
      ⟨0, (State.nextWord (wSeq .pset 0 {}) 0), {}, (wSeq .pset 0 {}), (State.fetched (wSeq .pset 0 {}) 0), ⟨?_, ?_, ?_⟩, rfl,
        rfl⟩ <;> decide +kernel

theorem wit_seqPget_0 :
    ∃ (n : Nat) (w : Nat) (x : SeqIn) (s : State) (u : State), s.runs n .pget x ∧ w = s.nextWord n ∧ u = s.fetched n :=
  by refine
      ⟨0, (State.nextWord (wSeq .pget 0 {}) 0), {}, (wSeq .pget 0 {}), (State.fetched (wSeq .pget 0 {}) 0), ⟨?_, ?_, ?_⟩, rfl,
        rfl⟩ <;> decide +kernel

theorem wit_seqPadd_0 :
    ∃ (n : Nat) (w : Nat) (x : SeqIn) (s : State) (u : State) (r : Nat) (off : Nat), s.runs n .padd x ∧ w = s.nextWord n ∧ u =
      s.fetched n ∧ u.advance (u.ptr n (wPP w)) (wSimm w).toInt = .to r off :=
  by refine
      ⟨0, (State.nextWord (wSeq .padd 0 {}) 0), {}, (wSeq .padd 0 {}), (State.fetched (wSeq .padd 0 {}) 0), 0, 0, ⟨?_, ?_,
        ?_⟩, rfl, rfl, ?_⟩ <;> decide +kernel

theorem wit_seqPtst_0 :
    ∃ (n : Nat) (w : Nat) (x : SeqIn) (s : State) (u : State), s.runs n .ptst x ∧ w = s.nextWord n ∧ u = s.fetched n :=
  by refine
      ⟨0, (State.nextWord (wSeq .ptst 0 {}) 0), {}, (wSeq .ptst 0 {}), (State.fetched (wSeq .ptst 0 {}) 0), ⟨?_, ?_, ?_⟩, rfl,
        rfl⟩ <;> decide +kernel

theorem wit_seqLdw_0 :
    ∃ (n : Nat) (w : Nat) (x : SeqIn) (s : State) (u : State) (v : State) (p : Nat), s.runs n .ldw x ∧ w = s.nextWord n ∧ u =
      s.fetched n ∧ v = u.drain n ∧ p = v.ptr n (wPM w) ∧ wInc w = false ∧ pTag p = false ∧ accFault p (wTarget w) 4 = none ∧
      x.hmpEcc ≠ 2 ∧ v.refOk (pRef p) = true :=
  by refine
      ⟨0, (State.nextWord (wHeld (wSeq .ldw 0xFFC {})) 0), {}, (wHeld (wSeq .ldw 0xFFC {})), (State.fetched (wHeld (wSeq .ldw
        0xFFC {})) 0), (State.drain (State.fetched (wHeld (wSeq .ldw 0xFFC {})) 0) 0), (State.ptr (State.drain (State.fetched
        (wHeld (wSeq .ldw 0xFFC {})) 0) 0) 0 (wPM (State.nextWord (wHeld (wSeq .ldw 0xFFC {})) 0))), ⟨?_, ?_, ?_⟩, rfl, rfl,
        rfl, rfl, ?_, ?_, ?_, ?_, ?_⟩ <;> decide +kernel

theorem wit_seqLdh_0 :
    ∃ (n : Nat) (w : Nat) (x : SeqIn) (s : State) (u : State) (v : State) (p : Nat), s.runs n .ldh x ∧ w = s.nextWord n ∧ u =
      s.fetched n ∧ v = u.drain n ∧ p = v.ptr n (wPM w) ∧ wInc w = false ∧ pTag p = false ∧ accFault p (wTarget w) 2 = none ∧
      x.hmpEcc ≠ 2 ∧ v.refOk (pRef p) = true :=
  by refine
      ⟨0, (State.nextWord (wHeld (wSeq .ldh 0xFFE {})) 0), {}, (wHeld (wSeq .ldh 0xFFE {})), (State.fetched (wHeld (wSeq .ldh
        0xFFE {})) 0), (State.drain (State.fetched (wHeld (wSeq .ldh 0xFFE {})) 0) 0), (State.ptr (State.drain (State.fetched
        (wHeld (wSeq .ldh 0xFFE {})) 0) 0) 0 (wPM (State.nextWord (wHeld (wSeq .ldh 0xFFE {})) 0))), ⟨?_, ?_, ?_⟩, rfl, rfl,
        rfl, rfl, ?_, ?_, ?_, ?_, ?_⟩ <;> decide +kernel

theorem wit_seqLdb_0 :
    ∃ (n : Nat) (w : Nat) (x : SeqIn) (s : State) (u : State) (v : State) (p : Nat), s.runs n .ldb x ∧ w = s.nextWord n ∧ u =
      s.fetched n ∧ v = u.drain n ∧ p = v.ptr n (wPM w) ∧ wInc w = false ∧ pTag p = false ∧ accFault p (wTarget w) 1 = none ∧
      x.hmpEcc ≠ 2 ∧ v.refOk (pRef p) = true :=
  by refine
      ⟨0, (State.nextWord (wHeld (wSeq .ldb 0xFFF {})) 0), {}, (wHeld (wSeq .ldb 0xFFF {})), (State.fetched (wHeld (wSeq .ldb
        0xFFF {})) 0), (State.drain (State.fetched (wHeld (wSeq .ldb 0xFFF {})) 0) 0), (State.ptr (State.drain (State.fetched
        (wHeld (wSeq .ldb 0xFFF {})) 0) 0) 0 (wPM (State.nextWord (wHeld (wSeq .ldb 0xFFF {})) 0))), ⟨?_, ?_, ?_⟩, rfl, rfl,
        rfl, rfl, ?_, ?_, ?_, ?_, ?_⟩ <;> decide +kernel

theorem wit_seqStw_0 :
    ∃ (n : Nat) (w : Nat) (x : SeqIn) (s : State) (u : State) (p : Nat), s.runs n .stw x ∧ w = s.nextWord n ∧ u = s.fetched n
      ∧ p = u.ptr n (wPM w) ∧ wInc w = false ∧ accFault p (wTarget w) 4 = none ∧ (u.sq n).wbuf.length < 8 :=
  by refine
      ⟨0, (State.nextWord (wHeld (wSeq .stw 0xFFC {})) 0), {}, (wHeld (wSeq .stw 0xFFC {})), (State.fetched (wHeld (wSeq .stw
        0xFFC {})) 0), (State.ptr (State.fetched (wHeld (wSeq .stw 0xFFC {})) 0) 0 (wPM (State.nextWord (wHeld (wSeq .stw
        0xFFC {})) 0))), ⟨?_, ?_, ?_⟩, rfl, rfl, rfl, ?_, ?_, ?_⟩ <;> decide +kernel

theorem wit_seqSth_0 :
    ∃ (n : Nat) (w : Nat) (x : SeqIn) (s : State) (u : State) (p : Nat), s.runs n .sth x ∧ w = s.nextWord n ∧ u = s.fetched n
      ∧ p = u.ptr n (wPM w) ∧ wInc w = false ∧ accFault p (wTarget w) 2 = none ∧ (u.sq n).wbuf.length < 8 :=
  by refine
      ⟨0, (State.nextWord (wHeld (wSeq .sth 0xFFE {})) 0), {}, (wHeld (wSeq .sth 0xFFE {})), (State.fetched (wHeld (wSeq .sth
        0xFFE {})) 0), (State.ptr (State.fetched (wHeld (wSeq .sth 0xFFE {})) 0) 0 (wPM (State.nextWord (wHeld (wSeq .sth
        0xFFE {})) 0))), ⟨?_, ?_, ?_⟩, rfl, rfl, rfl, ?_, ?_, ?_⟩ <;> decide +kernel

theorem wit_seqStb_0 :
    ∃ (n : Nat) (w : Nat) (x : SeqIn) (s : State) (u : State) (p : Nat), s.runs n .stb x ∧ w = s.nextWord n ∧ u = s.fetched n
      ∧ p = u.ptr n (wPM w) ∧ wInc w = false ∧ accFault p (wTarget w) 1 = none ∧ (u.sq n).wbuf.length < 8 :=
  by refine
      ⟨0, (State.nextWord (wHeld (wSeq .stb 0xFFF {})) 0), {}, (wHeld (wSeq .stb 0xFFF {})), (State.fetched (wHeld (wSeq .stb
        0xFFF {})) 0), (State.ptr (State.fetched (wHeld (wSeq .stb 0xFFF {})) 0) 0 (wPM (State.nextWord (wHeld (wSeq .stb
        0xFFF {})) 0))), ⟨?_, ?_, ?_⟩, rfl, rfl, rfl, ?_, ?_, ?_⟩ <;> decide +kernel

theorem wit_seqLdl_0 :
    ∃ (n : Nat) (w : Nat) (x : SeqIn) (s : State) (u : State) (i : Nat), s.runs n .ldl x ∧ w = s.nextWord n ∧ u = s.fetched n
      ∧ lramAddr ((u.sv n (wA w)) + wSimm w) = .ok i ∧ x.ramEcc = 0 :=
  by refine
      ⟨0, (State.nextWord (wSeq .ldl 0 {}) 0), {}, (wSeq .ldl 0 {}), (State.fetched (wSeq .ldl 0 {}) 0), 0, ⟨?_, ?_, ?_⟩, rfl,
        rfl, ?_, ?_⟩ <;> decide +kernel

theorem wit_seqStl_0 :
    ∃ (n : Nat) (w : Nat) (x : SeqIn) (s : State) (u : State) (i : Nat), s.runs n .stl x ∧ w = s.nextWord n ∧ u = s.fetched n
      ∧ lramAddr ((u.sv n (wA w)) + wSimm w) = .ok i :=
  by refine
      ⟨0, (State.nextWord (wSeq .stl 0 {}) 0), {}, (wSeq .stl 0 {}), (State.fetched (wSeq .stl 0 {}) 0), 0, ⟨?_, ?_, ?_⟩, rfl,
        rfl, ?_⟩ <;> decide +kernel

theorem wit_seqB_0 :
    ∃ (n : Nat) (w : Nat) (x : SeqIn) (s : State) (u : State), s.runs n .b x ∧ w = s.nextWord n ∧ u = s.fetched n ∧ condTrue
      (u.sq n).flags (wD w) = true :=
  by refine
      ⟨0, (State.nextWord (wSeq .b 0 {}) 0), {}, (wSeq .b 0 {}), (State.fetched (wSeq .b 0 {}) 0), ⟨?_, ?_, ?_⟩, rfl, rfl, ?_⟩
        <;> decide +kernel

theorem wit_seqB_1 :
    ∃ (n : Nat) (w : Nat) (x : SeqIn) (s : State) (u : State), s.runs n .b x ∧ w = s.nextWord n ∧ u = s.fetched n ∧ condTrue
      (u.sq n).flags (wD w) = false :=
  by refine
      ⟨0, (State.nextWord (wSeq .b (2 * 2 ^ 22) {}) 0), {}, (wSeq .b (2 * 2 ^ 22) {}), (State.fetched (wSeq .b (2 * 2 ^ 22)
        {}) 0), ⟨?_, ?_, ?_⟩, rfl, rfl, ?_⟩ <;> decide +kernel

theorem wit_seqBr_0 :
    ∃ (n : Nat) (w : Nat) (x : SeqIn) (s : State) (u : State), s.runs n .br x ∧ w = s.nextWord n ∧ u = s.fetched n ∧ (u.sv n
      (wA w)).toNat < 4096 ∧ condTrue (u.sq n).flags (wD w) = true :=
  by refine
      ⟨0, (State.nextWord (wSeq .br 0 {}) 0), {}, (wSeq .br 0 {}), (State.fetched (wSeq .br 0 {}) 0), ⟨?_, ?_, ?_⟩, rfl, rfl,
        ?_, ?_⟩ <;> decide +kernel

theorem wit_seqBr_1 :
    ∃ (n : Nat) (w : Nat) (x : SeqIn) (s : State) (u : State), s.runs n .br x ∧ w = s.nextWord n ∧ u = s.fetched n ∧ (u.sv n
      (wA w)).toNat < 4096 ∧ condTrue (u.sq n).flags (wD w) = false :=
  by refine
      ⟨0, (State.nextWord (wSeq .br (2 * 2 ^ 22) {}) 0), {}, (wSeq .br (2 * 2 ^ 22) {}), (State.fetched (wSeq .br (2 * 2 ^ 22)
        {}) 0), ⟨?_, ?_, ?_⟩, rfl, rfl, ?_, ?_⟩ <;> decide +kernel

theorem wit_seqCall_0 :
    ∃ (n : Nat) (w : Nat) (x : SeqIn) (s : State) (u : State), s.runs n .call x ∧ w = s.nextWord n ∧ u = s.fetched n ∧
      condTrue (u.sq n).flags (wD w) = true ∧ (u.sq n).stack.length < 8 :=
  by refine
      ⟨0, (State.nextWord (wSeq .call 0 {}) 0), {}, (wSeq .call 0 {}), (State.fetched (wSeq .call 0 {}) 0), ⟨?_, ?_, ?_⟩, rfl,
        rfl, ?_, ?_⟩ <;> decide +kernel

theorem wit_seqCallr_0 :
    ∃ (n : Nat) (w : Nat) (x : SeqIn) (s : State) (u : State), s.runs n .callr x ∧ w = s.nextWord n ∧ u = s.fetched n ∧ (u.sv
      n (wA w)).toNat < 4096 ∧ (u.sq n).stack.length < 8 :=
  by refine
      ⟨0, (State.nextWord (wSeq .callr 0 {}) 0), {}, (wSeq .callr 0 {}), (State.fetched (wSeq .callr 0 {}) 0), ⟨?_, ?_, ?_⟩,
        rfl, rfl, ?_, ?_⟩ <;> decide +kernel

theorem wit_seqRet_0 :
    ∃ (n : Nat) (w : Nat) (x : SeqIn) (s : State) (u : State) (a : Nat) (l : List Nat), s.runs n .ret x ∧ w = s.nextWord n ∧ u
      = s.fetched n ∧ (u.sq n).stack = a :: l :=
  by refine
      ⟨0, (State.nextWord (wSeq .ret 0 { stack := [7, 9] }) 0), {}, (wSeq .ret 0 { stack := [7, 9] }), (State.fetched (wSeq
        .ret 0 { stack := [7, 9] }) 0), 7, [9], ⟨?_, ?_, ?_⟩, rfl, rfl, ?_⟩ <;> decide +kernel

theorem wit_seqRete_0 :
    ∃ (n : Nat) (w : Nat) (x : SeqIn) (s : State) (u : State), s.runs n .rete x ∧ w = s.nextWord n ∧ u = s.fetched n ∧ (u.sq
      n).insvc = true :=
  by refine
      ⟨0, (State.nextWord (wSeq .rete 0 { insvc := true }) 0), {}, (wSeq .rete 0 { insvc := true }), (State.fetched (wSeq
        .rete 0 { insvc := true }) 0), ⟨?_, ?_, ?_⟩, rfl, rfl, ?_⟩ <;> decide +kernel

theorem wit_seqRetf_0 :
    ∃ (n : Nat) (w : Nat) (x : SeqIn) (s : State) (u : State), s.runs n .retf x ∧ w = s.nextWord n ∧ u = s.fetched n ∧ (u.sq
      n).inflt = true :=
  by refine
      ⟨0, (State.nextWord (wSeq .retf 0 { inflt := true }) 0), {}, (wSeq .retf 0 { inflt := true }), (State.fetched (wSeq
        .retf 0 { inflt := true }) 0), ⟨?_, ?_, ?_⟩, rfl, rfl, ?_⟩ <;> decide +kernel

theorem wit_seqDjnz_0 :
    ∃ (n : Nat) (w : Nat) (x : SeqIn) (s : State) (u : State), s.runs n .djnz x ∧ w = s.nextWord n ∧ u = s.fetched n ∧ u.sv n
      (wD w) ≠ 1 :=
  by refine
      ⟨0, (State.nextWord (wSeq .djnz 0 {}) 0), {}, (wSeq .djnz 0 {}), (State.fetched (wSeq .djnz 0 {}) 0), ⟨?_, ?_, ?_⟩, rfl,
        rfl, ?_⟩ <;> decide +kernel

theorem wit_seqDjnz_1 :
    ∃ (n : Nat) (w : Nat) (x : SeqIn) (s : State) (u : State), s.runs n .djnz x ∧ w = s.nextWord n ∧ u = s.fetched n ∧ u.sv n
      (wD w) = 1 :=
  by refine
      ⟨0, (State.nextWord (wSeq .djnz 0 (wV [1])) 0), {}, (wSeq .djnz 0 (wV [1])), (State.fetched (wSeq .djnz 0 (wV [1])) 0),
        ⟨?_, ?_, ?_⟩, rfl, rfl, ?_⟩ <;> decide +kernel

theorem wit_seqPost_0 :
    ∃ (n : Nat) (w : Nat) (x : SeqIn) (s : State) (u : State), s.runs n .post x ∧ w = s.nextWord n ∧ u = s.fetched n :=
  by refine
      ⟨0, (State.nextWord (wSeq .post 0 {}) 0), {}, (wSeq .post 0 {}), (State.fetched (wSeq .post 0 {}) 0), ⟨?_, ?_, ?_⟩, rfl,
        rfl⟩ <;> decide +kernel

theorem wit_seqEvm_0 :
    ∃ (n : Nat) (w : Nat) (x : SeqIn) (s : State) (u : State), s.runs n .evm x ∧ w = s.nextWord n ∧ u = s.fetched n :=
  by refine
      ⟨0, (State.nextWord (wSeq .evm 0 {}) 0), {}, (wSeq .evm 0 {}), (State.fetched (wSeq .evm 0 {}) 0), ⟨?_, ?_, ?_⟩, rfl,
        rfl⟩ <;> decide +kernel

theorem wit_seqWait_0 :
    ∃ (n : Nat) (w : Nat) (x : SeqIn) (s : State) (u : State), s.runs n .wait x ∧ w = s.nextWord n ∧ u = s.fetched n ∧
      u.anyCand n = true :=
  by refine
      ⟨0, (State.nextWord { wSeq .wait 0 {} with router := { offer := [(1, 5)] } } 0), {},
        { wSeq .wait 0 {} with router := { offer := [(1, 5)] } }, (State.fetched
        { wSeq .wait 0 {} with router := { offer := [(1, 5)] } } 0), ⟨?_, ?_, ?_⟩, rfl, rfl, ?_⟩ <;> decide +kernel

theorem wit_seqWait_1 :
    ∃ (n : Nat) (w : Nat) (x : SeqIn) (s : State) (u : State), s.runs n .wait x ∧ w = s.nextWord n ∧ u = s.fetched n ∧
      u.anyCand n = false :=
  by refine
      ⟨0, (State.nextWord (wSeq .wait 0 {}) 0), {}, (wSeq .wait 0 {}), (State.fetched (wSeq .wait 0 {}) 0), ⟨?_, ?_, ?_⟩, rfl,
        rfl, ?_⟩ <;> decide +kernel

theorem wit_seqKick_0 :
    ∃ (n : Nat) (w : Nat) (x : SeqIn) (s : State) (u : State), s.runs n .kick x ∧ w = s.nextWord n ∧ u = s.fetched n :=
  by refine
      ⟨0, (State.nextWord (wSeq .kick 0 {}) 0), {}, (wSeq .kick 0 {}), (State.fetched (wSeq .kick 0 {}) 0), ⟨?_, ?_, ?_⟩, rfl,
        rfl⟩ <;> decide +kernel

theorem wit_seqTset_0 :
    ∃ (n : Nat) (w : Nat) (x : SeqIn) (s : State) (u : State), s.runs n .tset x ∧ w = s.nextWord n ∧ u = s.fetched n ∧ bits
      (u.sv n (wA w)).toNat 0 24 ≠ 0 ∧ bits (u.sv n (wA w)).toNat 24 8 < 2 :=
  by refine
      ⟨0, (State.nextWord (wSeq .tset 0 (wV [0x01000005])) 0), {}, (wSeq .tset 0 (wV [0x01000005])), (State.fetched (wSeq
        .tset 0 (wV [0x01000005])) 0), ⟨?_, ?_, ?_⟩, rfl, rfl, ?_, ?_⟩ <;> decide +kernel

theorem wit_seqTstop_0 :
    ∃ (n : Nat) (w : Nat) (x : SeqIn) (s : State) (u : State), s.runs n .tstop x ∧ w = s.nextWord n ∧ u = s.fetched n :=
  by refine
      ⟨0, (State.nextWord (wSeq .tstop 0 {}) 0), {}, (wSeq .tstop 0 {}), (State.fetched (wSeq .tstop 0 {}) 0), ⟨?_, ?_, ?_⟩,
        rfl, rfl⟩ <;> decide +kernel

theorem wit_seqTget_0 :
    ∃ (n : Nat) (w : Nat) (x : SeqIn) (s : State) (u : State), s.runs n .tget x ∧ w = s.nextWord n ∧ u = s.fetched n ∧
      (u.timer n (wImm w % 8)).running = true ∧ (u.timer n (wImm w % 8)).inUs = true ∧ (u.timer n (wImm w % 8)).pend = false ∧
      (u.timer n (wImm w % 8)).carried = false :=
  by refine
      ⟨0, (State.nextWord (wSeq .tget 0 { timers := [(0, { running := true, inUs := true, left := 5 })] }) 0), {}, (wSeq .tget
        0 { timers := [(0, { running := true, inUs := true, left := 5 })] }), (State.fetched (wSeq .tget 0
        { timers := [(0, { running := true, inUs := true, left := 5 })] }) 0), ⟨?_, ?_, ?_⟩, rfl, rfl, ?_, ?_, ?_, ?_⟩ <;>
        decide +kernel

theorem wit_seqEarm_0 :
    ∃ (n : Nat) (w : Nat) (x : SeqIn) (s : State) (u : State), s.runs n .earm x ∧ w = s.nextWord n ∧ u = s.fetched n ∧ ecfgOk
      (u.sv n (wA w)).toNat = true :=
  by refine
      ⟨0, (State.nextWord (wSeq .earm 0 {}) 0), {}, (wSeq .earm 0 {}), (State.fetched (wSeq .earm 0 {}) 0), ⟨?_, ?_, ?_⟩, rfl,
        rfl, ?_⟩ <;> decide +kernel

theorem wit_seqEdis_0 :
    ∃ (n : Nat) (w : Nat) (x : SeqIn) (s : State) (u : State), s.runs n .edis x ∧ w = s.nextWord n ∧ u = s.fetched n :=
  by refine
      ⟨0, (State.nextWord (wSeq .edis 0 {}) 0), {}, (wSeq .edis 0 {}), (State.fetched (wSeq .edis 0 {}) 0), ⟨?_, ?_, ?_⟩, rfl,
        rfl⟩ <;> decide +kernel

theorem wit_seqEget_0 :
    ∃ (n : Nat) (w : Nat) (x : SeqIn) (s : State) (u : State), s.runs n .eget x ∧ w = s.nextWord n ∧ u = s.fetched n ∧ (u.edge
      n (wImm w % 8)).latched = false ∧ u.rbIgnored n ((u.edge n (wImm w % 8)).cfg % 32) = false :=
  by refine
      ⟨0, (State.nextWord (wSeq .eget 0 {}) 0), {}, (wSeq .eget 0 {}), (State.fetched (wSeq .eget 0 {}) 0), ⟨?_, ?_, ?_⟩, rfl,
        rfl, ?_, ?_⟩ <;> decide +kernel

theorem wit_seqBrk_0 :
    ∃ (n : Nat) (w : Nat) (x : SeqIn) (s : State) (u : State), s.runs n .brk x ∧ w = s.nextWord n ∧ u = s.fetched n ∧ u.get
      (F.SEQ_DBG_CFG_BRK_EN n) = 1 ∧ u.seqStop = false :=
  by refine
      ⟨0, (State.nextWord ((wSeq .brk 0 {}).set (F.SEQ_DBG_CFG_BRK_EN 0) 1) 0), {}, ((wSeq .brk 0 {}).set
        (F.SEQ_DBG_CFG_BRK_EN 0) 1), (State.fetched ((wSeq .brk 0 {}).set (F.SEQ_DBG_CFG_BRK_EN 0) 1) 0), ⟨?_, ?_, ?_⟩, rfl,
        rfl, ?_, ?_⟩ <;> decide +kernel

theorem wit_seqBrk_1 :
    ∃ (n : Nat) (w : Nat) (x : SeqIn) (s : State) (u : State), s.runs n .brk x ∧ w = s.nextWord n ∧ u = s.fetched n ∧ u.get
      (F.SEQ_DBG_CFG_BRK_EN n) ≠ 1 :=
  by refine
      ⟨0, (State.nextWord (wSeq .brk 0 {}) 0), {}, (wSeq .brk 0 {}), (State.fetched (wSeq .brk 0 {}) 0), ⟨?_, ?_, ?_⟩, rfl,
        rfl, ?_⟩ <;> decide +kernel

theorem wit_seqBcmd_0 :
    ∃ (n : Nat) (w : Nat) (x : SeqIn) (s : State) (u : State), s.runs n .bcmd x ∧ w = s.nextWord n ∧ u = s.fetched n ∧
      u.chHold n = false ∧ (u.sq n).ce ≠ none :=
  by refine
      ⟨0, (State.nextWord (wSeq .bcmd 0 { ce := some 0 }) 0), {}, (wSeq .bcmd 0 { ce := some 0 }), (State.fetched (wSeq .bcmd
        0 { ce := some 0 }) 0), ⟨?_, ?_, ?_⟩, rfl, rfl, ?_, ?_⟩ <;> decide +kernel

theorem wit_seqBadr_0 :
    ∃ (n : Nat) (w : Nat) (x : SeqIn) (s : State) (u : State), s.runs n .badr x ∧ w = s.nextWord n ∧ u = s.fetched n ∧
      u.chHold n = false ∧ (u.sq n).ce ≠ none :=
  by refine
      ⟨0, (State.nextWord (wSeq .badr 1 { ce := some 0 }) 0), {}, (wSeq .badr 1 { ce := some 0 }), (State.fetched (wSeq .badr
        1 { ce := some 0 }) 0), ⟨?_, ?_, ?_⟩, rfl, rfl, ?_, ?_⟩ <;> decide +kernel

theorem wit_seqBsts_0 :
    ∃ (n : Nat) (w : Nat) (x : SeqIn) (s : State) (u : State), s.runs n .bsts x ∧ w = s.nextWord n ∧ u = s.fetched n ∧
      u.chHold n = false ∧ (u.sq n).ce ≠ none :=
  by refine
      ⟨0, (State.nextWord (wSeq .bsts 0 { ce := some 0 }) 0), {}, (wSeq .bsts 0 { ce := some 0 }), (State.fetched (wSeq .bsts
        0 { ce := some 0 }) 0), ⟨?_, ?_, ?_⟩, rfl, rfl, ?_, ?_⟩ <;> decide +kernel

theorem wit_seqBsetf_0 :
    ∃ (n : Nat) (w : Nat) (x : SeqIn) (s : State) (u : State), s.runs n .bsetf x ∧ w = s.nextWord n ∧ u = s.fetched n ∧
      u.chHold n = false ∧ (u.sq n).ce ≠ none :=
  by refine
      ⟨0, (State.nextWord (wSeq .bsetf 0 { ce := some 0 }) 0), {}, (wSeq .bsetf 0 { ce := some 0 }), (State.fetched (wSeq
        .bsetf 0 { ce := some 0 }) 0), ⟨?_, ?_, ?_⟩, rfl, rfl, ?_, ?_⟩ <;> decide +kernel

theorem wit_seqBgetf_0 :
    ∃ (n : Nat) (w : Nat) (x : SeqIn) (s : State) (u : State), s.runs n .bgetf x ∧ w = s.nextWord n ∧ u = s.fetched n ∧
      u.chHold n = false ∧ (u.sq n).ce ≠ none :=
  by refine
      ⟨0, (State.nextWord (wSeq .bgetf 0 { ce := some 0 }) 0), {}, (wSeq .bgetf 0 { ce := some 0 }), (State.fetched (wSeq
        .bgetf 0 { ce := some 0 }) 0), ⟨?_, ?_, ?_⟩, rfl, rfl, ?_, ?_⟩ <;> decide +kernel

theorem wit_seqBsel_0 :
    ∃ (n : Nat) (w : Nat) (x : SeqIn) (s : State) (u : State), s.runs n .bsel x ∧ w = s.nextWord n ∧ u = s.fetched n ∧
      u.chHold n = false ∧ bit w 8 = true :=
  by refine
      ⟨0, (State.nextWord (wSeq .bsel 0x100 {}) 0), {}, (wSeq .bsel 0x100 {}), (State.fetched (wSeq .bsel 0x100 {}) 0), ⟨?_,
        ?_, ?_⟩, rfl, rfl, ?_, ?_⟩ <;> decide +kernel

theorem wit_seqBsel_1 :
    ∃ (n : Nat) (w : Nat) (x : SeqIn) (s : State) (u : State), s.runs n .bsel x ∧ w = s.nextWord n ∧ u = s.fetched n ∧
      u.chHold n = false ∧ bit w 8 = false ∧ bit ((u.drain n).get (F.CH_CE_MAP_PRESENT n)) (w % 8) = true :=
  by refine
      ⟨0, (State.nextWord ((wSeq .bsel 0 {}).set (F.CH_CE_MAP_PRESENT 0) 1) 0), {}, ((wSeq .bsel 0 {}).set
        (F.CH_CE_MAP_PRESENT 0) 1), (State.fetched ((wSeq .bsel 0 {}).set (F.CH_CE_MAP_PRESENT 0) 1) 0), ⟨?_, ?_, ?_⟩, rfl,
        rfl, ?_, ?_, ?_⟩ <;> decide +kernel

theorem wit_seqBdo_0 :
    ∃ (n : Nat) (w : Nat) (x : SeqIn) (s : State) (u : State) (v : State) (y : State) (p : Nat) (len : Nat) (r : Nat) (off :
      Nat), s.runs n .bdo x ∧ w = s.nextWord n ∧ u = s.fetched n ∧ u.chHold n = false ∧ (u.sq n).ce ≠ none ∧ v = u.drain n ∧ p
      = v.ptr n (wPM w) ∧ len = (v.sv n (wD w)).toNat ∧ v.burstFault n p len = none ∧ bit p 30 = false ∧ ((v.fillEntry n (pRef
      p)).busAct n 4 []).burstPut (pRef p) (pOff p) (sliceB x.bus 0 len) 16 = (none, y) ∧ v.advance p len = .to r off :=
  by refine
      ⟨0, (State.nextWord (wHeld (wSeq .bdo 0 { wV [2] with ce := some 0 })) 0), {}, (wHeld (wSeq .bdo 0
        { wV [2] with ce := some 0 })), (State.fetched (wHeld (wSeq .bdo 0 { wV [2] with ce := some 0 })) 0), (State.drain
        (State.fetched (wHeld (wSeq .bdo 0 { wV [2] with ce := some 0 })) 0) 0), _, (State.ptr (State.drain (State.fetched
        (wHeld (wSeq .bdo 0 { wV [2] with ce := some 0 })) 0) 0) 0 (wPM (State.nextWord (wHeld (wSeq .bdo 0
        { wV [2] with ce := some 0 })) 0))), 2, 0, 2, ⟨?_, ?_, ?_⟩, rfl, rfl, ?_, ?_, rfl, rfl, rfl, ?_, ?_, pairEq ?_, ?_⟩
        <;> decide +kernel

theorem wit_seqBdi_0 :
    ∃ (n : Nat) (w : Nat) (x : SeqIn) (s : State) (u : State) (v : State) (y : State) (p : Nat) (len : Nat) (r : Nat) (off :
      Nat) (l : List Byte), s.runs n .bdi x ∧ w = s.nextWord n ∧ u = s.fetched n ∧ u.chHold n = false ∧ (u.sq n).ce ≠ none ∧ v
      = u.drain n ∧ p = v.ptr n (wPM w) ∧ len = (v.sv n (wD w)).toNat ∧ v.burstFault n p len = none ∧ x.hmpEcc ≠ 2 ∧
      v.burstGet (pRef p) (pOff p) len 16 = (none, l) ∧ v.advance p len = .to r off ∧ y = (v.seqEcc p (pOff p)
      x.hmpEcc).busAct n 3 l :=
  by refine
      ⟨0, (State.nextWord (wHeld (wSeq .bdi 0 { wV [2] with ce := some 0 })) 0), {}, (wHeld (wSeq .bdi 0
        { wV [2] with ce := some 0 })), (State.fetched (wHeld (wSeq .bdi 0 { wV [2] with ce := some 0 })) 0), (State.drain
        (State.fetched (wHeld (wSeq .bdi 0 { wV [2] with ce := some 0 })) 0) 0), _, (State.ptr (State.drain (State.fetched
        (wHeld (wSeq .bdi 0 { wV [2] with ce := some 0 })) 0) 0) 0 (wPM (State.nextWord (wHeld (wSeq .bdi 0
        { wV [2] with ce := some 0 })) 0))), 2, 0, 2, [0, 0], ⟨?_, ?_, ?_⟩, rfl, rfl, ?_, ?_, rfl, rfl, rfl, ?_, ?_, ?_, ?_,
        rfl⟩ <;> decide +kernel

theorem wit_seqBidle_0 :
    ∃ (n : Nat) (w : Nat) (x : SeqIn) (s : State) (u : State), s.runs n .bidle x ∧ w = s.nextWord n ∧ u = s.fetched n :=
  by refine
      ⟨0, (State.nextWord (wSeq .bidle 1 {}) 0), {}, (wSeq .bidle 1 {}), (State.fetched (wSeq .bidle 1 {}) 0), ⟨?_, ?_, ?_⟩,
        rfl, rfl⟩ <;> decide +kernel

theorem wit_srTake_0 :
    ∃ (n : Nat) (x : Nat) (i : Nat) (o : DieOp) (l : List PsOutcome) (s : State), s.executes n = true ∧ (s.sq n).hand = some i
      ∧ s.slot? n (x % 8) = none ∧ s.dop? i = some o ∧ ((s.withPs l).beforeConfirms o o.parts).1 = true :=
  by refine
      ⟨0, 0, 0, _, [], (wSq { wReady with dops := [(0, { ch := 0, kind := 1, die := 0, parts := [] })] }
        { st := 1, hand := some 0 }), ?_, ?_, ?_, getEq ?_, ?_⟩ <;> decide +kernel

theorem wit_srConfirm_0 :
    ∃ (n : Nat) (x : Nat) (v : OutSlot) (o : DieOp) (s : State), s.executes n = true ∧ s.slot? n (x % 8) = some v ∧ v.started
      = none ∧ s.dop? v.op = some o :=
  by refine
      ⟨0, 0, _, _, (wSq { wReady with dops := [(0, { ch := 0, kind := 1, die := 0, parts := [] })] }
        { st := 1, slots := [(0, { op := 0 })] }), ?_, getEq ?_, ?_, getEq ?_⟩ <;> decide +kernel

theorem wit_srOpend_0 :
    ∃ (n : Nat) (x : Nat) (oc : Nat) (v : OutSlot) (s : State), s.executes n = true ∧ oc < 3 ∧ s.slot? n (x % 8) = some v :=
  by refine
      ⟨0, 0, 0, _, (wSq wReady { st := 1, slots := [(0, { op := 0, started := some 0 })] }), ?_, ?_, getEq ?_⟩ <;>
        decide +kernel

theorem wit_srAck_0 :
    ∃ (n : Nat) (x : Nat) (v : OutSlot) (s : State), s.executes n = true ∧ s.slot? n (x % 8) = some v :=
  by refine
      ⟨0, 0, _, (wSq wReady { st := 1, slots := [(0, { op := 0, poll := true })] }), ?_, getEq ?_⟩ <;> decide +kernel

theorem wit_srSuspack_0 :
    ∃ (n : Nat) (x : Nat) (v : OutSlot) (o : DieOp) (s : State), s.executes n = true ∧ s.slot? n (x % 8) = some v ∧ s.dop?
      v.op = some o :=
  by refine
      ⟨0, 0, _, _, (wSq { wReady with dops := [(0, { ch := 0, kind := 1, die := 0, parts := [] })] }
        { st := 1, slots := [(0, { op := 0, suspReq := true })] }), ?_, getEq ?_, getEq ?_⟩ <;> decide +kernel

theorem wit_srEntryOk_0 :
    ∃ (n : Nat) (y : Xch) (s : State), s.executes n = true ∧ (s.sq n).xch = some y ∧ y.entry = true :=
  by refine
      ⟨0, _, (wSq wReady { st := 1, xch := some { entry := true } }), ?_, getEq ?_, ?_⟩ <;> decide +kernel

theorem wit_eventDelivery_0 :
    ∃ (n : Nat) (c : Cand) (s : State), n < 8 ∧ s.deliveryDue n = true ∧ s.breakHere n = false ∧ s.seqOffer n = none ∧ (s.sq
      n).bestCand = some c :=
  by refine
      ⟨0, _, (wSq wReady { st := 1, en := true, timers := [(0, { pend := true, pcfg := 0x10000 })] }), ?_, ?_, ?_, ?_, getEq
        ?_⟩ <;> decide +kernel

theorem wit_breakpointHalt_0 :
    ∃ (n : Nat) (s : State), (s.sq n).halted = false ∧ s.breakHere n = true :=
  by refine
      ⟨0, (wSq (wReady.set (F.SEQ_DBG_CFG_BP0_EN 0) 1) { st := 1 }), ?_, ?_⟩ <;> decide +kernel

theorem wit_timerExpiry_0 :
    ∃ (n : Nat) (i : Nat) (s : State), (s.sq n).halted = false ∧ (s.timer n i).running = true ∧ (s.timer n i).inUs = true ∧
      (s.timer n i).left = 0 :=
  by refine
      ⟨0, 0, (wSq wReady { st := 1, timers := [(0, { running := true, inUs := true })] }), ?_, ?_, ?_, ?_⟩ <;> decide +kernel

theorem wit_edgeLatch_0 :
    ∃ (n : Nat) (e : Nat) (level : Bool) (s : State), (s.edge n e).cfg % 32 < 4 ∧ s.rbIgnored n ((s.edge n e).cfg % 32) =
      false ∧ bits (s.edge n e).cfg 5 2 = 2 ∧ (s.edge n e).armed = true ∧ (s.edge n e).latched = false ∧ level ≠ (s.edge n
      e).level :=
  by refine
      ⟨0, 0, true, (wSq wReady { st := 1, edges := [(0, { cfg := 0x40, armed := true })] }), ?_, ?_, ?_, ?_, ?_, ?_⟩ <;>
        decide +kernel

theorem wit_illegalInstruction_0 :
    ∃ (n : Nat) (x : SeqIn) (s : State), s.fetchable n = true ∧ seqDecode (s.nextWord n) = none ∧ x.fetchEcc = 0 :=
  by refine
      ⟨0, {}, { wReady with seqs := [(0, { st := 1, progs := [{ base := false, code := [0xFFFFFFFF] }] })] }, ?_, ?_, ?_⟩ <;>
        decide +kernel

end Sys2Proof.Tests
end

section
/-!
PROOFS. What a row of the sequencer answers: the state after a result, after flags alone, after a division and after a machine fault.
-/

namespace Sys2Proof.Machine

/-- Sequencer `n` of `t` holds the result `r.1` in V*d* and the five flags of `r.2`. -/
def State.hasResult (t : State) (n w : Nat) (r : Word × Nat) : Prop :=
  t.sv n (wD w) = r.1 ∧ ∀ i < 5, bit (t.sq n).flags i = bit r.2 i

/-- A sequencer record after a machine fault of cause `k` outside a handler and outside an exchange, with the handler at `vec` (R332). -/
def Seq.faulted (q : Seq) (k vec : Nat) : Seq :=
  { q with
    fltCause := k, fltPc := q.pc, fltRet := (q.pc + 1) % 4096, fflags := q.flags, inflt := true, pc := vec % 4096, st := 1, issued := false }

@[simp] theorem kept_lramGet (s t : State) (n i : Nat) : (s.kept t).lramGet n i = t.lramGet n i := rfl

@[simp] theorem sq_set (s : State) (f : Fld) (v w n : Nat) : (s.set f v w).sq n = s.sq n := by
  unfold State.sq; rw [State.set_seqs]

@[simp] theorem sq_addF (s : State) (f : Fld) (v w n : Nat) : (s.addF f v w).sq n = s.sq n := by
  unfold State.addF; exact sq_set ..

theorem completes_imp {c : Instr} {s : State} {P Q : State → Prop} (h : completes c s P) (hPQ : ∀ t, P t → Q t) : completes c s Q := by
  obtain ⟨t, ht, hP⟩ := h
  exact ⟨t, ht, hPQ t hP⟩

/-- The fault is recorded and the handler entered. -/
theorem sq_machineFault (s : State) (n k : Nat) (hflt : (s.sq n).inflt = false) (hxch : (s.sq n).xch = none) :
    (s.machineFault n k (s.sq n).pc).sq n = (s.sq n).faulted k (s.get (F.SEQ_VEC_FAULT_VEC n)) := by
  simp [State.machineFault, State.setPc, hflt, hxch, Seq.faulted]

variable {s : State} {n : Nat} {o : SOp} {x : SeqIn} {c : Instr}

/-- An instruction whose meaning does not fault completes with the state that its meaning gives. -/
theorem completes_of_ok {u : State} {P : State → Prop} (h : s.runs n o x) (hc : exec c s = .next (s.kept (s.seqRow n o x)))
    (he : seqExec o n (s.nextWord n) (s.sq n).pc x (s.fetched n) = .ok u) (hP : P (s.kept u)) : completes c s P :=
  ⟨_, by rw [hc, seqRow_ok s u n o x h he], hP⟩

/-- An instruction that ends in a result and flags. -/
theorem completes_of_alu {r : Word × Nat} (h : s.runs n o x) (hc : exec c s = .next (s.kept (s.seqRow n o x)))
    (he : seqExec o n (s.nextWord n) (s.sq n).pc x (s.fetched n) = (s.fetched n).alu n (s.nextWord n) r) :
    completes c s (fun t => t.hasResult n (s.nextWord n) r) :=
  alu_done s n _ r _ c o x h hc he ⟨by simp [sv_setV], fun i hi => by simp [bit_mod32 _ i hi]⟩

/-- An instruction that sets flags alone. -/
theorem completes_of_setFl {f : Nat} (h : s.runs n o x) (hc : exec c s = .next (s.kept (s.seqRow n o x)))
    (he : seqExec o n (s.nextWord n) (s.sq n).pc x (s.fetched n) = .ok ((s.fetched n).setFl n f)) :
    completes c s (fun t => (∀ i < 5, bit (t.sq n).flags i = bit f i) ∧ (t.sq n).v = (s.sq n).v) :=
  completes_of_ok h hc he ⟨fun i hi => by simp [bit_mod32 _ i hi], by simp [State.setFl, State.fetched]⟩

/-- A division leaves its quotient in V*d* and its flags, whether or not it posts DZ (R320). -/
theorem completes_of_divEnd {r : Word × Word × Nat} (h : s.runs n o x) (hc : exec c s = .next (s.kept (s.seqRow n o x)))
    (he : seqExec o n (s.nextWord n) (s.sq n).pc x (s.fetched n) = (s.fetched n).divEnd n (s.nextWord n) (s.sq n).pc r) :
    completes c s (fun t => t.hasResult n (s.nextWord n) (r.1, r.2.2)) := by
  refine completes_of_ok h hc he ⟨?quotient, fun i hi => ?flags⟩
  case quotient => split <;> simp [sv_setV]
  case flags => split <;> simp [bit_mod32 _ i hi]

/-- A row of a sequencer instruction whose meaning is a machine fault. -/
theorem seqRow_fault {k : Nat} (h : s.runs n o x)
    (he : seqExec o n (s.nextWord n) (s.sq n).pc x (s.fetched n) = .fault k) : s.seqRow n o x = s.machineFault n k (s.sq n).pc := by
  obtain ⟨hfetch, hdec, hecc, hhalt⟩ := h
  unfold State.seqRow State.seqRun
  rw [if_pos ⟨hfetch, hdec⟩]
  dsimp only
  rw [if_neg (by simp [hecc]), if_neg (by simp [hecc])]
  split
  · next hok => cases hok.symm.trans he
  · next hfault => cases hfault.symm.trans he; simp [hhalt]
  · next hwaits => cases hwaits.symm.trans he

/-- An instruction that is a machine fault outside a handler and outside an exchange. -/
theorem completes_of_fault {k : Nat} (h : s.runs n o x) (hc : exec c s = .next (s.kept (s.seqRow n o x)))
    (he : seqExec o n (s.nextWord n) (s.sq n).pc x (s.fetched n) = .fault k) (hflt : (s.sq n).inflt = false)
    (hxch : (s.sq n).xch = none) :
    completes c s (fun t => t.sq n = (s.sq n).faulted k (s.get (F.SEQ_VEC_FAULT_VEC n))) :=
  ⟨s.kept (s.machineFault n k (s.sq n).pc), by rw [hc, seqRow_fault h he], sq_machineFault s n k hflt hxch⟩

end Sys2Proof.Machine
end

section
/-!
PROOFS. Z and N of every result (R316), C and V of sums and differences (R317), and the product (R319).
-/

namespace Sys2Proof.Machine

/-! ### Zero and negative (R316) -/

/-- Z and N of the flags `r.2` follow the word `r.1`. -/
def flagsFollow (r : Word × Nat) : Prop := bit r.2 0 = (r.1 == 0) ∧ bit r.2 1 = r.1.msb

theorem flagsFollow_aluAdd (f : Nat) (a b : Word) (k : Nat) : flagsFollow (aluAdd f a b k) := by simp [flagsFollow, aluAdd]

theorem flagsFollow_aluSub (f : Nat) (a b : Word) (k : Nat) : flagsFollow (aluSub f a b k) := by simp [flagsFollow, aluSub]

theorem flagsFollow_aluLogic (f : Nat) (r : Word) : flagsFollow (aluLogic f r) := by simp [flagsFollow, aluLogic]

/-- Every shift and rotate ends in `aluShift`, whose C leaves Z and N. -/
theorem flagsFollow_aluShift (f : Nat) (r : Word) (k : Option Bool) : flagsFollow (aluShift f r k) := by
  cases k <;> simp [flagsFollow, aluShift, bit_setFlag]

theorem flagsFollow_aluMul (f : Nat) (a b : Word) : flagsFollow (aluMul f a b) := by simp [flagsFollow, aluMul, bit_setFlag]

theorem flagsFollow_aluDivs (f : Nat) (a b : Word) : flagsFollow ((aluDivs f a b).1, (aluDivs f a b).2.2) := by
  unfold aluDivs
  split
  · simp [flagsFollow, bit_setFlag]
  · split <;> simp [flagsFollow, bit_setFlag]

theorem flagsFollow_aluDivu (f : Nat) (a b : Word) : flagsFollow ((aluDivu f a b).1, (aluDivu f a b).2.2) := by
  unfold aluDivu
  split <;> simp [flagsFollow, bit_setFlag]

/-- The result and flags of SHI of `a` by `k`: `m`, its field *s*, chooses the shift. -/
def aluShi (m f : Nat) (a : Word) (k : Nat) : Word × Nat :=
  match m with
  | 0 => aluShl f a k
  | 1 => aluShr f a k
  | 2 => aluSar f a k
  | _ => aluRor f a k

theorem seqExec_shi {m w : Nat} (hm : bits w 16 2 = m) (n pc : Nat) (x : SeqIn) (s : State) :
    seqExec .shi n w pc x s = s.alu n w (aluShi m (s.sq n).flags (s.sv n (wA w)) (wImm w % 256)) := by
  subst hm; rfl

theorem flagsFollow_aluShi (m f : Nat) (a : Word) (k : Nat) : flagsFollow (aluShi m f a k) := by
  unfold aluShi
  split <;> exact flagsFollow_aluShift ..

/-- Z and N of a state that holds a result are those of the result. -/
theorem State.hasResult.flagsFollow {t : State} {n w : Nat} {r : Word × Nat} (h : t.hasResult n w r) (hr : flagsFollow r) :
    Machine.flagsFollow (t.sv n (wD w), (t.sq n).flags) := by
  obtain ⟨hv, hf⟩ := h
  rw [hv]
  exact ⟨(hf 0 (by decide)).trans hr.1, (hf 1 (by decide)).trans hr.2⟩

section
variable {s : State} {n : Nat} {o : SOp} {x : SeqIn} {c : Instr}

/-- R316 for an instruction that ends in a result and flags. -/
theorem zn_of_alu {r : Word × Nat} (hr : flagsFollow r) (hc : exec c s = .next (s.kept (s.seqRow n o x)))
    (he : seqExec o n (s.nextWord n) (s.sq n).pc x (s.fetched n) = (s.fetched n).alu n (s.nextWord n) r) (h : s.runs n o x) :
    completes c s (fun t => flagsFollow (t.sv n (wD (s.nextWord n)), (t.sq n).flags)) :=
  completes_imp (completes_of_alu h hc he) fun _ ht => ht.flagsFollow hr

/-- R316 for a division, of which the quotient counts. -/
theorem zn_of_divEnd {r : Word × Word × Nat} (hr : flagsFollow (r.1, r.2.2)) (hc : exec c s = .next (s.kept (s.seqRow n o x)))
    (he : seqExec o n (s.nextWord n) (s.sq n).pc x (s.fetched n) = (s.fetched n).divEnd n (s.nextWord n) (s.sq n).pc r)
    (h : s.runs n o x) : completes c s (fun t => flagsFollow (t.sv n (wD (s.nextWord n)), (t.sq n).flags)) :=
  completes_imp (completes_of_divEnd h hc he) fun _ ht => ht.flagsFollow hr

/-- R316 for an instruction that discards its result `r.1`. -/
theorem zn_of_setFl {r : Word × Nat} (h : s.runs n o x) (hr : flagsFollow r) (hc : exec c s = .next (s.kept (s.seqRow n o x)))
    (he : seqExec o n (s.nextWord n) (s.sq n).pc x (s.fetched n) = .ok ((s.fetched n).setFl n r.2)) :
    completes c s (fun t => flagsFollow (r.1, (t.sq n).flags)) :=
  completes_imp (completes_of_setFl h hc he) fun _ ⟨hf, _⟩ => ⟨(hf 0 (by decide)).trans hr.1, (hf 1 (by decide)).trans hr.2⟩

end

/-- Settles O9: each instruction that writes V*d* ends in a result whose Z and N follow it, and so do the flags of those that discard
their result. -/
theorem zeroAndNegativeFlags : Obligations.ZeroAndNegativeFlags := by
  rintro n w x s rfl
  refine ⟨?writers, ?cmp, ?cmpi, ?tst⟩
  case writers =>
    simp only [List.forall_mem_cons]
    exact
      ⟨zn_of_alu (flagsFollow_aluAdd ..) rfl rfl, zn_of_alu (flagsFollow_aluAdd ..) rfl rfl,
        zn_of_alu (flagsFollow_aluSub ..) rfl rfl, zn_of_alu (flagsFollow_aluSub ..) rfl rfl,
        zn_of_alu (flagsFollow_aluLogic ..) rfl rfl, zn_of_alu (flagsFollow_aluLogic ..) rfl rfl,
        zn_of_alu (flagsFollow_aluLogic ..) rfl rfl,
        zn_of_alu (flagsFollow_aluShift ..) rfl rfl, zn_of_alu (flagsFollow_aluShift ..) rfl rfl,
        zn_of_alu (flagsFollow_aluShift ..) rfl rfl, zn_of_alu (flagsFollow_aluShift ..) rfl rfl,
        zn_of_alu (flagsFollow_aluShift ..) rfl rfl,
        zn_of_alu (flagsFollow_aluMul ..) rfl rfl,
        zn_of_divEnd (flagsFollow_aluDivs ..) rfl rfl, zn_of_divEnd (flagsFollow_aluDivu ..) rfl rfl,
        zn_of_alu (flagsFollow_aluSub ..) rfl rfl, zn_of_alu (flagsFollow_aluLogic ..) rfl rfl,
        zn_of_alu (flagsFollow_aluAdd ..) rfl rfl,
        zn_of_alu (flagsFollow_aluLogic ..) rfl rfl, zn_of_alu (flagsFollow_aluLogic ..) rfl rfl,
        zn_of_alu (flagsFollow_aluLogic ..) rfl rfl,
        zn_of_alu (flagsFollow_aluShi ..) rfl (seqExec_shi rfl ..), nofun⟩
  case cmp => exact fun h => by simpa [flagsFollow, aluSub] using zn_of_setFl (c := .seqCmp n x) h (flagsFollow_aluSub ..) rfl rfl
  case cmpi => exact fun h => by simpa [flagsFollow, aluSub] using zn_of_setFl (c := .seqCmpi n x) h (flagsFollow_aluSub ..) rfl rfl
  case tst => exact fun h => by simpa [flagsFollow, aluLogic] using zn_of_setFl (c := .seqTst n x) h (flagsFollow_aluLogic ..) rfl rfl

/-! ### Carry and overflow (R317) -/

/-- A state that holds an addition's result holds the sum, with C and V of R317. -/
theorem State.hasResult.isSum {t : State} {n w f k : Nat} {a b : Word} (h : t.hasResult n w (aluAdd f a b k)) :
    isSum n (wD w) a b k t := by
  obtain ⟨hv, hf⟩ := h
  refine ⟨hv, ?_, ?_⟩
  · rw [hf 2 (by decide), aluAdd, bit_flagsZNCV]; rfl
  · rw [hf 3 (by decide), aluAdd, bit_flagsZNCV]; rfl

/-- C and V of a subtraction are those of R317. -/
theorem diffFlags_of_aluSub {t : State} {n f k : Nat} {a b : Word} (hf : ∀ i < 5, bit (t.sq n).flags i = bit (aluSub f a b k).2 i) :
    diffFlags n a b k t := by
  constructor
  · rw [hf 2 (by decide), aluSub, bit_flagsZNCV]; rfl
  · rw [hf 3 (by decide), aluSub, bit_flagsZNCV]; rfl

theorem State.hasResult.isDiff {t : State} {n w f k : Nat} {a b : Word} (h : t.hasResult n w (aluSub f a b k)) :
    isDiff n (wD w) a b k t :=
  ⟨h.1, diffFlags_of_aluSub h.2⟩

/-- NEG takes no borrow from 0 alone, and its one overflow is at the most negative word (R317). -/
theorem neg_of_isDiff {t : State} {n d : Nat} {a : Word} (h : isDiff n d 0 a 0 t) :
    bit (t.sq n).flags 2 = (a == 0) ∧ (a = 0x80000000 → t.sv n d = 0x80000000 ∧ bit (t.sq n).flags 3 = true) := by
  obtain ⟨hv, hC, hV⟩ := h
  constructor
  · rw [hC, Bool.eq_iff_iff]
    simp [← BitVec.toNat_inj]
  · rintro rfl
    exact ⟨hv, hV⟩

/-- Settles O10: the results and flags of `aluAdd` and `aluSub` are those of R317, whatever is added or subtracted. -/
theorem carryAndOverflowFlags : Obligations.CarryAndOverflowFlags := by
  intro n w c x s a b i hw ha hb hi hc
  rw [← fetched_sv s n] at ha hb
  rw [← fetched_flags s n] at hc
  subst hw ha hb hi hc
  refine ⟨?add, ?adc, ?addi, ?sub, ?sbc, ?neg, ?cmp, ?cmpi⟩
  case add => exact fun h => completes_imp (completes_of_alu h rfl rfl) fun _ ht => ht.isSum
  case adc => exact fun h => completes_imp (completes_of_alu h rfl rfl) fun _ ht => ht.isSum
  case addi => exact fun h => completes_imp (completes_of_alu h rfl rfl) fun _ ht => ht.isSum
  case sub => exact fun h => completes_imp (completes_of_alu h rfl rfl) fun _ ht => ht.isDiff
  case sbc => exact fun h => completes_imp (completes_of_alu h rfl rfl) fun _ ht => ht.isDiff
  case neg => exact fun h => completes_imp (completes_of_alu h rfl rfl) fun _ ht => ⟨ht.isDiff, neg_of_isDiff ht.isDiff⟩
  case cmp => exact fun h => completes_imp (completes_of_setFl h rfl rfl) fun _ ⟨hf, hv⟩ => ⟨diffFlags_of_aluSub hf, hv⟩
  case cmpi => exact fun h => completes_imp (completes_of_setFl h rfl rfl) fun _ ⟨hf, hv⟩ => ⟨diffFlags_of_aluSub hf, hv⟩

/-! ### The product (R319) -/

/-- The wrapped product differs from the exact one when that does not fit. -/
theorem toInt_mul_ne_iff (a b : Word) :
    (a * b).toInt ≠ a.toInt * b.toInt ↔ a.toInt * b.toInt < -2147483648 ∨ 2147483648 ≤ a.toInt * b.toInt := by
  rw [BitVec.toInt_mul, ne_eq, Int.bmod_eq_iff (by decide)]
  generalize a.toInt * b.toInt = p
  norm_num
  omega

/-- Settles O12: the wrapped product is the exact one just when that fits. -/
theorem multiplyKeepsTheLowHalf : Obligations.MultiplyKeepsTheLowHalf := by
  intro n w x s a b hw ha hb h
  rw [← fetched_sv s n] at ha hb
  subst hw ha hb
  refine completes_imp (completes_of_alu h rfl rfl) fun t ⟨hv, hf⟩ => ⟨?_, ?_⟩
  · rw [hv]
    exact BitVec.toNat_mul ..
  · rw [hf 3 (by decide), aluMul, bit_setFlag, if_pos rfl, decide_eq_decide]
    exact toInt_mul_ne_iff ..

end Sys2Proof.Machine
end

section
/-!
PROOFS. Shifts and rotates (R318).
-/

namespace Sys2Proof.Machine

/-- C after a shift: what the shift says of it, else as before. -/
theorem carry_aluShift (f : Nat) (r : Word) (k : Option Bool) : bit (aluShift f r k).2 2 = k.getD (bit f 2) := by
  cases k <;> simp [aluShift, bit_setFlag]

/-- `bit` of a word is `getLsbD`. -/
theorem bit_toNat (a : Word) (i : Nat) : bit a.toNat i = a.getLsbD i := by rw [bit_testBit, BitVec.testBit_toNat]

/-- C after a shift by `k`: `last` is the last bit shifted out, `beyond` what is shifted out past the word. -/
theorem shiftCarry_cases (k : Nat) (c0 last beyond : Bool) {c : Bool}
    (hc : c = (if k = 0 then none else if k ≤ 32 then some last else some beyond).getD c0) :
    (k = 0 → c = c0) ∧ (1 ≤ k → k ≤ 32 → c = last) ∧ (32 < k → c = beyond) := by
  subst hc
  refine ⟨fun h => by rw [if_pos h]; rfl, fun h1 h2 => ?_, fun h => ?_⟩
  · rw [if_neg (by omega), if_pos h2]; rfl
  · rw [if_neg (by omega), if_neg (by omega)]; rfl

/-- R318 for SHL. -/
theorem shlRule_aluShl (f : Nat) (a : Word) (k : Nat) : shlRule a k (aluShl f a k).1 (bit f 2) (bit (aluShl f a k).2 2) := by
  obtain ⟨hzero, hlast, hbeyond⟩ := shiftCarry_cases k _ _ _ (carry_aluShift f (aluShl f a k).1 _)
  refine ⟨fun h => ?_, fun h => if_pos h, fun h => ⟨?_, hzero h⟩, fun h1 h2 => (hlast h1 h2).trans (bit_toNat ..), hbeyond⟩
  · simp [aluShl, aluShift, Nat.not_le.2 h, Nat.shiftLeft_eq]
  · simp [aluShl, aluShift, h]

/-- R318 for SHR. -/
theorem shrRule_aluShr (f : Nat) (a : Word) (k : Nat) : shrRule a k (aluShr f a k).1 (bit f 2) (bit (aluShr f a k).2 2) := by
  obtain ⟨hzero, hlast, hbeyond⟩ := shiftCarry_cases k _ _ _ (carry_aluShift f (aluShr f a k).1 _)
  refine ⟨fun h => ?_, fun h => if_pos h, fun h => ⟨?_, hzero h⟩, fun h1 h2 => (hlast h1 h2).trans (bit_toNat ..), hbeyond⟩
  · simp [aluShr, aluShift, Nat.not_le.2 h, Nat.shiftRight_eq_div_pow]
  · simp [aluShr, aluShift, h]

/-- An arithmetic shift by the whole width leaves copies of bit 31. -/
theorem sshiftRight_width (a : Word) : a.sshiftRight 32 = if a.msb then 0xFFFFFFFF else 0 := by
  cases h : a.msb
  · rw [BitVec.sshiftRight_eq_of_msb_false h, BitVec.ushiftRight_eq_zero (Nat.le_refl 32)]; rfl
  · rw [BitVec.sshiftRight_eq_of_msb_true h, BitVec.ushiftRight_eq_zero (Nat.le_refl 32)]; rfl

/-- R318 for SAR. -/
theorem sarRule_aluSar (f : Nat) (a : Word) (k : Nat) : sarRule a k (aluSar f a k).1 (bit f 2) (bit (aluSar f a k).2 2) := by
  obtain ⟨hzero, hlast, hbeyond⟩ := shiftCarry_cases k _ _ _ (carry_aluShift f (aluSar f a k).1 _)
  refine ⟨fun h => ?_, fun h => ?_, fun h => ⟨?_, hzero h⟩, fun h1 h2 => (hlast h1 h2).trans (bit_toNat ..), hbeyond⟩
  · simp [aluSar, aluShift, Nat.min_eq_left h.le, BitVec.toInt_sshiftRight, Int.shiftRight_eq_div_pow]
  · simp only [aluSar, aluShift, Nat.min_eq_right h, sshiftRight_width]
  · simp [aluSar, aluShift, h]

/-- Bit `i` moves to bit `i + k` modulo 32. -/
theorem getLsbD_rotateLeft_add (a : Word) (i k : Nat) (h : i < 32) :
    (a.rotateLeft (k % 32)).getLsbD ((i + k) % 32) = a.getLsbD i := by
  rw [BitVec.getLsbD_rotateLeft]
  by_cases hlow : (i + k) % 32 < k % 32 % 32
  · rw [decide_eq_true hlow, cond_true, show 32 - k % 32 % 32 + (i + k) % 32 = i by omega]
  · rw [decide_eq_false hlow, cond_false, decide_eq_true (by omega), Bool.true_and, show (i + k) % 32 - k % 32 % 32 = i by omega]

/-- Bit `i` comes from bit `i + k` modulo 32. -/
theorem getLsbD_rotateRight_add (a : Word) (i k : Nat) (h : i < 32) :
    (a.rotateRight (k % 32)).getLsbD i = a.getLsbD ((i + k) % 32) := by
  rw [BitVec.getLsbD_rotateRight]
  by_cases hlow : i < 32 - k % 32 % 32
  · rw [decide_eq_true hlow, cond_true, show k % 32 % 32 + i = (i + k) % 32 by omega]
  · rw [decide_eq_false hlow, cond_false, decide_eq_true h, Bool.true_and, show i - (32 - k % 32 % 32) = (i + k) % 32 by omega]

/-- R318 for ROL. -/
theorem rolRule_aluRol (f : Nat) (a : Word) (k : Nat) : rolRule a k (aluRol f a k).1 (bit f 2) (bit (aluRol f a k).2 2) := by
  rw [aluRol, carry_aluShift]
  refine ⟨fun i hi => getLsbD_rotateLeft_add a i k hi, fun h => ⟨?_, ?_⟩, fun h => ?_⟩
  · simp [aluShift, h, BitVec.rotateLeft_def, BitVec.ushiftRight_eq_zero]
  · simp [h]
  · rw [if_neg h]; exact bit_toNat ..

/-- R318 for ROR. -/
theorem rorRule_aluRor (f : Nat) (a : Word) (k : Nat) : rorRule a k (aluRor f a k).1 (bit f 2) (bit (aluRor f a k).2 2) := by
  rw [aluRor, carry_aluShift]
  refine ⟨fun i hi => getLsbD_rotateRight_add a i k hi, fun h => ⟨?_, ?_⟩, fun h => ?_⟩
  · simp [aluShift, h, BitVec.rotateRight_def]
  · simp [h]
  · rw [if_neg h]; rfl

section
variable {s : State} {n : Nat} {o : SOp} {x : SeqIn} {c : Instr}

/-- An instruction whose result and C meet a rule of R318, and whose Z and N follow the result. -/
theorem shift_of_alu {rule : Word → Nat → Word → Bool → Bool → Prop} {a : Word} {k : Nat} {r : Word × Nat}
    (hc : exec c s = .next (s.kept (s.seqRow n o x)))
    (he : seqExec o n (s.nextWord n) (s.sq n).pc x (s.fetched n) = (s.fetched n).alu n (s.nextWord n) r) (hr : flagsFollow r)
    (hrule : rule a k r.1 (bit ((s.fetched n).sq n).flags 2) (bit r.2 2)) (h : s.runs n o x) :
    completes c s (fun t =>
      rule a k (t.sv n (wD (s.nextWord n))) (bit ((s.fetched n).sq n).flags 2) (bit (t.sq n).flags 2) ∧
      flagsFollow (t.sv n (wD (s.nextWord n)), (t.sq n).flags)) := by
  refine completes_imp (completes_of_alu h hc he) fun t ht => ⟨?_, ht.flagsFollow hr⟩
  obtain ⟨hv, hf⟩ := ht
  rw [hv, hf 2 (by decide)]
  exact hrule

end

/-- Settles O11: each shift's result and C meet its rule, for the amount in V*b* and for that of SHI alike. -/
theorem shiftsAndRotates : Obligations.ShiftsAndRotates := by
  intro n w x s a hw ha
  simp only [← fetched_sv s n, ← fetched_flags s n] at ha ⊢
  subst hw ha
  simp only [List.forall_mem_cons]
  refine ⟨?inVb, ?immediate⟩
  case inVb =>
    exact
      ⟨shift_of_alu rfl rfl (flagsFollow_aluShift ..) (shlRule_aluShl ..),
       shift_of_alu rfl rfl (flagsFollow_aluShift ..) (shrRule_aluShr ..),
       shift_of_alu rfl rfl (flagsFollow_aluShift ..) (sarRule_aluSar ..),
       shift_of_alu rfl rfl (flagsFollow_aluShift ..) (rolRule_aluRol ..),
       shift_of_alu rfl rfl (flagsFollow_aluShift ..) (rorRule_aluRor ..), nofun⟩
  case immediate =>
    exact
      ⟨fun h hm => shift_of_alu rfl (seqExec_shi hm ..) (flagsFollow_aluShi ..) (shlRule_aluShl ..) h,
       fun h hm => shift_of_alu rfl (seqExec_shi hm ..) (flagsFollow_aluShi ..) (shrRule_aluShr ..) h,
       fun h hm => shift_of_alu rfl (seqExec_shi hm ..) (flagsFollow_aluShi ..) (sarRule_aluSar ..) h,
       fun h hm => shift_of_alu rfl (seqExec_shi hm ..) (flagsFollow_aluShi ..) (rorRule_aluRor ..) h, nofun⟩

end Sys2Proof.Machine
end

section
/-!
PROOFS. Local RAM (R326).
-/

namespace Sys2Proof.Machine

/-- The word that an address in range and aligned reaches. -/
theorem lramAddr_ok {a : Word} (hrange : a.toNat ≤ 0x7FC) (halign : a.toNat % 4 = 0) : lramAddr a = .ok (a.toNat / 4) := by
  simp [lramAddr, Nat.not_lt.2 hrange, halign]

/-- The cause of an address that is out of range or misaligned. -/
theorem lramAddr_error {a : Word} (h : ¬ (a.toNat ≤ 0x7FC ∧ a.toNat % 4 = 0)) :
    ∃ k, lramAddr a = .error k ∧ (a.toNat % 4 = 0 → k = 4) ∧ (a.toNat ≤ 0x7FC → k = 5) ∧ (k = 4 ∨ k = 5) := by
  unfold lramAddr
  by_cases hrange : 0x7FC < a.toNat
  · exact ⟨4, if_pos hrange, fun _ => rfl, fun _ => by omega, .inl rfl⟩
  · exact ⟨5, by rw [if_neg hrange, if_pos (by omega)], fun _ => by omega, fun _ => rfl, .inr rfl⟩

/-- Local RAM reads alike in two states of a sequencer that hold the same words. -/
theorem lramGet_congr {s t : State} {n : Nat} (hram : (t.sq n).lram = (s.sq n).lram) (hfree : (t.sq n).lramN = (s.sq n).lramN)
    (i : Nat) : t.lramGet n i = s.lramGet n i := by
  unfold State.lramGet
  rw [hram, hfree]

@[simp] theorem fetched_lramGet (s : State) (n i : Nat) : (s.fetched n).lramGet n i = s.lramGet n i :=
  lramGet_congr (by simp [State.fetched]) (by simp [State.fetched]) i

/-- Setting V keeps local RAM. -/
@[simp] theorem lramGet_setV (s : State) (n d i : Nat) (r : Word) : (s.setV n d r).lramGet n i = s.lramGet n i :=
  lramGet_congr (by simp [State.setV]) (by simp [State.setV]) i

/-- Both accesses fault where their address does. -/
theorem seqExec_lram_fault {o : SOp} (ho : o = .ldl ∨ o = .stl) {n w pc k : Nat} {x : SeqIn} {s : State}
    (h : lramAddr (s.sv n (wA w) + wSimm w) = .error k) : seqExec o n w pc x s = .fault k := by
  rcases ho with rfl | rfl
  · simp [seqExec, semLdl, h]
  · simp [seqExec, semStl, h]

/-- Settles O16: an address in range and aligned reaches its word, and any other is a machine fault that leaves V and local RAM. -/
theorem localRamAccess : Obligations.LocalRamAccess := by
  intro n w x s a hw ha
  subst hw
  refine ⟨fun h hrange halign hecc => ?ldl, fun h hrange halign => ?stl, ?faults⟩
  case ldl =>
    have he : seqExec .ldl n (s.nextWord n) (s.sq n).pc x (s.fetched n) =
        .ok ((s.fetched n).setV n (wD (s.nextWord n)) (s.lramGet n (a.toNat / 4))) := by
      simp [seqExec, semLdl, ← ha, lramAddr_ok hrange halign, hecc]
    refine completes_of_ok h rfl he ⟨?_, fun i hi => ?_, fun i => by simp⟩
    · simp [sv_setV]
    · simp [sv_setV, Ne.symm hi]
  case stl =>
    have he : seqExec .stl n (s.nextWord n) (s.sq n).pc x (s.fetched n) = .ok ((s.fetched n).setSq n
        { (s.fetched n).sq n with lram := tput ((s.fetched n).sq n).lram (a.toNat / 4) (s.sv n (wD (s.nextWord n))) }) := by
      simp [seqExec, semStl, ← ha, lramAddr_ok hrange halign]
    refine completes_of_ok h rfl he ⟨fun i => ?_, by simp [State.fetched]⟩
    rw [← fetched_lramGet s n i]
    simp [State.lramGet, eq_comm]
  case faults =>
    have hrows : ∀ o ∈ [(SOp.ldl, Instr.seqLdl), (.stl, .seqStl)],
        (o.1 = .ldl ∨ o.1 = .stl) ∧ exec (o.2 n x) s = .next (s.kept (s.seqRow n o.1 x)) := by
      simp only [List.forall_mem_cons]
      exact ⟨⟨.inl trivial, rfl⟩, ⟨.inr trivial, rfl⟩, nofun⟩
    intro o ho h hflt hxch hbad
    obtain ⟨hop, hc⟩ := hrows o ho
    obtain ⟨k, hk, hrange, halign, hcause⟩ := lramAddr_error hbad
    refine completes_imp (completes_of_fault h hc (seqExec_lram_fault hop (by rw [fetched_sv, ← ha, hk])) hflt hxch) fun t ht => ?_
    rw [ht]
    exact ⟨hrange, halign, hcause, rfl, rfl, lramGet_congr (by rw [ht]; rfl) (by rw [ht]; rfl)⟩

end Sys2Proof.Machine
end

section
/-!
PROOFS. Steps: every command goes on, takes itself off the queue and keeps the OTP row; the state at reset; the decoder's table.
-/

namespace Sys2Proof.Machine

/-- Every arm of `exec` answers the state that its row gives, with what no command changes. -/
theorem exec_eq_kept (c : Instr) (s : State) : ∃ u : State, exec c s = .next (s.kept u) := by
  cases c <;> exact ⟨_, rfl⟩

/-- A command answers what its row is known to give. -/
theorem exec_of_row {c : Instr} {s u v : State} (hc : exec c s = .next (s.kept u)) (h : u = v) : exec c s = .next (s.kept v) := by
  rw [hc, h]

/-- A step answers the state that one row or one microsecond gives, with what no command changes, on the state without the front command. -/
theorem step_eq_kept (s : State) : ∃ u : State, step s = .next (State.kept { s with pending := s.pending.tail } u) := by
  unfold step
  split
  · next h => exact ⟨s.tick, by rw [show State.kept { s with pending := s.pending.tail } s.tick = s.kept s.tick by simp [State.kept, h]]⟩
  · next c l h => rw [h]; exact exec_eq_kept c _

/-- Settles O1. -/
theorem stepRunsTheFrontCommand : Obligations.StepRunsTheFrontCommand := by
  intro c l s h
  unfold step
  rw [h]

/-- Settles O3: `State.kept` keeps the queue and the form of the part, whatever the row gives. -/
theorem everyCommandGoesOn : Obligations.EveryCommandGoesOn := by
  intro c s
  obtain ⟨u, hu⟩ := exec_eq_kept c s
  exact ⟨s.kept u, hu, rfl, rfl⟩

/-- Settles O5. -/
theorem stepTakesOneCommand : Obligations.StepTakesOneCommand := by
  intro s t h
  obtain ⟨u, hu⟩ := step_eq_kept s
  cases h.symm.trans hu
  exact ⟨rfl, rfl⟩

/-- Settles O4: every step ends in `State.kept`, which merges the OTP row that the row gives into the one before. -/
theorem programmedOtpBitsStay : Obligations.ProgrammedOtpBitsStay := by
  intro s t h hcanonical
  obtain ⟨u, hu⟩ := step_eq_kept s
  cases h.symm.trans hu
  exact State.kept_otp { s with pending := s.pending.tail } u hcanonical

/-! ### One microsecond -/

/-- With nothing ready in Q_0 the host queue engine does nothing. -/
theorem hostPump_of_qFront_none {s : State} (h : s.qFront 0 = none) : s.hostPump = s :=
  iterate_of_fix _ _ _ (by simp only [h])

theorem orderlyTry_of_none {s : State} (h : s.rmv.orderly = none) : s.orderlyTry = s := by
  unfold State.orderlyTry
  rw [h]

/-- What counts in a microsecond: the time base, the timers of the sequencers, the timeout clocks of die operations and the watchdogs. -/
def State.counted (s : State) : State :=
  { s with
    clock := s.clock + 1
    seqs := s.seqs.map (fun p => (p.1, p.2.tick (s.get (F.SEQ_DBG_CFG_FREEZE_T p.1) == 1)))
    dops := s.dops.map (fun p => (p.1, p.2.pause (s.sq p.2.ch).halted))
    wds := s.wds.map (fun p => (p.1, p.2.tick (s.wdEnabled p.1))) }

/-- Without a pattern run a microsecond counts, and the supervisor, the host queue and an orderly reset go on. -/
theorem tick_of_no_runs {s : State} (hkeep : s.keepValid = true) (hruns : s.test.runs = []) :
    s.tick = s.counted.svcRun.hostPump.orderlyTry := by
  unfold State.tick
  rw [if_neg (by simp [hkeep])]
  simp only [hruns, List.map_nil, List.foldl_nil]
  rfl

/-- Settles O2. -/
theorem emptyQueueIsOneMicrosecond : Obligations.EmptyQueueIsOneMicrosecond := by
  intro s hempty
  refine ⟨by unfold step; rw [hempty], fun hkeep => if_pos hkeep, fun hkeep horderly hruns hfront => ?_⟩
  obtain ⟨freeN, svcPc, hrun⟩ := State.svcRun_eq s.counted
  have hpump : s.counted.svcRun.hostPump = s.counted.svcRun := hostPump_of_qFront_none (by rw [hrun]; exact hfront)
  have htry : s.counted.svcRun.orderlyTry = s.counted.svcRun := orderlyTry_of_none (by rw [hrun]; exact horderly)
  rw [tick_of_no_runs hkeep hruns, hpump, htry, hrun]
  exact ⟨rfl, rfl⟩

/-! ### Reset -/

/-- Settles O6. -/
theorem stateAtReset : Obligations.StateAtReset := by
  refine ⟨rfl, rfl, fun _ => rfl, fun _ => rfl, ?wdEnable, ?trailhead, List.append_nil _, fun n i => ⟨rfl, rfl⟩, rfl, rfl⟩
  case wdEnable => decide +kernel
  case trailhead => decide +kernel

/-! ### Removal -/

/-- Settles O21: the row asks for armed presence and for a state other than REMOVING. -/
theorem removalIsTakenOnce : Obligations.RemovalIsTakenOnce := by
  intro prsnt pwrFail s h
  have hrow : removal prsnt pwrFail s = s := by
    unfold removal
    rw [if_neg]
    rcases h with h | h <;> simp [h]
  exact exec_of_row rfl hrow

/-! ### The decoder's table -/

/-- Two rows that differ in a bit which both masks hold share no word. -/
theorem no_common_word {r u : SRow} (h : r.pat &&& u.mask ≠ u.pat &&& r.mask) (w : Nat) (hr : w &&& r.mask = r.pat)
    (hu : w &&& u.mask = u.pat) : False := by
  apply h
  rw [← hr, ← hu, Nat.and_assoc, Nat.and_assoc, Nat.and_comm r.mask]

/-- Settles O8: any two rows of the table differ in a bit which both masks hold. -/
theorem sequencerRowsDoNotOverlap : Obligations.SequencerRowsDoNotOverlap := by
  have hdiffer : seqRows.Pairwise (fun r u => r.pat &&& u.mask ≠ u.pat &&& r.mask) := by decide +kernel
  exact hdiffer.imp no_common_word

/-- Settles O7. -/
theorem sequencerWordsDecode : Obligations.SequencerWordsDecode := by
  unfold Obligations.SequencerWordsDecode
  decide +kernel

end Sys2Proof.Machine
end

section
/-!
PROOFS. Division (R320).
-/

namespace Sys2Proof.Machine

/-- What a division that gives quotient, remainder and flags `r` leaves in `t` from `s` (R320). -/
structure State.divided (s : State) (n w : Nat) (r : Word × Word × Nat) (t : State) : Prop where
  quotient : t.sv n (wD w) = r.1
  remainder : t.sv n (wD w + 1) = r.2.1
  flag : ∀ i < 5, bit (t.sq n).flags i = bit r.2.2 i
  noEvent : bit r.2.2 4 = false ∨ s.get (F.SEQ_CTL_DZ_EVENT n) = 0 → t.router = s.router
  event : bit r.2.2 4 = true → s.get (F.SEQ_CTL_DZ_EVENT n) = 1 → (t.ev (165 + 8 * n)).pend = true

/-- Event `k` of a sequencer is pending once it is posted. -/
theorem pend_seqEvent (s : State) (n k d : Nat) : ((s.seqEvent n k d).ev (160 + 8 * n + k)).pend = true := pend_post _ _ _

/-- A division that completes leaves what `divEnd` writes. -/
theorem completes_divided {s : State} {n : Nat} {o : SOp} {x : SeqIn} {c : Instr} {r : Word × Word × Nat} (h : s.runs n o x)
    (hc : exec c s = .next (s.kept (s.seqRow n o x)))
    (he : seqExec o n (s.nextWord n) (s.sq n).pc x (s.fetched n) = (s.fetched n).divEnd n (s.nextWord n) (s.sq n).pc r) :
    completes c s (s.divided n (s.nextWord n) r) := by
  refine completes_of_ok h hc he ⟨?_, ?_, fun i hi => ?_, fun hno => ?_, fun hdz hon => ?_⟩
  · split <;> simp [sv_setV]
  · split <;> simp [sv_setV]
  · split <;> simp [bit_mod32 _ i hi]
  · rw [State.kept_router, if_neg]
    · simp [State.setFl, State.setV, State.fetched]
    · rintro ⟨hdz, hon⟩
      have hon : s.get (F.SEQ_CTL_DZ_EVENT n) = 1 := hon
      rcases hno with hno | hno
      · simp [hno] at hdz
      · omega
  · rw [State.kept_ev, if_pos ⟨hdz, hon⟩, show 165 + 8 * n = 160 + 8 * n + 5 by omega]
    exact pend_seqEvent ..

/-! ### Quotient and remainder -/

/-- Z and N do not reach V and DZ, which a division sets last. -/
theorem bit_divFlags (f : Nat) (r : Word) (v dz : Bool) :
    bit (setFlag (setFlag (flagsZN f r) 3 v) 4 dz) 3 = v ∧ bit (setFlag (setFlag (flagsZN f r) 3 v) 4 dz) 4 = dz := by
  simp [bit_setFlag]

/-- The quotient rounds toward zero and fits but in the one case of an overflow. -/
theorem toInt_ofInt_tdiv {a b : Word} (h : ¬ (a = 0x80000000 ∧ b = 0xFFFFFFFF)) :
    (BitVec.ofInt 32 (a.toInt.tdiv b.toInt)).toInt = a.toInt.tdiv b.toInt := by
  rw [BitVec.toInt_ofInt, ← BitVec.toInt_sdiv]
  exact BitVec.toInt_sdiv_of_ne_or_ne a b (Classical.not_and_iff_not_or_not.1 h)

/-- The remainder always fits. -/
theorem toInt_ofInt_tmod (a b : Word) : (BitVec.ofInt 32 (a.toInt.tmod b.toInt)).toInt = a.toInt.tmod b.toInt := by
  rw [← BitVec.toInt_srem, BitVec.ofInt_toInt]

theorem aluDivs_zero (f : Nat) (a : Word) : aluDivs f a 0 = (0xFFFFFFFF, a, setFlag (setFlag (flagsZN f 0xFFFFFFFF) 3 false) 4 true) :=
  if_pos rfl

theorem aluDivs_overflow (f : Nat) : aluDivs f 0x80000000 0xFFFFFFFF = (0x80000000, 0, setFlag (setFlag (flagsZN f 0x80000000) 3 true) 4 false) :=
  rfl

theorem aluDivs_exact (f : Nat) {a b : Word} (hb : b ≠ 0) (hab : ¬ (a = 0x80000000 ∧ b = 0xFFFFFFFF)) :
    (aluDivs f a b).1.toInt = a.toInt.tdiv b.toInt ∧ (aluDivs f a b).2.1.toInt = a.toInt.tmod b.toInt := by
  rw [aluDivs, if_neg hb, if_neg hab]
  exact ⟨toInt_ofInt_tdiv hab, toInt_ofInt_tmod a b⟩

/-- V shows the overflow and DZ the zero divisor. -/
theorem bit_aluDivs (f : Nat) (a b : Word) :
    bit (aluDivs f a b).2.2 3 = decide (a = 0x80000000 ∧ b = 0xFFFFFFFF) ∧ bit (aluDivs f a b).2.2 4 = decide (b = 0) := by
  unfold aluDivs
  split
  · next hb => rw [decide_eq_true hb, decide_eq_false (by rw [hb]; simp)]; exact bit_divFlags ..
  · next hb =>
    split
    · next hab => rw [decide_eq_true hab, decide_eq_false hb]; exact bit_divFlags ..
    · next hab => rw [decide_eq_false hab, decide_eq_false hb]; exact bit_divFlags ..

theorem aluDivu_zero (f : Nat) (a : Word) : aluDivu f a 0 = (0xFFFFFFFF, a, setFlag (setFlag (flagsZN f 0xFFFFFFFF) 3 false) 4 true) :=
  if_pos rfl

theorem aluDivu_exact (f : Nat) {a b : Word} (hb : b ≠ 0) :
    (aluDivu f a b).1.toNat = a.toNat / b.toNat ∧ (aluDivu f a b).2.1.toNat = a.toNat % b.toNat := by
  rw [aluDivu, if_neg hb]
  exact ⟨Nat.mod_eq_of_lt ((Nat.div_le_self ..).trans_lt a.isLt), Nat.mod_eq_of_lt ((Nat.mod_le ..).trans_lt a.isLt)⟩

theorem bit_aluDivu (f : Nat) (a b : Word) : bit (aluDivu f a b).2.2 3 = false ∧ bit (aluDivu f a b).2.2 4 = decide (b = 0) := by
  unfold aluDivu
  split
  · next hb => rw [decide_eq_true hb]; exact bit_divFlags ..
  · next hb => rw [decide_eq_false hb]; exact bit_divFlags ..

/-! ### An odd destination -/

/-- A word decodes by a row of the table that it matches. -/
theorem exists_row_of_seqDecode {w : Nat} {o : SOp} (h : seqDecode w = some o) : ∃ r ∈ seqRows, r.op = o ∧ w &&& r.mask = r.pat := by
  unfold seqDecode at h
  split at h
  · next r hfind =>
    split at h
    · exact ⟨r, List.mem_of_find?_eq_some hfind, Option.some.inj h, by simpa using List.find?_some hfind⟩
    · cases h
  · cases h

/-- The rows of both divisions fix the low bit of *d* at 0. -/
theorem seqDecode_div_even {w : Nat} {o : SOp} (ho : o = .divs ∨ o = .divu) (h : seqDecode w = some o) : wD w % 2 = 0 := by
  have hrows : ∀ r ∈ seqRows, r.op = .divs ∨ r.op = .divu → r.mask.testBit 22 = true ∧ r.pat.testBit 22 = false := by decide +kernel
  obtain ⟨r, hr, rfl, hw⟩ := exists_row_of_seqDecode h
  obtain ⟨hmask, hpat⟩ := hrows r hr ho
  rw [← hw, Nat.testBit_and, hmask, Bool.and_true, ← bit_testBit] at hpat
  have hlow : (w >>> 22) % 2 ≠ 1 := by simpa [bit] using hpat
  unfold wD bits
  omega

/-- Settles O13: both divisions end in `divEnd` on what `aluDivs` or `aluDivu` gives. -/
theorem divisionResults : Obligations.DivisionResults := by
  intro n w x s a b hw ha hb
  rw [← fetched_sv s n] at ha hb
  subst hw
  refine ⟨fun h => completes_imp (completes_divided (c := .seqDivs n x) (r := aluDivs (s.sq n).flags a b) h rfl ?_) fun t ht => ?divs,
    fun h => completes_imp (completes_divided (c := .seqDivu n x) (r := aluDivu (s.sq n).flags a b) h rfl ?_) fun t ht => ?divu, fun hodd => ?odd⟩
  case divs =>
    obtain ⟨hV, hDZ⟩ := bit_aluDivs (s.sq n).flags a b
    obtain ⟨hq, hr, hf, hno, hev⟩ := ht
    rw [hDZ] at hno hev
    refine ⟨fun h0 => ?_, fun h0 hab => ?_, fun ha hb => ?_, (hf 3 (by decide)).trans hV, (hf 4 (by decide)).trans hDZ,
      fun h => hno (by simpa using h), fun h => hev (by simpa using h)⟩
    · rw [hq, hr, h0, aluDivs_zero]; exact ⟨rfl, rfl⟩
    · rw [hq, hr]; exact aluDivs_exact _ h0 hab
    · rw [hq, hr, ha, hb, aluDivs_overflow]; exact ⟨rfl, rfl⟩
  case divu =>
    obtain ⟨hV, hDZ⟩ := bit_aluDivu (s.sq n).flags a b
    obtain ⟨hq, hr, hf, hno, hev⟩ := ht
    rw [hDZ] at hno hev
    refine ⟨fun h0 => ?_, fun h0 => ?_, (hf 3 (by decide)).trans hV, (hf 4 (by decide)).trans hDZ,
      fun h => hno (by simpa using h), fun h => hev (by simpa using h)⟩
    · rw [hq, hr, h0, aluDivu_zero]; exact ⟨rfl, rfl⟩
    · rw [hq, hr]; exact aluDivu_exact _ h0
  case odd =>
    exact ⟨fun h => by have := seqDecode_div_even (.inl rfl) h; omega, fun h => by have := seqDecode_div_even (.inr rfl) h; omega⟩
  all_goals
    rw [← fetched_flags s n, ha, hb]
    rfl

end Sys2Proof.Machine
end

section
/-!
PROOFS. What an arithmetic instruction leaves unchanged (R313, R315).
-/

namespace Sys2Proof.Machine

/-- `u` is `s` after an instruction of sequencer `n` that retires with V registers `v` and flags `f` and changes nothing else. -/
def State.afterArith (s : State) (n : Nat) (v : List (Nat × Word)) (f : Nat) (u : State) : Prop :=
  u = { s with seqs := u.seqs } ∧ (∀ m, m ≠ n → u.sq m = s.sq m) ∧
    u.sq n = { s.sq n with v := v, flags := f, pc := ((s.sq n).pc + 1) % 4096, noBreak := false, issued := false }

theorem afterArith_fetched (s : State) (n : Nat) : s.afterArith n (s.sq n).v (s.sq n).flags (s.fetched n) :=
  ⟨rfl, fun m hm => by simp [State.fetched, Ne.symm hm], by simp [State.fetched]⟩

theorem State.afterArith.setV {s u : State} {n f : Nat} {v : List (Nat × Word)} (h : s.afterArith n v f u) (d : Nat) (r : Word) :
    s.afterArith n (tset 0 v d r) f (u.setV n d r) := by
  obtain ⟨hu, hothers, hself⟩ := h
  refine ⟨?_, fun m hm => ?_, ?_⟩
  · rw [hu]; rfl
  · simpa [State.setV, Ne.symm hm] using hothers m hm
  · simp [State.setV, hself]

theorem State.afterArith.setFl {s u : State} {n f : Nat} {v : List (Nat × Word)} (h : s.afterArith n v f u) (g : Nat) :
    s.afterArith n v (g % 32) (u.setFl n g) := by
  obtain ⟨hu, hothers, hself⟩ := h
  refine ⟨?_, fun m hm => ?_, ?_⟩
  · rw [hu]; rfl
  · simpa [State.setFl, Ne.symm hm] using hothers m hm
  · simp [State.setFl, hself]

/-- The flags `g` agree with `f` outside `mask`. -/
def flagsOutside (mask f g : Nat) : Prop := ∀ i, i < 5 → bit mask i = false → bit g i = bit f i

theorem flagsOutside_mod32 {mask f g : Nat} (h : flagsOutside mask f g) : flagsOutside mask f (g % 32) :=
  fun i hi hm => (bit_mod32 g i hi).trans (h i hi hm)

/-- The flags of an addition or subtraction are Z, N, C and V. -/
theorem flagsOutside_flagsZNCV (f : Nat) (r : Word) (c v : Bool) : flagsOutside 15 f (flagsZNCV f r c v) := by
  have hout : ∀ i < 5, bit 15 i = false → i = 4 := by decide
  intro i hi hm
  simp [hout i hi hm]

/-- The flags of a logical operation are Z and N. -/
theorem flagsOutside_flagsZN (f : Nat) (r : Word) : flagsOutside 3 f (flagsZN f r) := by
  have hout : ∀ i < 5, bit 3 i = false → i ≠ 1 ∧ i ≠ 0 := by decide
  intro i hi hm
  simp [hout i hi hm]

/-- A shift sets Z and N, and C at most. -/
theorem flagsOutside_aluShift (f : Nat) (r : Word) (c : Option Bool) : flagsOutside 7 f (aluShift f r c).2 := by
  have hout : ∀ i < 5, bit 7 i = false → i ≠ 2 ∧ i ≠ 1 ∧ i ≠ 0 := by decide
  intro i hi hm
  cases c <;> simp [aluShift, bit_setFlag, hout i hi hm]

theorem flagsOutside_aluShi (m f : Nat) (a : Word) (k : Nat) : flagsOutside 7 f (aluShi m f a k).2 := by
  unfold aluShi
  split <;> exact flagsOutside_aluShift _ _ _

theorem flagsOutside_aluMul (f : Nat) (a b : Word) : flagsOutside 11 f (aluMul f a b).2 := by
  have hout : ∀ i < 5, bit 11 i = false → i ≠ 3 ∧ i ≠ 1 ∧ i ≠ 0 := by decide
  intro i hi hm
  simp [aluMul, bit_setFlag, hout i hi hm]

/-- What `t` keeps of `s` after an arithmetic instruction of sequencer `n` that lists the flags `mask`, and that writes V*d* if `writes`. -/
def State.arithFrame (s : State) (n w mask : Nat) (writes : Bool) (t : State) : Prop :=
  t = s.kept { s with seqs := t.seqs } ∧ (∀ m : Nat, m ≠ n → t.sq m = s.sq m) ∧
    t.sq n = { s.sq n with v := (t.sq n).v, flags := (t.sq n).flags, pc := ((s.sq n).pc + 1) % 4096, noBreak := false, issued := false } ∧
    (∀ i : Nat, writes = false ∨ i ≠ wD w → t.sv n i = s.sv n i) ∧
    (∀ i : Nat, i < 5 → bit mask i = false → bit (t.sq n).flags i = bit (s.sq n).flags i)

theorem State.afterArith.frame {s u : State} {n w mask f : Nat} {v : List (Nat × Word)} {writes : Bool} (h : s.afterArith n v f u)
    (hv : ∀ i, writes = false ∨ i ≠ wD w → tget 0 v i = s.sv n i) (hf : flagsOutside mask (s.sq n).flags f) :
    s.arithFrame n w mask writes (s.kept u) := by
  obtain ⟨hu, hothers, hself⟩ := h
  refine ⟨congrArg s.kept hu, hothers, ?_, fun i hi => ?_, ?_⟩
  · rw [State.kept_sq, hself]
  · rw [kept_sv, State.sv, hself]; exact hv i hi
  · rw [State.kept_sq, hself]; exact hf

section
variable {s : State} {n mask : Nat} {o : SOp} {x : SeqIn} {c : Instr}

/-- The frame of an instruction that writes V*d* and flags. -/
theorem frame_of_alu {r : Word × Nat} (hc : exec c s = .next (s.kept (s.seqRow n o x)))
    (he : seqExec o n (s.nextWord n) (s.sq n).pc x (s.fetched n) = (s.fetched n).alu n (s.nextWord n) r)
    (hr : flagsOutside mask ((s.fetched n).sq n).flags r.2) (h : s.runs n o x) :
    completes c s (s.arithFrame n (s.nextWord n) mask true) := by
  rw [fetched_flags] at hr
  exact completes_of_ok h hc he ((((afterArith_fetched s n).setV _ _).setFl _).frame
    (fun i hi => by simp [Ne.symm (hi.resolve_left nofun), State.sv]) (flagsOutside_mod32 hr))

/-- The frame of an instruction that sets flags alone. -/
theorem frame_of_setFl {f : Nat} (hc : exec c s = .next (s.kept (s.seqRow n o x)))
    (he : seqExec o n (s.nextWord n) (s.sq n).pc x (s.fetched n) = .ok ((s.fetched n).setFl n f))
    (hf : flagsOutside mask ((s.fetched n).sq n).flags f) (h : s.runs n o x) :
    completes c s (s.arithFrame n (s.nextWord n) mask false) := by
  rw [fetched_flags] at hf
  exact completes_of_ok h hc he (((afterArith_fetched s n).setFl _).frame (fun _ _ => rfl) (flagsOutside_mod32 hf))

/-- The frame of an instruction that writes V*d* alone. -/
theorem frame_of_setV {r : Word} (hc : exec c s = .next (s.kept (s.seqRow n o x)))
    (he : seqExec o n (s.nextWord n) (s.sq n).pc x (s.fetched n) = .ok ((s.fetched n).setV n (wD (s.nextWord n)) r)) (h : s.runs n o x) :
    completes c s (s.arithFrame n (s.nextWord n) 0 true) :=
  completes_of_ok h hc he (((afterArith_fetched s n).setV _ _).frame
    (fun i hi => by simp [Ne.symm (hi.resolve_left nofun), State.sv]) (fun _ _ _ => rfl))

end

/-- Settles O14: each instruction ends in a result with flags, in flags alone or in a result alone. -/
theorem arithmeticFrame : Obligations.ArithmeticFrame := by
  rintro n w x s rfl
  change ∀ o : SOp × (Nat → SeqIn → Instr) × Nat × Bool, o ∈ _ → s.runs n o.1 x → completes (o.2.1 n x) s (s.arithFrame n (s.nextWord n) o.2.2.1 o.2.2.2)
  simp only [List.forall_mem_cons]
  exact
    ⟨frame_of_alu rfl rfl (flagsOutside_flagsZNCV _ _ _ _), frame_of_alu rfl rfl (flagsOutside_flagsZNCV _ _ _ _),
      frame_of_alu rfl rfl (flagsOutside_flagsZNCV _ _ _ _), frame_of_alu rfl rfl (flagsOutside_flagsZNCV _ _ _ _),
      frame_of_alu rfl rfl (flagsOutside_flagsZN _ _), frame_of_alu rfl rfl (flagsOutside_flagsZN _ _),
      frame_of_alu rfl rfl (flagsOutside_flagsZN _ _),
      frame_of_alu rfl rfl (flagsOutside_aluShift _ _ _), frame_of_alu rfl rfl (flagsOutside_aluShift _ _ _),
      frame_of_alu rfl rfl (flagsOutside_aluShift _ _ _), frame_of_alu rfl rfl (flagsOutside_aluShift _ _ _),
      frame_of_alu rfl rfl (flagsOutside_aluShift _ _ _),
      frame_of_alu rfl rfl (flagsOutside_aluMul _ _ _),
      frame_of_setFl rfl rfl (flagsOutside_flagsZNCV _ _ _ _), frame_of_setFl rfl rfl (flagsOutside_flagsZN _ _),
      frame_of_alu rfl rfl (flagsOutside_flagsZNCV _ _ _ _), frame_of_alu rfl rfl (flagsOutside_flagsZN _ _),
      frame_of_setV rfl rfl,
      frame_of_alu rfl rfl (flagsOutside_flagsZNCV _ _ _ _), frame_of_alu rfl rfl (flagsOutside_flagsZN _ _),
      frame_of_alu rfl rfl (flagsOutside_flagsZN _ _), frame_of_alu rfl rfl (flagsOutside_flagsZN _ _),
      frame_of_alu rfl (seqExec_shi rfl ..) (flagsOutside_aluShi _ _ _ _),
      frame_of_setFl rfl rfl (flagsOutside_flagsZNCV _ _ _ _),
      frame_of_setV rfl rfl, frame_of_setV rfl rfl, frame_of_setV rfl rfl, nofun⟩

end Sys2Proof.Machine
end

section
/-!
PROOFS. Machine faults (R314, R332) and events posted (R482, R554).
-/

namespace Sys2Proof.Machine

theorem get_lt (s : State) (f : Fld) (w : Nat) : s.get f w < 2 ^ f.width := bits_lt ..

@[simp] theorem get_setSq (s : State) (n : Nat) (q : Seq) (f : Fld) (w : Nat) : (s.setSq n q).get f w = s.get f w := rfl

@[simp] theorem get_setPc (s : State) (n a : Nat) (f : Fld) (w : Nat) : (s.setPc n a).get f w = s.get f w := rfl

@[simp] theorem ev_set (s : State) (f : Fld) (v w k : Nat) : (s.set f v w).ev k = s.ev k := rfl

@[simp] theorem ev_addF (s : State) (f : Fld) (v w k : Nat) : (s.addF f v w).ev k = s.ev k := rfl

@[simp] theorem ev_setPc (s : State) (n a k : Nat) : (s.setPc n a).ev k = s.ev k := rfl

/-- Posting an event of a sequencer changes only its event register and the count of coalesced events. -/
theorem get_seqEvent (s : State) (n k d : Nat) (f : Fld) (w : Nat) (hsrc : regKey (F.SEQ_EVT_SRC n).addr 0 ≠ regKey f.addr w)
    (hco : regKey F.EVR_COUNT_COALESCED.addr 0 ≠ regKey f.addr w) : (s.seqEvent n k d).get f w = s.get f w := by
  unfold State.seqEvent State.postBit
  rw [State.get_post _ _ _ _ _ hco]
  exact State.get_set_other _ _ _ _ _ _ hsrc

/-- A counter after it was raised. -/
theorem get_addF (s : State) (f : Fld) (v w : Nat) (h : f.lo + f.width ≤ 32) :
    (s.addF f v w).get f w = min (2 ^ f.width - 1) (s.get f w + v) := by
  unfold State.addF
  rw [State.get_set _ _ _ _ h]
  have := Nat.two_pow_pos f.width
  exact Nat.mod_eq_of_lt (by omega)

/-- Raising a counter leaves the fields of other registers. -/
theorem get_addF_other (s : State) (f g : Fld) (v w x : Nat) (h : regKey f.addr w ≠ regKey g.addr x) : (s.addF f v w).get g x = s.get g x :=
  State.get_set_other _ _ _ _ _ _ h

section
variable (s : State) (n k pc : Nat)

/-- The state of a machine fault that goes to the handler: what it saves, what it shows and the event it posts (R332). -/
def State.faultShown : State :=
  let q := s.sq n
  let s1 := s.setSq n { q with
    fltCause := k, fltPc := pc, fltRet := (pc + 1) % 4096, fflags := q.flags, inflt := true, pc := pc, st := 1, issued := false }
  let s2 := (s1.seqEvent n 4 (k + pc * 2 ^ 16 + b2n false * 2 ^ 31)).addF (F.SEQ_COUNT_FAULTS n) 1
  ((s2.set (F.SEQ_FAULT_VALID n) 1).set (F.SEQ_FAULT_PC n) pc).set (F.SEQ_FAULT_CAUSE n) k

/-- A machine fault outside a handler and outside an exchange goes to the handler. -/
theorem machineFault_eq (hflt : (s.sq n).inflt = false) (hxch : (s.sq n).xch = none) :
    s.machineFault n k pc = (s.faultShown n k pc).setPc n (s.get (F.SEQ_VEC_FAULT_VEC n)) := by
  simp only [State.machineFault, State.faultShown, hflt, hxch, Bool.or_false, Bool.false_eq_true, if_false]

theorem get_faultShown_valid : (s.faultShown n k pc).get (F.SEQ_FAULT_VALID n) = 1 := by
  unfold State.faultShown
  dsimp only
  rw [State.get_set_beside _ (F.SEQ_FAULT_CAUSE n) (F.SEQ_FAULT_VALID n) _ _ rfl (Nat.le_refl 32) (.inl (Nat.le_of_ble_eq_true rfl)),
    State.get_set_beside _ (F.SEQ_FAULT_PC n) (F.SEQ_FAULT_VALID n) _ _ rfl (Nat.le_refl 32) (.inl (Nat.le_of_ble_eq_true rfl)),
    State.get_set _ (F.SEQ_FAULT_VALID n) _ _ (Nat.le_refl 32)]
  rfl

theorem get_faultShown_pc : (s.faultShown n k pc).get (F.SEQ_FAULT_PC n) = pc % 4096 := by
  unfold State.faultShown
  dsimp only
  rw [State.get_set_beside _ (F.SEQ_FAULT_CAUSE n) (F.SEQ_FAULT_PC n) _ _ rfl (Nat.le_of_ble_eq_true rfl)
      (.inl (Nat.le_of_ble_eq_true rfl)), State.get_set _ _ _ _ (Nat.le_of_ble_eq_true rfl)]
  rfl

theorem get_faultShown_cause : (s.faultShown n k pc).get (F.SEQ_FAULT_CAUSE n) = k % 16 := State.get_set _ _ _ _ (Nat.le_of_ble_eq_true rfl)

theorem get_faultShown_faults :
    (s.faultShown n k pc).get (F.SEQ_COUNT_FAULTS n) = min 255 (s.get (F.SEQ_COUNT_FAULTS n) + 1) := by
  have hshow : regKey (0x2003 + 128 * n) 0 ≠ regKey (F.SEQ_COUNT_FAULTS n).addr 0 := by simp only [regKey, F.SEQ_COUNT_FAULTS]; omega
  have hsrc : regKey (F.SEQ_EVT_SRC n).addr 0 ≠ regKey (F.SEQ_COUNT_FAULTS n).addr 0 := by
    simp only [regKey, F.SEQ_EVT_SRC, F.SEQ_COUNT_FAULTS]; omega
  have hco : regKey F.EVR_COUNT_COALESCED.addr 0 ≠ regKey (F.SEQ_COUNT_FAULTS n).addr 0 := by
    simp only [regKey, F.EVR_COUNT_COALESCED, F.SEQ_COUNT_FAULTS]; omega
  unfold State.faultShown
  dsimp only
  rw [State.get_set_other _ _ _ _ _ _ hshow, State.get_set_other _ _ _ _ _ _ hshow, State.get_set_other _ _ _ _ _ _ hshow,
    get_addF _ (F.SEQ_COUNT_FAULTS n) _ _ (Nat.le_refl 32), get_seqEvent _ _ _ _ _ _ hsrc hco, get_setSq]
  rfl

theorem pend_faultShown : ((s.faultShown n k pc).ev (160 + 8 * n + 4)).pend = true := by
  unfold State.faultShown
  dsimp only
  rw [ev_set, ev_set, ev_set, ev_addF]
  exact pend_seqEvent ..

theorem sq_faultShown_other {m : Nat} (hm : m ≠ n) : (s.faultShown n k pc).sq m = s.sq m := by
  simp [State.faultShown, Ne.symm hm]

end

/-- A word that decodes to nothing is a machine fault of cause 1. -/
theorem illegalInstruction_eq {n : Nat} {x : SeqIn} {s : State} (hfetch : s.fetchable n = true) (hdec : seqDecode (s.nextWord n) = none)
    (hecc : x.fetchEcc = 0) : illegalInstruction n x s = s.machineFault n 1 (s.sq n).pc := by
  simp [illegalInstruction, State.seqRun, hfetch, hdec, hecc]

/-- Settles O15. -/
theorem machineFaultEntry : Obligations.MachineFaultEntry := by
  intro n x s hfetch hdec hecc hflt hxch
  have hsq := sq_machineFault s n 1 hflt hxch
  refine ⟨s.kept (s.machineFault n 1 (s.sq n).pc), exec_of_row rfl (illegalInstruction_eq hfetch hdec hecc), ?_⟩
  simp only [State.kept_sq, State.kept_get, State.kept_ev]
  refine ⟨?record, fun m hm => ?_, ?_, ?_, ?_, ?_, ?_⟩
  case record =>
    have hvec : s.get (F.SEQ_VEC_FAULT_VEC n) % 4096 = s.get (F.SEQ_VEC_FAULT_VEC n) := Nat.mod_eq_of_lt (get_lt s (F.SEQ_VEC_FAULT_VEC n) 0)
    rw [hsq, Seq.faulted, hvec]
  all_goals rw [machineFault_eq s n 1 _ hflt hxch]
  · simpa [State.setPc, Ne.symm hm] using sq_faultShown_other s n 1 _ hm
  · rw [get_setPc]; exact get_faultShown_valid ..
  · rw [get_setPc]; exact get_faultShown_pc ..
  · rw [get_setPc]; exact get_faultShown_cause ..
  · rw [get_setPc]; exact get_faultShown_faults ..
  · rw [ev_setPc, show 164 + 8 * n = 160 + 8 * n + 4 by omega]
    exact pend_faultShown ..

end Sys2Proof.Machine
end

section
/-!
PROOFS. Posting an occurrence (R482, R554).
-/

namespace Sys2Proof.Machine

/-- A source after a post with data `d`: pending or coalesced, and with a host copy where the source is routed to the host. -/
def EvSrc.posted (e : EvSrc) (routed : Bool) (d : Nat) : EvSrc :=
  let e1 := if e.pend then { e with ovr := true } else { e with pend := true, data := d }
  if routed then (if e1.hf then { e1 with ovr := true } else { e1 with hf := true, hfData := d }) else e1

theorem ev_setEv (s : State) (k : Nat) (e : EvSrc) : (s.setEv k e).ev k = e := by simp [State.ev, State.setEv]

/-- The source that posts. -/
theorem ev_post_same (s : State) (k d : Nat) :
    (s.post k d).ev k = (s.ev k).posted (bit (s.get (F.EVR_CFG_TMASK k)) 9) (d % 2 ^ 64) := by
  unfold State.post
  dsimp only
  split
  · exact ev_setEv ..
  · exact ev_setEv ..

/-- A post of a source that is pending is counted as coalesced. -/
theorem get_coalesced_post (s : State) (k d : Nat) (h : (s.ev k).pend = true) : (s.post k d).get F.EVR_COUNT_COALESCED =
    min (2 ^ F.EVR_COUNT_COALESCED.width - 1) (s.get F.EVR_COUNT_COALESCED + 1) := by
  unfold State.post
  simp only [h, Bool.true_or, if_true]
  exact get_addF _ F.EVR_COUNT_COALESCED _ _ (by decide)

section
variable (e : EvSrc) (routed : Bool) (d : Nat)

theorem EvSrc.posted_frame : (e.posted routed d).insvc = e.insvc ∧ (e.posted routed d).sdata = e.sdata ∧ (e.posted routed d).lprio = e.lprio := by
  unfold EvSrc.posted
  dsimp only
  split <;> split <;> (try split) <;> exact ⟨rfl, rfl, rfl⟩

theorem EvSrc.posted_idle (h : e.pend = false) : (e.posted routed d).data = d := by
  cases routed <;> cases hf : e.hf <;> simp [EvSrc.posted, h, hf]

theorem EvSrc.posted_pending (h : e.pend = true) : (e.posted routed d).data = e.data ∧ (e.posted routed d).ovr = true := by
  cases routed <;> cases hf : e.hf <;> simp [EvSrc.posted, h, hf]

theorem EvSrc.posted_routed : (e.posted true d).hf = true ∧ (e.posted true d).hfData = if e.hf then e.hfData else d := by
  cases hp : e.pend <;> cases hf : e.hf <;> simp [EvSrc.posted, hp, hf]

theorem EvSrc.posted_local : (e.posted false d).hf = e.hf ∧ (e.posted false d).hfData = e.hfData := by
  cases hp : e.pend <;> simp [EvSrc.posted, hp]

end

/-- Settles O17. -/
theorem postingAnOccurrence : Obligations.PostingAnOccurrence := by
  intro k d s hk
  refine ⟨s.kept (s.post k d), exec_of_row rfl (if_pos hk), ?_⟩
  simp only [State.kept_ev, State.kept_get]
  refine ⟨pend_post s k d, fun h => ?_, fun h => ?_, fun h => ?_, fun h => ?_, ?_, ?_, ?_, fun m hm => ev_post s k d m hm⟩
  all_goals rw [ev_post_same]
  · exact EvSrc.posted_idle _ _ _ h
  · obtain ⟨hdata, hovr⟩ := EvSrc.posted_pending (s.ev k) (bit (s.get (F.EVR_CFG_TMASK k)) 9) (d % 2 ^ 64) h
    exact ⟨hdata, hovr, get_coalesced_post s k d h⟩
  · rw [h]; exact EvSrc.posted_routed ..
  · rw [h]; exact EvSrc.posted_local ..
  · exact (EvSrc.posted_frame ..).1
  · exact (EvSrc.posted_frame ..).2.1
  · exact (EvSrc.posted_frame ..).2.2

end Sys2Proof.Machine
end

section
/-!
PROOFS. The layout of a transaction frame (R145).
-/

namespace Sys2Proof.Machine

/-! ### Bytes and numbers -/

@[simp] theorem length_natLE (n v : Nat) : (natLE n v).length = n := by
  induction n generalizing v with
  | zero => rfl
  | succ n ih => simp [natLE, ih]

/-- Bytes of a number spell it back, modulo what they hold. -/
theorem leNat_natLE (n v : Nat) : leNat (natLE n v) = v % 256 ^ n := by
  induction n generalizing v with
  | zero => simp [natLE, leNat, Nat.mod_one]
  | succ n ih =>
    rw [natLE, leNat, ih, pow_succ', Nat.mod_mul]
    rfl

theorem leNat_natLE_of_lt {n v : Nat} (h : v < 256 ^ n) : leNat (natLE n v) = v := by rw [leNat_natLE, Nat.mod_eq_of_lt h]

theorem leNat_append (l m : List Byte) : leNat (l ++ m) = leNat l + 256 ^ l.length * leNat m := by
  induction l with
  | nil => simp [leNat]
  | cons b l ih =>
    rw [List.cons_append, leNat, leNat, ih, List.length_cons, pow_succ']
    ring

@[simp] theorem length_sliceB (l : List Byte) (off n : Nat) : (sliceB l off n).length = n := by simp [sliceB]

/-- Within a list a slice is what lies there. -/
theorem sliceB_of_le {l : List Byte} {off n : Nat} (h : off + n ≤ l.length) : sliceB l off n = (l.drop off).take n := by
  apply List.ext_getElem
  · simp; omega
  · intro i hi hi'
    have hi : i < n := by simpa using hi
    simp only [sliceB, List.getElem_map, List.getElem_range, List.getElem_take, List.getElem_drop]
    rw [List.headD_eq_head?_getD, List.head?_drop, List.getElem?_eq_getElem (by omega), Option.getD_some]

/-- The number in the middle of a list of bytes. -/
theorem leAt_append {l m r : List Byte} {off n : Nat} (hoff : l.length = off) (hn : m.length = n) :
    leAt (l ++ (m ++ r)) off n = leNat m := by
  subst hoff hn
  rw [leAt, sliceB_of_le (by simp), List.drop_left, List.take_left]

/-! ### The XOR of nibbles -/

theorem nibbleXor_lt (n v : Nat) : nibbleXor n v < 16 := by
  induction n generalizing v with
  | zero => exact Nat.zero_lt_succ 15
  | succ n ih => exact Nat.xor_lt_two_pow (n := 4) (Nat.mod_lt _ (by decide)) (ih _)

/-- The nibbles of two numbers side by side. -/
theorem nibbleXor_add (m n a b : Nat) (h : a < 16 ^ m) : nibbleXor (m + n) (a + 16 ^ m * b) = nibbleXor m a ^^^ nibbleXor n b := by
  induction m generalizing a with
  | zero =>
    have : a = 0 := by simpa using h
    simp [nibbleXor, this]
  | succ m ih =>
    have hlow : (a + 16 ^ (m + 1) * b) % 16 = a % 16 := by rw [pow_succ', Nat.mul_assoc]; omega
    have hhigh : (a + 16 ^ (m + 1) * b) / 16 = a / 16 + 16 ^ m * b := by rw [pow_succ', Nat.mul_assoc]; omega
    rw [Nat.add_right_comm, nibbleXor, hlow, hhigh, ih _ (by rw [pow_succ'] at h; omega), nibbleXor, Nat.xor_assoc]

theorem nibbleXor_one {v : Nat} (h : v < 16) : nibbleXor 1 v = v := by simp [nibbleXor, Nat.mod_eq_of_lt h]

/-! ### The frame -/

section
variable (typ seq : Nat) (hdr payload : List Byte)

/-- Bytes 1 to 3 of a frame but for the check: `SEQ` and `LEN`. -/
def frameSeqLen : Nat := seq % 4096 + payload.length / 4 * 4096

/-- The check nibble of a frame. -/
def frameCheck : Nat := 0xF ^^^ nibbleXor 2 typ ^^^ nibbleXor 5 (frameSeqLen seq payload)

/-- Bytes 1 to 3 of a frame as a number. -/
def frameWord : Nat := frameSeqLen seq payload + frameCheck typ seq payload * 2 ^ 20

theorem frameCheck_lt : frameCheck typ seq payload < 16 :=
  Nat.xor_lt_two_pow (n := 4) (Nat.xor_lt_two_pow (by decide) (nibbleXor_lt ..)) (nibbleXor_lt ..)

variable {typ seq hdr payload}

/-- A frame, part by part. -/
theorem frameBytes_eq (hhdr : hdr.length = 12) : ∃ crc : Nat,
    frameBytes typ seq hdr payload = natLE 1 typ ++ natLE 3 (frameWord typ seq payload) ++ hdr ++ payload ++ natLE 4 crc ∧
    crc = crc32 (natLE 1 typ ++ natLE 3 (frameWord typ seq payload) ++ hdr ++ payload) := by
  have hslice : sliceB hdr 0 12 = hdr := by rw [sliceB_of_le (by omega), List.drop_zero, List.take_of_length_le (by omega)]
  refine ⟨_, ?_, rfl⟩
  unfold frameBytes
  dsimp only
  rw [hslice]
  rfl

variable (htyp : typ < 256) (hseq : seq < 4096) (hlen : payload.length ≤ 512)
include hlen

theorem frameSeqLen_lt : frameSeqLen seq payload < 2 ^ 20 := by
  unfold frameSeqLen
  omega

theorem frameWord_lt : frameWord typ seq payload < 256 ^ 3 := by
  have := frameSeqLen_lt (seq := seq) hlen
  have := frameCheck_lt typ seq payload
  unfold frameWord
  omega

include hseq

theorem frameWord_fields : bits (frameWord typ seq payload) 0 12 = seq ∧ bits (frameWord typ seq payload) 12 8 = payload.length / 4 := by
  simp only [bits, frameWord, frameSeqLen, Nat.shiftRight_eq_div_pow]
  omega

omit hseq
include htyp

/-- The check makes the XOR of the eight nibbles 0xF. -/
theorem nibbleXor_frame : nibbleXor 8 (typ + 256 * frameWord typ seq payload) = 0xF := by
  have hword : nibbleXor 6 (frameWord typ seq payload) = nibbleXor 5 (frameSeqLen seq payload) ^^^ frameCheck typ seq payload := by
    rw [frameWord, Nat.mul_comm, show (2 : Nat) ^ 20 = 16 ^ 5 by norm_num, nibbleXor_add 5 1 _ _ (frameSeqLen_lt hlen),
      nibbleXor_one (frameCheck_lt ..)]
  rw [show 256 = 16 ^ 2 by norm_num, nibbleXor_add 2 6 _ _ htyp, hword, frameCheck]
  generalize nibbleXor 2 typ = a
  generalize nibbleXor 5 (frameSeqLen seq payload) = b
  rw [Nat.xor_comm b, Nat.xor_assoc _ b b, Nat.xor_self, Nat.xor_zero, Nat.xor_comm 15, ← Nat.xor_assoc, Nat.xor_self, Nat.zero_xor]

end

/-- Settles O22. -/
theorem frameLayout : Obligations.FrameLayout := by
  intro typ seq hdr payload htyp hseq hhdr hunits hlen
  obtain ⟨crc, hframe, hcrc⟩ := frameBytes_eq (typ := typ) (seq := seq) (payload := payload) hhdr
  obtain ⟨hSEQ, hLEN⟩ := frameWord_fields (typ := typ) hseq hlen
  have htypBytes : leNat (natLE 1 typ) = typ := leNat_natLE_of_lt (by omega)
  have hwordBytes : leNat (natLE 3 (frameWord typ seq payload)) = frameWord typ seq payload := leNat_natLE_of_lt (frameWord_lt hlen)
  have hword : leAt (frameBytes typ seq hdr payload) 1 3 = frameWord typ seq payload := by
    rw [hframe, List.append_assoc, List.append_assoc, List.append_assoc, leAt_append (length_natLE ..) (length_natLE ..), hwordBytes]
  rw [hword]
  refine ⟨?length, ?type, hSEQ, hLEN, ?check, ?header, ?payload, ?crc⟩
  case length => rw [hframe]; simp; omega
  case type =>
    rw [hframe, List.append_assoc, List.append_assoc, List.append_assoc, ← List.nil_append (natLE 1 typ ++ _),
      leAt_append List.length_nil (length_natLE ..), htypBytes]
  case check =>
    have hhead : leAt (frameBytes typ seq hdr payload) 0 4 = typ + 256 * frameWord typ seq payload := by
      rw [hframe, List.append_assoc, List.append_assoc, ← List.nil_append (natLE 1 typ ++ natLE 3 _ ++ _),
        leAt_append List.length_nil (by simp), leNat_append, htypBytes, hwordBytes, length_natLE, pow_one]
    rw [hhead, nibbleXor_frame htyp hlen]
  case header =>
    rw [hframe, List.append_assoc, List.append_assoc, List.drop_left' (by simp), List.take_left' hhdr]
  case payload =>
    rw [hframe, List.append_assoc, List.drop_left' (by simp [hhdr]), List.take_left]
  case crc =>
    rw [hframe, List.drop_left' (by simp [hhdr]; omega), List.take_left' (by simp [hhdr]; omega), hcrc]

end Sys2Proof.Machine
end

section
/-!
PROOFS. The Hamper's free list (R253).
-/

namespace Sys2Proof.Machine

@[simp] theorem hmp_post (s : State) (k d : Nat) : (s.post k d).hmp = s.hmp := by
  unfold State.post
  dsimp only
  split <;> rfl

@[simp] theorem hmp_hmpEvent (s : State) (k d : Nat) : (s.hmpEvent k d).hmp = s.hmp := by
  unfold State.hmpEvent State.postBit
  rw [hmp_post]
  rfl

/-- The Hamper but for its LOW and CRIT states. -/
def Hamper.unmarked (h : Hamper) : Hamper := { h with low := false, crit := false }

/-- An evaluation of the thresholds changes LOW and CRIT alone (R254). -/
theorem unmarked_hmpEval (s : State) : s.hmpEval.hmp.unmarked = s.hmp.unmarked := by
  have hlow : ∀ (c d : Prop) [Decidable c] [Decidable d] (f : Nat),
      (if c then ({ s with hmp := { s.hmp with low := true } } : State).hmpEvent 0 f
        else if d then ({ s with hmp := { s.hmp with low := false } } : State).hmpEvent 1 f else s).hmp.unmarked = s.hmp.unmarked := by
    intro c d _ _ f
    split_ifs
    · rw [hmp_hmpEvent]; rfl
    · rw [hmp_hmpEvent]; rfl
    · rfl
  have hcrit : ∀ (t : State) (c d : Prop) [Decidable c] [Decidable d] (f : Nat), t.hmp.unmarked = s.hmp.unmarked →
      (if c then ({ t with hmp := { t.hmp with crit := true } } : State).hmpEvent 2 f
        else if d then ({ t with hmp := { t.hmp with crit := false } } : State).hmpEvent 3 f else t).hmp.unmarked = s.hmp.unmarked := by
    intro t c d _ _ f ht
    split_ifs
    · rw [hmp_hmpEvent]; exact ht
    · rw [hmp_hmpEvent]; exact ht
    · exact ht
  exact hcrit _ _ _ _ (hlow _ _ _)

theorem freeList_of_hmp {s t : State} (h : t.hmp.unmarked = s.hmp.unmarked) : t.freeList = s.freeList := by
  unfold State.freeList
  have hfresh : t.hmp.unmarked.fresh = s.hmp.unmarked.fresh := by rw [h]
  have hfreed : t.hmp.unmarked.freed = s.hmp.unmarked.freed := by rw [h]
  exact congrArg₂ (fun a l => List.range' a (2048 - a) ++ l) hfresh hfreed

@[simp] theorem bufs_hmpEval (s : State) : s.hmpEval.hmp.bufs = s.hmp.bufs := by
  have h : s.hmpEval.hmp.unmarked.bufs = s.hmp.unmarked.bufs := by rw [unmarked_hmpEval]
  exact h

@[simp] theorem waits_hmpEval (s : State) : s.hmpEval.hmp.waits = s.hmp.waits := by
  have h : s.hmpEval.hmp.unmarked.waits = s.hmp.unmarked.waits := by rw [unmarked_hmpEval]
  exact h

@[simp] theorem freeList_hmpEval (s : State) : s.hmpEval.freeList = s.freeList := freeList_of_hmp (unmarked_hmpEval s)

@[simp] theorem freeList_setHbuf (s : State) (b : Nat) (v : HBuf) : (s.setHbuf b v).freeList = s.freeList := rfl

@[simp] theorem freeList_hmpChain (s : State) (l : List Nat) : (s.hmpChain l).freeList = s.freeList := by
  fun_induction State.hmpChain s l with
  | case1 s r r' l ih => rw [ih, freeList_setHbuf]
  | case2 s l => rfl

theorem length_freeList (s : State) : s.freeList.length = s.hmpFree := by simp [State.freeList, State.hmpFree]

theorem refBuf_refOf (b g : Nat) : refBuf (refOf b g) = b % 2048 := by
  unfold refBuf refOf
  omega

/-- One buffer is taken from the front of the free list. -/
theorem hmpTake1_front {s : State} {b : Nat} {l : List Nat} (h : s.freeList = b :: l) (o : Nat) :
    refBuf (s.hmpTake1 o).1 = b % 2048 ∧ (s.hmpTake1 o).2.freeList = l := by
  unfold State.freeList at h
  unfold State.hmpTake1
  by_cases hfresh : s.hmp.fresh < 2048
  · obtain ⟨n, hn⟩ : ∃ n, 2048 - s.hmp.fresh = n + 1 := ⟨2048 - s.hmp.fresh - 1, by omega⟩
    rw [hn, List.range'_succ, List.cons_append, List.cons.injEq] at h
    obtain ⟨rfl, rfl⟩ := h
    rw [if_pos hfresh]
    refine ⟨refBuf_refOf .., ?_⟩
    simp [State.freeList, State.setHbuf, show 2048 - (s.hmp.fresh + 1) = n by omega]
  · rw [show 2048 - s.hmp.fresh = 0 by omega, List.range'_zero, List.nil_append] at h
    rw [if_neg hfresh, h]
    refine ⟨refBuf_refOf .., ?_⟩
    simp [State.freeList, State.setHbuf, show 2048 - s.hmp.fresh = 0 by omega]

/-- `n` buffers are taken from the front of the free list, in its order. -/
theorem hmpTakeN_front (o n : Nat) : ∀ s : State, n ≤ s.hmpFree →
    (s.hmpTakeN o n).1.map refBuf = (s.freeList.take n).map (· % 2048) ∧ (s.hmpTakeN o n).2.freeList = s.freeList.drop n := by
  induction n with
  | zero => intro s _; simp [State.hmpTakeN]
  | succ n ih =>
    intro s hn
    rw [← length_freeList] at hn
    match hfree : s.freeList with
    | [] => simp [hfree] at hn
    | b :: l =>
      obtain ⟨hb, hl⟩ := hmpTake1_front hfree o
      obtain ⟨hrefs, hrest⟩ := ih (s.hmpTake1 o).2 (by rw [← length_freeList, hl]; simpa [hfree] using hn)
      rw [hl] at hrefs hrest
      simp [State.hmpTakeN, hb, hrefs, hrest]

theorem hmpGrant_front {s : State} {n : Nat} (o : Nat) (chain : Bool) (h : n ≤ s.hmpFree) :
    (s.hmpGrant o n chain).1.map refBuf = (s.freeList.take n).map (· % 2048) ∧ (s.hmpGrant o n chain).2.freeList = s.freeList.drop n := by
  obtain ⟨hrefs, hrest⟩ := hmpTakeN_front o n s h
  refine ⟨hrefs, ?_⟩
  unfold State.hmpGrant
  rw [freeList_hmpEval, ← hrest]
  cases chain
  · rfl
  · exact freeList_hmpChain ..

/-- A request with room and with no request of its pool ahead is granted (R251). -/
theorem hmpRequest_granted {s : State} {o n : Nat} {chain wait : Bool}
    (hahead : s.hmp.waits.any (fun w => ownerPool w.owner == ownerPool o) = false) (hroom : s.hmpRoom o n = true) :
    s.hmpRequest o n chain wait = (.granted (s.hmpGrant o n chain).1, (s.hmpGrant o n chain).2) := by
  simp [State.hmpRequest, hahead, hroom]

theorem le_free_of_hmpRoom {s : State} {o n : Nat} (h : s.hmpRoom o n = true) : n ≤ s.hmpFree := by
  simp only [State.hmpRoom, Bool.and_eq_true, decide_eq_true_eq] at h
  exact h.1.1.1

/-- With no request waiting an examination changes nothing. -/
theorem hmpExamine_of_nil {s : State} (h : s.hmp.waits = []) : s.hmpExamine = s := by
  unfold State.hmpExamine
  rw [h, State.hmpExamineFrom]
  dsimp only
  rw [← h]

/-- The last release of a buffer, outside a chain and without a data error, frees it (R257). -/
theorem hmpRelease_last {s : State} {r : Nat} (who : Nat) (hok : s.refOk r = true) (href : (s.hbuf (refBuf r)).ref = 1)
    (hnext : (s.hbuf (refBuf r)).next = none) (hpoison : (s.hbuf (refBuf r)).poison = false) (hwaits : s.hmp.waits = []) :
    s.hmpRelease r who = (s.hmpDrop (refBuf r)).hmpEval := by
  have hfrom : s.hmpReleaseFrom r who 16 = s.hmpDrop (refBuf r) := by simp [State.hmpReleaseFrom, hok, href, hnext]
  unfold State.hmpRelease
  rw [hfrom]
  refine hmpExamine_of_nil ?_
  rw [waits_hmpEval, State.hmpDrop, hpoison]
  exact hwaits

/-- Settles O24. -/
theorem hamperBuffersFirstInFirstOut : Obligations.HamperBuffersFirstInFirstOut := by
  constructor
  · intro o n chain wait s ho hn1 hn16 hchain hahead hroom
    obtain ⟨hrefs, hrest⟩ := hmpGrant_front o chain (le_free_of_hmpRoom hroom)
    have hrow : allocRequest o n chain wait s = { (s.hmpGrant o n chain).2 with
        hmp := { (s.hmpGrant o n chain).2.hmp with lastGrant := some (s.hmpGrant o n chain).1 } } := by
      unfold allocRequest
      rw [if_neg (by rintro (h | h | h | ⟨h1, h2⟩) <;> [omega; omega; omega; exact absurd (hchain h1) (by omega)]),
        hmpRequest_granted hahead hroom]
    exact ⟨_, exec_of_row rfl hrow, hrest, hrefs, rfl⟩
  · intro r who s hok href hnext hpoison hwaits
    have hrow : referenceRelease r who 0 s = (s.hmpDrop (refBuf r)).hmpEval := by
      simp [referenceRelease, State.hmpEcc, hok, hmpRelease_last who hok href hnext hpoison hwaits]
    refine ⟨_, exec_of_row rfl hrow, ?freed, ?stale⟩
    case freed =>
      refine (freeList_hmpEval _).trans ?_
      simp [State.hmpDrop, hpoison, State.freeList, State.setHbuf]
    case stale =>
      have hbuf : ((s.hmpDrop (refBuf r)).hmpEval.hbuf (refBuf r)).ref = 0 := by
        simp [State.hbuf, State.hmpDrop, State.setHbuf, show (tget {} s.hmp.bufs (refBuf r)).poison = false from hpoison]
      show ((s.hmpDrop (refBuf r)).hmpEval).refOk r = false
      simp [State.refOk, HBuf.held, hbuf]

end Sys2Proof.Machine
end

section
/-!
PROOFS. What the queue fabric, the Hamper and the links leave unchanged: every part of the state but registers, events, output levels,
queues, buffers, the links and what is sent.
-/

namespace Sys2Proof.Machine

/-- The state but for registers, events, output levels, the queue fabric, the Hamper, the links and the record of what is sent. -/
def State.offRoad (s : State) : State :=
  { s with regs := [], router := {}, balls := {}, fqs := [], hmp := {}, agl := {}, casc := {}, sent := [] }

/-! ### The operations that the fabric, the Hamper and the links are made of -/

theorem offRoad_foldl {α : Type} {f : State → α → State} (h : ∀ s a, (f s a).offRoad = s.offRoad) (l : List α) (s : State) :
    (l.foldl f s).offRoad = s.offRoad := by
  induction l generalizing s with
  | nil => rfl
  | cons a l ih => rw [List.foldl_cons, ih, h]

theorem offRoad_iterate {f : State → State} (h : ∀ s, (f s).offRoad = s.offRoad) (n : Nat) (s : State) :
    (iterate f n s).offRoad = s.offRoad := by
  induction n generalizing s with
  | zero => rfl
  | succ n ih => exact (ih (f s)).trans (h s)

variable (s : State)

@[simp] theorem offRoad_set (f : Fld) (v w : Nat) : (s.set f v w).offRoad = s.offRoad := by simp [State.offRoad]
@[simp] theorem offRoad_addF (f : Fld) (v w : Nat) : (s.addF f v w).offRoad = s.offRoad := by simp [State.addF]
@[simp] theorem offRoad_orF (f : Fld) (v w : Nat) : (s.orF f v w).offRoad = s.offRoad := by simp [State.orF]
@[simp] theorem offRoad_setEv (k : Nat) (e : EvSrc) : (s.setEv k e).offRoad = s.offRoad := by simp [State.offRoad]
@[simp] theorem offRoad_setFq (q : Nat) (v : Fq) : (s.setFq q v).offRoad = s.offRoad := by simp [State.offRoad]
@[simp] theorem offRoad_setHbuf (b : Nat) (v : HBuf) : (s.setHbuf b v).offRoad = s.offRoad := by simp [State.offRoad]
@[simp] theorem offRoad_send (m : Msg) : (s.send m).offRoad = s.offRoad := by simp [State.offRoad]

@[simp] theorem offRoad_setLnk (l : Nat) (v : Link) : (s.setLnk l v).offRoad = s.offRoad := by
  unfold State.setLnk
  split_ifs <;> rfl

@[simp] theorem offRoad_post (k d : Nat) : (s.post k d).offRoad = s.offRoad := by
  unfold State.post
  dsimp only
  split_ifs <;> simp only [offRoad_addF, offRoad_setEv]

@[simp] theorem offRoad_postBit (f : Fld) (base k d : Nat) : (s.postBit f base k d).offRoad = s.offRoad := by simp [State.postBit]

@[simp] theorem offRoad_hmpEvent (k d : Nat) : (s.hmpEvent k d).offRoad = s.offRoad := by simp [State.hmpEvent]

@[simp] theorem offRoad_fabEvent (f : Fld) (k d : Nat) : (s.fabEvent f k d).offRoad = s.offRoad := by simp [State.fabEvent]

/-- A state that differs in the Hamper alone. -/
theorem offRoad_hmp (h : Hamper) : ({ s with hmp := h } : State).offRoad = s.offRoad := rfl

/-! ### The Hamper -/

@[simp] theorem offRoad_hmpEval : s.hmpEval.offRoad = s.offRoad := by
  unfold State.hmpEval
  dsimp only
  split_ifs <;> simp [offRoad_hmp]

@[simp] theorem offRoad_staleRef (r who : Nat) : (s.staleRef r who).offRoad = s.offRoad := by simp [State.staleRef]

@[simp] theorem offRoad_hmpRetire (b : Nat) (t : Bool) : (s.hmpRetire b t).offRoad = s.offRoad := by simp [State.hmpRetire]

@[simp] theorem offRoad_hmpDrop (b : Nat) : (s.hmpDrop b).offRoad = s.offRoad := by
  unfold State.hmpDrop
  dsimp only
  split_ifs
  · simp
  · rfl

@[simp] theorem offRoad_hmpTake1 (o : Nat) : (s.hmpTake1 o).2.offRoad = s.offRoad := by
  unfold State.hmpTake1
  rfl

@[simp] theorem offRoad_hmpTakeN (o n : Nat) : (s.hmpTakeN o n).2.offRoad = s.offRoad := by
  induction n generalizing s with
  | zero => rfl
  | succ n ih => simp [State.hmpTakeN, ih]

@[simp] theorem offRoad_hmpChain (l : List Nat) : (s.hmpChain l).offRoad = s.offRoad := by
  fun_induction State.hmpChain s l with
  | case1 s r r' l ih => simp [ih]
  | case2 s l => rfl

@[simp] theorem offRoad_hmpGrant (o n : Nat) (chain : Bool) : (s.hmpGrant o n chain).2.offRoad = s.offRoad := by
  unfold State.hmpGrant
  cases chain <;> simp [offRoad_hmp]

@[simp] theorem offRoad_hmpExamineFrom (blocked : List Nat) (l : List HWait) : (s.hmpExamineFrom blocked l).2.offRoad = s.offRoad := by
  induction l generalizing s blocked with
  | nil => rfl
  | cons w l ih =>
    unfold State.hmpExamineFrom
    split_ifs <;> simp [ih, offRoad_hmp]

@[simp] theorem offRoad_hmpExamine : s.hmpExamine.offRoad = s.offRoad := by simp [State.hmpExamine, offRoad_hmp]

@[simp] theorem offRoad_hmpFreeAll (l : List Nat) : (s.hmpFreeAll l).offRoad = s.offRoad := by
  unfold State.hmpFreeAll
  refine (offRoad_hmpExamine _).trans ((offRoad_hmpEval _).trans ((offRoad_foldl offRoad_hmpDrop _ _).trans ?_))
  refine offRoad_foldl ?_ _ _
  intro t b
  exact offRoad_staleRef ..

@[simp] theorem offRoad_hmpNamed (b o : Nat) : (s.hmpNamed b o).offRoad = s.offRoad := by
  unfold State.hmpNamed
  dsimp only
  split_ifs <;> simp

/-! ### The queue fabric -/

@[simp] theorem offRoad_fcSet (a b : Bool) : (s.fcSet a b).offRoad = s.offRoad := by
  unfold State.fcSet
  split_ifs
  · rfl
  · rw [offRoad_fabEvent]; rfl

@[simp] theorem offRoad_fcEval : s.fcEval.offRoad = s.offRoad := by
  unfold State.fcEval
  split_ifs <;> simp

@[simp] theorem offRoad_wmEval (q : Nat) : (s.wmEval q).offRoad = s.offRoad := by
  unfold State.wmEval
  dsimp only
  split_ifs <;> simp

@[simp] theorem offRoad_fqPut (q : Nat) (v : Fq) : (s.fqPut q v).offRoad = s.offRoad := by
  unfold State.fqPut
  split_ifs <;> simp

@[simp] theorem offRoad_spillTidy (q : Nat) : (s.spillTidy q).offRoad = s.offRoad := by
  unfold State.spillTidy
  dsimp only
  split_ifs
  · rfl
  · split <;> simp

@[simp] theorem offRoad_spillMove (q : Nat) : (s.spillMove q).offRoad = s.offRoad := by
  unfold State.spillMove
  dsimp only
  split
  · split_ifs <;> simp
  · simp

@[simp] theorem offRoad_fqRewindQ (q : Nat) : (s.fqRewindQ q).offRoad = s.offRoad := by simp [State.fqRewindQ]

@[simp] theorem offRoad_fqClose1 (q : Nat) (e : FqEntry) : (s.fqClose1 q e).2.offRoad = s.offRoad := by
  unfold State.fqClose1
  dsimp only
  split_ifs <;> simp

@[simp] theorem offRoad_fqFillBytes (q : Nat) (m : FqEntry) (n : Nat) (l : List Byte) : (s.fqFillBytes q m n l).offRoad = s.offRoad := by
  induction n generalizing s l with
  | zero => rfl
  | succ n ih =>
    unfold State.fqFillBytes
    dsimp only
    split_ifs
    · rfl
    · simp
    · simp
    · split
      · next s2 h => rw [ih, show s2 = _ from (congrArg Prod.snd h).symm]; simp
      · next s2 h => rw [show s2 = _ from (congrArg Prod.snd h).symm]; simp

@[simp] theorem offRoad_fqResume (q : Nat) : (s.fqResume q).offRoad = s.offRoad := by
  unfold State.fqResume
  dsimp only
  split_ifs
  · rfl
  · rw [offRoad_foldl (fun s m => offRoad_fqFillBytes s q m _ _), offRoad_setFq]

@[simp] theorem offRoad_qPut (q : Nat) (e : FqEntry) : (s.qPut q e).offRoad = s.offRoad := by simp [State.qPut]

@[simp] theorem offRoad_qTake (q : Nat) : (s.qTake q).offRoad = s.offRoad := by
  unfold State.qTake
  dsimp only
  split
  · split_ifs <;> simp
  · rfl

@[simp] theorem offRoad_qPass (q : Nat) (e : FqEntry) : (s.qPass q e).offRoad = s.offRoad := by
  unfold State.qPass
  split_ifs <;> simp

@[simp] theorem offRoad_qPassN (q : Nat) (e : FqEntry) (n : Nat) : (s.qPassN q e n).offRoad = s.offRoad :=
  offRoad_iterate (fun s => offRoad_qPass s q e) n s

/-! ### The links -/

@[simp] theorem offRoad_wire (l : Nat) (b : List Byte) : (s.wire l b).offRoad = s.offRoad := by
  unfold State.wire
  dsimp only
  exact (offRoad_foldl (fun t p => offRoad_send t _) _ _).trans (offRoad_setLnk ..)

@[simp] theorem offRoad_setOn (l typ : Nat) (b : List Byte) (k : Nat) : (s.setOn l typ b k).offRoad = s.offRoad := by simp [State.setOn]

@[simp] theorem offRoad_setAll (l typ : Nat) (b : List Byte) : (s.setAll l typ b).offRoad = s.offRoad :=
  offRoad_foldl (fun s k => offRoad_setOn s l typ b k) _ s

@[simp] theorem offRoad_sendFrame (l q : Nat) (i : TxItem) : (s.sendFrame l q i).offRoad = s.offRoad := by simp [State.sendFrame]

@[simp] theorem offRoad_linkFrame (l typ : Nat) (b : List Byte) : (s.linkFrame l typ b).offRoad = s.offRoad := by simp [State.linkFrame]

@[simp] theorem offRoad_linkFlush (l n : Nat) : (s.linkFlush l n).offRoad = s.offRoad := by
  induction n generalizing s with
  | zero => rfl
  | succ n ih =>
    unfold State.linkFlush
    dsimp only
    split
    · rfl
    · split_ifs
      · rw [ih]; simp
      · rfl

@[simp] theorem offRoad_leaveL1 (l : Nat) : (s.leaveL1 l).offRoad = s.offRoad := by
  unfold State.leaveL1
  dsimp only
  split_ifs <;> simp

@[simp] theorem offRoad_linkSend (l : Nat) (i : TxItem) : (s.linkSend l i).offRoad = s.offRoad := by simp [State.linkSend]

@[simp] theorem offRoad_cascSend (typ dst : Nat) (h p : List Byte) : (s.cascSend typ dst h p).offRoad = s.offRoad := by
  simp [State.cascSend]

@[simp] theorem offRoad_cascCtl (action m : Nat) (h p : List Byte) : (s.cascCtl action m h p).offRoad = s.offRoad := by
  simp [State.cascCtl]

/-! ### Parts of the state off the road -/

variable {s} {t : State}

theorem rt_of_offRoad (h : t.offRoad = s.offRoad) : t.rt = s.rt := by
  have : t.offRoad.rt = s.offRoad.rt := by rw [h]
  exact this

end Sys2Proof.Machine
end

section
/-!
PROOFS. The supply balance (R276).
-/

namespace Sys2Proof.Machine

/-- Is the ledger enabled, its balance, and its cap. -/
def Ration.account (r : Ration) : Bool × Int × Nat := (r.on, r.bal, r.cap)

theorem offRoad_regs (s : State) (l : List (Nat × Word)) : ({ s with regs := l } : State).offRoad = s.offRoad := rfl

theorem offRoad_activate1 (s : State) (l : List Nat) : (s.activate1 l).offRoad = s.offRoad := by
  unfold State.activate1
  refine offRoad_foldl ?_ l s
  intro t k
  exact offRoad_regs ..

theorem rt_commitReport (s : State) (g r row : Nat) : (s.commitReport g r row).rt = s.rt := by
  unfold State.commitReport
  simp -implicitDefEqProofs only [State.setReg_rt, apply_ite State.rt, State.set_rt, ite_self]

theorem rt_post (s : State) (k d : Nat) : (s.post k d).rt = s.rt := rt_of_offRoad (offRoad_post ..)

theorem rt_commitEnd (s : State) (g r : Nat) : (s.commitEnd g r).rt = s.rt := by
  unfold State.commitEnd
  exact (rt_post ..).trans (rt_commitReport ..)

/-- A state with another share of the budget, but for its share. -/
theorem account_share (s : State) (v : Option (Nat × (Nat × Nat))) : ({ s with rt := { s.rt with share := v } } : State).rt.account = s.rt.account :=
  rfl

/-- The master's message of the shares changes its own share alone (R517). -/
theorem account_cascShare (s : State) : s.cascShare.rt.account = s.rt.account := by
  unfold State.cascShare
  split_ifs
  · rfl
  · rfl
  · refine (congrArg Ration.account (rt_of_offRoad ?_)).trans (account_share s (some (s.shareOf 0)))
    refine offRoad_foldl ?_ _ _
    intro t m
    exact offRoad_cascCtl ..

/-- A pending commit of group RATION leaves the ledger enabled or not as it was. -/
theorem on_commitNow (s : State) : (s.commitNow 0x0D).rt.on = s.rt.on := by
  unfold State.commitNow
  split_ifs
  · have hgroup : s.applyGroup 0x0D true [] = (s.activate1 (s.dirtyKeys 13)).cascShare := rfl
    have haccount : (s.activate1 (s.dirtyKeys 13)).cascShare.rt.account = s.rt.account :=
      (account_cascShare _).trans (congrArg Ration.account (rt_of_offRoad (offRoad_activate1 ..)))
    rw [rt_commitEnd, hgroup]
    exact congrArg Prod.fst haccount
  · rfl

theorem rt_rationEvent (s : State) (f : Fld) (n d : Nat) : (s.rationEvent f n d).rt = s.rt := by
  unfold State.rationEvent
  rw [rt_post, State.set_rt]

/-- The check of the ISNS reading leaves the account (R271). -/
theorem account_isnsCheck (s : State) (diff : Int) : (s.isnsCheck diff).rt.account = s.rt.account := by
  unfold State.isnsCheck
  extract_lets bad
  by_cases hisns : s.rt.isns = false
  · rw [if_pos hisns]
  · rw [if_neg hisns]
    split
    · rw [rt_rationEvent]; rfl
    · rfl

theorem rt_setCost (s : State) (i : Nat) (v : Nat × Nat) : (s.setCost i v).rt = s.rt := by
  unfold State.setCost
  rw [State.set_rt, State.set_rt]

theorem rt_foldl {α : Type} {f : State → α → State} (h : ∀ s a, (f s a).rt = s.rt) (l : List α) (s : State) : (l.foldl f s).rt = s.rt := by
  induction l generalizing s with
  | nil => rfl
  | cons a l ih => rw [List.foldl_cons, ih, h]

theorem account_noCal (s : State) : ({ s with rt := { s.rt with cal := none } } : State).rt.account = s.rt.account := rfl

/-- The end of a calibration changes the cost table, not the account (R275). -/
theorem account_calFinish (s : State) (r : RationCal) : (s.calFinish r).rt.account = s.rt.account := by
  unfold State.calFinish State.calCode
  rw [State.set_rt, State.set_rt, State.set_rt]
  refine (account_noCal _).trans (congrArg Ration.account ((rt_foldl ?_ _ _).trans (rt_foldl ?_ _ s)))
  · intro t m
    split
    · exact rt_setCost ..
    · rfl
  · intro t k
    exact rt_setCost ..

theorem account_calNext (s : State) (r : RationCal) : (s.calNext r).rt.account = s.rt.account := by
  unfold State.calNext
  split
  · exact account_calFinish ..
  · rfl

/-- A running calibration counts an update and leaves the account (R275). -/
theorem account_calTick (s : State) (meas : Int) : (s.calTick meas).rt.account = s.rt.account := by
  unfold State.calTick
  split
  · rfl
  · extract_lets rt put
    split
    · split
      · rfl
      · split
        · rfl
        · exact account_calNext ..
    · split <;> rfl

/-- An update of an enabled ledger clamps the balance to the cap (R276). -/
theorem account_ledgerMove (vT : Nat) (diff : Int) (onDie : Nat) {s : State} (h : s.rt.on = true) : ∃ x : Int,
    (ledgerMove vT diff onDie s).rt.account = (true, max (-(s.capNow s.derates : Int)) (min (s.capNow s.derates) x), s.capNow s.derates) := by
  unfold ledgerMove
  rw [if_neg (by simp [h])]
  extract_lets d num refill meas shares cap b charges u sumIn rt s1 s2 s3
  refine ⟨s.rt.bal + refill - meas + shares, (account_calTick ..).trans ((account_isnsCheck ..).trans ?_)⟩
  have h3 : s3.rt = s2.rt := by
    subst s3
    split
    · rfl
    · exact rt_rationEvent ..
  have h2 : s2.rt = s1.rt := by
    subst s2
    split
    · rw [State.set_rt, State.set_rt]
    · rfl
  rw [h3, h2]
  exact congrArg (fun on => (on, b, cap)) h

/-- Settles O26. -/
theorem ledgerBalanceIsBounded : Obligations.LedgerBalanceIsBounded := by
  intro vT onDie diff s
  constructor
  · intro hon
    have hcommit : (s.commitNow 0x0D).rt.on = true := (on_commitNow s).trans hon
    have hrow : ledgerUpdate vT diff onDie s = ledgerMove vT diff onDie (s.commitNow 0x0D) := by
      unfold ledgerUpdate
      rw [if_pos hon]
    obtain ⟨x, hx⟩ := account_ledgerMove vT diff onDie hcommit
    refine ⟨_, exec_of_row rfl hrow, ?_⟩
    obtain ⟨h1, h2, h3⟩ : _ = true ∧ _ = _ ∧ _ = _ := by simpa only [Ration.account, Prod.mk.injEq] using hx
    rw [State.kept_rt, h1, h2, h3]
    exact ⟨rfl, le_max_left .., max_le (by omega) (min_le_left ..)⟩
  · intro hoff
    refine exec_of_row rfl ?_
    unfold ledgerUpdate ledgerMove
    rw [if_neg (by simp [hoff] : ¬ s.rt.on = true), if_pos hoff]

end Sys2Proof.Machine
end

section
/-!
PROOFS. Writes of PS (R463, R464).
-/

namespace Sys2Proof.Machine

theorem keep_of_offRoad {s t : State} (h : t.offRoad = s.offRoad) : t.keep = s.keep := by
  have : t.offRoad.keep = s.offRoad.keep := by rw [h]
  exact this

theorem offRoad_faultLatch (s : State) (r : List Byte) : (s.faultLatch r).offRoad = s.offRoad := by
  unfold State.faultLatch
  split
  · exact offRoad_addF ..
  · rw [offRoad_set]
    refine offRoad_foldl ?_ _ s
    intro t k
    exact offRoad_set ..

theorem keep_jnlDrop (s : State) (body : List Byte) : (s.jnlDrop body).keep = s.keep :=
  keep_of_offRoad ((offRoad_faultLatch ..).trans (offRoad_addF ..))

/-- A fault record that falls due leaves PS and the eNOR (R456). -/
theorem stores_faultDue (s : State) (src code : Nat) (data : List Byte) :
    (s.faultDue src code data).keep.ps = s.keep.ps ∧ (s.faultDue src code data).keep.nor = s.keep.nor := by
  unfold State.faultDue
  dsimp only
  split
  · rw [keep_jnlDrop]
    exact ⟨rfl, rfl⟩
  · exact ⟨rfl, rfl⟩

theorem get_faultLatch_psFault (s : State) (r : List Byte) : (s.faultLatch r).get F.PS_STAT_FAULT = s.get F.PS_STAT_FAULT := by
  have hlatch : ∀ (t : State) (k : Nat), k < 8 → (t.set (F.FAULT_LATCH_DATA k) (leAt r (4 * k) 4)).get F.PS_STAT_FAULT = t.get F.PS_STAT_FAULT := by
    intro t k hk
    exact State.get_set_other _ _ _ _ _ _ (by simp only [regKey, F.FAULT_LATCH_DATA, F.PS_STAT_FAULT]; omega)
  unfold State.faultLatch
  split
  · exact get_addF_other _ _ _ _ _ _ (by decide)
  · rw [State.get_set_other _ _ _ _ _ _ (by decide)]
    have hr : List.range 8 = [0, 1, 2, 3, 4, 5, 6, 7] := rfl
    rw [hr]
    simp -implicitDefEqProofs only [List.foldl_cons, List.foldl_nil, hlatch, Nat.reduceLT]

theorem get_faultDue_psFault (s : State) (src code : Nat) (data : List Byte) :
    (s.faultDue src code data).get F.PS_STAT_FAULT = s.get F.PS_STAT_FAULT := by
  unfold State.faultDue
  dsimp only
  split
  · exact (get_faultLatch_psFault ..).trans (get_addF_other _ _ _ _ _ _ (by decide))
  · rfl

/-- The state of a failed PS write once it is shown and its event is posted, before its fault record falls due (R464). -/
def State.psFaultShown (s : State) (off : Nat) : State :=
  ((s.set F.PS_STAT_FAULT 1).addF F.PS_ERR_FAILED 1).postBit F.NOR_EVT_SRC 336 5 off

theorem psFailed_eq (s : State) (off : Nat) (link : Bool) : ∃ src code : Nat, s.psFailed off link =
    (s.psFaultShown off).faultDue src code (natLE 4 off) := by
  cases link
  · exact ⟨0x07, 0, rfl⟩
  · exact ⟨0x0A, 1, rfl⟩

theorem keep_psFaultShown (s : State) (off : Nat) : (s.psFaultShown off).keep = s.keep :=
  keep_of_offRoad ((offRoad_postBit ..).trans ((offRoad_addF ..).trans (offRoad_set ..)))

theorem get_psFaultShown (s : State) (off : Nat) : (s.psFaultShown off).get F.PS_STAT_FAULT = 1 := by
  unfold State.psFaultShown State.postBit
  rw [State.get_post _ _ _ _ _ (by decide)]
  unfold State.orF
  rw [State.get_set_other _ _ _ _ _ _ (by decide), get_addF_other _ _ _ _ _ _ (by decide), State.get_set _ _ _ _ (by decide)]
  rfl

/-- What R464 does when a PS write fails: the stores stay, and PS_STAT.FAULT is set. -/
theorem psFailed_spec (s : State) (off : Nat) (link : Bool) : (s.psFailed off link).keep.ps = s.keep.ps ∧
    (s.psFailed off link).keep.nor = s.keep.nor ∧ (s.psFailed off link).get F.PS_STAT_FAULT = 1 := by
  obtain ⟨src, code, heq⟩ := psFailed_eq s off link
  obtain ⟨hps, hnor⟩ := stores_faultDue (s.psFaultShown off) src code (natLE 4 off)
  rw [keep_psFaultShown] at hps hnor
  rw [heq, hps, hnor, get_faultDue_psFault, get_psFaultShown]
  exact ⟨rfl, rfl, rfl⟩

/-- A write that fails its verify reaches its own bytes alone. -/
theorem stores_psTear (s : State) (a n : Nat) : (s.psTear a n).keep.nor = s.keep.nor ∧
    ∀ b : Nat, ¬ (a ≤ b ∧ b < a + n) → tget 0 (s.psTear a n).keep.ps b = tget 0 s.keep.ps b := by
  refine ⟨rfl, fun b hb => ?_⟩
  have hlen : ((List.range n).map (fun i => BitVec.ofNat 8 (Config.freeByte s.freeN i))).length = n := by simp
  exact tget_writeBytes_out _ _ _ (by rw [hlen]; omega)

theorem length_sliceB32 (data : List Byte) : (sliceB data 0 32).length = 32 := length_sliceB ..

/-- A write of 32 bytes that does not pass: the bytes outside of it and the eNOR stay, and PS_STAT.FAULT is set. -/
theorem psWrite_fails (s : State) (off : Nat) (l : List Byte) (o : PsOutcome) (r : List PsOutcome) (hl : l.length = 32)
    (hnext : s.keep.psNext = o :: r) (ho : s.keep.psFault = true ∨ o = .verifyFail ∨ o = .linkFault) :
    (∀ b : Nat, ¬ (off ≤ b ∧ b < off + 32) → tget 0 (s.psWrite off l).2.keep.ps b = tget 0 s.keep.ps b) ∧
      (s.psWrite off l).2.keep.nor = s.keep.nor ∧ (s.psWrite off l).2.get F.PS_STAT_FAULT = 1 := by
  have hlink : ∀ t : State, t.keep.ps = s.keep.ps → t.keep.nor = s.keep.nor →
      (∀ b : Nat, ¬ (off ≤ b ∧ b < off + 32) → tget 0 (t.psFailed off true).keep.ps b = tget 0 s.keep.ps b) ∧
        (t.psFailed off true).keep.nor = s.keep.nor ∧ (t.psFailed off true).get F.PS_STAT_FAULT = 1 := by
    intro t hps hnor
    obtain ⟨hps', hnor', hflag⟩ := psFailed_spec t off true
    exact ⟨fun b _ => by rw [hps', hps], hnor'.trans hnor, hflag⟩
  by_cases hf : s.keep.psFault = true
  · have hrun : (s.psWrite off l).2 = ({ s with keep := { s.keep with psFault := false } } : State).psFailed off true := by
      simp only [State.psWrite, State.psAnswer, hf, if_true, hl, Nat.le_refl]
    rw [hrun]
    exact hlink _ rfl rfl
  · obtain rfl | rfl := ho.resolve_left hf
    · have hrun : (s.psWrite off l).2 = (({ s with keep := { s.keep with psNext := r } } : State).psTear off 32).psFailed off false := by
        simp only [State.psWrite, State.psAnswer, hf, hl, hnext, List.headD_cons, List.tail_cons]
        rfl
      obtain ⟨hps', hnor', hflag⟩ := psFailed_spec (({ s with keep := { s.keep with psNext := r } } : State).psTear off 32) off false
      obtain ⟨hnor, hps⟩ := stores_psTear { s with keep := { s.keep with psNext := r } } off 32
      rw [hrun]
      exact ⟨fun b hb => by rw [hps']; exact hps b hb, hnor'.trans hnor, hflag⟩
    · have hrun : (s.psWrite off l).2 = ({ s with keep := { s.keep with psNext := r } } : State).psFailed off true := by
        simp only [State.psWrite, State.psAnswer, hf, hl, hnext, List.headD_cons, List.tail_cons, Nat.le_refl, if_true]
        rfl
      rw [hrun]
      exact hlink _ rfl rfl

/-- A unit of 32 bytes as written: its own bytes are those of the data, the others stay. -/
theorem tget_writeUnit (m : List (Nat × Byte)) (a b : Nat) (data : List Byte) : tget 0 (writeBytes 0 m a (sliceB data 0 32)) b =
    if a ≤ b ∧ b < a + 32 then (data.drop (b - a)).headD 0 else tget 0 m b := by
  have hlen := length_sliceB32 data
  split_ifs with hb
  · have hin := tget_writeBytes_in 0 m a (sliceB data 0 32) (i := b - a) (by omega)
    rw [Nat.add_sub_cancel' hb.1] at hin
    rw [hin]
    simp [sliceB]
  · exact tget_writeBytes_out _ _ _ (by omega)

/-- A write that passes puts its bytes and leaves the others. -/
theorem psWrite_passes (s : State) (off n : Nat) (l : List Byte) (r : List PsOutcome) (hf : s.keep.psFault = false)
    (hnext : s.keep.psNext = .ok n :: r) : (s.psWrite off l).2.keep.nor = s.keep.nor ∧
      (s.psWrite off l).2.keep.ps = writeBytes 0 s.keep.ps off l := by
  simp only [State.psWrite, State.psAnswer, hf, hnext, List.headD_cons, Bool.false_eq_true, if_false]
  split <;> exact ⟨rfl, rfl⟩

/-- Settles O27. -/
theorem persistentStoreWrite : Obligations.PersistentStoreWrite := by
  intro u data s hu
  have hoff : 32 * (u % 0x8000) = 32 * u := by rw [Nat.mod_eq_of_lt hu]
  have hrow : ∀ o : List PsOutcome, exec (.psWrite u data o) s = .next (s.kept ((s.withPs o).psWrite (32 * u) (sliceB data 0 32)).2) :=
    fun o => exec_of_row rfl (by rw [psWrite, hoff])
  refine ⟨fun n l hf => ⟨_, hrow _, ?_⟩, fun o l ho => ⟨_, hrow _, ?_⟩⟩
  · obtain ⟨hnor, hps⟩ := psWrite_passes (s.withPs (.ok n :: l)) (32 * u) n (sliceB data 0 32) l hf rfl
    refine ⟨hnor, fun b => ?_⟩
    rw [State.kept_ps, hps]
    exact tget_writeUnit ..
  · exact psWrite_fails (s.withPs (o :: l)) (32 * u) (sliceB data 0 32) o l (length_sliceB32 data) rfl ho

end Sys2Proof.Machine
end

section
/-!
PROOFS. Register writes: refusals (R114, R118) and the fields of a register that only holds values (R7, R9).
-/

namespace Sys2Proof.Machine

/-- A write that is refused leaves the state. -/
theorem act_of_refused {s : State} {c : Bool} {p : Path} {a : Nat} {v : Word} {x : RegIn} (h : s.writeRefused p a v ≠ 0) : s.act c p a v x = s := by
  unfold State.act State.pathWrite
  simp [h]

theorem writeRefused_of_locked {s : State} {p : Path} {a : Nat} {v : Word} (h : s.writeLocked p a = true) : s.writeRefused p a v = 8 := by
  simp [State.writeRefused, h]

/-- Settles O19. -/
theorem expertWriteNeedsItsGroup : Obligations.ExpertWriteNeedsItsGroup := by
  intro p a v x s hp hexpert hpage hgroup
  have hshut : (pageExpert (a / 64) && !s.absentPage (a / 64) &&
      (!bit (s.lockOf p).openGroups (pageGroup (a / 64)) || bit s.lockedDown (pageGroup (a / 64)))) = true := by
    simpa [hexpert, hpage] using hgroup
  have hlocked : s.writeLocked p a = true := by
    obtain rfl | rfl := hp
    · exact hshut
    · simp only [State.writeLocked, hshut, Bool.or_true]
  have hrefused := writeRefused_of_locked (v := v) hlocked
  exact ⟨hrefused, exec_of_row rfl (act_of_refused (by omega))⟩

/-- A write that the path makes, and that nothing refuses, is performed. -/
theorem act_of_takesWrite {s : State} {p : Path} {a : Nat} {v : Word} (x : RegIn) (h : s.takesWrite p a v) :
    s.act true p a v x = (s.regWrite p a v x).2 := by
  obtain ⟨hserves, hrefused, hpage⟩ := h
  simp [State.act, State.pathWrite, hserves, hrefused, hpage]

/-- Whether a register's write has a behaviour of its own depends on its address alone. -/
theorem isNone_regActs (s t : State) (p : Path) (a : Nat) (v : Word) (x : RegIn) :
    (s.regActs p a v x).isNone = (t.regActs p a v x).isNone := by
  simp -implicitDefEqProofs only [State.regActs, apply_ite Option.isNone, Option.isNone_some, Option.isNone_none]

/-- The write of a register that only holds values writes its fields. -/
theorem regWrite_of_plain {s : State} {p : Path} {a : Nat} {v : Word} {x : RegIn} (h : s.plainReg p a v x = true) :
    (s.regWrite p a v x).2 = ((s.beginWrite x).regStore p a v.toNat).endWrite.2 := by
  simp only [State.plainReg, Bool.and_eq_true, bne_iff_ne, ne_eq] at h
  obtain ⟨⟨-, hcasc⟩, hnone⟩ := h
  have hunl : a ≠ 0x47 := by
    rintro rfl
    exact Bool.noConfusion hnone
  have hacts : (s.beginWrite x).regActs p a v x = none := by
    rw [isNone_regActs s (s.beginWrite x)] at hnone
    exact Option.isNone_iff_eq_none.mp hnone
  simp only [State.regWrite, if_neg hunl, if_neg hcasc, hacts, Option.getD_none]

/-! ### The fields of a register -/

/-- Two fields of a register share no bit. -/
def FieldDef.apart (f g : FieldDef) : Bool := decide (f.lo + f.width ≤ g.lo ∨ g.lo + g.width ≤ f.lo)

/-- The fields of a register lie in its 32 bits, and no two share a bit. -/
def RegDef.fieldsApart (d : RegDef) : Bool :=
  d.fields.all (fun f => decide (f.lo + f.width ≤ 32)) && decide (d.fields.Pairwise (fun f g => f.apart g = true))

/-- It holds of every register of the manual's tables. -/
theorem fieldsApart_of_regPages : regPages.all (fun p => p.2.all RegDef.fieldsApart) = true := by
  decide +kernel

theorem fieldsApart_of_regDef {a : Nat} {d : RegDef} (h : regDef? a = some d) : d.fieldsApart = true := by
  unfold regDef? at h
  split at h
  next p hp =>
    have hpage := List.all_eq_true.mp fieldsApart_of_regPages p (List.mem_of_find?_eq_some hp)
    exact List.all_eq_true.mp hpage d (List.mem_of_find?_eq_some h)
  next => exact nomatch h

/-- The field in parameter space. -/
def FieldDef.at (f : FieldDef) (a : Nat) : Fld := ⟨a, f.lo, f.width⟩

/-- What a write of `b` makes of a field's active value `old` (R7, R9). -/
def FieldDef.active (f : FieldDef) (b old : Nat) : Nat :=
  match f.ty with
  | .rw | .wo => if f.vmin ≤ b ∧ b ≤ f.vmax then b else old
  | .w1c => old &&& ((2 ^ f.width - 1) ^^^ b)
  | .rs | .ro | .rx => old

/-- A staged register after another write of a staged register. -/
theorem stagedReg_setStaged (s : State) (a w b x : Nat) (v : Word) :
    (s.setStaged a v w).stagedReg b x = if regKey a w = regKey b x then v else s.stagedReg b x := by
  unfold State.stagedReg State.setStaged
  by_cases h : regKey a w = regKey b x
  · simp [h]
  · simp [h, tget_tset_other _ _ s.staged v h]

/-- A staged field after it was set. -/
theorem getStaged_setStagedF (s : State) (f : Fld) (v w : Nat) (h : f.lo + f.width ≤ 32) :
    (s.setStagedF f v w).getStaged f w = v % 2 ^ f.width := by
  unfold State.getStaged State.setStagedF
  rw [stagedReg_setStaged, if_pos rfl, bits_ofNat32 _ _ _ h, bits_putBits_same]

/-- Setting a staged field leaves the other staged fields of its register. -/
theorem getStaged_setStagedF_beside (s : State) (f g : Fld) (v w : Nat) (ha : f.addr = g.addr) (hg : g.lo + g.width ≤ 32)
    (h : f.lo + f.width ≤ g.lo ∨ g.lo + g.width ≤ f.lo) : (s.setStagedF f v w).getStaged g w = s.getStaged g w := by
  unfold State.getStaged State.setStagedF
  rw [stagedReg_setStaged, ha, if_pos rfl, bits_ofNat32 _ _ _ hg, bits_putBits_other _ _ _ _ _ _ h]

section
variable (s : State) (a w v : Nat) (f g : FieldDef)

/-- A field write leaves the state, reports a field error, or sets the field's active or its staged value. -/
theorem fieldWrite_elim {motive : State → Prop} (hkeep : motive s) (herror : motive s.fieldError)
    (hset : ∀ y : Nat, motive (s.set (f.at a) y w)) (hstage : ∀ y : Nat, motive (s.setStagedF (f.at a) y w)) :
    motive (s.fieldWrite a w v f) := by
  unfold State.fieldWrite
  dsimp only
  split
  · split
    · exact hset _
    · exact herror
  · split
    · exact hset _
    · exact herror
  · split
    · exact hstage _
    · exact herror
  · exact hset _
  · exact hkeep
  · exact hkeep

theorem get_fieldWrite_apart (h : g.lo + g.width ≤ 32) (hfg : f.apart g = true) :
    (s.fieldWrite a w v f).get (g.at a) w = s.get (g.at a) w :=
  fieldWrite_elim s a w v f (motive := fun t => t.get (g.at a) w = s.get (g.at a) w) rfl rfl
    (fun _ => State.get_set_beside s (f.at a) (g.at a) _ w rfl h (of_decide_eq_true hfg)) (fun _ => rfl)

theorem getStaged_fieldWrite_apart (h : g.lo + g.width ≤ 32) (hfg : f.apart g = true) :
    (s.fieldWrite a w v f).getStaged (g.at a) w = s.getStaged (g.at a) w := by
  refine fieldWrite_elim s a w v f (motive := fun t => t.getStaged (g.at a) w = s.getStaged (g.at a) w) rfl rfl (fun _ => rfl) (fun y => ?_)
  exact getStaged_setStagedF_beside s (f.at a) (g.at a) y w rfl h (of_decide_eq_true hfg)

theorem reg_fieldWrite_other (a' w' : Nat) (h : regKey a' w' ≠ regKey a w) : (s.fieldWrite a w v f).reg a' w' = s.reg a' w' := by
  refine fieldWrite_elim s a w v f (motive := fun t => t.reg a' w' = s.reg a' w') rfl rfl (fun y => ?_) (fun _ => rfl)
  exact (State.reg_setReg ..).trans (if_neg (Ne.symm h))

theorem bits_mod (v lo w : Nat) : bits v lo w % 2 ^ w = bits v lo w := Nat.mod_eq_of_lt (bits_lt ..)

/-- A field that is written as legal takes the written bits, and keeps its value else. -/
theorem get_ite_set (b : Nat) (h : f.lo + f.width ≤ 32) (hb : b % 2 ^ f.width = b) (c : Prop) [Decidable c] :
    (if decide c = true then s.set (f.at a) b w else s.fieldError).get (f.at a) w = if c then b else s.get (f.at a) w := by
  by_cases hc : c
  · rw [if_pos (decide_eq_true hc), if_pos hc]
    exact (State.get_set s (f.at a) b w h).trans hb
  · rw [if_neg (by simpa using hc), if_neg hc]
    rfl

theorem get_fieldWrite_same (h : f.lo + f.width ≤ 32) :
    (s.fieldWrite a w v f).get (f.at a) w = f.active (bits v f.lo f.width) (s.get (f.at a) w) := by
  have hwrite := get_ite_set s a w f (bits v f.lo f.width) h (bits_mod ..) (f.vmin ≤ bits v f.lo f.width ∧ bits v f.lo f.width ≤ f.vmax)
  unfold State.fieldWrite FieldDef.active
  cases f.ty with
  | rw | wo => exact hwrite
  | rs =>
    dsimp only
    split <;> rfl
  | w1c =>
    refine (State.get_set s (f.at a) _ w h).trans ?_
    rw [bits_mod]
    exact Nat.mod_eq_of_lt (Nat.and_lt_two_pow _ (Nat.xor_lt_two_pow (Nat.sub_lt (Nat.two_pow_pos _) Nat.one_pos) (bits_lt ..)))
  | ro | rx => rfl

theorem getStaged_fieldWrite_rs (h : f.lo + f.width ≤ 32) (hty : f.ty = .rs) : (s.fieldWrite a w v f).getStaged (f.at a) w =
    if f.vmin ≤ bits v f.lo f.width ∧ bits v f.lo f.width ≤ f.vmax then bits v f.lo f.width else s.getStaged (f.at a) w := by
  unfold State.fieldWrite
  rw [hty]
  dsimp only
  by_cases hlegal : f.vmin ≤ bits v f.lo f.width ∧ bits v f.lo f.width ≤ f.vmax
  · rw [if_pos (decide_eq_true hlegal), if_pos hlegal]
    exact (getStaged_setStagedF s (f.at a) _ w h).trans (bits_mod ..)
  · rw [if_neg (by simpa using hlegal), if_neg hlegal]
    rfl

end

/-! ### The fields in their order -/

/-- What the writes of the fields `l` make of the field `f` of register `a`. -/
theorem foldl_fieldWrite_apart {β : Type} (read : State → β) (a w v : Nat) (l : List FieldDef)
    (h : ∀ g ∈ l, ∀ s : State, read (s.fieldWrite a w v g) = read s) (s : State) :
    read (l.foldl (fun (t : State) g => t.fieldWrite a w v g) s) = read s := by
  induction l generalizing s with
  | nil => rfl
  | cons g l ih =>
    rw [List.foldl_cons, ih (fun k hk => h k (List.mem_cons_of_mem _ hk)), h g List.mem_cons_self]

theorem apart_comm (f g : FieldDef) : f.apart g = g.apart f := by
  unfold FieldDef.apart
  exact decide_eq_decide.mpr or_comm

/-- The fields of a register before and after a field share no bit with it. -/
theorem exists_split_of_fieldsApart {d : RegDef} {f : FieldDef} (hd : d.fieldsApart = true) (hf : f ∈ d.fields) :
    f.lo + f.width ≤ 32 ∧ ∃ l r : List FieldDef, d.fields = l ++ f :: r ∧ ∀ g, g ∈ l ∨ g ∈ r → g.apart f = true := by
  obtain ⟨hwidth, hpair⟩ := Bool.and_eq_true_iff.mp hd
  refine ⟨of_decide_eq_true (List.all_eq_true.mp hwidth f hf), ?_⟩
  obtain ⟨l, r, hsplit⟩ := List.append_of_mem hf
  refine ⟨l, r, hsplit, ?_⟩
  have hp := of_decide_eq_true hpair
  rw [hsplit, List.pairwise_append, List.pairwise_cons] at hp
  obtain ⟨-, ⟨hafter, -⟩, hbefore⟩ := hp
  rintro g (hg | hg)
  · exact hbefore g hg f List.mem_cons_self
  · exact (apart_comm ..).trans (hafter g hg)

/-- The writes of a register's fields act on one of them as its own write does. -/
theorem foldl_fieldWrite_of_mem {β : Type} (read : State → β) {d : RegDef} {f : FieldDef} {a w v : Nat} (s : State)
    (hd : d.fieldsApart = true) (hf : f ∈ d.fields)
    (hread : f.lo + f.width ≤ 32 → ∀ (g : FieldDef) (t : State), g.apart f = true → read (t.fieldWrite a w v g) = read t) :
    ∃ t : State, read t = read s ∧ read (d.fields.foldl (fun (t : State) g => t.fieldWrite a w v g) s) = read (t.fieldWrite a w v f) := by
  obtain ⟨hwidth, l, r, hsplit, hapart⟩ := exists_split_of_fieldsApart hd hf
  refine ⟨l.foldl (fun (t : State) g => t.fieldWrite a w v g) s, ?_, ?_⟩
  · exact foldl_fieldWrite_apart read a w v l (fun g hg t => hread hwidth g t (hapart g (.inl hg))) s
  · rw [hsplit, List.foldl_append, List.foldl_cons]
    exact foldl_fieldWrite_apart read a w v r (fun g hg t => hread hwidth g t (hapart g (.inr hg))) _

/-- Settles O18. -/
theorem plainRegisterWrite : Obligations.PlainRegisterWrite := by
  intro p a v x s d f g w b htakes hplain hdef hnolink hf hg hw hb
  have hd := fieldsApart_of_regDef hdef
  obtain ⟨hwidth, -⟩ := exists_split_of_fieldsApart hd hf
  have hrow : registerWrite p a v x s = (d.fields.foldl (fun (t : State) g => t.fieldWrite a w v.toNat g) (s.beginWrite x)).endWrite.2 := by
    rw [registerWrite, hplain, act_of_takesWrite x htakes, regWrite_of_plain hplain, hw]
    unfold State.regStore
    rw [hdef]
    exact congrArg (fun t : State => t.endWrite.2) (if_neg hnolink)
  refine ⟨_, exec_of_row rfl hrow, ?_⟩
  subst hg hb
  obtain ⟨t, ht, hget⟩ := foldl_fieldWrite_of_mem (a := a) (w := w) (v := v.toNat) (fun u => u.get (f.at a) w) (s.beginWrite x) hd hf
    (fun h g t hapart => get_fieldWrite_apart t a w _ g f h hapart)
  obtain ⟨u, hu, hstaged⟩ := foldl_fieldWrite_of_mem (a := a) (w := w) (v := v.toNat) (fun u => u.getStaged (f.at a) w) (s.beginWrite x) hd hf
    (fun h g t hapart => getStaged_fieldWrite_apart t a w _ g f h hapart)
  have hactive := hget.trans (get_fieldWrite_same t a w _ f hwidth)
  rw [ht] at hactive
  have hread : ∀ y : Nat, f.active (bits v.toNat f.lo f.width) (s.get (f.at a) w) = y →
      (d.fields.foldl (fun (t : State) g => t.fieldWrite a w v.toNat g) (s.beginWrite x)).get (f.at a) w = y :=
    fun y hy => hactive.trans hy
  refine ⟨?_, ?_, ?_, ?_, ?_⟩
  · rintro (hty | hty) <;> exact hread _ (by simp only [FieldDef.active, hty]; rfl)
  · intro hty
    refine ⟨hread _ (by simp only [FieldDef.active, hty]; rfl), ?_⟩
    have hrs := hstaged.trans (getStaged_fieldWrite_rs u a w _ f hwidth hty)
    rw [hu] at hrs
    exact hrs
  · exact fun hty => hread _ (by simp only [FieldDef.active, hty]; rfl)
  · rintro (hty | hty) <;> exact hread _ (by simp only [FieldDef.active, hty]; rfl)
  · intro a' w' hother
    exact foldl_fieldWrite_apart (fun u => u.reg a' w') a w v.toNat d.fields
      (fun g _ t => reg_fieldWrite_other t a w _ g a' w' hother) (s.beginWrite x)

end Sys2Proof.Machine
end

section
/-!
PROOFS. What an immediate reset keeps and leaves (R65, R69), and the window of WD_0 (R491, R496).
-/

namespace Sys2Proof.Machine

/-! ### Registers that an operation leaves -/

section
variable (s : State) {a x : Nat}

theorem reg_set_other {f : Fld} (v : Nat) {w : Nat} (h : regKey f.addr w ≠ regKey a x) : (s.set f v w).reg a x = s.reg a x :=
  (State.reg_setReg ..).trans (if_neg h)

theorem reg_addF_other {f : Fld} (v : Nat) {w : Nat} (h : regKey f.addr w ≠ regKey a x) : (s.addF f v w).reg a x = s.reg a x :=
  reg_set_other s _ h

theorem reg_post (k d : Nat) (h : regKey F.EVR_COUNT_COALESCED.addr 0 ≠ regKey a x) : (s.post k d).reg a x = s.reg a x := by
  unfold State.post
  dsimp only
  split
  · exact reg_addF_other _ _ h
  · rfl

theorem reg_postBit (f : Fld) (base k d : Nat) (hf : regKey f.addr 0 ≠ regKey a x)
    (h : regKey F.EVR_COUNT_COALESCED.addr 0 ≠ regKey a x) : (s.postBit f base k d).reg a x = s.reg a x := by
  unfold State.postBit
  rw [reg_post _ _ _ h]
  exact reg_set_other s _ hf

/-- A register that every step of a list leaves. -/
theorem reg_foldl {α : Type} {f : State → α → State} (h : ∀ s a', (f s a').reg a x = s.reg a x) (l : List α) (s : State) :
    (l.foldl f s).reg a x = s.reg a x := by
  induction l generalizing s with
  | nil => rfl
  | cons b l ih => rw [List.foldl_cons, ih, h]

end

/-! ### The parts of an immediate reset -/

theorem reg_test (s : State) (v : Test) (a x : Nat) : ({ s with test := v } : State).reg a x = s.reg a x := rfl

theorem reg_bistReport (s : State) (done fails code : Nat) {a x : Nat} (h : a < 0x201 ∨ 0x2D00 ≤ a ∧ a < 0x3307) :
    (s.bistReport done fails code).reg a x = s.reg a x := by
  have hout : ∀ b : Nat, b < 0x4000 → b ≠ a → regKey b 0 ≠ regKey a x := by
    intro b hb hne
    simp only [regKey]
    omega
  have hstat : regKey 0x3343 0 ≠ regKey a x := hout _ (by decide) (by omega)
  unfold State.bistReport
  dsimp only
  rw [reg_postBit _ F.TP_EVT_SRC _ _ _ (hout 0x3307 (by decide) (by omega)) (hout 0x201 (by decide) (by omega)), reg_test,
    reg_set_other _ _ hstat, reg_set_other _ _ hstat, reg_set_other _ _ hstat]

theorem reg_bistCut (s : State) {a x : Nat} (h : a < 0x201 ∨ 0x2D00 ≤ a ∧ a < 0x3307) :
    s.bistCut.reg a x = s.reg a x := by
  unfold State.bistCut
  split
  · dsimp only
    exact reg_bistReport _ _ _ _ h
  · rfl

/-- The registers of the evidence, page 0x03 below the fault records, lie apart from the registers of KMEM and the events. -/
def evidenceReg (a : Nat) : Prop := 0xC0 ≤ a ∧ a < 0xCE

theorem reg_faultLatch (s : State) (r : List Byte) {a : Nat} (ha : evidenceReg a) : (s.faultLatch r).reg a = s.reg a := by
  obtain ⟨hlo, hhi⟩ := ha
  have hlatch : ∀ (t : State) (k : Nat), (t.set (F.FAULT_LATCH_DATA k) (leAt r (4 * k) 4)).reg a = t.reg a :=
    fun t k => reg_set_other t _ (by simp only [regKey, F.FAULT_LATCH_DATA]; omega)
  have hstat : regKey 0xCE 0 ≠ regKey a 0 := by simp only [regKey]; omega
  unfold State.faultLatch
  split
  · exact reg_addF_other (f := F.FAULT_STAT_DROPPED) s _ hstat
  · exact (reg_set_other (f := F.FAULT_STAT_VALID) _ _ hstat).trans (reg_foldl hlatch _ s)

theorem reg_jnlDrop (s : State) (body : List Byte) {a : Nat} (ha : evidenceReg a) : (s.jnlDrop body).reg a = s.reg a := by
  unfold State.jnlDrop
  rw [reg_faultLatch _ _ ha]
  refine reg_addF_other s _ ?_
  obtain ⟨hlo, hhi⟩ := ha
  simp only [regKey, F.JNL_STAT_DROPPED]
  omega

theorem reg_norResult (s : State) (p : Path) (status qual : Nat) {a : Nat} (ha : evidenceReg a) : (s.norResult p status qual).reg a = s.reg a := by
  obtain ⟨hlo, hhi⟩ := ha
  have hres : regKey 0x2D4A (pathNum p) ≠ regKey a 0 := by simp only [regKey]; omega
  unfold State.norResult
  dsimp only
  rw [reg_postBit _ _ _ _ _ (by simp only [regKey, F.NOR_EVT_SRC]; omega) (by simp only [regKey, F.EVR_COUNT_COALESCED]; omega),
    reg_set_other (f := F.NOR_RES_QUAL) _ _ hres, reg_set_other (f := F.NOR_RES_STATUS) _ _ hres, reg_set_other (f := F.NOR_RES_BUSY) _ _ hres]

theorem reg_norClear (s : State) (c : Nat) (ok : Bool) (a : Nat) : (s.norClear c ok).reg a = s.reg a := by
  unfold State.norClear
  dsimp only
  split <;> rfl

/-- Work of KMEM that a reset ends leaves the evidence. -/
theorem reg_norReset (s : State) {a : Nat} (ha : evidenceReg a) : s.norReset.reg a = s.reg a := by
  have hcut : ∀ (t : State) (status : Nat) (o : Origin), (t.norCut status o).reg a = t.reg a := by
    intro t status o
    cases o with
    | path p => exact reg_norResult _ _ _ _ ha
    | cmd k => rfl
    | boot => rfl
  have hreport : ∀ (t : State) (op : NorOp), op.ofPath = true → (t.norReport op.origin 0 0 0).reg a = t.reg a := by
    intro t op hop
    unfold NorOp.ofPath at hop
    split at hop
    next p hp =>
      rw [hp]
      exact reg_norResult _ _ _ _ ha
    next => exact nomatch hop
  unfold State.norReset
  split
  · rfl
  next op hop =>
    have hclear : (((s.keep.jnlHeld.foldl State.jnlDrop s).norClear op.sector false)).reg a = s.reg a :=
      (reg_norClear ..).trans (reg_foldl (fun t b => reg_jnlDrop t b ha) _ s)
    split
    · dsimp only
      split
      · exact hclear
      · exact (hcut ..).trans hclear
    · split
      · dsimp only
        split
        next hop => exact hreport _ _ hop
        next => rfl
      · rfl

theorem reg_norSession (s : State) {a x : Nat} (h : regKey 0x2D06 0 ≠ regKey a x) : s.norSession.reg a x = s.reg a x := by
  unfold State.norSession
  rw [reg_set_other (f := F.NOR_PW_STAT_BARRED) _ _ h, reg_set_other (f := F.NOR_PW_STAT_FAILS) _ _ h]

theorem tget_keptRegs (d : Word) (l : List (Nat × Word)) (k : Nat) : tget d (keptRegs l) k = if keptReg k then tget d l k else d := by
  induction l with
  | nil => simp [keptRegs, tget]
  | cons p l ih =>
    unfold keptRegs at *
    rw [List.filter_cons]
    obtain ⟨k', v⟩ := p
    by_cases hk : k' = k
    · subst hk
      by_cases hkept : keptReg k' = true
      · simp [tget, hkept]
      · simp [hkept, ih]
    · by_cases hkept : keptReg k' = true
      · simp [tget, hkept, hk, ih]
      · simp [tget, hkept, hk, ih]

theorem keptReg_iff (k : Nat) : keptReg k = true ↔
    (0xC0 ≤ k ∧ k < 0x100) ∨ k = 0x3343 ∨ (0x2D00 ≤ k % 0x4000 ∧ k % 0x4000 < 0x2E40) := by
  simp only [keptReg, Bool.or_eq_true, Bool.and_eq_true, decide_eq_true_eq, beq_iff_eq, or_assoc]

/-- A register after a reset of the logic die (R65). -/
theorem reg_logicReset (s : State) (a x : Nat) : s.logicReset.reg a x =
    if keptReg (regKey a x) then s.norReset.norSession.reg a x else regReset (regKey a x) :=
  tget_keptRegs ..

theorem reg_resetNow (s : State) (causes : List Nat) (resample : Bool) (a x : Nat) :
    (s.resetNow causes resample).reg a x = ((s.evidence causes).bistCut.logicReset).reg a x := by
  unfold State.resetNow
  dsimp only
  split <;> rfl

/-! ### The evidence (R69) -/

theorem reg_aon (s : State) (v : Aon) (a x : Nat) : ({ s with aon := v } : State).reg a x = s.reg a x := rfl

theorem get_aon (s : State) (v : Aon) (f : Fld) (w : Nat) : ({ s with aon := v } : State).get f w = s.get f w := rfl

/-- The evidence stands in registers 0xC0 to 0xC3. -/
theorem reg_evidence (s : State) (causes : List Nat) {a x : Nat} (h : regKey a x < 0xC0 ∨ 0xC4 ≤ regKey a x) :
    (s.evidence causes).reg a x = s.reg a x := by
  have hout : ∀ b : Nat, 0xC0 ≤ b → b < 0xC4 → regKey b 0 ≠ regKey a x := by
    intro b hlo hhi
    have hb : regKey b 0 = b := by simp [regKey]
    omega
  unfold State.evidence
  dsimp only
  rw [reg_aon, reg_set_other (f := F.RST_TIME_HI_TIME) _ _ (hout 0xC3 (by decide) (by decide)),
    reg_set_other (f := F.RST_TIME_LO_TIME) _ _ (hout 0xC2 (by decide) (by decide)),
    reg_addF_other (f := F.RST_COUNT_RESETS) _ _ (hout 0xC1 (by decide) (by decide)),
    reg_set_other (f := F.RST_CAUSE_LAST) _ _ (hout 0xC0 (by decide) (by decide))]
  refine reg_foldl (fun t c => ?_) _ s
  exact (State.reg_setReg ..).trans (if_neg (hout 0xC0 (by decide) (by decide)))

/-- `LAST` is the first of the causes in the order of R69. -/
def lastCause (causes : List Nat) : Nat := ((causeOrder.filter (fun c => causes.contains c)).head?).getD 0

theorem lastCause_lt (causes : List Nat) : lastCause causes < 16 := by
  unfold lastCause
  cases hhead : (causeOrder.filter (fun c => causes.contains c)).head? with
  | none => decide
  | some c =>
    have hc : c ∈ causeOrder := List.mem_of_mem_filter (List.mem_of_mem_head? hhead)
    exact (by decide : ∀ c ∈ causeOrder, c < 16) c hc

theorem get_evidence_last (s : State) (causes : List Nat) : (s.evidence causes).get F.RST_CAUSE_LAST = lastCause (causes ++ s.cycleCauses) := by
  unfold State.evidence
  dsimp only
  rw [get_aon, State.get_set_other _ _ _ _ _ _ (by decide), State.get_set_other _ _ _ _ _ _ (by decide),
    get_addF_other _ _ _ _ _ _ (by decide), State.get_set _ _ _ _ (by decide)]
  exact Nat.mod_eq_of_lt (lastCause_lt _)

/-- The evidence after an immediate reset. -/
theorem reg_resetNow_evidence (s : State) (causes : List Nat) (resample : Bool) {a : Nat} (ha : evidenceReg a) :
    (s.resetNow causes resample).reg a = (s.evidence causes).reg a := by
  have hcut := reg_bistCut (s.evidence causes) (a := a) (x := 0)
  have hsession := reg_norSession (s.evidence causes).bistCut.norReset (a := a) (x := 0)
  have hnor := reg_norReset (s.evidence causes).bistCut ha
  obtain ⟨hlo, hhi⟩ := ha
  have hkey : regKey a 0 = a := by simp [regKey]
  have hkept : keptReg (regKey a 0) = true := by
    rw [hkey]
    rw [keptReg_iff]
    omega
  rw [reg_resetNow, reg_logicReset, if_pos hkept, hsession (by rw [hkey]; simp only [regKey]; omega), hnor, hcut (by omega)]

theorem get_resetNow_last (s : State) (causes : List Nat) (resample : Bool) :
    (s.resetNow causes resample).get F.RST_CAUSE_LAST = lastCause (causes ++ s.cycleCauses) := by
  rw [← get_evidence_last]
  exact congrArg (fun v : Word => bits v.toNat 12 4) (reg_resetNow_evidence s causes resample (a := 0xC0) ⟨by decide, by decide⟩)

/-- What is not in the always-on island, the stores or on the balls starts anew after a reset. -/
theorem resetNow_fresh (s : State) (causes : List Nat) (resample : Bool) :
    (s.resetNow causes resample).host = {} ∧ (s.resetNow causes resample).wds = [] ∧ (s.resetNow causes resample).trail = {} := by
  cases resample <;> exact ⟨rfl, rfl, rfl⟩

/-! ### Failed watchdogs (R70, R496) -/

theorem offRoad_wdEvidence (s : State) (ks : List Nat) : (s.wdEvidence ks).offRoad = s.offRoad := by
  have hchannels : (ks.foldl (fun (s : State) k => s.orF F.RST_CAUSE_WD_CH (1 <<< k)) (s.addF F.RST_COUNT_WD_RESETS 1)).offRoad = s.offRoad := by
    refine (offRoad_foldl ?_ ks _).trans (offRoad_addF ..)
    intro t k
    exact offRoad_orF ..
  unfold State.wdEvidence
  dsimp only
  split <;> split <;> simp -implicitDefEqProofs only [offRoad_set, hchannels]

theorem cycleCauses_of_offRoad {s t : State} (h : t.offRoad = s.offRoad) : t.cycleCauses = s.cycleCauses := by
  have : t.offRoad.cycleCauses = s.offRoad.cycleCauses := by rw [h]
  exact this

theorem get_wdEvidence_pc (s : State) (ks : List Nat) (h : ks.contains 0 = true) : (s.wdEvidence ks).get F.WD0_PC_PC = s.svcPc.toNat := by
  have hpc : s.svcPc.toNat % 2 ^ 32 = s.svcPc.toNat := Nat.mod_eq_of_lt s.svcPc.isLt
  unfold State.wdEvidence
  dsimp only
  rw [if_pos h]
  split
  · rw [State.get_set_other _ F.WD_SEQ_EVID_PC _ _ _ _ (by decide), State.get_set_other _ F.WD_SEQ_EVID_WD _ _ _ _ (by decide),
      State.get_set_other _ F.WD0_FAIL_HI_TIME _ _ _ _ (by decide), State.get_set_other _ F.WD0_FAIL_LO_TIME _ _ _ _ (by decide),
      State.get_set_other _ F.WD0_GOOD_HI_TIME _ _ _ _ (by decide), State.get_set_other _ F.WD0_GOOD_LO_TIME _ _ _ _ (by decide),
      State.get_set _ F.WD0_PC_PC _ _ (by decide)]
    exact hpc
  · rw [State.get_set_other _ F.WD0_FAIL_HI_TIME _ _ _ _ (by decide), State.get_set_other _ F.WD0_FAIL_LO_TIME _ _ _ _ (by decide),
      State.get_set_other _ F.WD0_GOOD_HI_TIME _ _ _ _ (by decide), State.get_set_other _ F.WD0_GOOD_LO_TIME _ _ _ _ (by decide),
      State.get_set _ F.WD0_PC_PC _ _ (by decide)]
    exact hpc

/-- A failure of WD_0, early or late, is a reset with its evidence. -/
theorem wdFail_zero (s : State) (early : Option Nat) (late : List Nat) (hcycle : s.cycleCauses = [])
    (h : (early.toList ++ late).contains 0 = true) :
    (s.wdFail early late).get F.RST_CAUSE_LAST = lastCause ((if late = [] then [] else [2]) ++ (if early.isSome then [3] else [])) ∧
      (s.wdFail early late).get F.WD0_PC_PC = s.svcPc.toNat ∧ (s.wdFail early late).trail.step = 0 ∧ (s.wdFail early late).host = {} ∧
      (s.wdFail early late).wds = [] := by
  unfold State.wdFail
  generalize hcauses : (if late = [] then [] else [2]) ++ (if early.isSome then [3] else []) = causes
  obtain ⟨hhost, hwds, htrail⟩ := resetNow_fresh (s.wdEvidence (early.toList ++ late)) causes false
  refine ⟨?_, ?_, by rw [htrail], hhost, hwds⟩
  · rw [get_resetNow_last, cycleCauses_of_offRoad (offRoad_wdEvidence ..), hcycle, List.append_nil]
  · rw [← get_wdEvidence_pc s _ h]
    refine congrArg (fun v : Word => bits v.toNat 0 32) ((reg_resetNow_evidence _ causes false (a := 0xC4) ⟨by decide, by decide⟩).trans ?_)
    exact reg_evidence _ _ (.inr (by decide))

theorem wd_setWd (s : State) (k : Nat) (w : Watchdog) : (s.setWd k w).wd k = w := (tget_tset ..).trans (if_pos rfl)

theorem wds_of_offRoad {s t : State} (h : t.offRoad = s.offRoad) : t.wds = s.wds := by
  have : t.offRoad.wds = s.offRoad.wds := by rw [h]
  exact this

theorem trail_of_offRoad {s t : State} (h : t.offRoad = s.offRoad) : t.trail = s.trail := by
  have : t.offRoad.trail = s.offRoad.trail := by rw [h]
  exact this

theorem host_of_offRoad {s t : State} (h : t.offRoad = s.offRoad) : t.host = s.host := by
  have : t.offRoad.host = s.offRoad.host := by rw [h]
  exact this

/-- A good service opens the next window. -/
theorem wdWindow_spec (s : State) (k : Nat) (first : Bool) :
    ((s.wdWindow k first).wd k).elapsed = 0 ∧ ((s.wdWindow k first).wd k).run = true ∧ ((s.wdWindow k first).wd k).first = first ∧
      (s.wdWindow k first).trail = s.trail ∧ (s.wdWindow k first).host = s.host := by
  unfold State.wdWindow
  dsimp only
  generalize hw : ({ s.wd k with run := true, elapsed := 0, first := first, warned := _, min := _, max := _, good := _ } : Watchdog) = w
  have hnext : ∀ t : State, t.offRoad = (s.setWd k w).offRoad → (t.wd k).elapsed = 0 ∧ (t.wd k).run = true ∧ (t.wd k).first = first ∧
      t.trail = s.trail ∧ t.host = s.host := by
    intro t ht
    have hwd : t.wd k = w := by
      unfold State.wd
      rw [wds_of_offRoad ht]
      exact wd_setWd s k w
    rw [hwd, trail_of_offRoad ht, host_of_offRoad ht, ← hw]
    exact ⟨rfl, rfl, rfl, rfl, rfl⟩
  split
  · exact hnext _ (offRoad_post ..)
  · exact hnext _ rfl

/-- Settles O25. -/
theorem watchdogWindow : Obligations.WatchdogWindow := by
  intro s e mn mx he hmn hmx
  subst he hmn hmx
  have hlate : (s.wd 0).run = true → s.wdEnabled 0 = true → s.wdIsLate 0 = decide (10 * (s.wd 0).max < (s.wd 0).elapsed) := by
    intro hrun hen
    simp [State.wdIsLate, hrun, hen]
  refine ⟨fun hoff => exec_of_row rfl (if_pos (by simpa using hoff)), fun hrun hen => ⟨fun hmax hmin => ?_, fun hcycle hmax hmin hfirst => ?_, fun hcycle hmax => ?_⟩⟩
  · have hrow : wd0Service s = s.wdWindow 0 false := by
      have hmin' : ¬ ((s.wd 0).first = false ∧ (s.wd 0).elapsed < 10 * (s.wd 0).min) := by
        rintro ⟨hf, hlt⟩
        rcases hmin with h | h
        · omega
        · simp [h] at hf
      simp [wd0Service, State.wdService, hrun, hen, hlate hrun hen, hmax, hmin']
    exact ⟨_, exec_of_row rfl hrow, wdWindow_spec s 0 false⟩
  · have hrow : wd0Service s = s.wdFail (some 0) s.lateWds := by
      simp [wd0Service, State.wdService, hrun, hen, hlate hrun hen, hmax, hfirst, hmin]
    obtain ⟨hlast, hrest⟩ := wdFail_zero s (some 0) s.lateWds hcycle (by simp)
    refine ⟨_, exec_of_row rfl hrow, hlast.trans ?_, hrest⟩
    by_cases hl : s.lateWds = []
    · rw [if_pos hl, if_pos hl]
      rfl
    · rw [if_neg hl, if_neg hl]
      rfl
  · have hrow : wd0Service s = s.wdFail none s.lateWds := by
      simp [wd0Service, State.wdService, hrun, hen, hlate hrun hen, hmax]
    have hmem : 0 ∈ s.lateWds := by
      simp [State.lateWds, hlate hrun hen, hmax]
    obtain ⟨hlast, hrest⟩ := wdFail_zero s none s.lateWds hcycle (by simpa using hmem)
    refine ⟨_, exec_of_row rfl hrow, hlast.trans ?_, hrest⟩
    rw [if_neg (List.ne_nil_of_mem hmem)]
    rfl

/-! ### The pin reset (R65) -/

/-- A merge with bytes that the row holds already changes no byte. -/
theorem tget_otpMerge_held (locks : Nat) (new : List (Nat × Byte)) : ∀ (old : List (Nat × Byte)) (a : Nat), (∀ p ∈ new, tget 0 old p.1 = p.2) →
    tget 0 (otpMerge locks old new) a = tget 0 old a := by
  induction new with
  | nil => exact fun _ _ _ => rfl
  | cons p l ih =>
    intro old a hheld
    have hp := hheld p List.mem_cons_self
    have hbyte : ∀ b : Nat, tget 0 (otpByte locks old p) b = tget 0 old b := by
      intro b
      unfold otpByte
      split
      · rfl
      · rw [tget_tset, hp, BitVec.or_self]
        split
        next hb => rw [← hb, hp]
        next => rfl
    have hrest := ih (otpByte locks old p) a (fun q hq => (hbyte q.1).trans (hheld q (List.mem_cons_of_mem _ hq)))
    exact hrest.trans (hbyte a)

theorem le_of_mem_twfFrom {d : Nat → Byte} {lo : Nat} {l : List (Nat × Byte)} (w : twfFrom d lo l = true) : ∀ p ∈ l, lo ≤ p.1 := by
  induction l generalizing lo with
  | nil => exact nofun
  | cons q l ih =>
    simp only [twfFrom, Bool.and_eq_true, Nat.ble_eq] at w
    obtain ⟨⟨hq, -⟩, hl⟩ := w
    intro p hp
    rcases List.mem_cons.mp hp with rfl | hp
    · exact hq
    · have := ih hl p hp
      omega

/-- In the canonical form every listed byte is the one that is read. -/
theorem tget_of_mem {d : Nat → Byte} {lo : Nat} {l : List (Nat × Byte)} (w : twfFrom d lo l = true) : ∀ p ∈ l, tget (d p.1) l p.1 = p.2 := by
  induction l generalizing lo with
  | nil => exact nofun
  | cons q l ih =>
    obtain ⟨k, v⟩ := q
    simp only [twfFrom, Bool.and_eq_true] at w
    obtain ⟨-, hl⟩ := w
    intro p hp
    rcases List.mem_cons.mp hp with rfl | hp
    · simp [tget]
    · have hne : k ≠ p.1 := by
        have := le_of_mem_twfFrom hl p hp
        omega
      rw [tget, if_neg hne]
      exact ih hl p hp

/-- A command that leaves the OTP row leaves it as it reads, and the locks. -/
theorem kept_otp_same {s u : State} (hw : otpCanonical s) (hotp : u.keep.otp = s.keep.otp) (b : Nat) :
    tget 0 (s.kept u).keep.otp b = tget 0 s.keep.otp b := by
  refine (congrArg (fun l => tget 0 (otpMerge s.keep.otpLocks s.keep.otp l) b) hotp).trans ?_
  exact tget_otpMerge_held _ _ _ _ (tget_of_mem hw)

theorem offRoad_setReg (s : State) (a : Nat) (v : Word) (w : Nat) : (s.setReg a v w).offRoad = s.offRoad := offRoad_regs ..

/-- The evidence changes registers and the causes of the AON cycle. -/
theorem offRoad_evidence (s : State) (causes : List Nat) : ∃ t : State, t.offRoad = s.offRoad ∧ s.evidence causes =
    { t with aon := { t.aon with causes := causes ++ s.cycleCauses, causesAt := some s.clock } } := by
  refine ⟨_, ?_, rfl⟩
  rw [offRoad_set, offRoad_set, offRoad_addF, offRoad_set]
  refine offRoad_foldl ?_ causes s
  intro t c
  exact offRoad_setReg ..

theorem aon_of_offRoad {s t : State} (h : t.offRoad = s.offRoad) : t.aon = s.aon := by
  have : t.offRoad.aon = s.offRoad.aon := by rw [h]
  exact this

theorem stores_evidence (s : State) (causes : List Nat) : (s.evidence causes).keep = s.keep ∧ (s.evidence causes).aon.straps = s.aon.straps := by
  obtain ⟨t, ht, heq⟩ := offRoad_evidence s causes
  have hkeep : t.keep = s.keep := keep_of_offRoad ht
  have hstraps : t.aon.straps = s.aon.straps := congrArg Aon.straps (aon_of_offRoad ht)
  rw [heq]
  exact ⟨hkeep, hstraps⟩

/-- A self-test that stops changes registers, events and the tests. -/
theorem stores_bistCut (s : State) : s.bistCut.keep = s.keep ∧ s.bistCut.aon = s.aon := by
  unfold State.bistCut
  split
  · dsimp only
    unfold State.bistReport
    dsimp only
    rw [keep_of_offRoad (offRoad_postBit ..), aon_of_offRoad (offRoad_postBit ..)]
    exact ⟨rfl, rfl⟩
  · exact ⟨rfl, rfl⟩

/-- A pin reset of a part whose keep die is valid. -/
theorem resetNLow_eq {s : State} (hkeep : s.keepValid = true) (hreset : s.aon.resetN = true) :
    resetNLow s = { s.resetNow [1] true with aon := { (s.resetNow [1] true).aon with resetN := false } } := by
  simp only [resetNLow, hkeep, hreset, Bool.and_self, if_true]

theorem norReset_of_idle {s : State} (h : s.keep.norOp = none) : s.norReset = s := by
  unfold State.norReset
  rw [h]

section
variable {s : State} (causes : List Nat)

/-- The state that a reset makes anew, when the array of the eNOR is idle. -/
theorem norReset_evidence (hnor : s.keep.norOp = none) : (s.evidence causes).bistCut.norReset = (s.evidence causes).bistCut := by
  refine norReset_of_idle ?_
  rw [(stores_bistCut _).1, (stores_evidence _ _).1, hnor]

theorem keep_resetNow (hnor : s.keep.norOp = none) (resample : Bool) : (s.resetNow causes resample).keep = s.keep.afterReset := by
  have hbase : (s.evidence causes).bistCut.norReset.keep = s.keep := by
    rw [norReset_evidence causes hnor, (stores_bistCut _).1, (stores_evidence _ _).1]
  cases resample <;> exact congrArg Keep.afterReset hbase

theorem straps_resetNow (hnor : s.keep.norOp = none) (resample : Bool) : (s.resetNow causes resample).aon.straps = s.aon.straps := by
  have hbase : (s.evidence causes).bistCut.norReset.aon.straps = s.aon.straps := by
    rw [norReset_evidence causes hnor, (stores_bistCut _).2, (stores_evidence _ _).2]
  cases resample <;> exact hbase

/-- A register that no reset keeps holds its reset value. -/
theorem reg_resetNow_reset (resample : Bool) {a x : Nat} (h : keptReg (regKey a x) = false) :
    (s.resetNow causes resample).reg a x = regReset (regKey a x) := by
  rw [reg_resetNow, reg_logicReset, if_neg (by simp [h])]

/-- What a reset keeps of page 0x03 beyond the evidence, and of KMEM. -/
theorem reg_resetNow_kept (hnor : s.keep.norOp = none) (resample : Bool) {a : Nat}
    (h : (0xC4 ≤ a ∧ a < 0x100) ∨ (0x2D00 ≤ a ∧ a < 0x2E40 ∧ a ≠ 0x2D06)) : (s.resetNow causes resample).reg a = s.reg a := by
  have hkey : ∀ b : Nat, regKey b 0 = b := fun b => by simp [regKey]
  have hkept : keptReg (regKey a 0) = true := by
    rw [hkey]
    rw [keptReg_iff]
    omega
  rw [reg_resetNow, reg_logicReset, if_pos hkept, reg_norSession _ (by rw [hkey, hkey]; omega), norReset_evidence causes hnor,
    reg_bistCut _ (by omega), reg_evidence _ _ (by rw [hkey]; omega)]

end

/-- A register outside page 0x03, BIST_STAT and KMEM is one that a reset does not keep. -/
theorem keptReg_eq_false {a x : Nat} (ha : a < 0x4000) (h3 : a / 64 ≠ 3) (hbist : a ≠ 0x3343) (hkmem : ¬ (0x2D00 ≤ a ∧ a < 0x2E40)) :
    keptReg (regKey a x) = false := by
  rw [Bool.eq_false_iff, ne_eq, keptReg_iff, regKey]
  omega

/-- Settles O20. -/
theorem pinResetKeepsTheStores : Obligations.PinResetKeepsTheStores := by
  intro s hvalid hreset hnor hcycle hotp
  refine ⟨_, exec_of_row rfl (resetNLow_eq hvalid hreset), ?_⟩
  have hkeep := keep_resetNow [1] hnor true
  have hlocks : s.keep.otpLocks ||| (s.resetNow [1] true).keep.otpLocks = s.keep.otpLocks := by
    rw [hkeep]
    exact Nat.or_self _
  have hnorByte : ∀ b : Nat, (s.resetNow [1] true).norByte b = s.norByte b := by
    intro b
    unfold State.norByte
    rw [hkeep]
    rfl
  have hlast : (s.resetNow [1] true).get F.RST_CAUSE_LAST = 1 := by
    rw [get_resetNow_last, hcycle]
    rfl
  have hps : (s.resetNow [1] true).keep.ps = s.keep.ps := by
    rw [hkeep]
    rfl
  have hrow : (s.resetNow [1] true).keep.otp = s.keep.otp := by
    rw [hkeep]
    rfl
  refine ⟨hps, hnorByte, fun b => kept_otp_same hotp hrow b, hlocks, rfl, rfl, rfl, rfl, rfl, rfl,
    fun a w ha h3 hbist hkmem => reg_resetNow_reset [1] true (keptReg_eq_false ha h3 hbist hkmem),
    fun a ha => reg_resetNow_kept [1] hnor true ha, straps_resetNow [1] hnor true, hlast, rfl⟩

end Sys2Proof.Machine
end

section
/-!
PROOFS. What the entries of the internal queues are after a consumer read (R227, R236).
-/

namespace Sys2Proof.Machine

/-! ### Operations that leave the internal queues -/

section
variable (s : State)

theorem fqs_foldl {α : Type} {f : State → α → State} (h : ∀ s a, (f s a).fqs = s.fqs) (l : List α) (s : State) : (l.foldl f s).fqs = s.fqs := by
  induction l generalizing s with
  | nil => rfl
  | cons a l ih => rw [List.foldl_cons, ih, h]

@[simp] theorem fqs_addF (f : Fld) (v w : Nat) : (s.addF f v w).fqs = s.fqs := rfl
@[simp] theorem fqs_orF (f : Fld) (v w : Nat) : (s.orF f v w).fqs = s.fqs := rfl
@[simp] theorem fqs_setHbuf (b : Nat) (v : HBuf) : (s.setHbuf b v).fqs = s.fqs := rfl

@[simp] theorem fqs_post (k d : Nat) : (s.post k d).fqs = s.fqs := by
  unfold State.post
  dsimp only
  split
  · rw [fqs_addF, State.setEv_fqs]
  · rw [State.setEv_fqs]

@[simp] theorem fqs_postBit (f : Fld) (base k d : Nat) : (s.postBit f base k d).fqs = s.fqs := by
  unfold State.postBit
  rw [fqs_post, fqs_orF]

@[simp] theorem fqs_hmpEvent (k d : Nat) : (s.hmpEvent k d).fqs = s.fqs := by
  unfold State.hmpEvent
  rw [fqs_postBit]

@[simp] theorem fqs_fabEvent (f : Fld) (k d : Nat) : (s.fabEvent f k d).fqs = s.fqs := by
  unfold State.fabEvent
  rw [fqs_post, State.set_fqs]

@[simp] theorem fqs_hmpEval : s.hmpEval.fqs = s.fqs := by
  unfold State.hmpEval
  dsimp only
  split_ifs <;> simp

@[simp] theorem fqs_staleRef (r who : Nat) : (s.staleRef r who).fqs = s.fqs := by
  unfold State.staleRef
  rw [fqs_hmpEvent, fqs_addF]

@[simp] theorem fqs_hmpDrop (b : Nat) : (s.hmpDrop b).fqs = s.fqs := by
  unfold State.hmpDrop
  dsimp only
  split
  · unfold State.hmpRetire
    rw [fqs_hmpEvent, fqs_setHbuf]
  · rfl

@[simp] theorem fqs_hmpTakeN (o n : Nat) : (s.hmpTakeN o n).2.fqs = s.fqs := by
  induction n generalizing s with
  | zero => rfl
  | succ n ih => exact (ih _).trans rfl

@[simp] theorem fqs_hmpChain (l : List Nat) : (s.hmpChain l).fqs = s.fqs := by
  fun_induction State.hmpChain s l with
  | case1 s r r' l ih => exact ih.trans (fqs_setHbuf ..)
  | case2 s l => rfl

@[simp] theorem fqs_hmpGrant (o n : Nat) (chain : Bool) : (s.hmpGrant o n chain).2.fqs = s.fqs := by
  unfold State.hmpGrant
  cases chain <;> simp

@[simp] theorem fqs_hmpExamineFrom (blocked : List Nat) (l : List HWait) : (s.hmpExamineFrom blocked l).2.fqs = s.fqs := by
  induction l generalizing s blocked with
  | nil => rfl
  | cons w l ih =>
    unfold State.hmpExamineFrom
    split_ifs <;> simp [ih]

theorem fqs_hmpExamine : s.hmpExamine.fqs = s.fqs := fqs_hmpExamineFrom ..

theorem fqs_hmpFreeAll (l : List Nat) : (s.hmpFreeAll l).fqs = s.fqs := by
  unfold State.hmpFreeAll
  refine (fqs_hmpExamine _).trans ((fqs_hmpEval _).trans ((fqs_foldl fqs_hmpDrop _ _).trans ?_))
  refine fqs_foldl ?_ _ _
  intro t b
  exact fqs_staleRef ..

@[simp] theorem fqs_hmpNamed (b o : Nat) : (s.hmpNamed b o).fqs = s.fqs := by
  unfold State.hmpNamed
  dsimp only
  split
  · exact fqs_hmpFreeAll ..
  · rw [fqs_hmpEvent, fqs_addF]

@[simp] theorem fqs_fcEval : s.fcEval.fqs = s.fqs := by
  unfold State.fcEval
  split
  · rfl
  · unfold State.fcSet
    split
    · rfl
    · rw [fqs_fabEvent]

end

/-! ### The entries of a queue -/

/-- What a consumer and the producers see of a queue: its entries, the ready ones, its read pointer, partial entries and what waits. -/
def Fq.queued (v : Fq) : List FqEntry × Nat × Nat × List FqEntry × List FqEntry := (v.entries, v.vis, v.rd, v.parts, v.held)

/-- `t` differs from `s` in queue `q` alone, where it has `v` queued. -/
structure State.Queues (s : State) (q : Nat) (v : Fq) (t : State) : Prop where
  queued : (t.fq q).queued = v.queued
  others : ∀ m : Nat, m ≠ q → t.fq m = s.fq m

section
variable {s t u : State} {q : Nat} {v w : Fq}

theorem State.Queues.of_fqs (h : s.Queues q v t) (hu : u.fqs = t.fqs) : s.Queues q v u := by
  have hfq : ∀ m : Nat, u.fq m = t.fq m := fun m => congrArg (fun l : List (Nat × Fq) => tget ({} : Fq) l m) hu
  exact ⟨(congrArg Fq.queued (hfq q)).trans h.queued, fun m hm => (hfq m).trans (h.others m hm)⟩

/-- Setting a queue changes that queue alone. -/
theorem State.Queues.setFq (h : s.Queues q v t) (hw : w.queued = v.queued) : s.Queues q v (t.setFq q w) := by
  refine ⟨?_, fun m hm => ?_⟩
  · have hq : (t.setFq q w).fq q = { w with inv := (w.ptrs q).inverted } := (tget_tset ..).trans (if_pos rfl)
    rw [hq, ← hw]
    rfl
  · exact (tget_tset_other _ _ _ _ (Ne.symm hm)).trans (h.others m hm)

theorem queues_setFq (s : State) (q : Nat) (v : Fq) : s.Queues q v (s.setFq q v) := by
  refine ⟨?_, fun m hm => tget_tset_other _ _ _ _ (Ne.symm hm)⟩
  have hq : (s.setFq q v).fq q = { v with inv := (v.ptrs q).inverted } := (tget_tset ..).trans (if_pos rfl)
  rw [hq]
  rfl

theorem State.Queues.wmEval (h : s.Queues q v t) : s.Queues q v (t.wmEval q) := by
  have hq := h.queued
  unfold State.wmEval
  dsimp only
  split_ifs
  · exact (h.setFq (w := { t.fq q with wm := true }) hq).of_fqs ((fqs_fcEval _).trans (fqs_fabEvent ..))
  · exact h.setFq (w := { t.fq q with wm := false }) hq
  · exact h

theorem queues_fqPut (s : State) (q : Nat) (v : Fq) : s.Queues q v (s.fqPut q v) := by
  unfold State.fqPut
  split
  · exact queues_setFq s q v
  · exact (queues_setFq s q v).wmEval

theorem State.Queues.spillTidy (h : s.Queues q v t) : s.Queues q v (t.spillTidy q) := by
  have hq := h.queued
  unfold State.spillTidy
  dsimp only
  split
  · exact h
  · split
    next r l _ => exact (h.setFq (w := { t.fq q with bufs := l, spillOff := 0 }) hq).of_fqs (fqs_hmpNamed ..)
    next => exact h.setFq (w := { t.fq q with spillOff := 0 }) hq

/-- An entry that moves from the spill chain on chip keeps its place. -/
theorem State.Queues.spillMove (h : s.Queues q v t) : s.Queues q v (t.spillMove q) := by
  have hq := h.queued
  unfold State.spillMove
  dsimp only
  split
  next e rest hspill =>
    split
    · refine (h.setFq (w := { t.fq q with ring := (t.fq q).ring ++ [e], spill := rest, spillOff := (t.fq q).spillOff + 1 }) ?_).spillTidy
      rw [← hq]
      simp [Fq.queued, Fq.entries, hspill]
    · exact h
  next => exact h.spillTidy

theorem State.Queues.fqResume (h : s.Queues q v t) (hheld : v.held = []) : s.Queues q v (t.fqResume q) := by
  have hnone : (t.fq q).held = [] := by
    have := congrArg (fun p : List FqEntry × Nat × Nat × List FqEntry × List FqEntry => p.2.2.2.2) h.queued
    exact this.trans hheld
  unfold State.fqResume
  dsimp only
  rw [if_pos hnone]
  exact h

end

/-- A consumer read of a queue without stalled producers takes the oldest entry. -/
theorem queues_qTake {s : State} {q : Nat} {e : FqEntry} {l : List FqEntry} (hring : (s.fq q).ring = e :: l) (hvis : 1 ≤ (s.fq q).vis)
    (hheld : (s.fq q).held = []) :
    s.Queues q { s.fq q with ring := l, vis := (s.fq q).vis - 1, rd := ((s.fq q).rd + 1) % (2 * fqDepth q) } (s.qTake q) := by
  unfold State.qTake
  dsimp only
  rw [hring]
  dsimp only
  rw [if_neg (by omega)]
  exact ((queues_fqPut s q _).spillMove).fqResume hheld

/-- The queues on which no engine of the model works: nothing follows a return of their credit. -/
theorem queuePump_qFreed_of_plain (s : State) {q : Nat} (h : ¬ (q ≤ 9 ∨ q = 18 ∨ (26 ≤ q ∧ q ≤ 33) ∨ q = 35 ∨ q = 44)) :
    (s.qFreed q).queuePump q = s := by
  unfold State.qFreed State.queuePump
  rw [if_neg (by omega), if_neg (by omega), if_neg (by omega), if_neg (by omega), if_neg (by omega), if_neg (by omega)]

theorem consumerRead_of_plain {s : State} {q : Nat} {e : FqEntry} {l : List FqEntry} (hq : q < 48) (hsound : s.qSound q = true)
    (hring : (s.fq q).ring = e :: l) (hvis : 1 ≤ (s.fq q).vis) (hwork : e.work = .none) :
    consumerRead q false s = (s.qTake q).qFreed q := by
  have hfront : s.qWork q = .none := by
    simp [State.qWork, State.qFront, hring, hwork, show (s.fq q).vis ≠ 0 by omega]
  unfold consumerRead
  rw [State.fqAccess_of_sound _ hq hsound, if_pos hfront]

/-- Settles O23. -/
theorem consumerReadIsFirstInFirstOut : Obligations.ConsumerReadIsFirstInFirstOut := by
  intro q e l s hq hsound hring hvis hwork hheld
  obtain ⟨hqueued, hother⟩ := queues_qTake hring hvis hheld
  simp only [Fq.queued, Fq.entries, Prod.mk.injEq] at hqueued
  obtain ⟨hentries, hv, hrd, hparts, -⟩ := hqueued
  refine ⟨s.qTake q, exec_of_row rfl ?_, hentries.trans ?_, hv, hrd, hparts, hother, queuePump_qFreed_of_plain _⟩
  · rw [consumerRead_of_plain hq hsound hring hvis hwork]
  · rw [Fq.entries, hring]
    rfl

end Sys2Proof.Machine
end

section
/-!
PROOFS. Rows of the supplies, the pins, the removal and the resets take their effect.
-/

namespace Sys2Proof.Machine

variable {s : State}

/-! ### Supplies -/

theorem supplyRailValid_of_new {r : Nat} (hr : r < 4) (h : s.aon.rails.contains r = false) :
    supplyRailValid (.rail r) s = { s with aon := { s.aon with rails := r :: s.aon.rails, validFrom := s.clock } } := by
  have h5 : ¬ 5 ≤ r := by omega
  have h4 : r ≠ 4 := by omega
  simp only [supplyRailValid, if_neg h5, h, Bool.false_eq_true, if_false, if_neg h4]

theorem supplyRailValid_keep (h : s.aon.rails.contains 4 = false) : supplyRailValid (.rail 4) s =
    { s.aonReset with aon := { s.aonReset.aon with rails := 4 :: s.aonReset.aon.rails, validFrom := s.aonReset.clock } } := by
  simp only [supplyRailValid, h, Bool.false_eq_true, if_false, if_true, show ¬ 5 ≤ 4 by omega]

theorem porRelease_of_valid (hpor : s.aon.por = false) (hrails : ∀ r < 5, s.aon.rails.contains r = true) (hxtal : s.aon.xtal = true)
    (hfrom : s.aon.validFrom + 1000 ≤ s.clock) : porRelease s = { s with aon := { s.aon with por := true } } := by
  have hall : (List.range 5).all (fun r => s.aon.rails.contains r) = true :=
    List.all_eq_true.mpr (fun r hr => hrails r (List.mem_range.mp hr))
  exact if_pos ⟨hpor, hall, hxtal, hfrom⟩

theorem brownout_of_rail {r : Nat} (hr : r < 4) (hkeep : s.keepValid = true) (hrail : s.aon.rails.contains r = true) :
    brownout r s = { s.resetNow [8] true with
      aon := { (s.resetNow [8] true).aon with por := false, rails := (s.resetNow [8] true).aon.rails.filter (· != r) } } := by
  have h4 : r ≠ 4 := by omega
  have h5 : ¬ 5 ≤ r := by omega
  simp only [brownout, if_neg h4, if_neg h5, if_pos hrail, if_pos hkeep]

theorem brownout_of_flash {g : Nat} : brownout (g + 5) s = { s with balls := { s.balls with vccqLow := g :: s.balls.vccqLow.filter (· != g) } } := by
  have h4 : g + 5 ≠ 4 := by omega
  simp only [brownout, if_neg h4, if_pos (Nat.le_add_left 5 g), Nat.add_sub_cancel]

/-! ### Removal, presence and resets -/

theorem vddKeepLoss_of_valid (h : s.keepValid = true) : ∃ u : State, vddKeepLoss s =
    { u.aonReset with regs := [], aon := { u.aonReset.aon with rails := s.aon.rails.filter (· != 4) } } :=
  ⟨_, if_pos h⟩

theorem presenceArmed_of_stable (hkeep : s.keepValid = true) (hpres : s.present = true) (harm : s.get F.RMV_STAT_ARMED = 0)
    (hfrom : s.aon.presFrom + 1000 ≤ s.clock) : presenceArmed s =
      if (s.live && !s.balls.clocksGated) = true then (s.set F.RMV_STAT_ARMED 1).post 6 1 else s.set F.RMV_STAT_ARMED 1 := by
  simp only [presenceArmed, hkeep, hpres, harm, hfrom, BEq.rfl, decide_true, Bool.and_self, if_true]

theorem removal_of_armed {prsnt pwrFail : Bool} (hlive : s.live = true) (harm : s.get F.RMV_STAT_ARMED = 1) (hst : s.st ≠ stRemoving)
    (h : (prsnt || pwrFail) = true) : removal prsnt pwrFail s =
      let s1 := { s with aon := { s.aon with prsntN := s.aon.prsntN || prsnt, pwrFailN := s.aon.pwrFailN && !pwrFail, presFrom := s.clock } }
      if prsnt then s1.removalStart 1 8 else s1.removalStart 2 9 := by
  refine if_pos ?_
  simp [hlive, harm, hst, h]

theorem park_of_logged (hst : s.st = stRemoving) (hphase : s.get F.RMV_STAT_PHASE = 3) : ∃ u : State, park s =
    { u.lanesOff with
      rmv := { u.lanesOff.rmv with parked := true, parkedFrom := u.lanesOff.clock }
      balls := { u.lanesOff.balls with ceHigh := true, wpLow := true, clocksGated := true, alert := u.lanesOff.get F.RMV_CFG_PARK_ALERT == 1 }
      wds := u.lanesOff.wds.map (fun (p : Nat × Watchdog) => (p.1, { p.2 with run := false })) } :=
  ⟨_, if_pos ⟨hst, hphase⟩⟩

theorem orderlyReset_of_cause {c : Cause} (hthermal : c ≠ .thermal) (hcasc : c = .cascade → s.cascRole = 2) (hnone : s.rmv.orderly = none) :
    orderlyReset c s = s.orderlyStart c := by
  have hno : ¬ s.rmv.orderly.isSome = true := by simp [hnone]
  unfold orderlyReset
  rw [if_neg hno]
  cases c with
  | thermal => exact absurd rfl hthermal
  | cascade => exact if_pos (hcasc rfl)
  | soft => rfl
  | host => rfl

/-- Settles O28. -/
theorem powerPinAndResetRowsTakeEffect : Obligations.PowerPinAndResetRowsTakeEffect := by
  refine ⟨fun r s hr h => exec_of_row rfl (supplyRailValid_of_new hr h),
    fun s h => ⟨_, exec_of_row rfl (supplyRailValid_keep h), rfl, rfl, rfl, rfl⟩, ?xtal,
    fun s hpor hrails hxtal hfrom => exec_of_row rfl (porRelease_of_valid hpor hrails hxtal hfrom),
    fun r s hr hkeep hrail => ⟨_, exec_of_row rfl (brownout_of_rail hr hkeep hrail), rfl, rfl, rfl⟩,
    fun g s _ => exec_of_row rfl brownout_of_flash, ?loss,
    fun s hkeep hreset => ⟨_, exec_of_row rfl (resetNLow_eq hkeep hreset), rfl, rfl, rfl, rfl⟩,
    fun s => rfl, fun p w s h => exec_of_row rfl (if_neg h), ?armedDark, ?armed, fun s => rfl, fun s => ⟨_, rfl, rfl, rfl⟩, ?rejoin, ?park, ?logging,
    ?removalP, ?removalW, ?pll, fun c s ht hc ho => exec_of_row rfl (orderlyReset_of_cause ht hc ho), ?limit⟩
  case xtal =>
    intro s hx h4
    exact exec_of_row rfl (if_neg (by rw [hx, h4]; decide))
  case loss =>
    intro s hkeep
    obtain ⟨u, hu⟩ := vddKeepLoss_of_valid hkeep
    exact ⟨_, exec_of_row rfl hu, rfl, rfl, rfl, rfl, rfl⟩
  case armedDark =>
    intro s hkeep hpres harm hfrom hlive
    exact exec_of_row rfl ((presenceArmed_of_stable hkeep hpres harm hfrom).trans (if_neg (by simp [hlive])))
  case armed =>
    intro s hkeep hpres harm hfrom hlive hclocks
    exact exec_of_row rfl ((presenceArmed_of_stable hkeep hpres harm hfrom).trans (if_pos (by simp [hlive, hclocks])))
  case rejoin =>
    intro s hparked hpres hfrom
    exact exec_of_row rfl (if_pos (by simp [hparked, hpres, hfrom]))
  case park =>
    intro s hst hphase
    obtain ⟨u, hu⟩ := park_of_logged hst hphase
    exact ⟨_, exec_of_row rfl hu, rfl, rfl, rfl, rfl, rfl, rfl, rfl⟩
  case logging =>
    intro s hst hphase hsettled
    exact exec_of_row rfl (if_pos ⟨hst, hphase, hsettled⟩)
  case removalP =>
    intro w s hlive harm hst
    refine exec_of_row rfl ((removal_of_armed hlive harm hst rfl).trans ?_)
    simp only [Bool.or_true, if_true]
  case removalW =>
    intro s hlive harm hst
    refine exec_of_row rfl ((removal_of_armed hlive harm hst rfl).trans ?_)
    simp only [Bool.or_false, Bool.not_true, Bool.and_false, Bool.false_eq_true, if_false]
  case pll =>
    intro s hlive hpcie hstrap
    exact exec_of_row rfl (if_pos (by simp [hlive, hpcie, hstrap]))
  case limit =>
    intro c s ho hfrom
    exact exec_of_row rfl (if_pos ⟨by simp [ho], hfrom⟩)

end Sys2Proof.Machine
end

section
/-!
PROOFS. The steps of the Trailhead take their effect.
-/

namespace Sys2Proof.Machine

variable {s : State}

/-! ### The start, the keep die and calibration -/

theorem trailheadStart_of_reset {straps : Nat} {vccq : List Nat} {start : StartIn} (hpor : s.aon.por = true) (hreset : s.aon.resetN = true)
    (hlive : s.live = false) : ∃ (u : State) (d : Nat), trailheadStart straps vccq start s = ((u.setStep 1).setState stTrailhead 0).post 361 d :=
  ⟨_, _, if_neg (by simp [hpor, hreset, hlive])⟩

theorem keepBusUp_of_first {o : List PsOutcome} (hon : s.trailOn = true) (hpend : s.norPend = 0xFF) (hdid : s.did 2 = false) :
    ∃ u : State, keepBusUp o s = (u.didStep 2).setStep 2 := by
  have hgo : ¬ (s.trailOn = false ∨ (s.norPend ≠ 0xFF ∧ s.therm.stop = true)) := by simp [hon, hpend]
  exact ⟨_, (if_neg hgo).trans (if_pos hdid)⟩

theorem keepBusUp_of_pending {o : List PsOutcome} (hon : s.trailOn = true) (hdid : s.did 2 = true) (hstop : s.therm.stop = false)
    (hidle : s.keep.norOp = none) : keepBusUp o s = ((s.withPs o).freshErase).endPs := by
  have hgo : ¬ (s.trailOn = false ∨ (s.norPend ≠ 0xFF ∧ s.therm.stop = true)) := by simp [hon, hstop]
  exact (if_neg hgo).trans ((if_neg (by simp [hdid])).trans (if_pos (by simp [hidle])))

theorem calRestoreOrTrain_of_none {verify : Nat} (hon : s.trailOn = true) (h4 : s.did 4 = true) (hclass : s.trail.classified = true)
    (h7 : s.did 7 = false) (hstop : s.therm.stop = false) (hxch : s.seqs.any (fun p => p.2.xch.isSome) = false) (hsnap : s.restorable = none) :
    ∃ u : State, calRestoreOrTrain verify s = u.set F.BOOT_RES_CAL_PATH (if s.baseline then 3 else 2) := by
  have hgo : ¬ (s.trailOn = false ∨ s.did 4 = false ∨ s.trail.classified = false ∨ s.did 7 = true ∨ s.therm.stop = true ∨
      s.seqs.any (fun p => p.2.xch.isSome) = true) := by simp [hon, h4, hclass, h7, hstop, hxch]
  unfold calRestoreOrTrain
  rw [if_neg hgo]
  dsimp only
  rw [hsnap]
  exact ⟨_, rfl⟩

/-! ### The selection of the images -/

section
variable {bad : List Nat} {o : List PsOutcome} (hon : s.trailOn = true) (hfound : s.trail.found = true) (h4 : s.did 4 = false)
include hon hfound h4

theorem spbSelection_of_none {s1 : State} (hbest : s.bestSpb (s.get F.FW_SVI_SLOT) [s.spbCode 0 bad, s.spbCode 1 bad] = none)
    (hs1 : s1 = (List.range 2).foldl (fun (u : State) i => u.setSlotStat (2 + i) (u.spbVer i (listGet 0 [s.spbCode 0 bad, s.spbCode 1 bad] i))
      (spbShown (listGet 0 [s.spbCode 0 bad, s.spbCode 1 bad] i) (u.spbClass (s.get F.FW_SVI_SLOT) i) false false)) s) :
    spbSelection bad o s = (((((s1.withPs o).bootWrite s1.bootRec.1
        (if s.get F.FW_SVI_SLOT = 0 then min 3 (s1.bootRec.2.1 + 1) else s1.bootRec.2.1)
        (if s.get F.FW_SVI_SLOT = 1 then min 3 (s1.bootRec.2.2 + 1) else s1.bootRec.2.2)).2.setStep 4).didStep 4).wdRestart 0).classify := by
  have hgo : ¬ (s.trailOn = false ∨ s.trail.found = false ∨ s.did 4 = true) := by simp [hon, hfound, h4]
  subst hs1
  unfold spbSelection
  rw [if_neg hgo]
  simp only [hbest, Option.none_beq_some]

/-- A pair of the images that is not of the class "with a warning" is taken, or none is. -/
theorem spbSelection_of_best {u : Option Nat}
    (hall : (s.bestSpb (s.get F.FW_SVI_SLOT) [s.spbCode 0 bad, s.spbCode 1 bad]).all (fun b => b.2 != 1) = true)
    (hu : u = ((s.bestSpb (s.get F.FW_SVI_SLOT) [s.spbCode 0 bad, s.spbCode 1 bad]).filter (fun b => b.2 == 0)).map (fun b => b.1)) :
    spbSelection bad o s =
      (let s1 := (List.range 2).foldl (fun (w : State) j => w.setSlotStat (2 + j) (w.spbVer j (listGet 0 [s.spbCode 0 bad, s.spbCode 1 bad] j))
        (spbShown (listGet 0 [s.spbCode 0 bad, s.spbCode 1 bad] j) (w.spbClass (s.get F.FW_SVI_SLOT) j) (u == some j) false)) s
      let s2 := u.elim s1 (fun i => (((s1.set F.FW_SPB_LOADED 1).set F.FW_SPB_SPB_LEVEL (s1.norLE (spbBase i + 5) 1)).set F.FW_SPB_SPB_VER
          (s1.norLE (spbBase i + 6) 2)).set F.BOOT_RES_SPB_SLOT i)
      ((((((s2.withPs o).bootWrite s2.bootRec.1
        (if s.get F.FW_SVI_SLOT = 0 then min 3 (s2.bootRec.2.1 + 1) else s2.bootRec.2.1)
        (if s.get F.FW_SVI_SLOT = 1 then min 3 (s2.bootRec.2.2 + 1) else s2.bootRec.2.2)).2.setStep 4).didStep 4).wdRestart 0).classify)) := by
  have hgo : ¬ (s.trailOn = false ∨ s.trail.found = false ∨ s.did 4 = true) := by simp [hon, hfound, h4]
  subst hu
  unfold spbSelection
  rw [if_neg hgo]
  generalize hbest : s.bestSpb (s.get F.FW_SVI_SLOT) [s.spbCode 0 bad, s.spbCode 1 bad] = best at hall
  match best, hall with
  | none, _ =>
    simp only [hbest, Option.none_beq_some, Option.filter_none, Option.map_none, Option.elim_none]
  | some (i, 0), _ =>
    simp only [hbest, Option.filter_some, beq_self_eq_true, if_true, Option.map_some, Option.elim_some]
  | some (i, n + 2), _ =>
    have hne : (n + 2 == 0) = false := rfl
    simp only [hbest, Option.filter_some, hne, Bool.false_eq_true, if_false, Option.map_none, Option.elim_none, Option.none_beq_some]

end

/-! ### The end -/

theorem trailheadFinish_of_ready {rng : Bool} {o : List PsOutcome} (hon : s.trailOn = true) (h7 : s.did 7 = true) (h5 : s.did 5 = true)
    (hstrap : bit s.aon.straps 7 = false) (hstop : s.therm.stop = false) (htrain : s.chans.any (fun p => p.2.training) = false) :
    trailheadFinish rng o s =
      (let u := (s.trailLast rng o).trailEnd
      if u.st = stReady ∧ u.get F.BOOT_RES_CAL_PATH = 2 then { u with cal := { u.cal with autoFrom := some u.clock } } else u) := by
  have hgo : ¬ (s.trailOn = false ∨ s.did 7 = false ∨ s.did 5 = false ∨ bit s.aon.straps 7 = true ∨ s.therm.stop = true ∨
      s.chans.any (fun p => p.2.training) = true) := by simp [hon, h7, h5, hstrap, hstop, htrain]
  exact if_neg hgo

theorem laneTrainingStart_of_armed (hlive : s.live = true) (harm : s.get F.RMV_STAT_ARMED ≠ 0) (hlanes : s.rmv.lanesStarted = false)
    (hst : s.st ≠ stRemoving) (hstrap : bit s.aon.straps 7 = false) :
    (laneTrainingStart s).rmv.lanesStarted = true ∧
      (laneTrainingStart s).balls.lanesIdle = (State.setLanes { s with rmv := { s.rmv with lanesStarted := true } }).balls.lanesIdle ∧
      (laneTrainingStart s).agl.state = (if !s.pcieMode && s.cascRole != 2 then 1 else s.agl.state) := by
  have hgo : ¬ (s.live = false ∨ s.get F.RMV_STAT_ARMED = 0 ∨ s.rmv.lanesStarted = true ∨ s.st = stRemoving ∨ bit s.aon.straps 7 = true) := by
    simp [hlive, harm, hlanes, hst, hstrap]
  unfold laneTrainingStart
  rw [if_neg hgo]
  refine ⟨rfl, rfl, ?_⟩
  exact apply_ite Link.state _ _ _

/-- Settles O29. -/
theorem trailheadStepsTakeEffect : Obligations.TrailheadStepsTakeEffect := by
  refine ⟨?start, ?keepBus, fun o s hon hdid _ hstop hidle => exec_of_row rfl (keepBusUp_of_pending hon hdid hstop hidle), ?svi,
    fun bad o s s1 hon hfound h4 hbest hs1 => exec_of_row rfl (spbSelection_of_none hon hfound h4 hbest hs1),
    fun bad o u s hon hfound h4 hall hu => exec_of_row rfl (spbSelection_of_best hon hfound h4 hall hu), ?logbook,
    fun s hon hwait => exec_of_row rfl (if_neg (by simp [hon, hwait])), fun found s hon hwait => exec_of_row rfl (if_neg (by simp [hon, hwait])),
    ?cal, fun rng o s hon h7 h5 hstrap hstop htrain => exec_of_row rfl (trailheadFinish_of_ready hon h7 h5 hstrap hstop htrain),
    fun s hlive harm hlanes hst hstrap => ⟨_, rfl, laneTrainingStart_of_armed hlive harm hlanes hst hstrap⟩⟩
  case start =>
    intro straps vccq start s hpor hreset hlive
    obtain ⟨u, d, hu⟩ := trailheadStart_of_reset (straps := straps) (vccq := vccq) (start := start) hpor hreset hlive
    refine ⟨_, exec_of_row rfl hu, ?_, ?_, ?_⟩
    · exact (congrArg Trail.step ((State.trail_post ..).trans (State.trail_setState ..))).trans rfl
    · exact (State.get_post _ _ _ _ _ (by decide)).trans (State.st_setState _ _ _ (by decide))
    · exact (congrArg Balls.wpLow ((State.balls_post ..).trans (State.balls_setState ..))).trans rfl
  case keepBus =>
    intro o s hon hpend hdid
    obtain ⟨u, hu⟩ := keepBusUp_of_first (o := o) hon hpend hdid
    refine ⟨_, exec_of_row rfl hu, ?_, State.get_set _ _ _ _ (by decide)⟩
    exact List.contains_iff_mem.mpr List.mem_cons_self
  case svi =>
    intro bad s hon h2 h3 hidle hpend
    exact exec_of_row rfl (if_neg (by simp [hon, h2, h3, hidle, hpend]))
  case logbook =>
    intro o s hon h2 h5
    exact exec_of_row rfl (if_neg (by simp [hon, h2, h5]))
  case cal =>
    intro verify s hon h4 hclass h7 hstop hxch hsnap
    obtain ⟨u, hu⟩ := calRestoreOrTrain_of_none (verify := verify) hon h4 hclass h7 hstop hxch hsnap
    refine ⟨_, exec_of_row rfl hu, (State.get_set _ _ _ _ (by decide)).trans ?_⟩
    split <;> rfl

end Sys2Proof.Machine
end

section
/-!
PROOFS. Rows of the eNOR, the journal, PS and the keep bus take their effect.
-/

namespace Sys2Proof.Machine

/-- Settles O30. -/
theorem keepDieStoreRowsTakeEffect : Obligations.KeepDieStoreRowsTakeEffect := by
  refine ⟨?wordEnd, ?eraseEnd, ?suspended, ?resume, ?read, ?program, ?erase, ?journal, fun u data o s => rfl, ?few, ?many⟩
  case wordEnd =>
    intro s op a d hop herase hwords
    refine exec_of_row rfl ?_
    simp only [enorWordProgramEnd, hop, herase, hwords, if_true, State.norSkip]
  case eraseEnd =>
    intro s op hop herase hsusp hstop s1 u hs1 hwrote
    refine exec_of_row rfl ?_
    unfold enorEraseEnd
    rw [hop]
    refine (if_pos ⟨herase, hsusp, hstop⟩).trans ?_
    extract_lets c n s2 src kept s3
    have hcase : s3 = s1 := by
      rw [hs1]
      by_cases h7 : op.sector = 7
      · exact (if_pos ⟨h7, rfl⟩).trans (if_pos h7).symm
      · exact (if_neg (fun h => h7 h.1)).trans (if_neg h7).symm
    clear_value s3
    subst hcase
    simp only [hwrote, if_true, Bool.not_true, Bool.false_eq_true, if_false]
    rfl
  case suspended =>
    intro s op hop herase hsusp hstop hrun
    refine exec_of_row rfl ?_
    simp only [eraseSuspended, hop]
    exact if_pos ⟨herase, hsusp, hstop, hrun⟩
  case resume =>
    intro s op hop herase hsusp hstop hfree
    refine exec_of_row rfl ?_
    simp only [eraseResume, hop]
    exact if_pos ⟨herase, hsusp, hstop, hfree⟩
  case read =>
    intro k f s s0 hstart hopen hbufs hin
    refine exec_of_row rfl ?_
    simp only [norRead, hstart, hopen, hbufs, Bool.true_eq_false, if_false, if_neg (Nat.not_lt.mpr hin)]
  case program =>
    intro k f s hstart hopen hgot hin
    refine exec_of_row rfl ?_
    have hgo : ¬ (f.got ≠ leAt f.bytes 24 4 ∨ s.kmemOpen = false) := by simp [hgot, hopen]
    simp only [norProgram, hstart, if_neg hgo, if_neg (Nat.not_lt.mpr hin)]
  case erase =>
    intro k f s hstart hopen
    refine exec_of_row rfl ?_
    simp only [norErase, hstart, hopen, Bool.true_eq_false, if_false]
  case journal =>
    intro s r rest hheld hidle hstop hnext
    refine exec_of_row rfl ?_
    simp only [journalAppend, hheld, hidle, hstop, Bool.false_eq_true, if_false, if_neg (Nat.not_le.mpr hnext), if_true]
  case few =>
    intro target addr n s hn
    exact exec_of_row rfl (if_pos hn)
  case many =>
    intro addr n s hn
    have hmany : ¬ n ≤ 3 := Nat.not_le.mpr hn
    exact ⟨exec_of_row rfl (if_neg hmany), exec_of_row rfl (if_neg hmany), exec_of_row rfl (if_neg hmany)⟩

end Sys2Proof.Machine
end

section
/-!
PROOFS. Rows of the Logbook, the images, the sequence exchange and the Ration ledger take their effect.
-/

namespace Sys2Proof.Machine

theorem quietPoint_of_due {s : State} {n : Nat} {x : Xch} (hx : (s.sq n).xch = some x) (hdue : s.quietDue n = true) :
    ∃ u : State, quietPoint n s = u.setSq n { u.sq n with
      xch := some { x with
        entry := true, age := 0, cancelled := ((s.xchUse (s.program n) x.prog).loadProg n x.prog x.bundle 1).1.1
        carried := ((s.xchUse (s.program n) x.prog).loadProg n x.prog x.bundle 1).1.2, back := (s.chan n).bundle, backProg := s.program n } } := by
  refine ⟨((s.xchUse (s.program n) x.prog).loadProg n x.prog x.bundle 1).2, ?_⟩
  simp only [quietPoint, hx, hdue, Bool.true_eq_false, if_false]

/-- Settles O31. -/
theorem logbookImageAndExchangeRowsTakeEffect : Obligations.LogbookImageAndExchangeRowsTakeEffect := by
  refine ⟨?read, ?mark, ?write, ?activate, ?exchange, ?quiet, ?timeout, ?entry⟩
  case read =>
    intro k f s s0 hstart hbufs hin
    have hfit : ¬ (s.log.degraded = true ∧ 0x3FF < leAt f.bytes 20 2) := fun ⟨hd, hlt⟩ => absurd (hin hd) (Nat.not_le.mpr hlt)
    refine exec_of_row rfl ?_
    simp only [logbookRead, hstart, hbufs, if_neg hfit]
  case mark =>
    intro k f s hstart
    refine exec_of_row rfl ?_
    simp only [logbookMark, hstart]
  case write =>
    intro k o f s hf hjournal hopen
    refine exec_of_row rfl ?_
    simp only [logbookWrite, hf]
    exact if_pos ⟨hjournal, hopen⟩
  case activate =>
    intro k bad o f s hstart
    refine exec_of_row rfl ?_
    simp only [imageActivate, hstart]
  case exchange =>
    intro k f s hstart hnone
    refine exec_of_row rfl ?_
    simp only [seqExchange, hstart, hnone, Bool.false_eq_true, if_false]
    cases s.xchCheck (leAt f.bytes 16 1) (leAt f.bytes 17 1 % 16) (leAt f.bytes 18 1 % 2) with
    | some r => rfl
    | none =>
      cases s.readProg (leAt f.bytes 18 1 % 2) (leAt f.bytes 17 1 % 16) with
      | none => rfl
      | some p => rfl
  case quiet =>
    intro n x s hx hdue
    obtain ⟨u, hu⟩ := quietPoint_of_due hx hdue
    exact ⟨_, exec_of_row rfl hu, congrArg Seq.xch ((State.sq_setSq ..).trans (if_pos rfl))⟩
  case timeout =>
    intro n x s hx hwaits hage
    refine exec_of_row rfl ?_
    simp only [quietTimeout, hx]
    exact if_pos ⟨hwaits, hage⟩
  case entry =>
    intro n x s hx hage hentry
    refine exec_of_row rfl ?_
    simp only [entryTimeout, hx, if_neg (Nat.not_lt.mpr hage), hentry, if_true]

/-- Settles O32. -/
theorem rationLedgerRowsTakeEffect : Obligations.RationLedgerRowsTakeEffect := by
  refine ⟨?decision, ?removing, ?starve, ?holdUp⟩
  case decision =>
    intro s hst hon hworks hstop
    have hgo : ¬ (s.works = false ∨ s.therm.stop = true) := by simp [hworks, hstop]
    refine exec_of_row rfl ?_
    simp only [admissionDecision, if_neg hst, hon, Bool.true_eq_false, if_false, if_neg hgo]
    generalize (s.presented.map (·.1)).foldl State.examineOp s = s0
    cases s0.firstReq with
    | some r => rfl
    | none =>
      cases s0.presented.find? (fun p => s0.admits p.1 p.2) with
      | some p => rfl
      | none => rfl
  case removing =>
    intro r l s hst hreqs
    refine exec_of_row rfl ?_
    simp only [admissionDecision, if_pos hst, hreqs]
  case starve =>
    intro i t o s ho hfrom hgranted hblocking hlimit hdue hcover
    refine exec_of_row rfl ?_
    simp only [starve, ho, hfrom]
    exact if_pos ⟨hgranted, hblocking, hlimit, hdue, hcover⟩
  case holdUp =>
    intro i t o s ho hfrom hgranted hlow hlimit hdue
    refine exec_of_row rfl ?_
    simp only [huWaitTimeout, ho, hfrom]
    exact if_pos ⟨hgranted, hlow, hlimit, hdue⟩

end Sys2Proof.Machine
end

section
/-!
PROOFS. Rows of the host queues and of the queue fabric take their effect.
-/

namespace Sys2Proof.Machine

/-! ### Host queues -/

/-- A command that the round takes. -/
theorem commandTake_of_winner {s : State} {mm : Bool} {q k : Nat} (hnone : s.rmv.orderly = none) (hheld : s.intakeHeld = false)
    (hwin : s.roundWinner = some q) (hfree : s.freeFlight = some k) : commandTake mm s =
      if mm then s.qpMismatch q
      else if opAssisted (leAt (s.headCmd q) 0 1) ∧ s.qCan 37 1 0 = false then s
      else
        let s1 := s.setQp q { s.qp q with head := ((s.qp q).head + 1) % (s.qp q).sqDepth, slots := tdel (s.qp q).slots (s.qp q).head, ageFrom := s.clock }
        ({ s1 with host := { s1.host with last := q, takes := s.host.takes + 1 } } : State).examine q k (s.headCmd q) := by
  have hgo : ¬ (s.rmv.orderly.isSome = true ∨ s.intakeHeld = true) := by simp [hnone, hheld]
  simp only [commandTake, if_neg hgo, hwin, hfree]

/-- Settles O33. -/
theorem hostQueueRowsTakeEffect : Obligations.HostQueueRowsTakeEffect := by
  refine ⟨?post, ?mismatch, ?take, ?nop, ?mailbox, ?port, ?portError, ?doorbell, ?doorbellError, ?head⟩
  case post =>
    intro q c l s hready hpresent hbound hroom hopen hsend hsound
    refine exec_of_row rfl ((State.viaQ_one _ hsound).trans ?_)
    have hgo : ¬ ((s.qp q).st = .absent ∨ (s.qp q).bound = false ∨ ((s.qp q).cqTail + 1) % (s.qp q).cqDepth = (s.qp q).cqHead ∨
        s.qOpen 21 1 0 = false) := by simp [hpresent, hbound, hroom, hopen]
    simp only [completionPost, Bool.false_eq_true, false_and, if_false, hready, if_neg hgo, hsend, Bool.true_eq_false]
    split
    next f hf => simp only [hf, Option.elim_some]
    next hf => simp only [hf, Option.elim_none]
  case mismatch =>
    intro q k s hnone hheld hwin hfree h22 h37
    exact exec_of_row rfl ((State.viaQ_two _ h22 h37).trans (commandTake_of_winner hnone hheld hwin hfree))
  case take =>
    intro q k s hnone hheld hwin hfree h22 h37 hcan
    have hroom : ¬ (opAssisted (leAt (s.headCmd q) 0 1) = true ∧ s.qCan 37 1 0 = false) := by
      rintro ⟨hop, hfull⟩
      rw [hcan hop] at hfull
      exact Bool.noConfusion hfull
    refine exec_of_row rfl ((State.viaQ_two _ h22 h37).trans ((commandTake_of_winner hnone hheld hwin hfree).trans ?_))
    exact (if_neg Bool.false_ne_true).trans (if_neg hroom)
  case nop =>
    intro k f s hstart
    refine exec_of_row rfl ?_
    simp only [cmdNop, hstart]
  case mailbox =>
    intro k f s hf hmail hdue
    refine exec_of_row rfl ?_
    simp only [mailboxTimeout, hf]
    exact if_pos ⟨hmail, hdue⟩
  case port =>
    intro q data s hpresent hlive hlen hroom
    have hok : ¬ (0 ≠ 0 ∨ data.length ≠ 64 ∨ ((s.qp q).fill + 1) % (s.qp q).sqDepth = (s.qp q).head) := by simp [hlen, hroom]
    exact exec_of_row rfl ((if_neg hpresent).trans ((if_neg Bool.false_ne_true).trans ((if_neg hok).trans (if_neg hlive))))
  case portError =>
    intro q off data s hpresent _ hbad
    exact exec_of_row rfl ((if_neg hpresent).trans ((if_neg Bool.false_ne_true).trans (if_pos hbad)))
  case doorbell =>
    intro q w s hpresent _ hmoved hin hring
    exact exec_of_row rfl ((if_neg hpresent).trans ((if_neg Bool.false_ne_true).trans ((if_neg hmoved).trans (if_pos ⟨hin, hring⟩))))
  case doorbellError =>
    intro q w s hpresent _ hmoved hbad
    exact exec_of_row rfl ((if_neg hpresent).trans ((if_neg Bool.false_ne_true).trans ((if_neg hmoved).trans (if_neg hbad))))
  case head =>
    intro q w s hpresent hin hring
    exact exec_of_row rfl ((if_neg hpresent).trans ((if_neg Bool.false_ne_true).trans (if_pos ⟨hin, hring⟩)))

/-! ### The queue fabric -/

theorem qTake_of_ready {s : State} {q : Nat} {e : FqEntry} {l : List FqEntry} (hring : (s.fq q).ring = e :: l) (hvis : (s.fq q).vis ≠ 0) :
    s.qTake q = ((s.fqPut q { s.fq q with ring := l, vis := (s.fq q).vis - 1, rd := ((s.fq q).rd + 1) % (2 * fqDepth q) }).spillMove q).fqResume q := by
  simp only [State.qTake, hring, if_neg hvis]

theorem fqCloseAny_of_nil {s : State} {q : Nat} (h : (s.fq q).parts = []) : s.fqCloseAny q = s := by
  simp only [State.fqCloseAny, h]

/-- Settles O34. -/
theorem queueFabricRowsTakeEffect : Obligations.QueueFabricRowsTakeEffect := by
  refine ⟨fun k s hst => exec_of_row rfl (if_neg hst), ?write, fun q prod s hq => exec_of_row rfl (if_neg (Nat.not_le.mpr hq)), ?pack, ?read, ?work,
    ?commit, ?rewind, ?openNew, ?openTwice, ?close, ?spill⟩
  case write =>
    intro q prod data user fl bufs s hq hsound hpos hlen hheld
    refine exec_of_row rfl ((State.fqAccess_of_sound _ hq hsound).trans (if_neg ?_))
    rintro (h | h | h)
    · omega
    · omega
    · rw [hheld] at h
      exact Bool.noConfusion h
  case pack =>
    intro q prod s hq htime
    exact exec_of_row rfl (if_neg (not_or.mpr ⟨Nat.not_le.mpr hq, htime⟩))
  case read =>
    intro q e l s hq hsound hring hvis hwork
    refine exec_of_row rfl ?_
    rw [consumerRead_of_plain hq hsound hring (Nat.one_le_iff_ne_zero.mpr hvis) hwork, qTake_of_ready hring hvis]
  case work =>
    intro q s hq hsound hwork
    refine exec_of_row rfl (congrArg (fun t : State => t.queuePump q) ?_)
    exact (State.fqAccess_of_sound _ hq hsound).trans (if_neg hwork)
  case commit =>
    intro q s hq hsound hmode hparts
    refine exec_of_row rfl ((if_neg (not_not.mpr hmode)).trans ((State.fqAccess_of_sound _ hq hsound).trans ?_))
    rw [fqCloseAny_of_nil hparts]
  case rewind =>
    intro q s hq hsound hmode
    exact exec_of_row rfl ((if_neg (not_not.mpr hmode)).trans (State.fqAccess_of_sound _ hq hsound))
  case openNew =>
    intro q s hq hsound hmode hshut hcredit
    refine exec_of_row rfl ((if_neg (not_not.mpr hmode)).trans ((State.fqAccess_of_sound _ hq hsound).trans ?_))
    simp only [hshut, Bool.false_eq_true, if_false, if_neg hcredit]
  case openTwice =>
    intro q s hq hsound hmode hopen
    exact exec_of_row rfl ((if_neg (not_not.mpr hmode)).trans ((State.fqAccess_of_sound _ hq hsound).trans (if_pos hopen)))
  case close =>
    intro q len s hq hsound hmode hopen hparts
    refine exec_of_row rfl ((if_neg (not_not.mpr hmode)).trans ((State.fqAccess_of_sound _ hq hsound).trans ?_))
    have hgo : ¬ (s.fq q).slotOpen = false := by simp [hopen]
    refine (if_neg hgo).trans ?_
    rw [fqCloseAny_of_nil hparts]
    exact if_neg hgo
  case spill =>
    intro q l s s1 hspill hfew hlimit hnone hgrant
    refine exec_of_row rfl ((if_pos ⟨hspill, hfew, hlimit, hnone⟩).trans ?_)
    rw [hgrant]

end Sys2Proof.Machine
end

section
/-!
PROOFS. Rows of the Hamper and of the flash operations take their effect.
-/

namespace Sys2Proof.Machine

/-! ### The Hamper -/

/-- Settles O35. -/
theorem hamperRowsTakeEffect : Obligations.HamperRowsTakeEffect := by
  refine ⟨?alloc, fun id s => rfl, fun r who ecc s h => exec_of_row rfl (if_pos h), ?release, fun r who s => rfl, fun owner b k s => rfl,
    fun owner k s => rfl, fun r frm dst s => rfl, fun corr s h => exec_of_row rfl (if_neg h)⟩
  case alloc =>
    intro owner n chain wait s s1 g howner hlo hhi hchain hgrant
    have hok : ¬ (0x0D < owner ∨ n < 1 ∨ 16 < n ∨ (chain = true ∧ n < 2)) := by
      rintro (h | h | h | ⟨hc, h⟩)
      · omega
      · omega
      · omega
      · have := hchain hc
        omega
    refine exec_of_row rfl ((if_neg hok).trans ?_)
    rw [hgrant]
  case release =>
    intro r who ecc s h
    exact exec_of_row rfl (if_neg (by simp [h]))

/-! ### Flash operations -/

theorem dieOpEnd_of_write {s : State} {n x : Nat} {passed : Bool} {data : List (List Byte)} {v : OutSlot} {o : DieOp}
    (hslot : s.slot? n x = some v) (hop : s.dop? v.op = some o) (hstart : v.started.isSome = true) (hopen : s.qOpen 34 1 n = true)
    (hwrite : o.reads = false) : dieOpEnd n x passed data s =
      (((s.setSq n { s.sq n with slots := tdel (s.sq n).slots x }).dieAlive n v.die).opEnd v.op (if passed then 0 else 1)) := by
  have hgo : ¬ (v.started.isNone = true ∨ s.qOpen 34 1 n = false) := by
    rw [Option.isNone_iff_eq_none, hopen]
    rintro (h | h)
    · rw [h] at hstart
      exact Bool.noConfusion hstart
    · exact Bool.noConfusion h
  simp only [dieOpEnd, hslot, hop, if_neg hgo, hwrite, Bool.false_eq_true, if_false, State.slotEnd, Option.getD_some]

/-- A read that runs is neither suspended nor resumed. -/
theorem no_suspension_of_read {s : State} {r : DieOp} (hread : r.reads = true) (hrun : r.suspended = false) :
    s.shouldSuspend r = false ∧ s.shouldResume r = false := by
  have hwrites : r.writes = false := by
    simp only [DieOp.reads, Bool.or_eq_true, beq_iff_eq] at hread
    simp only [DieOp.writes, Bool.or_eq_false_iff, beq_eq_false_iff_ne]
    omega
  constructor
  · simp only [State.shouldSuspend, hwrites, Bool.and_false, Bool.false_and]
  · simp only [State.shouldResume, hrun, Bool.false_and]

/-- Settles O36. -/
theorem flashOperationRowsTakeEffect : Obligations.FlashOperationRowsTakeEffect := by
  refine ⟨?program, ?erase, ?readPage, ?readUnits, ?opEnd, ?schedule, ?suspend, ?resume, ?timeout⟩
  case program =>
    intro k f s hstart hcheck hguard hgot hopen
    have hallowed : ¬ (bit (leAt f.bytes 18 1) 0 = false ∧ s.guardAllows (rawAddr f.bytes).1 (rawAddr f.bytes).2.1
        ((rawAddr f.bytes).2.2 - (rawAddr f.bytes).2.2 % (s.die (rawAddr f.bytes).1 (rawAddr f.bytes).2.1).pages)
        ((rawAddr f.bytes).2.2 % (s.die (rawAddr f.bytes).1 (rawAddr f.bytes).2.1).pages) = false) := by
      rintro ⟨hforce, hrefused⟩
      rw [hforce, hrefused] at hguard
      simp at hguard
    have hdata : ¬ (f.got ≠ leAt f.bytes 19 1 * s.rawPage f ∨ s.qOpen 1 1 0 = false) := by simp [hgot, hopen]
    refine exec_of_row rfl ?_
    simp only [programRaw, hstart, hcheck, if_neg hallowed, if_neg hdata]
  case erase =>
    intro k f s hstart hcheck hfirst hopen
    refine exec_of_row rfl ?_
    simp only [eraseRaw, hstart, hcheck, hfirst, ne_eq, not_true_eq_false, if_false, hopen, Bool.true_eq_false]
  case readPage =>
    intro k f s s0 hstart hstate hrow hmode hlen hregion hopen hbufs
    have hok : ¬ ((s.die (rawAddr f.bytes).1 (rawAddr f.bytes).2.1).state ≠ 1 ∨
        (s.die (rawAddr f.bytes).1 (rawAddr f.bytes).2.1).rowOk (rawAddr f.bytes).2.2 = false ∨
        (s.die (rawAddr f.bytes).1 (rawAddr f.bytes).2.1).pageBytes < leAt f.bytes 24 4 + leAt f.bytes 28 4 ∨
        (leAt f.bytes 18 1 % 4 = 0 ∧ s.layoutOk (s.die (rawAddr f.bytes).1 (rawAddr f.bytes).2.1).cls = false)) := by
      simp [hstate, hrow, hmode, hlen]
    refine exec_of_row rfl ?_
    simp only [readRaw, hstart, if_neg hmode, if_neg hok, hregion, hopen, Bool.true_eq_false, if_false, hbufs]
  case readUnits =>
    intro k f s s0 hstart hstate hrow hmode hlen hlayout hregion hopen hbufs
    have hok : ¬ ((s.die (rawAddr f.bytes).1 (rawAddr f.bytes).2.1).state ≠ 1 ∨
        (s.die (rawAddr f.bytes).1 (rawAddr f.bytes).2.1).rowOk (rawAddr f.bytes).2.2 = false ∨
        4096 * (s.layout (s.die (rawAddr f.bytes).1 (rawAddr f.bytes).2.1).cls).2 < leAt f.bytes 24 4 + leAt f.bytes 28 4 ∨
        (leAt f.bytes 18 1 % 4 = 0 ∧ s.layoutOk (s.die (rawAddr f.bytes).1 (rawAddr f.bytes).2.1).cls = false)) := by
      simp [hstate, hrow, hlayout, hlen]
    refine exec_of_row rfl ?_
    simp only [readRaw, hstart, if_pos hmode, if_neg hok, hregion, hopen, Bool.true_eq_false, if_false, hbufs]
  case opEnd =>
    intro n x passed data v o s hsound hslot hop hstart hopen hwrite
    refine exec_of_row rfl ((congrArg (dieOpEnd n x passed data) (State.viaQ_one id hsound)).trans ?_)
    exact dieOpEnd_of_write hslot hop hstart hopen hwrite
  case schedule =>
    intro n s hn hworks hstop hhold htrain htp
    exact exec_of_row rfl (if_neg (by simp [hworks, hstop, hhold, htrain, htp, hn]))
  case suspend =>
    intro n i j o r s hops hsuspend hread hrun
    obtain ⟨hs, hr⟩ := no_suspension_of_read (s := s.suspAsk o true) hread hrun
    refine exec_of_row rfl ?_
    simp only [suspendDecision, hops, List.foldl_cons, List.foldl_nil, hsuspend, if_true, hs, hr, Bool.false_eq_true, if_false]
  case resume =>
    intro n i o s hops hsuspend hresume
    refine exec_of_row rfl ?_
    simp only [suspendDecision, hops, List.foldl_cons, List.foldl_nil, hsuspend, Bool.false_eq_true, if_false, hresume, if_true]
  case timeout =>
    intro i t o s hop hstart hrun hlate hreset
    have hdue : ¬ s.clock - t < 2 * s.opMax o + (o.susTime + 0) := by omega
    refine exec_of_row rfl ?_
    simp only [dieTimeout, hop, hstart, hrun, Bool.false_eq_true, if_false, if_neg hdue, hreset, if_true, List.foldl_cons, List.foldl_nil]
    cases (s.dieReset o.ch o.die).dop? i with
    | some a => rfl
    | none => rfl

end Sys2Proof.Machine
end

section
/-!
PROOFS. Rows of the codec take their effect.
-/

namespace Sys2Proof.Machine

/-- A landed codeword that a hard engine takes: erased, or the engine asks to decode it. -/
theorem codewordTake_of_landed {s : State} {n c e : Nat} {w : Cw} (hn : n < 8) (htakes : s.codecTakes = true) (hturn : s.codecTurnOk n = true)
    (hwork : s.qWork (10 + n) = .cw c) (hcw : s.cw? c = some w) (hengine : s.hardEngine = some e) (hphase : w.phase = .landed) (hpass : w.pass = 0)
    (hhold : s.codecHold = false) (hretry : s.retryChainOk = true) (hstale : s.chainStale w.buf 2 = none) (hsoft : w.soft = 0) :
    codewordTake n s =
      let u := ({ s.qTake (10 + n) with codecTurn := (n + 1) % 8 } : State)
      if w.step = 0 ∧ zeroBits (u.cwRaw w w.buf) ≤ s.get F.CODEC_CFG_ERASED_ZEROS then u.cwDone c w 3 w.buf else u.askDecode c e w := by
  have hgo : ¬ (8 ≤ n ∨ s.codecTakes = false ∨ s.codecTurnOk n = false) := by simp [hn, htakes, hturn]
  have hready : ¬ ((s.codecHold = true ∧ w.step = 0 ∧ w.soft = 0) ∨ s.retryChainOk = false) := by simp [hhold, hretry]
  have hfresh : ¬ (s.chainStale w.buf 2).isSome = true := by simp [hstale]
  unfold codewordTake
  rw [if_neg hgo, hwork]
  dsimp only
  rw [hcw, hengine]
  dsimp only
  rw [if_neg (not_not.mpr hphase), if_neg (not_not.mpr hpass), if_neg hready, if_neg hfresh, if_neg (not_not.mpr hsoft)]

/-- Settles O37. -/
theorem codecRowsTakeEffect : Obligations.CodecRowsTakeEffect := by
  refine ⟨?retry, ?first, ?failed, ?ended, ?encode⟩
  case retry =>
    intro n c e w s hn hsound htakes hturn hwork hcw hengine hphase hpass hhold hretry hstale hsoft hstep
    refine exec_of_row rfl ((State.viaQ_one _ hsound).trans
      ((codewordTake_of_landed hn htakes hturn hwork hcw hengine hphase hpass hhold hretry hstale hsoft).trans ?_))
    exact if_neg (fun h => hstep h.1)
  case first =>
    intro n c e w s hn hsound htakes hturn hwork hcw hengine hphase hpass hhold hretry hstale hsoft hstep
    refine exec_of_row rfl ((State.viaQ_one _ hsound).trans
      ((codewordTake_of_landed hn htakes hturn hwork hcw hengine hphase hpass hhold hretry hstale hsoft).trans ?_))
    simp only [hstep, true_and]
  case failed =>
    intro e iter unsat c w s h18 h35 hfind hhard
    refine exec_of_row rfl ((State.viaQ_two _ h18 h35).trans ?_)
    simp only [decodeEnd, hfind, hhard, List.isEmpty_nil, Bool.not_true, Bool.false_eq_true, if_false]
  case ended =>
    intro e iter unsat c x w s h18 h35 hfind hhard
    refine exec_of_row rfl ((State.viaQ_two _ h18 h35).trans ?_)
    simp only [decodeEnd, hfind, hhard, List.isEmpty_nil, Bool.not_true, Bool.false_eq_true, if_false]
  case encode =>
    intro k i f g s s1 hf hop hrun hfails hphase hlt hsent hopen hstall hgrant
    have hgo : ¬ (leAt f.bytes 0 1 ≠ 0x10 ∨ f.run = false ∨ f.phase = .ready ∨ leAt f.bytes 19 1 ≤ i ∨ f.sent ≠ i ∨ s.qOpen 25 1 0 = false ∨
        s.opStall true = true) := by simp [hop, hrun, hphase, hlt, hsent, hopen, hstall]
    refine exec_of_row rfl ?_
    simp only [codecEncode, hf, if_neg hgo, if_neg (not_not.mpr hfails), hgrant]

end Sys2Proof.Machine
end

section
/-!
PROOFS. Rows of the asset map, the reads and the streams take their effect.
-/

namespace Sys2Proof.Machine

/-! ### The asset map and reads -/

/-- Settles O38. -/
theorem assetMapRowsTakeEffect : Obligations.AssetMapRowsTakeEffect := by
  refine ⟨?translate, ?faultDone, ?write, ?flushAll, ?flushOne, ?read, ?decrypt, ?badFrame, ?frame⟩
  case translate =>
    intro k i f s s1 hsound hf hop hwork hrun hphase hlt hunits hstall hfull hlookup
    have hgo : ¬ (leAt f.bytes 0 1 ≠ 0x01 ∨ s.qWork 1 ≠ .alb k ∨ f.run = false ∨ f.phase = .ready ∨ leAt f.bytes 24 2 ≤ i
        ∨ (List.range (i + 1)).map (fun j => f.units.any (fun u => u.1 == j)) ≠ List.replicate i true ++ [false] ∨ s.opStall false = true
        ∨ s.faultFull (.host k i) = true) := by
      rw [hunits]
      simp [hop, hwork, hrun, hphase, hlt, hstall, hfull]
    refine exec_of_row rfl ((State.viaQ_one _ hsound).trans ?_)
    simp only [mapTranslate, hf, if_neg hgo, hlookup]
  case faultDone =>
    intro c w s hsound hwork hstall hcan hcw
    have hgo : ¬ (s.opStall false = true ∨ s.qCan 36 (((s.map.faults.find? (fun f => f.cw == c)).map MapFault.streamWaits).getD 0) 0 = false) := by
      rw [hstall, hcan]
      simp
    refine exec_of_row rfl ((State.viaQ_one _ hsound).trans ?_)
    simp only [mapFaultDone, hwork, if_neg hgo, hcw]
    cases s.map.faults.find? (fun f => f.cw == c) with
    | none => rfl
    | some f => rfl
  case write =>
    intro k f s hstart hgot hopen hcheck
    have hgo : ¬ (f.got ≠ 8 * leAt f.bytes 24 2 ∨ s.qOpen 1 1 0 = false) := by simp [hgot, hopen]
    refine exec_of_row rfl ?_
    simp only [mapWrite, hstart, if_neg hgo, hcheck]
  case flushAll =>
    intro k f s hstart hopen hall
    refine exec_of_row rfl ?_
    simp only [mapFlush, hstart, hopen, Bool.true_eq_false, if_false, hall, if_true]
  case flushOne =>
    intro k f s hstart hopen hone hcontent
    refine exec_of_row rfl ?_
    simp only [mapFlush, hstart, hopen, Bool.true_eq_false, if_false, hone, Bool.false_eq_true, hcontent]
  case read =>
    intro k f s s0 hstart hcontent hlen hlocal hkey hcan hopen hbufs
    have hrange : ¬ (s.isContent (leAt f.bytes 16 1 % 16) = false ∨
        s.globalLen (leAt f.bytes 16 1 % 16) < leAt f.bytes 20 4 + leAt f.bytes 24 2) := by simp [hcontent, hlen]
    refine exec_of_row rfl ?_
    simp only [readAlb, hstart, hlocal, if_neg hrange, hkey, hcan, hopen, hbufs, Bool.not_true, Bool.false_eq_true, Bool.true_eq_false, and_false,
      or_self, if_false, List.map_nil, List.dedup_nil, List.any_nil]
  case decrypt =>
    intro c w s hsound hwork hcw hcan
    refine exec_of_row rfl ((State.viaQ_one _ hsound).trans ?_)
    simp only [xtsDecrypt, hwork, hcw, hcan, if_true]
  case badFrame =>
    intro j v b s hfind hready hcontext hcan hawait hbad
    have hgo : ¬ (v.ready = false ∨ s.contexts.contains j = false ∨ s.frameCan v = false ∨ s.frameAwaits v = true) := by
      rw [hready, hcontext, hcan, hawait]
      simp
    refine exec_of_row rfl ?_
    simp only [frameDecompress, hfind, if_neg hgo, hbad]
  case frame =>
    intro j v s hfind hready hcontext hcan hawait hgood
    have hgo : ¬ (v.ready = false ∨ s.contexts.contains j = false ∨ s.frameCan v = false ∨ s.frameAwaits v = true) := by
      rw [hready, hcontext, hcan, hawait]
      simp
    refine exec_of_row rfl ?_
    simp only [frameDecompress, hfind, if_neg hgo, hgood]

/-! ### Streams -/

/-- A stream that prefetches: nothing holds the next ALB of its window. -/
theorem prefetches {s : State} {t : Nat} (hstate : (s.stream t).state = 1) (hclosing : (s.stream t).closing = none)
    (hwindow : (s.stream t).next < min ((s.stream t).w + (s.stream t).depth) (s.stream t).stop) (hworks : s.works = true)
    (hstop : s.therm.stop = false) (hhold : s.streamsHold = false) :
    ¬ ((s.stream t).state ≠ 1 ∨ (s.stream t).closing.isSome = true ∨
      min ((s.stream t).w + (s.stream t).depth) (s.stream t).stop ≤ (s.stream t).next ∨ s.works = false ∨ s.therm.stop = true ∨
      s.streamsHold = true) := by
  rw [hstate, hclosing, hworks, hstop, hhold]
  simpa using hwindow

/-- A push of a resident buffer: asked of the ledger first, then sent once the frames can leave. -/
theorem streamPush_of_resident {s : State} {t a : Nat} {data : List Byte}
    (hfind : (s.stream t).resident.find? (fun x => x.1 == (s.stream t).w) = some (a, data)) (hstate : (s.stream t).state = 1)
    (hcredit : (s.stream t).credit ≠ 0) (hclosing : (s.stream t).closing = none) (hworks : s.works = true) (hhold : s.streamsHold = false)
    (hbuf : ((s.stream t).bufOf (s.stream t).w).any s.refOk = true) : streamPush t s =
      if (s.stream t).xadm = false then s.askPush t
      else if s.qOpen 23 1 0 = false then s
      else if (s.pushItems t (s.stream t) data).head?.all (fun i => !s.hostCanSend i) then s.hostWake
      else
        let s1 := (s.pushItems t (s.stream t) data).foldl State.hostSend
          ((s.qPass 23 { orig := .stream, bufs := ((s.stream t).bufOf (s.stream t).w).toList }).chargeEnd (.push t))
        let s2 := s1.setStream t { s.stream t with credit := (s.stream t).credit - 1, pushed := (s.stream t).pushed + 1, xadm := false }
        (s2.sendProgress t).streamAdvance t ((s.stream t).w + 1) := by
  have hgo : ¬ ((s.stream t).state = 0 ∨ (s.stream t).state = 2 ∨ (s.stream t).credit = 0 ∨ (s.stream t).closing.isSome = true ∨ s.works = false ∨
      s.streamsHold = true) := by
    rw [hstate, hclosing, hworks, hhold]
    simpa using hcredit
  simp only [streamPush, hfind, if_neg hgo, hbuf, Bool.not_true, Bool.false_eq_true, if_false]

/-- Settles O39. -/
theorem streamRowsTakeEffect : Obligations.StreamRowsTakeEffect := by
  refine ⟨?openRow, ?credit, ?close, ?flying, ?issue, ?resident, ?push, ?ask⟩
  case openRow =>
    intro k t f s hstart hcontent hkey hend hbegin hbounded hfree
    have hrange : ¬ (s.isContent (leAt f.bytes 16 1 % 16) = false ∨ s.globalLen (leAt f.bytes 16 1 % 16) ≤ leAt f.bytes 20 4 ∨
        (leAt f.bytes 24 4 ≠ 0xFFFFFFFF ∧ s.globalLen (leAt f.bytes 16 1 % 16) < leAt f.bytes 20 4 + leAt f.bytes 24 4)) := by
      rw [hcontent]
      simp only [Bool.true_eq_false, false_or]
      omega
    refine exec_of_row rfl ?_
    simp only [streamOpen, hstart, if_neg hrange, hkey, Bool.false_eq_true, false_and, if_false, hfree, if_neg hbounded]
  case credit =>
    intro k f s hstart hopen
    refine exec_of_row rfl ?_
    simp only [streamCredit, hstart, if_neg hopen]
  case close =>
    intro k f s hstart hopen hclosing
    have hgo : ¬ ((s.stream (leAt f.bytes 16 1 % 32)).state = 0 ∨ (s.stream (leAt f.bytes 16 1 % 32)).closing.isSome = true) := by
      simp [hopen, hclosing]
    refine exec_of_row rfl ?_
    simp only [streamClose, hstart, if_neg hgo]
  case flying =>
    intro t s hstate hclosing hwindow hworks hstop hhold hflying
    have hgo := prefetches hstate hclosing hwindow hworks hstop hhold
    refine exec_of_row rfl ((if_neg hgo).trans ?_)
    exact if_pos (.inr hflying)
  case issue =>
    intro t r s s1 s3 hstate hclosing hwindow hworks hstop hhold hflying hresident hmax hstall hcan hbuf hgrant hsend
    have hgo := prefetches hstate hclosing hwindow hworks hstop hhold
    have hnew : ¬ ((s.stream t).resident.any (fun x => x.1 == (s.stream t).next) = true ∨ (s.stream t).flying.contains (s.stream t).next = true) := by
      rw [hresident, hflying]
      simp
    have hroom : ¬ (s.get F.STR_CFG_PF_MAX ≤ (s.stream t).flying.length ∨ s.opStall false = true ∨ s.qCan 36 1 0 = false) := by
      rw [hstall, hcan]
      simpa using hmax
    refine exec_of_row rfl ((if_neg hgo).trans ((if_neg hnew).trans ((if_neg hroom).trans ?_)))
    rw [hbuf]
    dsimp only
    rw [hgrant]
    dsimp only
    rw [hsend]
  case resident =>
    intro x s hsound hwork
    refine exec_of_row rfl ((State.viaQ_one _ hsound).trans ?_)
    simp only [streamResident, hwork]
  case push =>
    intro t a data i l s hfind hstate hcredit hclosing hworks hhold hbuf hadmitted hopen hitems hsend
    refine exec_of_row rfl ((streamPush_of_resident hfind hstate hcredit hclosing hworks hhold hbuf).trans ?_)
    simp only [hadmitted, hopen, hitems, List.head?_cons, Option.all_some, hsend, Bool.not_true, Bool.true_eq_false, Bool.false_eq_true, if_false]
  case ask =>
    intro t a data s hfind hstate hcredit hclosing hworks hhold hbuf hadmitted
    exact exec_of_row rfl ((streamPush_of_resident hfind hstate hcredit hclosing hworks hhold hbuf).trans (if_pos hadmitted))

end Sys2Proof.Machine
end

section
/-!
PROOFS. Rows of the content protection take their effect.
-/

namespace Sys2Proof.Machine

/-- Settles O40. -/
theorem protectionRowsTakeEffect : Obligations.ProtectionRowsTakeEffect := by
  refine ⟨?begin, ?finish, ?finishClosed, ?keyLoad, ?check, ?enrol, ?enrolEnd, ?count, ?countDenied⟩
  case begin =>
    intro k f ok s hstart hin hout hgot hopen
    have hlen : ¬ (leAt f.bytes 20 4 ≠ 400 ∨ leAt f.bytes 24 4 ≠ 168) := by simp [hin, hout]
    have hdata : ¬ (f.got ≠ 400 ∨ s.secOpen = false) := by simp [hgot, hopen]
    refine exec_of_row rfl ?_
    simp only [authBegin, hstart, if_neg hlen, if_neg hdata]
  case finish =>
    intro k f s hstart hin hout hgot hopen hst htmo
    have hlen : ¬ (leAt f.bytes 20 4 ≠ 96 ∨ leAt f.bytes 24 4 ≠ 256) := by simp [hin, hout]
    have hdata : ¬ (f.got ≠ 96 ∨ s.secOpen = false) := by simp [hgot, hopen]
    refine exec_of_row rfl ?_
    simp only [authFinish, hstart, if_neg hlen, if_neg hdata, if_neg (not_not.mpr hst), htmo, ne_eq, not_true_eq_false, false_and, if_false,
      Bool.true_eq_false]
    rfl
  case finishClosed =>
    intro k f ok s hstart hin hout hgot hopen hst
    have hlen : ¬ (leAt f.bytes 20 4 ≠ 96 ∨ leAt f.bytes 24 4 ≠ 256) := by simp [hin, hout]
    have hdata : ¬ (f.got ≠ 96 ∨ s.secOpen = false) := by simp [hgot, hopen]
    refine exec_of_row rfl ?_
    simp only [authFinish, hstart, if_neg hlen, if_neg hdata, if_pos hst]
  case keyLoad =>
    intro k f s hstart hin hgot hopen hsession hzero hcontent
    have hdata : ¬ (f.got ≠ 404 ∨ s.secOpen = false) := by simp [hgot, hopen]
    have hargs : ¬ (4 ≤ leAt (f.dataBytes 404) 0 1 ∨ leAt (f.dataBytes 404) 1 3 ≠ 0) := by simp [hsession, hzero]
    refine exec_of_row rfl ?_
    simp only [keyLoad, hstart, if_neg (not_not.mpr hin), if_neg hdata, if_neg hargs, hcontent, Bool.true_eq_false, if_false]
  case check =>
    intro k f s hstart hkind hjob hopen hlife
    have hgo : ¬ (bit (leAt f.bytes 16 1) 0 = true ∨ s.prot.job.isSome = true ∨ s.secOpen = false) := by simp [hkind, hjob, hopen]
    refine exec_of_row rfl ?_
    simp only [imprintCheck, hstart, if_neg hgo, if_neg (Nat.not_lt.mpr hlife)]
    cases s.impRecord with
    | none => rfl
    | some l => rfl
  case enrol =>
    intro k o f s all hstart hkind hjob hopen hcheck hall hsome hgood
    have hgo : ¬ (bit (leAt f.bytes 16 1) 0 = false ∨ s.prot.job.isSome = true ∨ s.secOpen = false) := by simp [hkind, hjob, hopen]
    have hdies : ¬ (all.take 64 = [] ∨ (all.take 64).any (fun d => decide ((s.die d.1 d.2).pageBytes < 8192) || s.impOverlap d) = true) := by
      rw [hgood]
      simpa [List.take_eq_nil_iff] using hsome
    refine exec_of_row rfl ?_
    simp only [imprintEnrol, hstart, if_neg hgo, hcheck, ← hall, if_neg hdies]
  case enrolEnd =>
    intro k o j s hstart hjob hflight henrol hended hops
    refine exec_of_row rfl ?_
    simp only [imprintEnrol, hstart, hjob]
    exact if_pos ⟨hflight, henrol, hended, hops⟩
  case count =>
    intro k o f s s3 hstart hopen hauth hmax hwrite
    refine exec_of_row rfl ?_
    simp only [counterInc, hstart, hopen, Bool.true_eq_false, Bool.false_eq_true, if_false, hauth, if_neg hmax, hwrite]
  case countDenied =>
    intro k o f s hstart hopen hauth
    refine exec_of_row rfl ?_
    simp only [counterInc, hstart, hopen, Bool.true_eq_false, if_false, hauth, if_true]

end Sys2Proof.Machine
end

section
/-!
PROOFS. Rows of the event router, the watchdogs, the debug halt, the ledger and the commits take their effect.
-/

namespace Sys2Proof.Machine

/-- Settles O41. -/
theorem routerWatchdogAndCommitRowsTakeEffect : Obligations.RouterWatchdogAndCommitRowsTakeEffect := by
  refine ⟨fun n data s hn => exec_of_row rfl (if_pos hn), fun s => rfl, fun n s h => exec_of_row rfl (if_pos h), ?send, fun s => rfl,
    fun k s h => exec_of_row rfl (if_pos h), ?warn, fun s h => exec_of_row rfl (if_neg h), fun s h => exec_of_row rfl (if_neg h), ?apply, ?hold, ?ledger⟩
  case send =>
    intro e l s hfifo hrole hpcie hsend
    refine exec_of_row rfl ?_
    simp only [hfEvtSend, hfifo, if_neg hrole, hpcie, Bool.false_eq_true, if_false, hsend, if_true]
  case warn =>
    intro k s hrun hen hfrozen hwarned hlead hdue
    exact exec_of_row rfl (if_pos (by simp [hrun, hen, hfrozen, hwarned, hlead, hdue]))
  case apply =>
    intro g accept res s hok hpend
    refine exec_of_row rfl ?_
    simp only [commitApply, hok, Bool.true_eq_false, if_false, hpend, if_true]
  case hold =>
    intro g t s hfind hafter hdue hg hnew
    have hgo : ¬ (s.get F.CMT_CFG_HOLD_AFTER = 0 ∨ s.clock - t < s.get F.CMT_CFG_HOLD_AFTER * 1000 ∨ 0x0D ≤ g ∨ s.port.hold.contains g = true) := by
      rw [hnew]
      rintro (h | h | h | h)
      · omega
      · omega
      · omega
      · exact Bool.noConfusion h
    have hchannel : ¬ (2 ≤ g ∧ g < 10) := by omega
    have hprotect : g ≠ 12 := by omega
    refine exec_of_row rfl ?_
    simp only [commitHold, hfind, if_neg hgo, if_neg hchannel, if_neg hprotect]
  case ledger =>
    intro vT diff onDie s hon
    refine exec_of_row rfl ?_
    simp only [ledgerUpdate, hon, if_true]

end Sys2Proof.Machine
end

section
/-!
PROOFS. Rows of the Agilnu Link's training and of its frames take their effect.
-/

namespace Sys2Proof.Machine

/-! ### Training -/

/-- Settles O42. -/
theorem agilnuLinkTrainingRowsTakeEffect : Obligations.AgilnuLinkTrainingRowsTakeEffect := by
  refine ⟨fun l found s hl hst hlanes => exec_of_row rfl (if_pos ⟨hl, hst, hlanes⟩), fun l sets s => rfl, fun l sets s => rfl, ?timeout, ?idleTimeout,
    fun l s hl hst hts => exec_of_row rfl (if_pos ⟨hl, hst, hts⟩), ?idle, ?eqFails, ?eqDone, fun l s => rfl, fun s hst => exec_of_row rfl (if_pos ⟨rfl, hst⟩),
    ?alnCascade, ?skpAln, ?eios, ?rate, fun l s hl hst => exec_of_row rfl (if_pos ⟨hl, hst⟩), fun l s hl hst => exec_of_row rfl (if_pos ⟨hl, hst⟩),
    fun l s => rfl, fun l s => rfl, ?reset, ?retrain⟩
  case timeout =>
    intro l s hl hst
    exact exec_of_row rfl ((if_neg (Nat.not_le.mpr hl)).trans (if_pos hst))
  case idleTimeout =>
    intro l s hl hst
    refine exec_of_row rfl ((if_neg (Nat.not_le.mpr hl)).trans ?_)
    rw [hst]
    rfl
  case idle =>
    intro l s hl hst
    exact exec_of_row rfl ((if_neg (fun h => by rw [hst] at h; omega)).trans (if_pos ⟨hl, hst⟩))
  case eqFails =>
    intro l asks asked s hl hst
    have hgo : ¬ (3 ≤ l ∨ (s.lnk l).state ≠ 8) := by omega
    exact exec_of_row rfl ((if_neg hgo).trans (if_pos rfl))
  case eqDone =>
    intro l asks asked s u hl hst hfixed hu
    have hgo : ¬ (3 ≤ l ∨ (s.lnk l).state ≠ 8) := by omega
    refine exec_of_row rfl ((if_neg hgo).trans ((if_neg Bool.noConfusion).trans ?_))
    rw [hfixed, hu]
    rfl
  case alnCascade =>
    intro l s hl hst hok
    have hhost : ¬ (l = 0 ∧ s.agl.state = 6) := by omega
    exact exec_of_row rfl ((if_neg hhost).trans (if_pos ⟨hl, hst, hok⟩))
  case skpAln =>
    intro l s hl hst hturn hlower
    have hgo : ¬ (3 ≤ l ∨ (s.lnk l).state ≠ 6) := by omega
    refine exec_of_row rfl ((if_neg hgo).trans ?_)
    simp only [hturn, hlower, Bool.false_eq_true, false_and, if_false, Bool.not_false]
  case eios =>
    intro l s hl hst hpm hqueue
    refine exec_of_row rfl ((if_neg (Nat.not_le.mpr hl)).trans ((if_neg (fun h => by omega)).trans ((if_pos ⟨hst, hpm⟩).trans ?_)))
    simp only [hqueue, Bool.false_eq_true, and_false, if_false]
  case rate =>
    intro l s hl hst hchg
    exact exec_of_row rfl ((if_neg (Nat.not_le.mpr hl)).trans (if_pos ⟨hst, hchg⟩))
  case reset =>
    intro s s1 hst hctl
    refine exec_of_row rfl ((if_neg (not_not.mpr hst)).trans ?_)
    rw [hctl]
  case retrain =>
    intro l s s1 hl hst hctl
    have hgo : ¬ (3 ≤ l ∨ (s.lnk l).state ≠ 6) := by omega
    refine exec_of_row rfl ((if_neg hgo).trans ?_)
    rw [hctl]

/-! ### Frames -/

/-- A link that is up takes frames. -/
theorem takesFrames {s : State} {l : Nat} (hl : l < 3) (hst : (s.lnk l).state = 6) : ¬ (3 ≤ l ∨ (s.lnk l).state ≠ 6) := by omega

/-- Settles O43. -/
theorem agilnuLinkFrameRowsTakeEffect : Obligations.AgilnuLinkFrameRowsTakeEffect := by
  refine ⟨fun l typ s hl hagl hst => exec_of_row rfl ((if_neg hagl).trans (if_neg (takesFrames hl hst))),
    fun l s hl hagl hst => exec_of_row rfl ((if_neg hagl).trans (if_neg (takesFrames hl hst))),
    fun l s hl hagl hst => exec_of_row rfl ((if_neg hagl).trans (if_neg (takesFrames hl hst))),
    fun l s hl hst hunacked => exec_of_row rfl (if_pos ⟨hl, hst, hunacked⟩), ?ack, ?nak, ?replay, ?recover, ?control, ?data, ?refresh⟩
  case ack =>
    intro l seq v s hl hagl hst hacked
    refine exec_of_row rfl ((if_neg hagl).trans ((if_neg (takesFrames hl hst)).trans ?_))
    rw [hacked]
  case nak =>
    intro l seq v s hl hagl hst hacked
    refine exec_of_row rfl ((if_neg hagl).trans ((if_neg (takesFrames hl hst)).trans ?_))
    rw [hacked]
  case replay =>
    intro l s hl hagl hst hretry htries
    have hgo : ¬ (3 ≤ l ∨ (s.lnk l).state ≠ 6 ∨ (s.lnk l).retry = []) := by simp [hl, hst, hretry]
    exact exec_of_row rfl ((if_neg hagl).trans ((if_neg hgo).trans (if_pos htries)))
  case recover =>
    intro l s hl hagl hst hretry htries hrecov
    have hgo : ¬ (3 ≤ l ∨ (s.lnk l).state ≠ 6 ∨ (s.lnk l).retry = []) := by simp [hl, hst, hretry]
    exact exec_of_row rfl ((if_neg hagl).trans ((if_neg hgo).trans ((if_neg (Nat.not_lt.mpr htries)).trans (if_neg (Nat.not_lt.mpr hrecov)))))
  case control =>
    intro limit s hst
    exact exec_of_row rfl ((if_neg (takesFrames (by decide) hst)).trans (if_pos rfl))
  case data =>
    intro limit s hst
    exact exec_of_row rfl ((if_neg (takesFrames (by decide) hst)).trans ((if_neg (by decide)).trans (if_pos rfl)))
  case refresh =>
    intro s hst hready
    exact exec_of_row rfl ((if_neg (takesFrames (by decide) hst)).trans ((if_pos rfl).trans (if_neg hready)))

end Sys2Proof.Machine
end

section
/-!
PROOFS. Rows of the cascade take their effect.
-/

namespace Sys2Proof.Machine

/-! ### Control frames -/

/-- Settles O44. -/
theorem cascadeControlRowsTakeEffect : Obligations.CascadeControlRowsTakeEffect := by
  refine ⟨?join, ?again, ?ack, ?order, ?remove, fun s hrole hdue => exec_of_row rfl (if_pos ⟨hrole, hdue⟩), ?ping, ?pong, ?lost, ?share⟩
  case join =>
    intro h uid sviVer state form epoch s s1 hrx hst hlo hhi hok u hu
    have hgo : ¬ (s1.st = stTrailhead ∨ h.src = 0 ∨ 3 < h.src) := by
      rintro (h | h | h)
      · exact hst h
      · omega
      · omega
    refine exec_of_row rfl ?_
    simp only [cascJoin, hrx, if_neg hgo, hok, if_true]
    exact if_neg hu
  case again =>
    intro t s hat hdue
    refine exec_of_row rfl ?_
    simp only [cascJoinRepeat, hat, if_pos hdue]
  case ack =>
    intro h epoch reason s s1 hrx
    have hrx' : s.cascCtlRx h 2 2 [] (natLE 2 epoch ++ natLE 1 (b2n true) ++ natLE 1 reason) = (true, s1) := hrx
    refine exec_of_row rfl ?_
    simp only [cascJoinAck, hrx', if_true]
  case order =>
    intro h s s1 hrx
    refine exec_of_row rfl ?_
    simp only [cascadeResetOrder, hrx]
  case remove =>
    intro h src reason s s1 hrx hlive hst
    have hgo : ¬ (s1.live = false ∨ s1.st = stRemoving) := by simp [hlive, hst]
    refine exec_of_row rfl ?_
    simp only [cascRemove, hrx, if_neg hgo]
  case ping =>
    intro h s s1 hrx
    refine exec_of_row rfl ?_
    simp only [cascPing, hrx]
  case pong =>
    intro h s s1 hrx hjoined
    refine exec_of_row rfl ?_
    simp only [cascPong, hrx, hjoined, if_true]
  case lost =>
    intro m beyond s hjoined hlate
    have hgo : ¬ (s.joined m = false ∨ (false = false ∧ s.clock - (s.member m).pongAt < 500)) := by
      rw [hjoined]
      simpa using hlate
    exact exec_of_row rfl (if_neg hgo)
  case share =>
    intro h refill burst hu s s1 hrx
    refine exec_of_row rfl ?_
    simp only [cascShare, hrx]

/-! ### Data frames -/

/-- Settles O45. -/
theorem cascadeDataRowsTakeEffect : Obligations.CascadeDataRowsTakeEffect := by
  refine ⟨?volRead, ?command, ?dataMaster, ?dataMember, ?completion, ?event, ?request⟩
  case volRead =>
    intro h xid prio vol alb count s s1 hrx hrole s2 s3 hok
    refine exec_of_row rfl ?_
    have hgo : ¬ (true = false ∨ s.cascRole ≠ 2) := by simp [hrole]
    unfold cReqVolRead
    rw [hrx]
    refine (if_neg hgo).trans ?_
    show (match s3.cascRefusal with
      | some (st, ql) => s3.complete s1.cascFlight st ql
      | none => readAlb s1.cascFlight s3) = readAlb s1.cascFlight s3
    rw [hok]
  case command =>
    intro h xid prio cmd s s1 hrx hrole hpresent hok
    refine exec_of_row rfl ?_
    have hgo : ¬ (true = false ∨ s.cascRole ≠ 2) := by simp [hrole]
    unfold cReqCmd
    rw [hrx]
    refine (if_neg hgo).trans ?_
    dsimp only
    rw [if_neg hpresent, hok]
  case dataMaster =>
    intro h xid off last data s s1 hrx hrole
    refine exec_of_row rfl ?_
    simp only [cData, hrx, if_pos hrole]
  case dataMember =>
    intro h xid off k x last data s s1 hrx hrole hfind
    refine exec_of_row rfl ?_
    simp only [cData, hrx, if_neg hrole, hfind]
  case completion =>
    intro h xid k offs entry r s s1 hrx hfind huse
    refine exec_of_row rfl ?_
    simp only [cCpl, hrx, hfind, huse]
  case event =>
    intro h source prio data s s1 hrx hrole hsrc
    have hgo : ¬ (s1.cascRole ≠ 1 ∨ h.src = 0) := by simp [hrole, hsrc]
    refine exec_of_row rfl ?_
    simp only [cEvt, hrx, if_neg hgo]
  case request =>
    intro h xid off len k f r s s1 hrx hfind huse hf
    refine exec_of_row rfl ?_
    obtain ⟨dev, rxid, use, runData, got⟩ := r
    subst huse
    simp only [cDreq, hrx, hfind, hf]

end Sys2Proof.Machine
end

section
/-!
PROOFS. Rows of the calibration and of the temperature take their effect.
-/

namespace Sys2Proof.Machine

/-- Settles O46. -/
theorem calibrationAndThermalRowsTakeEffect : Obligations.CalibrationAndThermalRowsTakeEffect := by
  refine ⟨?trailTrained, ?trained, ?track, fun n s hn => exec_of_row rfl (if_neg (Nat.not_le.mpr hn)), ?adapt, ?save, ?sample, ?grace⟩
  case trailTrained =>
    intro n res s htrain hst hstop
    refine exec_of_row rfl ?_
    have hgo : ¬ ((s.chan n).training = false ∨ s.st = stRemoving) := by
      rw [htrain, hst]
      decide
    exact (if_neg hgo).trans ((if_pos hst).trans (if_neg (by simp [hstop])))
  case trained =>
    intro n res j s htrain hst hlive hjob hok
    refine exec_of_row rfl ?_
    have hgo : ¬ ((s.chan n).training = false ∨ s.st = stRemoving) := by simp [htrain, hlive]
    simp only [trainingEnd, if_neg hgo, if_neg hst, hjob, hok, if_true]
  case track =>
    intro n ce dqs wins e s he hn hen hfast hhost hworks hstop htrain hhold htarget hdue hfound heye hmoved
    subst he
    refine exec_of_row rfl ?_
    have hgo : ¬ (s.get F.CAL_CFG_TRACK_EN = 0 ∨ s.fast n = false ∨ s.get (F.CAL_CH_HOST_SET n) = 1 ∨ s.works = false ∨ s.therm.stop = true
        ∨ (s.chan n).training = true ∨ s.chHold n = true ∨ (s.targets n).contains (Eye.of ce dqs wins).ce = false ∨ s.trackDue n = false ∨ 8 ≤ n) := by
      rw [hfast, hworks, hstop, htrain, hhold, htarget, hdue]
      simp [hen, hhost, hn]
    have hgood : ¬ ((Eye.of ce dqs wins).found = false ∨ eyeWidth (Eye.of ce dqs wins) < s.get F.CAL_CFG_MIN_EYE) := by simp [hfound, heye]
    refine (if_neg hgo).trans ((if_neg hgood).trans ?_)
    refine congrArg (fun u : State => u.staleEval n) ((if_neg Bool.false_ne_true).trans (if_neg ?_))
    exact Bool.eq_false_iff.mp hmoved
  case adapt =>
    intro k v s hst hlane
    refine exec_of_row rfl (if_neg ?_)
    rw [hst, hlane]
    simp
  case save =>
    intro o t s hfrom hen hstale
    refine exec_of_row rfl ?_
    have hgo : ¬ (s.get F.CAL_CFG_AUTO_SAVE = 0 ∨ s.chans.any (fun p => p.2.stale) = true) := by
      rw [hstale]
      simpa using hen
    simp only [autoSave, hfrom, if_neg hgo]
  case sample =>
    intro raw mv low s hlive hclocks
    have hgo : ¬ (s.live = false ∨ s.balls.clocksGated = true) := by simp [hlive, hclocks]
    exact exec_of_row rfl (if_neg hgo)
  case grace =>
    intro s hgrace hdue
    exact exec_of_row rfl (if_pos (by simp [hgrace, hdue]))

end Sys2Proof.Machine
end

section
/-!
PROOFS. Rows of the test patterns, the self-tests and the TAP take their effect.
-/

namespace Sys2Proof.Machine

/-- In test mode an instruction is loaded with its drive and acts. -/
theorem tapTest_of_tmode {s : State} {code drive : Nat} {f : State → State} (hon : s.tapOn = true) (htmode : s.tmode = true) :
    s.tapTest code drive f = f (s.tapLoad code drive) := by
  simp only [State.tapTest, hon, htmode, Bool.true_eq_false, if_false, if_true]

/-- Settles O47. -/
theorem patternSelfTestAndTapRowsTakeEffect : Obligations.PatternSelfTestAndTapRowsTakeEffect := by
  refine ⟨?ended, ?goesOn, ?pattern, fun s hon => exec_of_row rfl (if_pos hon), fun s hon => ⟨_, exec_of_row rfl (if_pos hon), rfl⟩,
    fun cap preload s hon => exec_of_row rfl (if_pos hon), fun scan s hon htm => exec_of_row rfl (tapTest_of_tmode hon htm), ?extestOff,
    fun scan s hon htm => exec_of_row rfl (tapTest_of_tmode hon htm), fun scan s hon htm => exec_of_row rfl (tapTest_of_tmode hon htm),
    fun s hon htm => exec_of_row rfl (tapTest_of_tmode hon htm), fun s hon htm => exec_of_row rfl (tapTest_of_tmode hon htm), ?bypass,
    fun dr x s hon htm hlive => exec_of_row rfl ((tapTest_of_tmode hon htm).trans (if_pos hlive)),
    ?bistRun, ?bistEnd⟩
  case ended =>
    intro t rx r s hrun hover
    refine exec_of_row rfl ?_
    simp only [tpRunEnd, hrun, hover, if_true]
  case goesOn =>
    intro t rx r s hrun hover
    refine exec_of_row rfl ?_
    simp only [tpRunEnd, hrun, hover, Bool.false_eq_true, if_false]
  case pattern =>
    intro k rx f s hstart hidle hst havailable
    have hlimit : ¬ (0x20 ≤ leAt f.bytes 16 1 ∧ s.st = stLimited ∧ 2 < s.get (F.CH_IF_RATE (leAt f.bytes 16 1 - 0x20))) := fun h => hst h.2.1
    refine exec_of_row rfl ?_
    simp only [testPattern, hstart, hidle, Option.isSome_none, Bool.false_eq_true, if_false, if_neg hlimit, havailable, Bool.true_eq_false]
  case extestOff =>
    intro scan s hon htm
    refine exec_of_row rfl ?_
    simp only [tapExtest, State.tapTest, hon, htm, Bool.true_eq_false, Bool.false_eq_true, if_false]
  case bypass =>
    intro code s hon hlisted
    exact exec_of_row rfl (if_neg (by simp [hon, hlisted]))
  case bistRun =>
    intro mask s hon htm u hlive
    exact exec_of_row rfl ((tapTest_of_tmode hon htm).trans (if_pos hlive))
  case bistEnd =>
    intro fails b s hbist u
    refine exec_of_row rfl ?_
    simp only [bistEnd, hbist]
    rfl

end Sys2Proof.Machine
end

section
/-!
PROOFS. Transactions of the service port take their effect.
-/

namespace Sys2Proof.Machine

/-- The logic die runs. -/
theorem not_dead {s : State} (h : s.live = true) : ¬ s.live = false := by simp [h]

/-- A burst that lies in the page is none that the port refuses. -/
theorem not_burst_outside {off n : Byte} (hoff : off.toNat < 0x40) (hn : n ≠ 0)
    (hend : off.toNat + n.toNat ≤ 0x40) :
    ¬ (0x40 ≤ off.toNat ∨ n = 0 ∨ 0x40 < off.toNat + n.toNat) := by
  rintro (h | h | h)
  · omega
  · exact hn h
  · omega

/-- Settles O48. -/
theorem servicePortRowsTakeEffect : Obligations.ServicePortRowsTakeEffect := by
  refine ⟨?read, ?status, ?write, ?burstRead, ?burstWrite, ?page, ?unlock, ?badOpcode, ?abort, ?cut, ?frameErr, ?transfer⟩
  case read =>
    intro off crc s hlive hgate hoff
    exact exec_of_row rfl ((if_neg (not_dead hlive)).trans ((if_neg (not_not.mpr hgate)).trans (if_neg (Nat.not_le.mpr hoff))))
  case status =>
    intro off crc s hlive hgate hoff
    exact exec_of_row rfl ((if_neg (not_dead hlive)).trans ((if_neg (not_not.mpr hgate)).trans (if_neg (Nat.not_le.mpr hoff))))
  case write =>
    intro off data crc x s hlive hgate hoff
    exact exec_of_row rfl ((if_neg (not_dead hlive)).trans ((if_neg (not_not.mpr hgate)).trans (if_neg (Nat.not_le.mpr hoff))))
  case burstRead =>
    intro off n crc s hlive hgate hoff hn hend
    exact exec_of_row rfl ((if_neg (not_dead hlive)).trans ((if_neg (not_not.mpr hgate)).trans (if_neg (not_burst_outside hoff hn hend))))
  case burstWrite =>
    intro off n data crc x s hlive hlen hgate hoff hn hend
    have hgo : ¬ (s.live = false ∨ data.length ≠ n.toNat) := by simp [hlive, hlen]
    have hshort : ¬ (s.twoWire = true ∧ 260 < 4 + 4 * data.length) := by omega
    exact exec_of_row rfl ((if_neg hgo).trans ((if_neg hshort).trans ((if_neg (not_not.mpr hgate)).trans (if_neg (not_burst_outside hoff hn hend)))))
  case page =>
    intro page crc s hlive hgate
    exact exec_of_row rfl ((if_neg (not_dead hlive)).trans (if_neg (not_not.mpr hgate)))
  case unlock =>
    intro lock key crc s hlive hgate
    exact exec_of_row rfl ((if_neg (not_dead hlive)).trans (if_neg (not_not.mpr hgate)))
  case badOpcode =>
    intro op s hlive hop
    exact exec_of_row rfl (if_neg (not_or.mpr ⟨not_dead hlive, hop⟩))
  case abort =>
    intro l s hlive hwire hlisted hshort
    have hgo : ¬ (s.live = false ∨ s.twoWire = true) := by simp [hlive, hwire]
    have hop : ¬ (l.head?).any (fun op => !spListed op) = true := Bool.eq_false_iff.mp hlisted
    refine exec_of_row rfl ((if_neg hgo).trans ((if_neg hop).trans ?_))
    cases hlen : spLength l with
    | none => rfl
    | some n => exact if_neg (Nat.not_le.mpr (hshort n hlen))
  case cut =>
    intro l n s hlive hwire hlisted hlen hlong
    have hgo : ¬ (s.live = false ∨ s.twoWire = true) := by simp [hlive, hwire]
    have hop : ¬ (l.head?).any (fun op => !spListed op) = true := Bool.eq_false_iff.mp hlisted
    refine exec_of_row rfl ((if_neg hgo).trans ((if_neg hop).trans ?_))
    rw [hlen]
    exact if_pos hlong
  case frameErr =>
    intro l s hlive hwire hlisted hbad
    have hgo : ¬ (s.live = false ∨ s.twoWire = false) := by simp [hlive, hwire]
    have hop : ¬ (l.head?).any (fun op => !spListed op) = true := Bool.eq_false_iff.mp hlisted
    exact exec_of_row rfl ((if_neg hgo).trans ((if_neg hop).trans (if_neg hbad)))
  case transfer =>
    intro r s hlive hwire hheld
    have hgo : ¬ (s.live = false ∨ s.twoWire = false) := by simp [hlive, hwire]
    refine exec_of_row rfl ((if_neg hgo).trans ?_)
    rw [hheld]
    rfl

end Sys2Proof.Machine
end

section
/-!
PROOFS. Register accesses of the host and transfers of data take their effect.
-/

namespace Sys2Proof.Machine

/-- A frame for registers that names whole words within one page is none that R155 calls malformed. -/
theorem not_words_outside {addr : Nat} {data : List Word} (haddr : addr % 4 = 0) (hdata : data ≠ [])
    (hend : addr % 64 + 4 * data.length ≤ 64) :
    ¬ (addr % 4 ≠ 0 ∨ data = [] ∨ 64 < addr % 64 + 4 * data.length) := by
  rintro (h | h | h)
  · exact h haddr
  · exact hdata h
  · omega

/-- Settles O49. -/
theorem hostRegisterAndDataRowsTakeEffect : Obligations.HostRegisterAndDataRowsTakeEffect := by
  refine ⟨?accessWrite, ?accessRead, ?regWr, ?regRd, ?regRdGone, ?transmit, ?dreq, ?wdata, ?timeout, ?down⟩
  case accessWrite =>
    intro k x f r s hstart hwrite hr
    refine exec_of_row rfl ?_
    subst hr
    simp only [regAccess, hstart, hwrite, if_true]
  case accessRead =>
    intro k x f s hstart hread
    refine exec_of_row rfl ?_
    simp only [regAccess, hstart, hread, Bool.false_eq_true, if_false]
  case regWr =>
    intro seq addr data mm s s1 s2 hsound hcan hframe htake haddr hdata hend
    refine exec_of_row rfl ((State.viaQ_one _ hsound).trans ?_)
    simp only [hcan, hframe, htake, Bool.true_eq_false, if_false, if_neg (not_words_outside haddr hdata hend)]
  case regRd =>
    intro seq addr rtag rlen s s1 s2 r hsound hopen hframe htake haddr hlen hmax hst hrmv hr hall
    have hgo : ¬ (addr % 4 ≠ 0 ∨ rlen = 0 ∨ 16 < rlen) := by omega
    subst hr
    refine exec_of_row rfl ((State.viaQ_one _ hsound).trans ?_)
    simp only [hopen, hframe, htake, hst, hrmv, hall, if_neg hgo, Bool.true_eq_false, Bool.false_eq_true, if_false,
      Option.isSome_none]
  case regRdGone =>
    intro seq addr rtag rlen s s1 s2 hsound hopen hframe htake haddr hlen hmax hst
    have hgo : ¬ (addr % 4 ≠ 0 ∨ rlen = 0 ∨ 16 < rlen) := by omega
    refine exec_of_row rfl ((State.viaQ_one _ hsound).trans ?_)
    simp only [hopen, hframe, htake, hst, if_neg hgo, Bool.true_eq_false, if_false, if_true]
  case transmit =>
    intro k f s hf hsent hphase hadm hst hxid hcan
    have hgo : ¬ (f.out.length ≤ f.sent ∨ f.phase = .ready ∨ f.xadm * 4096 ≤ f.sent ∨ s.st = stRemoving) := by
      simp [hsent, hphase, hadm, hst]
    refine exec_of_row rfl ?_
    simp only [dataTransmit, hf, if_neg hgo, hxid, hcan, if_true]
  case dreq =>
    intro k f f1 s s1 i hf hrun hphase hneed hfails hworks hadm hxid hpcie hbufs hf1 hi hcan
    have hgo : ¬ (s.dataNeed f ≤ f.asked ∨ ¬ (f.phase = .accepted ∨ (s.boundRun k).isSome) ∨ f.fails ≠ 0 ∨ s.works = false) := by
      simp [hneed, hphase, hfails, hworks]
    refine exec_of_row rfl ?_
    subst hi
    simp only [hrun, Option.isSome_none, Bool.false_eq_true, or_false] at hgo
    simp only [dreq, hf, hrun, hxid, hbufs, hf1, hpcie, hcan, if_neg (Nat.not_le.mpr hadm), if_neg hgo, Option.isSome_none,
      Option.isNone_none, Option.getD_some, Bool.false_eq_true, Bool.true_eq_false, true_and, false_and, or_false,
      if_false]
  case wdata =>
    intro seq sq tag off pad data d s s1 hsound hopen hframe hwords hdata hmax hpad hfind
    have hlen : data.length ≠ 0 := fun h => hdata (List.length_eq_zero_iff.mp h)
    have hgo : ¬ (data.length % 4 ≠ 0 ∨ data.length = 0 ∨ 512 < data.length ∨ 3 < pad) := by omega
    refine exec_of_row rfl ((State.viaQ_one _ hsound).trans ?_)
    simp only [hopen, hframe, if_neg hgo, hfind, Bool.true_eq_false, if_false]
  case timeout =>
    intro k d s hfind hpcie hdead
    refine exec_of_row rfl ?_
    simp only [dreqDataTimeout, hfind, hpcie, hdead, Bool.false_eq_true, false_and, if_false]
  case down =>
    intro l s hl hpcie hup
    have hgo : ¬ (l = 0 ∧ s.pcieMode = true) := fun h => Bool.false_ne_true ((hpcie h.1).symm.trans h.2)
    exact exec_of_row rfl ((if_neg hgo).trans (if_pos ⟨hl, hup⟩))

end Sys2Proof.Machine
end

section
/-!
PROOFS. Rows of the PCI Express endpoint take their effect.
-/

namespace Sys2Proof.Machine

/-- While the endpoint runs, no request is dropped. -/
theorem not_pcieStopped {s : State} (h : s.pcieRuns = true) : ¬ s.pcieRuns = false := by simp [h]

/-- A write of a configuration register past the Trailhead completes without an error. -/
theorem configRequest_write {addr be : Nat} {v : Word} {s : State} (hruns : s.pcieRuns = true)
    (hst : (s.pcieAwake.fcReturn false 1).st ≠ stTrailhead) :
    configRequest true addr be v s
      = ((s.pcieAwake.fcReturn false 1).cfgWrite (addr % 4096 / 4 * 4) be v).cplSend 0 [] :=
  (if_neg (not_pcieStopped hruns)).trans (if_neg hst)

/-- A read of whole words of the window within one page completes with their values. -/
theorem memoryReadWindow_of_open {off n : Nat} {s u : State} (hruns : s.pcieRuns = true) (hsound : s.qSound 0 = true)
    (hopen : s.qOpen 0 1 0 = true) (hu : u = s.pcieAwake.fcReturn false 0) (hmem : u.memOn = true)
    (hst : u.st ≠ stTrailhead) (hrmv : u.st ≠ stRemoving) (hoff : off < 0x10000) (hpos : 1 ≤ n) (hmax : n ≤ 16)
    (hend : off % 64 + 4 * n ≤ 64) :
    memoryReadWindow off n s
      = (u.winReads (off / 4 * 4) n).2.cplSend 0 ((u.winReads (off / 4 * 4) n).1.flatMap (fun v => natLE 4 (v.getD 0))) := by
  subst hu
  have hin : ¬ ((s.pcieAwake.fcReturn false 0).memOn = false ∨ (s.pcieAwake.fcReturn false 0).st = stTrailhead
      ∨ (s.pcieAwake.fcReturn false 0).st = stRemoving ∨ 0x10000 ≤ off) := by
    simp [hmem, hst, hrmv, hoff]
  have hfit : ¬ (n = 0 ∨ 16 < n ∨ 64 < off % 64 + 4 * n) := by omega
  refine (if_neg (not_pcieStopped hruns)).trans ((State.viaQ_one _ hsound).trans ?_)
  simp only [hopen, if_neg hin, if_neg hfit, Bool.true_eq_false, if_false]

/-- A write of the window that is not poisoned and lies within one page reaches its words: all at once in the submission
window, word by word elsewhere. -/
theorem memoryWriteWindow_of_open {off : Nat} {dws : List (Nat × Word)} {mm : Bool} {s u : State} (hruns : s.pcieRuns = true)
    (hsound : s.qSound 0 = true) (hcan : s.qCan 0 (max 1 dws.length) 0 = true)
    (hu : u = s.pcieAwake.fcReturn true ((dws.length + 3) / 4)) (hmem : u.memOn = true) (hst : u.st ≠ stTrailhead)
    (hrmv : u.st ≠ stRemoving) (hdws : dws ≠ []) (hoff : off < 0x10000) (hword : off % 4 = 0)
    (hend : off % 64 + 4 * dws.length ≤ 64) :
    memoryWriteWindow off dws false mm s
      = (if 0x1000 ≤ off ∧ off < 0x2000 then u.q0Put off ((dws.filter (fun p => p.1 % 16 == 15)).map (·.2)) mm
        else (withIdx dws).foldl
          (fun (s : State) p => if p.2.1 % 16 = 15 then s.q0Put (off + 4 * p.1) [p.2.2] mm else s) u) := by
  subst hu
  have hin : ¬ ((s.pcieAwake.fcReturn true ((dws.length + 3) / 4)).memOn = false ∨ 0x10000 ≤ off) := by
    simp [hmem, hoff]
  have hon : ¬ ((s.pcieAwake.fcReturn true ((dws.length + 3) / 4)).st = stTrailhead
      ∨ (s.pcieAwake.fcReturn true ((dws.length + 3) / 4)).st = stRemoving) := not_or.mpr ⟨hst, hrmv⟩
  have hwhole : ¬ (dws = [] ∨ off % 4 ≠ 0) := not_or.mpr ⟨hdws, not_not.mpr hword⟩
  refine (if_neg (not_pcieStopped hruns)).trans ((State.viaQ_one _ hsound).trans ?_)
  simp only [hcan, if_neg hin, if_neg hon, if_neg hwhole, if_neg (Nat.not_lt.mpr hend), Bool.true_eq_false,
    Bool.false_eq_true, if_false]

/-- Settles O50. -/
theorem pcieEndpointRowsTakeEffect : Obligations.PcieEndpointRowsTakeEffect := by
  refine ⟨?cfgEarly, ?cfgWrite, ?cfgRead, ?memWrite, ?memRead, ?pop, ?cplGood, ?cplStray, ?cplLate, ?up,
    ?hot, ?disable, ?perst, ?perstRise, ?d3, ?d0, ?l1, ?unmask⟩
  case cfgEarly =>
    intro write addr be v s u hruns hu hst
    subst hu
    exact exec_of_row rfl ((if_neg (not_pcieStopped hruns)).trans (if_pos hst))
  case cfgWrite =>
    intro addr be v s u hruns hu hst
    subst hu
    exact exec_of_row rfl (configRequest_write hruns hst)
  case cfgRead =>
    intro addr be v s u hruns hu hst
    subst hu
    exact exec_of_row rfl ((if_neg (not_pcieStopped hruns)).trans (if_neg hst))
  case memWrite =>
    intro off dws mm s u hruns hsound hcan hu hmem hst hrmv hdws hword hlo hhi hend
    exact exec_of_row rfl ((memoryWriteWindow_of_open hruns hsound hcan hu hmem hst hrmv hdws (by omega) hword hend).trans
      (if_pos ⟨hlo, hhi⟩))
  case memRead =>
    intro off n s u hruns hsound hopen hu hmem hst hrmv hoff hpos hmax hend
    exact exec_of_row rfl (memoryReadWindow_of_open hruns hsound hopen hu hmem hst hrmv hoff hpos hmax hend)
  case pop =>
    intro s u hruns hsound hopen hu hmem hst hrmv
    exact exec_of_row rfl
      (memoryReadWindow_of_open hruns hsound hopen hu hmem hst hrmv (by decide) (by decide) (by decide) (by decide))
  case cplGood =>
    intro tag data d s u hruns hsound hopen hu hfind hfit
    subst hu
    refine exec_of_row rfl ((if_neg (not_pcieStopped hruns)).trans ((State.viaQ_one _ hsound).trans ?_))
    simp only [hopen, hfind, if_neg (Nat.not_lt.mpr hfit), ne_eq, not_true_eq_false, Bool.true_eq_false,
      Bool.false_eq_true, if_false]
  case cplStray =>
    intro tag status poison data s r hruns hsound hopen hr hfind
    subst hr
    refine exec_of_row rfl ((if_neg (not_pcieStopped hruns)).trans ((State.viaQ_one _ hsound).trans ?_))
    simp only [hopen, hfind, Bool.true_eq_false, if_false]
  case cplLate =>
    intro tag t d s hfind htime hmode hlate
    have hgo : ¬ (s.pcieMode = false ∨ s.clock - d.since < t) := by simp [hmode, hlate]
    refine exec_of_row rfl ?_
    simp only [completionTimeout, hfind, htime, if_neg hgo]
  case up =>
    intro speed width s hlive hmode hlanes hspeed hmaxSpeed hmaxWidth hdown
    have hgo : ¬ (s.live = false ∨ s.pcieMode = false ∨ s.hostLanesIdle = true ∨ speed = 0 ∨ bits s.pcie.adv 0 3 < speed
        ∨ bits s.pcie.adv 4 2 < width) := by
      simp [hlive, hmode, hlanes, hspeed, hmaxSpeed, hmaxWidth]
    refine exec_of_row rfl ((if_neg hgo).trans ?_)
    simp only [hdown, Bool.false_and, Bool.false_eq_true, if_false]
  case hot => exact fun s hruns => exec_of_row rfl (if_neg (not_pcieStopped hruns))
  case disable => exact fun s hruns => exec_of_row rfl (if_neg (not_pcieStopped hruns))
  case perst => exact fun s hlive hmode hhigh => exec_of_row rfl (if_pos ⟨hlive, hmode, hhigh⟩)
  case perstRise => exact fun s => exec_of_row rfl rfl
  case d3 =>
    intro s u hruns hu hst
    subst hu
    exact exec_of_row rfl (configRequest_write hruns hst)
  case d0 =>
    intro s u hruns hu hst
    subst hu
    exact exec_of_row rfl (configRequest_write hruns hst)
  case l1 =>
    intro s hruns hl0 hd3 hcfg hadv htx hdreqs hretry hidle
    exact exec_of_row rfl (if_pos ⟨hruns, hl0, hd3, hcfg, hadv, htx, hdreqs, hretry, hidle⟩)
  case unmask =>
    intro v s u hruns hv hsound hcan hu hmem hst hrmv
    have hfar : ¬ (0x1000 ≤ 0x2000 + 16 * v + 12 ∧ 0x2000 + 16 * v + 12 < 0x2000) := by omega
    refine exec_of_row rfl ((if_pos hv).trans ((memoryWriteWindow_of_open (dws := [(15, 0)]) hruns hsound hcan hu hmem hst hrmv
      (List.cons_ne_nil _ _) (by omega) (by omega) (show _ + 4 * 1 ≤ 64 by omega)).trans ?_))
    exact if_neg hfar

end Sys2Proof.Machine
end

section
/-!
PROOFS. Register writes with an action of their own: identity, locks, commit groups, queue pairs, lists, fabric, Hamper, ration,
calibration and the debugger.
-/

namespace Sys2Proof.Machine

section
variable {s : State} {p : Path} {a : Nat} {v : Word} {x : RegIn} {c : Bool}

/-- A write that the path makes of a register with an action of its own does the action and ends the write. -/
theorem act_of_regActs {R E : State} (hc : c = true) (htakes : s.takesWrite p a v) (hunl : a ≠ 0x47) (hcasc : a ≠ 0x3204)
    (hacts : (s.beginWrite x).regActs p a v x = some R) (hR : R = E) : s.act c p a v x = E.endWrite.2 := by
  rw [hc, act_of_takesWrite x htakes]
  simp only [State.regWrite, if_neg hunl, if_neg hcasc, hacts, Option.getD_some, hR]

/-- A write of UNL_REQ that the path makes does its action and ends the write. -/
theorem unlReq_of_takesWrite {E : State} (htakes : s.takesWrite p 0x47 v) (hE : ((s.beginWrite x).unlReq p v).2 = E) :
    unlReq p v x s = E.endWrite.2 :=
  (act_of_takesWrite x htakes).trans (congrArg (fun t : State => t.endWrite.2) hE)

/-- The debug control registers of the eight sequencers. -/
theorem regActs_seqDbg {n : Nat} (hn : n < 8) : s.regActs p (0x2041 + 128 * n) v x = some (s.seqDbg n v x.seq) := by
  interval_cases n <;> rfl

/-- The debug data registers of the eight sequencers. -/
theorem regActs_dbgWrite {n : Nat} (hn : n < 8) :
    s.regActs p (0x2045 + 128 * n) v x = some (s.dbgWrite n (s.get ⟨0x2044 + 128 * n, 0, 5⟩ (pathNum p)) v) := by
  interval_cases n <;> rfl

/-- The sixteen owner limit registers. -/
theorem regActs_ownLimit {k : Nat} (hk : k < 16) : s.regActs p (0xC40 + k) v x = some (s.ownLimitWrite k v) := by
  interval_cases k <;> rfl

/-- A write of one debug control register that the path makes. -/
theorem act_seqDbg {n : Nat} {E : State} (hn : n < 8) (hc : c = true) (htakes : s.takesWrite p (0x2041 + 128 * n) v)
    (hE : (s.beginWrite x).seqDbg n v x.seq = E) : s.act c p (0x2041 + 128 * n) v x = E.endWrite.2 :=
  act_of_regActs hc htakes (by omega) (by omega) (regActs_seqDbg hn) hE

/-! ### The actions -/

theorem State.rstCtl_soft (hkey : bits v.toNat 24 8 = 0xC3) (hsoft : bit v.toNat 0 = true) :
    s.rstCtl v = (if bit v.toNat 1 then (s.writePair rmvRecord rmvOk (natLE 4 (bits (s.reg 0xCC).toNat 0 9))).2 else s).orderlyStart .soft :=
  (if_neg (not_not.mpr hkey)).trans (if_pos hsoft)

theorem State.rstCtl_save (hkey : bits v.toNat 24 8 = 0xC3) (hsave : bit v.toNat 1 = true) (hsoft : bit v.toNat 0 = false) :
    s.rstCtl v = (s.writePair rmvRecord rmvOk (natLE 4 (bits (s.reg 0xCC).toNat 0 9))).2 := by
  refine (if_neg (not_not.mpr hkey)).trans ?_
  simp only [hsave, hsoft, Bool.false_eq_true, if_true, if_false]

/-- A right key for a group that is not locked down, within eight failed attempts, opens the group (R119). -/
theorem State.unlock_of_key {b key : Nat} (hopen : bit b 7 = false) (hgroup : bits b 0 7 ≤ 0x0D) (hfails : (s.lockOf p).fails < 8)
    (hdown : bit s.lockedDown (bits b 0 7) = false) (hkey : key = unlockKey (bits b 0 7)) :
    (s.unlock p b key).2
      = s.setLock p { s.lockOf p with openGroups := putBits (s.lockOf p).openGroups (bits b 0 7) 1 1, fails := 0 } := by
  have hgo : ¬ (8 ≤ (s.lockOf p).fails ∨ bit s.lockedDown (bits b 0 7) = true) := by simp [hfails, hdown]
  simp only [State.unlock, hopen, Bool.false_eq_true, if_false, if_neg (Nat.not_lt.mpr hgroup), if_neg hgo, if_pos hkey]

/-- Attempts to unlock count on every path but those of the supervisor and the TAP. -/
theorem not_freePath (hsvc : p ≠ .svc) (htap : p ≠ .tap) : ¬ (p = .svc ∨ p = .tap) := not_or.mpr ⟨hsvc, htap⟩

/-- The key, the group and the action of CMT_CTL are legal. -/
theorem not_cmtCtl_bad (hkey : bits v.toNat 24 8 = 0x3C) (hgroup : bits v.toNat 0 5 < 0x0F)
    (hact : bits v.toNat 8 2 = 1 ∨ bits v.toNat 8 2 = 2) :
    ¬ (bits v.toNat 24 8 ≠ 0x3C ∨ 0x0F ≤ bits v.toNat 0 5 ∨ bits v.toNat 8 2 = 0 ∨ bits v.toNat 8 2 = 3) := by
  omega

theorem State.cmtCtl_commit (hkey : bits v.toNat 24 8 = 0x3C) (hgroup : bits v.toNat 0 5 < 0x0F) (hact : bits v.toNat 8 2 = 1)
    (hidle : s.commitPending (bits v.toNat 0 5) = false) : s.cmtCtl v = s.commitRequest (bits v.toNat 0 5) :=
  (if_neg (not_cmtCtl_bad hkey hgroup (.inl hact))).trans ((if_pos hact).trans (if_neg (by simp [hidle])))

theorem State.cmtCtl_discard (hkey : bits v.toNat 24 8 = 0x3C) (hgroup : bits v.toNat 0 5 < 0x0F) (hact : bits v.toNat 8 2 = 2) :
    s.cmtCtl v = (s.unstage (s.groupKeys (bits v.toNat 0 5))).commitEnd (bits v.toNat 0 5) 3 :=
  (if_neg (not_cmtCtl_bad hkey hgroup (.inr hact))).trans (if_neg (by omega))

/-- QP_CTL with its key does the action of its code. -/
theorem State.qpCtl_of_code (hkey : bits v.toNat 24 8 = 0x71) :
    (bits v.toNat 0 3 = 1 → s.qpCtl p v = s.qpCreate p) ∧ (bits v.toNat 0 3 = 2 → s.qpCtl p v = s.qpDelete p)
      ∧ (bits v.toNat 0 3 = 3 → s.qpCtl p v = s.qpSetPrio p) ∧ (bits v.toNat 0 3 = 4 → s.qpCtl p v = s.qpBind p) := by
  refine ⟨?_, ?_, ?_, ?_⟩ <;>
  · intro hact
    simp only [State.qpCtl, hkey, hact, ne_eq, not_true_eq_false, if_false]

/-- A pair with legal fields, while slots are left, is created (R182). -/
theorem State.qpCreate_of_legal {q : Qp} (hq : q = s.newQp (s.selQp p) true) (habsent : (s.qp (s.selQp p)).st = .absent)
    (hsq : 1 ≤ q.sqLog2 ∧ q.sqLog2 ≤ 8) (hcq : 1 ≤ q.cqLog2 ∧ q.cqLog2 ≤ 12) (hvec : q.vec ≠ 0)
    (hbase : s.pcieMode = true → q.base ≠ 0) (hdev : q.dev ≠ 0 → s.joined q.dev = true)
    (hslots : s.slotsUsed + q.sqDepth ≤ 4096) :
    s.qpCreate p = (s.setQp (s.selQp p) (s.newQp (s.selQp p) true)).qpResult p 1 := by
  subst hq
  have hlegal : ¬ ((s.newQp (s.selQp p) true).sqLog2 < 1 ∨ 8 < (s.newQp (s.selQp p) true).sqLog2
      ∨ (s.newQp (s.selQp p) true).cqLog2 < 1 ∨ 12 < (s.newQp (s.selQp p) true).cqLog2 ∨ (s.newQp (s.selQp p) true).vec = 0
      ∨ (s.pcieMode = true ∧ (s.newQp (s.selQp p) true).base = 0)
      ∨ ((s.newQp (s.selQp p) true).dev ≠ 0 ∧ s.joined (s.newQp (s.selQp p) true).dev = false)) := by
    rintro (h | h | h | h | h | ⟨hmode, h⟩ | ⟨hmember, h⟩)
    · omega
    · omega
    · omega
    · omega
    · exact hvec h
    · exact hbase hmode h
    · exact Bool.false_ne_true (h.symm.trans (hdev hmember))
  exact (if_neg (not_not.mpr habsent)).trans ((if_neg hlegal).trans (if_neg (Nat.not_lt.mpr hslots)))

theorem State.idlClrWrite_of_listed (hkey : bits v.toNat 24 8 = 0x69)
    (hlisted : bit v.toNat 8 = true ∨ bits v.toNat 0 8 < s.get F.IDL_STAT_COUNT) :
    s.idlClrWrite v = s.idlReplace (if bit v.toNat 8 then [] else s.idlList.eraseIdx (bits v.toNat 0 8)) := by
  refine (if_neg (not_not.mpr hkey)).trans ?_
  by_cases hall : bit v.toNat 8 = true
  · rw [if_pos hall, if_pos hall]
  · rw [if_neg hall, if_neg hall]
    exact if_neg (Nat.not_le.mpr (hlisted.resolve_left hall))

/-- Both limits legal, each is stored. -/
theorem State.ownLimitWrite_of_legal {k : Nat} (hodd : bits v.toNat 16 12 ≤ 0x800) (heven : bits v.toNat 0 12 ≤ 0x800) :
    s.ownLimitWrite k v
      = ((s.set (F.OWN_LIMIT_ODD k) (bits v.toNat 16 12)).set (F.OWN_LIMIT_EVEN k) (bits v.toNat 0 12)).hmpExamine := by
  simp only [State.ownLimitWrite, if_pos hodd, if_pos heven]

/-- HMP_CTL with its key does the action of its code. -/
theorem State.hmpCtl_of_code (hkey : bits v.toNat 24 8 = 0x48) :
    (bits v.toNat 8 2 = 1 → 4 ≤ bits v.toNat 0 5 → bits v.toNat 0 5 ≤ 0x0D → s.hmpCtl v = s.hmpReleaseOwner (bits v.toNat 0 5))
      ∧ (bits v.toNat 8 2 = 2 → s.hmpCtl v = s.hmpScan) ∧ (bits v.toNat 8 2 = 3 → s.hmpCtl v = s.hmpReclaim) := by
  refine ⟨fun hact hlo hhi => ?_, fun hact => ?_, fun hact => ?_⟩
  · simp only [State.hmpCtl, hkey, hact, ne_eq, not_true_eq_false, if_false, if_pos (And.intro hlo hhi)]
  · simp only [State.hmpCtl, hkey, hact, ne_eq, not_true_eq_false, if_false]
  · simp only [State.hmpCtl, hkey, hact, ne_eq, not_true_eq_false, if_false]

/-- RATION_CTL with its key does the action of its code. -/
theorem State.rationCtl_of_code {means : List (Nat × (Nat × Nat))} (hkey : bits v.toNat 24 8 = 0xD2) :
    (bits v.toNat 0 2 = 1 → s.rationCtl v means = s.rationSave) ∧ (bits v.toNat 0 2 = 2 → s.rationCtl v means = s.costDefaults)
      ∧ (bits v.toNat 0 2 = 3 → s.rationCtl v means = s.rationCalibrate (bits v.toNat 12 4) means) := by
  refine ⟨?_, ?_, ?_⟩ <;>
  · intro hact
    simp only [State.rationCtl, hkey, hact, ne_eq, not_true_eq_false, if_false]

/-- CAL_CTL with its key, while no action of the path runs, does the action of its code. -/
theorem State.calCtl_of_code {o : List PsOutcome} (hkey : bits v.toNat 24 8 = 0xCA) (hidle : s.get F.CAL_RES_BUSY (pathNum p) = 0) :
    (bits v.toNat 0 3 = 1 → s.calCtl p v o = (s.calSave o).2.calResult (pathNum p) (s.calSave o).1 false)
      ∧ (bits v.toNat 0 3 = 2 → s.calCtl p v o = s.calRetrain p (bits v.toNat 16 8))
      ∧ (bits v.toNat 0 3 = 3 → s.calCtl p v o = s.calImport p o)
      ∧ (bits v.toNat 0 3 = 4 → s.calCtl p v o
        = ((setBits (bits v.toNat 16 8) 8).foldl (fun (s : State) n => s.set (F.CAL_CH_HOST_SET n) 0) s).calResult (pathNum p) 1 false) := by
  refine ⟨?_, ?_, ?_, ?_⟩ <;>
  · intro hact
    have hgo : ¬ (bits v.toNat 24 8 ≠ 0xCA ∨ bits v.toNat 0 3 = 0 ∨ 5 ≤ bits v.toNat 0 3) := by omega
    refine (if_neg hgo).trans ((if_neg (by omega)).trans ?_)
    simp only [hact, Nat.reduceEqDiff, if_true, if_false]

/-- In READY, with no channel in training and none stale, the snapshot is written (R479). -/
theorem State.calSave_of_ready {o : List PsOutcome} (hst : s.st = stReady)
    (htraining : s.chans.any (fun c => c.2.training) = false) (hstale : s.anyStale = false) :
    (s.calSave o).2.calResult (pathNum p) (s.calSave o).1 false
      = (let r := (s.withPs o).snapWrite (s.get F.SVI_MAN_0_CAL_LEVEL) s.snapBody
         if r.1 then (r.2.set F.CAL_EVT_SAVED 1).calResult (pathNum p) 1 false
         else (r.2.set F.CAL_EVT_SAVE_FAIL 1).calResult (pathNum p) 6 false) := by
  have hsave : s.calSave o = (let r := (s.withPs o).snapWrite (s.get F.SVI_MAN_0_CAL_LEVEL) s.snapBody
      if r.1 then (1, r.2.set F.CAL_EVT_SAVED 1) else (6, r.2.set F.CAL_EVT_SAVE_FAIL 1)) :=
    (if_neg (not_not.mpr hst)).trans (if_neg (by simp [htraining, hstale]))
  rw [hsave]
  dsimp only
  split <;> rfl

/-- A running sequencer that is not halted is halted, after the instruction it has issued (R335). -/
theorem State.seqDbg_halt {n : Nat} {i : SeqIn} (hkey : bits v.toNat 24 8 = 0xD6) (hact : bits v.toNat 0 2 = 1)
    (hst : (s.sq n).st = 1 ∨ (s.sq n).st = 2) (hruns : (s.sq n).halted = false) (hstop : s.seqStop = false) :
    s.seqDbg n v i = (if (s.sq n).issued then s.setSq n { s.sq n with haltReq := true } else s.haltSeq n) :=
  (if_neg (by omega)).trans ((if_pos hact).trans (if_pos ⟨hst, hruns, hstop⟩))

theorem State.seqDbg_resume {n : Nat} {i : SeqIn} (hkey : bits v.toNat 24 8 = 0xD6) (hact : bits v.toNat 0 2 = 2)
    (hhalted : (s.sq n).halted = true) :
    s.seqDbg n v i = ((s.setSq n { s.sq n with halted := false, noBreak := true }).wdFreeze (n + 1) false).chPump n :=
  (if_neg (by omega)).trans ((if_neg (by omega)).trans ((if_pos hact).trans (if_pos hhalted)))

theorem State.seqDbg_step {n : Nat} {i : SeqIn} (hkey : bits v.toNat 24 8 = 0xD6) (hact : bits v.toNat 0 2 = 3)
    (hhalted : (s.sq n).halted = true) (hstop : s.seqStop = false) : s.seqDbg n v i = s.seqStep n i :=
  (if_neg (by omega)).trans ((if_neg (by omega)).trans ((if_neg (by omega)).trans (if_pos ⟨hhalted, hstop⟩)))

theorem State.dbgWrite_v {n r : Nat} (hhalted : (s.sq n).halted = true) (hr : r < 16) : s.dbgWrite n r v = s.setV n r v :=
  (if_neg (by simp [hhalted])).trans (if_pos hr)

end

/-- Settles O51. -/
theorem registerActionRowsTakeEffectFirstHalf : Obligations.RegisterActionRowsTakeEffectFirstHalf := by
  refine ⟨?soft, ?saveRmv, ?faultStat, ?unlReq, ?unlKey, ?accLock, ?commit, ?discard, ?image, ?epoch, ?boot,
    ?qpCreate, ?qpDelete, ?qpPrio, ?qpBind, ?idlClr, ?logInject, ?fqInject, ?fqWm, ?hmpThr, ?ownLimit, ?hmpRelease, ?hmpScan,
    ?hmpFree, ?rationSave, ?rationDefaults, ?calibrate, ?calSave, ?calRetrain, ?calImport, ?clearHost, ?dbgHalt, ?dbgResume,
    ?dbgStep, ?dbgWrite⟩
  case soft =>
    intro p v x s hkey hsoft hlive hst hrmv htakes
    exact exec_of_row rfl (act_of_regActs hsoft htakes (by decide) (by decide) rfl (State.rstCtl_soft hkey hsoft))
  case saveRmv =>
    intro p v x s hkey hsave hsoft htakes
    exact exec_of_row rfl (act_of_regActs hsave htakes (by decide) (by decide) rfl (State.rstCtl_save hkey hsave hsoft))
  case faultStat =>
    intro p v x s hclear htakes
    exact exec_of_row rfl (act_of_regActs hclear htakes (by decide) (by decide) rfl (if_pos hclear))
  case unlReq =>
    intro p v x s hsvc htap hopen hgroup hfails hdown hkey htakes
    refine exec_of_row rfl (unlReq_of_takesWrite htakes ?_)
    simp only [State.unlReq, if_neg (not_freePath hsvc htap)]
    rw [State.unlock_of_key (s := s.beginWrite x) (key := ((s.beginWrite x).lockOf p).key) hopen hgroup hfails hdown hkey]
  case unlKey =>
    intro p v x s hsvc htap htakes
    exact exec_of_row rfl (act_of_regActs rfl htakes (by decide) (by decide) rfl (if_neg (not_freePath hsvc htap)))
  case accLock =>
    intro p v x s hkey htakes
    exact exec_of_row rfl (act_of_regActs rfl htakes (by decide) (by decide) rfl (if_neg (not_not.mpr hkey)))
  case commit =>
    intro p v x s hkey hgroup hact hidle htakes
    exact exec_of_row rfl (act_of_regActs (beq_iff_eq.mpr hact) htakes (by decide) (by decide) rfl
      (State.cmtCtl_commit hkey hgroup hact hidle))
  case discard =>
    intro p v x s hkey hgroup hact htakes
    exact exec_of_row rfl (act_of_regActs (beq_iff_eq.mpr hact) htakes (by decide) (by decide) rfl
      (State.cmtCtl_discard hkey hgroup hact))
  case image =>
    intro p v x s hkey htakes
    exact exec_of_row rfl (act_of_regActs rfl htakes (by decide) (by decide) rfl (if_neg (not_not.mpr hkey)))
  case epoch =>
    intro p v x s hkey hraise htakes
    exact exec_of_row rfl (act_of_regActs rfl htakes (by decide) (by decide) rfl (if_neg (not_not.mpr hkey)))
  case boot =>
    intro p v x s htakes
    exact exec_of_row rfl (act_of_regActs rfl htakes (by decide) (by decide) rfl rfl)
  case qpCreate =>
    intro p v x s hkey hact habsent hsqLo hsqHi hcqLo hcqHi hvec hbase hdev hslots htakes
    obtain ⟨hcreate, -⟩ := State.qpCtl_of_code (s := s.beginWrite x) (p := p) hkey
    exact exec_of_row rfl (act_of_regActs (beq_iff_eq.mpr hact) htakes (by decide) (by decide) rfl ((hcreate hact).trans
      (State.qpCreate_of_legal rfl habsent ⟨hsqLo, hsqHi⟩ ⟨hcqLo, hcqHi⟩ hvec hbase hdev hslots)))
  case qpDelete =>
    intro p v x s hkey hact hzero hpresent htakes
    obtain ⟨-, hdelete, -⟩ := State.qpCtl_of_code (s := s.beginWrite x) (p := p) hkey
    exact exec_of_row rfl (act_of_regActs (beq_iff_eq.mpr hact) htakes (by decide) (by decide) rfl ((hdelete hact).trans
      ((if_neg hzero).trans (if_neg hpresent))))
  case qpPrio =>
    intro p v x s hkey hact hpresent htakes
    obtain ⟨-, -, hprio, -⟩ := State.qpCtl_of_code (s := s.beginWrite x) (p := p) hkey
    exact exec_of_row rfl (act_of_regActs (beq_iff_eq.mpr hact) htakes (by decide) (by decide) rfl ((hprio hact).trans
      (if_neg hpresent)))
  case qpBind =>
    intro p v x s hkey hact hpresent hfree hbase htakes
    obtain ⟨-, -, -, hbind⟩ := State.qpCtl_of_code (s := s.beginWrite x) (p := p) hkey
    exact exec_of_row rfl (act_of_regActs (beq_iff_eq.mpr hact) htakes (by decide) (by decide) rfl ((hbind hact).trans
      ((if_neg hpresent).trans ((if_neg (Bool.eq_false_iff.mp hfree)).trans (if_neg hbase)))))
  case idlClr =>
    intro p v x s hkey hlisted htakes
    exact exec_of_row rfl (act_of_regActs rfl htakes (by decide) (by decide) rfl (State.idlClrWrite_of_listed hkey hlisted))
  case logInject =>
    intro p v x s hkey hset hlog htakes
    have hgo : (bit v.toNat 0 && !(s.beginWrite x).log.degraded) = true :=
      Bool.and_eq_true_iff.mpr ⟨hset, congrArg (!·) hlog⟩
    exact exec_of_row rfl (act_of_regActs rfl htakes (by decide) (by decide) rfl ((if_neg (not_not.mpr hkey)).trans (if_pos hgo)))
  case fqInject =>
    intro p v x s hkey hq htakes
    have hgo : ¬ (bits v.toNat 24 8 ≠ 0x3A ∨ 48 ≤ bits v.toNat 0 6) := by omega
    exact exec_of_row rfl (act_of_regActs rfl htakes (by decide) (by decide) rfl (if_neg hgo))
  case fqWm =>
    intro p v x s hpos hcap hlow htakes
    exact exec_of_row rfl (act_of_regActs rfl htakes (by decide) (by decide) rfl (if_pos ⟨hpos, hcap, hlow⟩))
  case hmpThr =>
    intro p v x s hpos hlow hhi htakes
    exact exec_of_row rfl (act_of_regActs rfl htakes (by decide) (by decide) rfl (if_pos ⟨hpos, hlow, hhi⟩))
  case ownLimit =>
    intro p k v x s hk hodd heven htakes
    exact exec_of_row rfl (act_of_regActs (decide_eq_true hk) htakes (by omega) (by omega) (regActs_ownLimit hk)
      (State.ownLimitWrite_of_legal hodd heven))
  case hmpRelease =>
    intro p v x s hkey hact hlo hhi htakes
    obtain ⟨hrelease, -⟩ := State.hmpCtl_of_code (s := s.beginWrite x) hkey
    exact exec_of_row rfl (act_of_regActs (beq_iff_eq.mpr hact) htakes (by decide) (by decide) rfl (hrelease hact hlo hhi))
  case hmpScan =>
    intro p v x s hkey hact htakes
    obtain ⟨-, hscan, -⟩ := State.hmpCtl_of_code (s := s.beginWrite x) hkey
    exact exec_of_row rfl (act_of_regActs (beq_iff_eq.mpr hact) htakes (by decide) (by decide) rfl (hscan hact))
  case hmpFree =>
    intro p v x s hkey hact htakes
    obtain ⟨-, -, hfree⟩ := State.hmpCtl_of_code (s := s.beginWrite x) hkey
    exact exec_of_row rfl (act_of_regActs (beq_iff_eq.mpr hact) htakes (by decide) (by decide) rfl (hfree hact))
  case rationSave =>
    intro p v x s hkey hact htakes
    obtain ⟨hsave, -⟩ := State.rationCtl_of_code (s := s.beginWrite x) (means := x.means) hkey
    exact exec_of_row rfl (act_of_regActs (beq_iff_eq.mpr hact) htakes (by decide) (by decide) rfl (hsave hact))
  case rationDefaults =>
    intro p v x s hkey hact htakes
    obtain ⟨-, hdefaults, -⟩ := State.rationCtl_of_code (s := s.beginWrite x) (means := x.means) hkey
    exact exec_of_row rfl (act_of_regActs (beq_iff_eq.mpr hact) htakes (by decide) (by decide) rfl (hdefaults hact))
  case calibrate =>
    intro p v x s hkey hact hisns hon hdie hcls hregion hidle htakes
    obtain ⟨-, -, hcal⟩ := State.rationCtl_of_code (s := s.beginWrite x) (means := x.means) hkey
    exact exec_of_row rfl (act_of_regActs (beq_iff_eq.mpr hact) htakes (by decide) (by decide) rfl (hcal hact))
  case calSave =>
    intro p v x s hkey hact hidle hst htraining hstale htakes
    obtain ⟨hsave, -⟩ := State.calCtl_of_code (s := s.beginWrite x) (o := x.ps) hkey hidle
    exact exec_of_row rfl (act_of_regActs (beq_iff_eq.mpr hact) htakes (by decide) (by decide) rfl ((hsave hact).trans
      (State.calSave_of_ready hst htraining hstale)))
  case calRetrain =>
    intro p v x s hkey hact hidle htakes
    obtain ⟨-, hretrain, -⟩ := State.calCtl_of_code (s := s.beginWrite x) (o := x.ps) hkey hidle
    exact exec_of_row rfl (act_of_regActs (beq_iff_eq.mpr hact) htakes (by decide) (by decide) rfl (hretrain hact))
  case calImport =>
    intro p v x s hkey hact hidle hok hlevel hlen huid htakes
    obtain ⟨-, -, himport, -⟩ := State.calCtl_of_code (s := s.beginWrite x) (o := x.ps) hkey hidle
    exact exec_of_row rfl (act_of_regActs (beq_iff_eq.mpr hact) htakes (by decide) (by decide) rfl (himport hact))
  case clearHost =>
    intro p v x s hkey hact hidle htakes
    obtain ⟨-, -, -, hclear⟩ := State.calCtl_of_code (s := s.beginWrite x) (o := x.ps) hkey hidle
    exact exec_of_row rfl (act_of_regActs (beq_iff_eq.mpr hact) htakes (by decide) (by decide) rfl (hclear hact))
  case dbgHalt =>
    intro p n v x s hn hkey hact hst hruns hstop htakes
    exact exec_of_row rfl (act_seqDbg hn (by simp [hn, hact]) htakes (State.seqDbg_halt hkey hact hst hruns hstop))
  case dbgResume =>
    intro p n v x s hn hkey hact hhalted htakes
    exact exec_of_row rfl (act_seqDbg hn (by simp [hn, hact]) htakes (State.seqDbg_resume hkey hact hhalted))
  case dbgStep =>
    intro p n v x s hn hkey hact hhalted hstop htakes
    exact exec_of_row rfl (act_seqDbg hn (by simp [hn, hact]) htakes (State.seqDbg_step hkey hact hhalted hstop))
  case dbgWrite =>
    intro p n v x s hn hhalted hsel htakes
    exact exec_of_row rfl (act_of_regActs (decide_eq_true hn) htakes (by omega) (by omega) (regActs_dbgWrite hn)
      (State.dbgWrite_v hhalted hsel))

end Sys2Proof.Machine
end

section
/-!
PROOFS. Register writes with an action of their own: codec, map, streams, dictionaries, protection, eNOR, OTP, PS, events,
watchdogs, patterns, self-test and the cascade; plain registers.
-/

namespace Sys2Proof.Machine

section
variable {s : State} {p : Path} {a : Nat} {v : Word} {x : RegIn} {c : Bool}

/-- A write of CASC_CTL that the path makes does its action and ends the write. -/
theorem act_cascCtl {E : State} (hc : c = true) (htakes : s.takesWrite p 0x3204 v) (hE : (s.beginWrite x).cascCtlWrite v = E) :
    s.act c p 0x3204 v x = E.endWrite.2 := by
  subst hc
  exact (act_of_takesWrite x htakes).trans (congrArg (fun t : State => t.endWrite.2) hE)

/-- The twelve registers that clear pending sources. -/
theorem regActs_evrClear {k : Nat} (hk : k < 12) : s.regActs p (0x240 + k) v x = some (s.evrClear k v) := by
  interval_cases k <;> rfl

/-- The configuration registers of the 384 sources. -/
theorem regActs_evrCfg {n : Nat} (hn : n < 384) : s.regActs p (0x280 + n) v x = some (s.evrCfg n v) := by
  simp (disch := omega) only [State.regActs, if_pos, if_neg, Nat.add_sub_cancel_left]

/-- A write of PROT_CTL closes the lock groups that it locks down. -/
theorem act_protCtl {E : State} (hc : c = true) (htakes : s.takesWrite p 0x2B02 v) (hE : (s.beginWrite x).protCtl v x.rng = E) :
    s.act c p 0x2B02 v x = E.closeLocked.endWrite.2 :=
  act_of_regActs hc htakes (by decide) (by decide) rfl (congrArg State.closeLocked hE)

/-- A write of OTP_CTL closes the lock groups that it locks down. -/
theorem act_otpCtl {E : State} (hc : c = true) (htakes : s.takesWrite p 0x2D83 v) (hE : (s.beginWrite x).otpCtlWrite p v = E) :
    s.act c p 0x2D83 v x = E.closeLocked.endWrite.2 :=
  act_of_regActs hc htakes (by decide) (by decide) rfl (congrArg State.closeLocked hE)

/-- A write of NOR_CTL that the path makes. -/
theorem act_norCtl {E : State} (hc : c = true) (htakes : s.takesWrite p 0x2D49 v) (hE : (s.beginWrite x).norCtlWrite p v = E) :
    s.act c p 0x2D49 v x = E.endWrite.2 :=
  act_of_regActs hc htakes (by decide) (by decide) rfl hE

/-! ### The actions -/

/-- CODEC_CTL with its key does the action of its code. -/
theorem State.codecCtl_of_code (hkey : bits v.toNat 24 8 = 0x6C) :
    (bits v.toNat 0 2 = 1 → s.codecCtl v = (s.writePair codecRecord codecOk s.codecBody).2)
      ∧ (bits v.toNat 0 2 = 2 → s.port.pend.any (fun c => c.1 == 0x0A) = false →
        s.codecCtl v = s.codecDefaultRegs.foldl (fun (s : State) c => s.setStaged c.1 c.2) s)
      ∧ (bits v.toNat 0 2 = 3 → s.codecCtl v = s.clearLearn) := by
  refine ⟨fun hact => ?_, fun hact hidle => ?_, fun hact => ?_⟩
  · simp only [State.codecCtl, hkey, hact, ne_eq, not_true_eq_false, if_false]
  · simp only [State.codecCtl, hkey, hact, hidle, Bool.false_eq_true, ne_eq, not_true_eq_false, if_false]
  · simp only [State.codecCtl, hkey, hact, ne_eq, not_true_eq_false, if_false]

/-- MAP_CTL with its key does the action of its code. -/
theorem State.mapCtl_of_code (hkey : bits v.toNat 24 8 = 0x4D) :
    (bits v.toNat 8 3 = 1 → s.mapCtl v = (s.writePair volRecord volOk s.volBody).2)
      ∧ (bits v.toNat 8 3 = 2 → s.mapCtl v = s.dropPages (fun c => !c.dirty && (bit v.toNat 7 || c.vol == bits v.toNat 0 4)))
      ∧ (bits v.toNat 8 3 = 3 → s.inBuild (bits v.toNat 0 4) = true →
        s.mapCtl v = ((s.dropPages (fun c => c.vol == bits v.toNat 0 4)).nextGroupWrite (bits v.toNat 0 4) 0).2) := by
  refine ⟨fun hact => ?_, fun hact => ?_, fun hact hbuild => ?_⟩
  · simp only [State.mapCtl, hkey, hact, ne_eq, not_true_eq_false, if_false]
  · simp only [State.mapCtl, hkey, hact, ne_eq, not_true_eq_false, if_false]
  · simp only [State.mapCtl, hkey, hact, hbuild, ne_eq, not_true_eq_false, if_true, if_false]

/-- STR_CTL with its key does the action of its code. -/
theorem State.strCtl_of_code (hkey : bits v.toNat 24 8 = 0x5B) :
    (bits v.toNat 8 2 = 1 → s.strCtl p v = s.streamClosed (s.get F.STR_SEL_STREAM (pathNum p)))
      ∧ (bits v.toNat 8 2 = 2 → s.strCtl p v = s.closeStreams (fun _ => true)) := by
  refine ⟨?_, ?_⟩ <;>
  · intro hact
    simp only [State.strCtl, hkey, hact, ne_eq, not_true_eq_false, if_false]

/-- PROT_CTL with its key does the action of its code. -/
theorem State.protCtl_of_code {ok : Bool} (hkey : bits v.toNat 24 8 = 0xB7) :
    (bits v.toNat 0 3 = 1 → s.protCtl v ok = s.protProvision ok) ∧ (bits v.toNat 0 3 = 2 → s.protCtl v ok = s.protWrap)
      ∧ (bits v.toNat 0 3 = 3 → s.protCtl v ok = s.protSeal) ∧ (bits v.toNat 0 3 = 4 → s.protCtl v ok = s.keyClear.protResult 1)
      ∧ (bits v.toNat 0 3 = 5 → s.protCtl v ok = s.sessionsClose.protResult 1) := by
  refine ⟨?_, ?_, ?_, ?_, ?_⟩ <;>
  · intro hact
    simp only [State.protCtl, hkey, hact, ne_eq, not_true_eq_false, if_false]

/-- A provisioned part with a root, whole maps and both tables saved is sealed (R437). -/
theorem State.protSeal_of_ready (hlife : s.lifecycle = 2) (hroot : allZero s.rootHash = false)
    (hbuild : (List.range 16).any s.inBuild = false) (hclean : s.map.pages.any (fun c => c.dirty) = false)
    (hmap : s.get F.MAP_TBL_SRC = 1) (hcodec : s.get F.CODEC_TBL_SRC = 1) :
    s.protSeal = (let r := s.otpProgramBytes 6 0 [4]; if r.1 ≠ 1 then r.2.protResult 7 else (r.2.protEvent 5 0).protResult 1) :=
  (if_neg (not_not.mpr hlife)).trans ((if_neg (Bool.eq_false_iff.mp hroot)).trans
    ((if_neg (not_or.mpr ⟨Bool.eq_false_iff.mp hbuild, Bool.eq_false_iff.mp hclean⟩)).trans
      (if_neg (not_or.mpr ⟨not_not.mpr hmap, not_not.mpr hcodec⟩))))

/-- NOR_CTL with its key, an idle window and a sector where the action names one does the action. -/
theorem State.norCtlWrite_of_code {act : Nat} (hkey : bits v.toNat 24 8 = 0x9E) (hact : bits v.toNat 0 4 = act)
    (hlisted : 1 ≤ act ∧ act ≤ 7) (hidle : s.get F.NOR_RES_BUSY (pathNum p) = 0)
    (hsector : act = 3 ∨ act = 4 ∨ act = 5 → sectorCode (bits v.toNat 16 8) = true) :
    s.norCtlWrite p v = s.norAction p (bits v.toNat 16 8) act := by
  subst hact
  refine if_neg ?_
  rintro (h | h | h | h | ⟨hnames, h⟩)
  · exact h hkey
  · omega
  · omega
  · omega
  · exact Bool.false_ne_true (h.symm.trans (hsector hnames))

/-- NOR_CTL's programs and erases take their place in the queue, unless the state bars them (R443, R445). -/
theorem State.norAction_submits {sector : Nat} (hfree : s.nvBarred = none) :
    (s.norAction p sector 1 = ((s.clearPass (pathNum p)).set F.NOR_RES_BUSY 1 (pathNum p)).norSubmit
        { origin := .path p
          erase := false
          words := [(s.get F.NOR_ADDR_ADDR (pathNum p) * 8,
            s.get F.NOR_WDATA_LO_DATA (pathNum p) + s.get F.NOR_WDATA_HI_DATA (pathNum p) * 2 ^ 32)]
          clear := false
          pass := s.norPass (pathNum p) })
      ∧ (s.norAction p sector 2 = ((s.clearPass (pathNum p)).set F.NOR_RES_BUSY 1 (pathNum p)).norSubmit
        { origin := .path p
          erase := false
          words := [(s.get F.NOR_ADDR_ADDR (pathNum p) * 8,
            s.get F.NOR_WDATA_LO_DATA (pathNum p) + s.get F.NOR_WDATA_HI_DATA (pathNum p) * 2 ^ 32)]
          clear := true
          pass := s.norPass (pathNum p) })
      ∧ (s.norAction p sector 3 = ((s.clearPass (pathNum p)).set F.NOR_RES_BUSY 1 (pathNum p)).norSubmit
        { origin := .path p, erase := true, sector, pass := s.norPass (pathNum p) }) := by
  refine ⟨?_, ?_, ?_⟩
  · simp only [State.norAction, hfree, true_or, if_true]
    rfl
  · simp only [State.norAction, hfree, or_true, if_true]
    rfl
  · simp only [State.norAction, hfree, Nat.reduceEqDiff, or_self, if_true, if_false]

/-- NOR_CTL's protections end at once, unless the state bars them (R452, R453). -/
theorem State.norAction_protects {sector : Nat} (hfree : s.nvBarred = none) :
    (s.norAction p sector 4 = (({ s with keep := { s.keep with
          norWp := if s.keep.norWp.contains sector then s.keep.norWp else sector :: s.keep.norWp } } : State).clearPass
            (pathNum p)).norResult p 0 0)
      ∧ (s.norAction p sector 5 = (let r := s.norProtectAction (pathNum p) sector
          (r.2.clearPass (pathNum p)).norResult p r.1.1 r.1.2))
      ∧ (s.norAction p sector 6 = (let r := s.pwChange (pathNum p)
          (((List.range 4).foldl (fun (s : State) k => s.set (F.NOR_PW_NEW_DATA k) 0 (pathNum p)) r.2).clearPass
            (pathNum p)).norResult p r.1.1 r.1.2))
      ∧ (s.norAction p sector 7 = (let r := s.norRetire (pathNum p)
          (r.2.clearPass (pathNum p)).norResult p r.1.1 r.1.2)) := by
  refine ⟨?_, ?_, ?_, ?_⟩ <;>
  · simp only [State.norAction, hfree, Nat.reduceEqDiff, or_self, if_true, if_false]

/-- OTP_CTL with its key does the action of its code. -/
theorem State.otpCtlWrite_of_code (hkey : bits v.toNat 24 8 = 0xC5) :
    (bits v.toNat 0 2 = 1 → s.otpCtlWrite p v = s.otpProgram p) ∧ (bits v.toNat 0 2 = 2 → s.otpCtlWrite p v = s.otpLock p) := by
  refine ⟨?_, ?_⟩ <;>
  · intro hact
    simp only [State.otpCtlWrite, hkey, hact, ne_eq, not_true_eq_false, if_false]

/-- A slot of the control, not locked, is programmed while nothing bars the OTP row (R458). -/
theorem State.otpProgram_of_free (hfree : s.otpBarred = false) (hslot : otpCtlSlot (s.get F.OTP_SEL_SLOT (pathNum p)) = true)
    (hlock : s.otpLocked (s.get F.OTP_SEL_SLOT (pathNum p)) = false) :
    s.otpProgram p = (let r := s.otpProgramBytes (s.get F.OTP_SEL_SLOT (pathNum p)) (4 * s.get F.OTP_SEL_WORD (pathNum p)) (natLE 4
        (s.get F.OTP_WDATA_DATA (pathNum p)))
      r.2.otpResult p (if r.1 = 5 then 4 else r.1)) := by
  simp only [State.otpProgram, hfree, hslot, hlock, Bool.not_true, Bool.false_eq_true, if_false]

theorem State.psDataWrite_of_window (haddr : 0xE0000 ≤ s.get F.PS_ADDR_ADDR (pathNum p) * 4) :
    s.psDataWrite p v = ((s.psWrite (s.get F.PS_ADDR_ADDR (pathNum p) * 4) (natLE 4 v.toNat)).2).psAdvance (pathNum p) := by
  simp only [State.psDataWrite, if_pos haddr]

/-- The key, the target and the action of TP_CTL are legal. -/
theorem not_tpCtl_bad (hkey : bits v.toNat 24 8 = 0x7C) (htarget : patternTarget (bits v.toNat 16 8) = true)
    (hact : bits v.toNat 0 2 = 1 ∨ bits v.toNat 0 2 = 2) :
    ¬ (bits v.toNat 24 8 ≠ 0x7C ∨ patternTarget (bits v.toNat 16 8) = false ∨ bits v.toNat 0 2 = 0 ∨ bits v.toNat 0 2 = 3) := by
  rintro (h | h | h | h)
  · exact h hkey
  · exact Bool.false_ne_true (h.symm.trans htarget)
  · omega
  · omega

/-- A run starts on a target that no run holds and that is available, at a rate the state allows (R524). -/
theorem State.tpStart_of_free {t : Nat} {rx : List (List Bool)} (hidle : s.tpRun? t = none)
    (hfree : s.tpAvailable t (s.get F.TP_CFG_PATTERN t / 16) (p == .tap) = true)
    (hrate : 0x20 ≤ t → s.st = stLimited → s.get (F.CH_IF_RATE (t - 0x20)) ≤ 2) :
    s.tpStart p t rx = (s.tpBegin t (s.get F.TP_CFG_PATTERN t) (s.get F.TP_CFG_DUR_MS t * 1000) none).tpFeed t rx := by
  have hgo : ¬ ((s.tpRun? t).isSome = true ∨ s.tpAvailable t (s.get F.TP_CFG_PATTERN t / 16) (p == .tap) = false) := by
    simp [hidle, hfree]
  have hslow : ¬ (0x20 ≤ t ∧ s.st = stLimited ∧ 2 < s.get (F.CH_IF_RATE (t - 0x20))) :=
    fun ⟨hch, hst, hfast⟩ => Nat.not_lt.mpr (hrate hch hst) hfast
  exact (if_neg hgo).trans (if_neg hslow)

/-- The self-test starts from the service port while the part is in SERVICE_ONLY and no self-test runs (R529). -/
theorem State.bistCtl_runs (hkey : bits v.toNat 24 8 = 0xB1) (hrun : bit v.toNat 8 = true) (hst : s.st = stServiceOnly)
    (hidle : s.test.bist = none) :
    s.bistCtl .sp v = (let u := ((s.set F.BIST_STAT_CODE 0).set F.BIST_STAT_FAILED 0).set F.BIST_STAT_DONE 0
      { u with test := { u.test with bist := some { mask := bits v.toNat 0 8, start := s.clock } } }) := by
  have hbusy : ¬ s.test.bist.isSome = true := by simp [hidle]
  have hallowed : ¬ (!(s.st == stServiceOnly && Path.sp == .sp)) = true := by simp [hst]
  exact (if_neg (not_not.mpr hkey)).trans ((if_pos hrun).trans ((if_neg hbusy).trans (if_neg hallowed)))

/-- CASC_CTL of a master with its key resets one member, or all. -/
theorem State.cascCtlWrite_of_code (hkey : bits v.toNat 24 8 = 0xC7) (hrole : s.cascRole = 1) :
    (bits v.toNat 8 2 = 1 → bits v.toNat 0 2 ≠ 0 → s.cascCtlWrite v = s.resetOne (bits v.toNat 0 2))
      ∧ (bits v.toNat 8 2 = 2 → s.cascCtlWrite v = s.joinedMembers.foldl State.resetOne s) := by
  refine ⟨fun hact hmember => ?_, fun hact => ?_⟩
  · exact (if_neg (not_not.mpr hkey)).trans ((if_neg (by omega)).trans ((if_pos ⟨hact, hmember⟩).trans (if_pos hrole)))
  · exact (if_neg (not_not.mpr hkey)).trans ((if_pos hact).trans (if_pos hrole))

/-- A plain register of the tables, none of the Agilnu Link's under PCI Express, has its fields written. -/
theorem registerWrite_of_plain {d : RegDef} (hplain : s.plainReg p a v x = true) (htakes : s.takesWrite p a v)
    (hdef : regDef? a = some d) (hnolink : ¬ (s.pcieMode = true ∧ 0x600 ≤ a ∧ a < 0x800)) :
    registerWrite p a v x s
      = (d.fields.foldl (fun (t : State) f => t.fieldWrite a (s.winOf d.win p) v.toNat f) (s.beginWrite x)).endWrite.2 := by
  rw [registerWrite, hplain, act_of_takesWrite x htakes, regWrite_of_plain hplain]
  unfold State.regStore
  rw [hdef]
  exact congrArg (fun t : State => t.endWrite.2) (if_neg hnolink)

end

/-- Settles O52. -/
theorem registerActionRowsTakeEffectSecondHalf : Obligations.RegisterActionRowsTakeEffectSecondHalf := by
  refine ⟨?codecSave, ?codecDefaults, ?clearLearn, ?mapSave, ?invalidate, ?rebuild, ?closeOne, ?closeAll, ?infLoad,
    ?provision, ?wrap, ?sealing, ?keyClear, ?sesClose, ?norProgram, ?norProgramClear, ?norErase, ?norWp, ?norProtect, ?pwChange,
    ?retire, ?otpProgram, ?otpLock, ?psData, ?evrPost, ?evrClear, ?evrCfg, ?wdCtl, ?tpStart, ?tpStop, ?bist, ?resetMember,
    ?resetAll, ?plain, ?norRead⟩
  case codecSave =>
    intro p v x s hkey hact htakes
    obtain ⟨hsave, -⟩ := State.codecCtl_of_code (s := s.beginWrite x) hkey
    exact exec_of_row rfl (act_of_regActs (beq_iff_eq.mpr hact) htakes (by decide) (by decide) rfl (hsave hact))
  case codecDefaults =>
    intro p v x s hkey hact hidle htakes
    obtain ⟨-, hdefaults, -⟩ := State.codecCtl_of_code (s := s.beginWrite x) hkey
    exact exec_of_row rfl (act_of_regActs (beq_iff_eq.mpr hact) htakes (by decide) (by decide) rfl (hdefaults hact hidle))
  case clearLearn =>
    intro p v x s hkey hact htakes
    obtain ⟨-, -, hclear⟩ := State.codecCtl_of_code (s := s.beginWrite x) hkey
    exact exec_of_row rfl (act_of_regActs (beq_iff_eq.mpr hact) htakes (by decide) (by decide) rfl (hclear hact))
  case mapSave =>
    intro p v x s hkey hact htakes
    obtain ⟨hsave, -⟩ := State.mapCtl_of_code (s := s.beginWrite x) hkey
    exact exec_of_row rfl (act_of_regActs (beq_iff_eq.mpr hact) htakes (by decide) (by decide) rfl (hsave hact))
  case invalidate =>
    intro p v x s hkey hact htakes
    obtain ⟨-, hinvalidate, -⟩ := State.mapCtl_of_code (s := s.beginWrite x) hkey
    exact exec_of_row rfl (act_of_regActs (beq_iff_eq.mpr hact) htakes (by decide) (by decide) rfl (hinvalidate hact))
  case rebuild =>
    intro p v x s hkey hact hbuild htakes
    obtain ⟨-, -, hrebuild⟩ := State.mapCtl_of_code (s := s.beginWrite x) hkey
    exact exec_of_row rfl (act_of_regActs (beq_iff_eq.mpr hact) htakes (by decide) (by decide) rfl (hrebuild hact hbuild))
  case closeOne =>
    intro p v x s hkey hact htakes
    obtain ⟨hone, -⟩ := State.strCtl_of_code (s := s.beginWrite x) (p := p) hkey
    exact exec_of_row rfl (act_of_regActs (beq_iff_eq.mpr hact) htakes (by decide) (by decide) rfl (hone hact))
  case closeAll =>
    intro p v x s hkey hact htakes
    obtain ⟨-, hall⟩ := State.strCtl_of_code (s := s.beginWrite x) (p := p) hkey
    exact exec_of_row rfl (act_of_regActs (beq_iff_eq.mpr hact) htakes (by decide) (by decide) rfl (hall hact))
  case infLoad =>
    intro p v x s hkey hact htakes
    exact exec_of_row rfl (act_of_regActs (beq_iff_eq.mpr hact) htakes (by decide) (by decide) rfl (if_neg (by omega)))
  case provision =>
    intro p v x s hkey hact hlife hroot hrng htakes
    obtain ⟨hprovision, -⟩ := State.protCtl_of_code (s := s.beginWrite x) (ok := x.rng) hkey
    rw [← hrng]
    exact exec_of_row rfl (act_protCtl (beq_iff_eq.mpr hact) htakes (hprovision hact))
  case wrap =>
    intro p v x s hkey hact hlife hparts htakes
    obtain ⟨-, hwrap, -⟩ := State.protCtl_of_code (s := s.beginWrite x) (ok := x.rng) hkey
    exact exec_of_row rfl (act_protCtl (beq_iff_eq.mpr hact) htakes (hwrap hact))
  case sealing =>
    intro p v x s hkey hact hlife hroot hbuild hclean hmap hcodec htakes
    obtain ⟨-, -, hseal, -⟩ := State.protCtl_of_code (s := s.beginWrite x) (ok := x.rng) hkey
    exact exec_of_row rfl (act_protCtl (beq_iff_eq.mpr hact) htakes ((hseal hact).trans
      (State.protSeal_of_ready hlife hroot hbuild hclean hmap hcodec)))
  case keyClear =>
    intro p v x s hkey hact htakes
    obtain ⟨-, -, -, hclear, -⟩ := State.protCtl_of_code (s := s.beginWrite x) (ok := x.rng) hkey
    exact exec_of_row rfl (act_protCtl (beq_iff_eq.mpr hact) htakes (hclear hact))
  case sesClose =>
    intro p v x s hkey hact htakes
    obtain ⟨-, -, -, -, hclose⟩ := State.protCtl_of_code (s := s.beginWrite x) (ok := x.rng) hkey
    exact exec_of_row rfl (act_protCtl (beq_iff_eq.mpr hact) htakes (hclose hact))
  case norProgram =>
    intro p v x s hkey hact hidle hfree htakes
    obtain ⟨hprogram, -⟩ := State.norAction_submits (s := s.beginWrite x) (p := p) (sector := bits v.toNat 16 8) hfree
    exact exec_of_row rfl (act_norCtl (beq_iff_eq.mpr hact) htakes
      ((State.norCtlWrite_of_code (s := s.beginWrite x) hkey hact (by decide) hidle (by omega)).trans hprogram))
  case norProgramClear =>
    intro p v x s hkey hact hidle hfree htakes
    obtain ⟨-, hprogram, -⟩ := State.norAction_submits (s := s.beginWrite x) (p := p) (sector := bits v.toNat 16 8) hfree
    exact exec_of_row rfl (act_norCtl (beq_iff_eq.mpr hact) htakes
      ((State.norCtlWrite_of_code (s := s.beginWrite x) hkey hact (by decide) hidle (by omega)).trans hprogram))
  case norErase =>
    intro p v x s hkey hact hidle hsector hfree htakes
    obtain ⟨-, -, herase⟩ := State.norAction_submits (s := s.beginWrite x) (p := p) (sector := bits v.toNat 16 8) hfree
    exact exec_of_row rfl (act_norCtl (beq_iff_eq.mpr hact) htakes
      ((State.norCtlWrite_of_code (s := s.beginWrite x) hkey hact (by decide) hidle (fun _ => hsector)).trans herase))
  case norWp =>
    intro p v x s hkey hact hidle hsector hfree htakes
    obtain ⟨hwp, -⟩ := State.norAction_protects (s := s.beginWrite x) (p := p) (sector := bits v.toNat 16 8) hfree
    exact exec_of_row rfl (act_norCtl (beq_iff_eq.mpr hact) htakes
      ((State.norCtlWrite_of_code (s := s.beginWrite x) hkey hact (by decide) hidle (fun _ => hsector)).trans hwp))
  case norProtect =>
    intro p v x s hkey hact hidle hsector hfree htakes
    obtain ⟨-, hprotect, -⟩ := State.norAction_protects (s := s.beginWrite x) (p := p) (sector := bits v.toNat 16 8) hfree
    exact exec_of_row rfl (act_norCtl (beq_iff_eq.mpr hact) htakes
      ((State.norCtlWrite_of_code (s := s.beginWrite x) hkey hact (by decide) hidle (fun _ => hsector)).trans hprotect))
  case pwChange =>
    intro p v x s hkey hact hidle hfree htakes
    obtain ⟨-, -, hchange, -⟩ := State.norAction_protects (s := s.beginWrite x) (p := p) (sector := bits v.toNat 16 8) hfree
    exact exec_of_row rfl (act_norCtl (beq_iff_eq.mpr hact) htakes
      ((State.norCtlWrite_of_code (s := s.beginWrite x) hkey hact (by decide) hidle (by omega)).trans hchange))
  case retire =>
    intro p v x s hkey hact hidle hfree htakes
    obtain ⟨-, -, -, hretire⟩ := State.norAction_protects (s := s.beginWrite x) (p := p) (sector := bits v.toNat 16 8) hfree
    exact exec_of_row rfl (act_norCtl (beq_iff_eq.mpr hact) htakes
      ((State.norCtlWrite_of_code (s := s.beginWrite x) hkey hact (by decide) hidle (by omega)).trans hretire))
  case otpProgram =>
    intro p v x s hkey hact hfree hslot hlock htakes
    obtain ⟨hprogram, -⟩ := State.otpCtlWrite_of_code (s := s.beginWrite x) (p := p) hkey
    exact exec_of_row rfl (act_otpCtl (beq_iff_eq.mpr hact) htakes ((hprogram hact).trans
      (State.otpProgram_of_free hfree hslot hlock)))
  case otpLock =>
    intro p v x s hkey hact hfree hslot hlock htakes
    obtain ⟨-, hlock⟩ := State.otpCtlWrite_of_code (s := s.beginWrite x) (p := p) hkey
    exact exec_of_row rfl (act_otpCtl (beq_iff_eq.mpr hact) htakes (hlock hact))
  case psData =>
    intro p v x s haddr htakes
    exact exec_of_row rfl (act_of_regActs rfl htakes (by decide) (by decide) rfl (State.psDataWrite_of_window haddr))
  case evrPost =>
    intro p v x s hkey hsrc htakes
    exact exec_of_row rfl (act_of_regActs rfl htakes (by decide) (by decide) rfl (if_neg (by omega)))
  case evrClear =>
    intro p k v x s hk htakes
    exact exec_of_row rfl (act_of_regActs (decide_eq_true hk) htakes (by omega) (by omega) (regActs_evrClear hk) rfl)
  case evrCfg =>
    intro p n v x s hn htakes
    exact exec_of_row rfl (act_of_regActs (decide_eq_true hn) htakes (by omega) (by omega) (regActs_evrCfg hn) rfl)
  case wdCtl =>
    intro p v x s hkey htakes
    exact exec_of_row rfl (act_of_regActs rfl htakes (by decide) (by decide) rfl (if_neg (not_not.mpr hkey)))
  case tpStart =>
    intro p v x s hkey htarget hact hidle hfree hrate htakes
    exact exec_of_row rfl (act_of_regActs (beq_iff_eq.mpr hact) htakes (by decide) (by decide) rfl
      ((if_neg (not_tpCtl_bad hkey htarget (.inl hact))).trans ((if_pos hact).trans (State.tpStart_of_free hidle hfree hrate))))
  case tpStop =>
    intro p v x s hkey htarget hact hruns htakes
    exact exec_of_row rfl (act_of_regActs (beq_iff_eq.mpr hact) htakes (by decide) (by decide) rfl
      ((if_neg (not_tpCtl_bad hkey htarget (.inr hact))).trans (if_neg (by omega))))
  case bist =>
    intro p v x s hkey hrun hst hp hidle htakes
    subst hp
    exact exec_of_row rfl (act_of_regActs hrun htakes (by decide) (by decide) rfl (State.bistCtl_runs hkey hrun hst hidle))
  case resetMember =>
    intro p v x s hkey hact hmember hrole htakes
    obtain ⟨hone, -⟩ := State.cascCtlWrite_of_code (s := s.beginWrite x) hkey hrole
    exact exec_of_row rfl (act_cascCtl (beq_iff_eq.mpr hact) htakes (hone hact hmember))
  case resetAll =>
    intro p v x s hkey hact hrole htakes
    obtain ⟨-, hall⟩ := State.cascCtlWrite_of_code (s := s.beginWrite x) hkey hrole
    exact exec_of_row rfl (act_cascCtl (beq_iff_eq.mpr hact) htakes (hall hact))
  case plain =>
    intro p a v x s d hplain hacts hunl htakes hdef hnolink hlegal
    exact exec_of_row rfl (registerWrite_of_plain hplain htakes hdef hnolink)
  case norRead => exact fun p s hserves => exec_of_row rfl (if_pos hserves)

end Sys2Proof.Machine
end

section
/-!
PROOFS. Arithmetic and logic instructions complete.
-/

namespace Sys2Proof.Machine

section
variable {c : Instr} {n w : Nat} {o : SOp} {x : SeqIn} {s u E : State}

/-- An instruction that runs answers the state of its meaning after the fetch. -/
theorem exec_of_sem (hrow : exec c s = .next (s.kept (s.seqRow n o x))) (h : s.runs n o x) (hw : w = s.nextWord n)
    (hu : u = s.fetched n) (he : seqExec o n w (s.sq n).pc x u = .ok E) : exec c s = .next (s.kept E) := by
  subst hw hu
  exact exec_of_row hrow (seqRow_ok s E n o x h he)

/-- A division whose flags show no zero divisor posts nothing. -/
theorem divEnd_quiet {pc : Nat} {r : Word × Word × Nat} (hdz : bit r.2.2 4 = false) :
    u.divEnd n w pc r = .ok (((u.setV n (wD w) r.1).setV n (wD w + 1) r.2.1).setFl n r.2.2) :=
  congrArg SRes.ok (if_neg (fun h => Bool.false_ne_true (hdz.symm.trans h.1)))

/-- A division by zero posts DZ where SEQ_CTL asks for it. -/
theorem divEnd_event {pc : Nat} {r : Word × Word × Nat} (hdz : bit r.2.2 4 = true) (hon : u.get (F.SEQ_CTL_DZ_EVENT n) = 1) :
    u.divEnd n w pc r = .ok ((((u.setV n (wD w) r.1).setV n (wD w + 1) r.2.1).setFl n r.2.2).seqEvent n 5 pc) :=
  congrArg SRes.ok (if_pos ⟨hdz, hon⟩)

end

/-- Settles O53. -/
theorem sequencerArithmeticInstructionsComplete : Obligations.SequencerArithmeticInstructionsComplete := by
  refine ⟨?opAdd, ?opAdc, ?opSub, ?opSbc, ?opAnd, ?opOr, ?opXor, ?opShl, ?opShr, ?opSar, ?opRol, ?opRor, ?opMul,
    ?opDivs, ?opDivsDz, ?opDivu, ?opDivuDz, ?opCmp, ?opTst, ?opNeg, ?opNot, ?opMov, ?opAddi, ?opAndi, ?opOri,
    ?opXori, ?opShiLeft, ?opShiRight, ?opShiArith, ?opShiRotate, ?opCmpi, ?opMovi, ?opMovhi, ?opMovs⟩
  case opAdd => exact fun n w x s u h hw hu => exec_of_sem rfl h hw hu rfl
  case opAdc => exact fun n w x s u h hw hu => exec_of_sem rfl h hw hu rfl
  case opSub => exact fun n w x s u h hw hu => exec_of_sem rfl h hw hu rfl
  case opSbc => exact fun n w x s u h hw hu => exec_of_sem rfl h hw hu rfl
  case opAnd => exact fun n w x s u h hw hu => exec_of_sem rfl h hw hu rfl
  case opOr => exact fun n w x s u h hw hu => exec_of_sem rfl h hw hu rfl
  case opXor => exact fun n w x s u h hw hu => exec_of_sem rfl h hw hu rfl
  case opShl => exact fun n w x s u h hw hu => exec_of_sem rfl h hw hu rfl
  case opShr => exact fun n w x s u h hw hu => exec_of_sem rfl h hw hu rfl
  case opSar => exact fun n w x s u h hw hu => exec_of_sem rfl h hw hu rfl
  case opRol => exact fun n w x s u h hw hu => exec_of_sem rfl h hw hu rfl
  case opRor => exact fun n w x s u h hw hu => exec_of_sem rfl h hw hu rfl
  case opMul => exact fun n w x s u h hw hu => exec_of_sem rfl h hw hu rfl
  case opDivs => exact fun n w x s u h hw hu hdz => exec_of_sem rfl h hw hu (divEnd_quiet hdz)
  case opDivsDz => exact fun n w x s u h hw hu hdz hon => exec_of_sem rfl h hw hu (divEnd_event hdz hon)
  case opDivu => exact fun n w x s u h hw hu hdz => exec_of_sem rfl h hw hu (divEnd_quiet hdz)
  case opDivuDz => exact fun n w x s u h hw hu hdz hon => exec_of_sem rfl h hw hu (divEnd_event hdz hon)
  case opCmp => exact fun n w x s u h hw hu => exec_of_sem rfl h hw hu rfl
  case opTst => exact fun n w x s u h hw hu => exec_of_sem rfl h hw hu rfl
  case opNeg => exact fun n w x s u h hw hu => exec_of_sem rfl h hw hu rfl
  case opNot => exact fun n w x s u h hw hu => exec_of_sem rfl h hw hu rfl
  case opMov => exact fun n w x s u h hw hu => exec_of_sem rfl h hw hu rfl
  case opAddi => exact fun n w x s u h hw hu => exec_of_sem rfl h hw hu rfl
  case opAndi => exact fun n w x s u h hw hu => exec_of_sem rfl h hw hu rfl
  case opOri => exact fun n w x s u h hw hu => exec_of_sem rfl h hw hu rfl
  case opXori => exact fun n w x s u h hw hu => exec_of_sem rfl h hw hu rfl
  case opShiLeft => exact fun n w x s u h hw hu hm => exec_of_sem rfl h hw hu (seqExec_shi hm ..)
  case opShiRight => exact fun n w x s u h hw hu hm => exec_of_sem rfl h hw hu (seqExec_shi hm ..)
  case opShiArith => exact fun n w x s u h hw hu hm => exec_of_sem rfl h hw hu (seqExec_shi hm ..)
  case opShiRotate => exact fun n w x s u h hw hu hm => exec_of_sem rfl h hw hu (seqExec_shi hm ..)
  case opCmpi => exact fun n w x s u h hw hu => exec_of_sem rfl h hw hu rfl
  case opMovi => exact fun n w x s u h hw hu => exec_of_sem rfl h hw hu rfl
  case opMovhi => exact fun n w x s u h hw hu => exec_of_sem rfl h hw hu rfl
  case opMovs => exact fun n w x s u h hw hu => exec_of_sem rfl h hw hu rfl

end Sys2Proof.Machine
end

section
/-!
PROOFS. Loads, stores, pointers and special registers complete.
-/

namespace Sys2Proof.Machine

section
variable {n w size p : Nat} {x : SeqIn} {u v : State}

/-- A load of the data of a sound reference, in range, aligned and without an increment, gives the bytes it names (R322 to R325). -/
theorem hload_of_sound (hv : v = u.drain n) (hp : p = v.ptr n (wPM w)) (hinc : wInc w = false) (htag : pTag p = false)
    (hacc : accFault p (wTarget w) size = none) (hecc : x.hmpEcc ≠ 2) (href : v.refOk (pRef p) = true) :
    u.hload n w size x = .ok ((v.seqEcc p (pOff p + wTarget w) x.hmpEcc).setV n (wD w)
      (BitVec.ofNat 32 (leNat (v.hmpData (refBuf (pRef p)) (pOff p + wTarget w) size)))) := by
  subst hv hp
  have hgood : (x.hmpEcc == 2 || !(u.drain n).refOk (pRef ((u.drain n).ptr n (wPM w)))) = false := by simp [hecc, href]
  simp only [State.hload, hinc, hacc, hgood, htag, Bool.false_eq_true, if_false]

/-- A store in range, aligned and without an increment enters a write buffer that has room (R325). -/
theorem hstore_of_room (hp : p = u.ptr n (wPM w)) (hinc : wInc w = false) (hacc : accFault p (wTarget w) size = none)
    (hroom : (u.sq n).wbuf.length < 8) :
    u.hstore n w size = .ok (u.setSq n { u.sq n with wbuf := (u.sq n).wbuf ++
      [{ p := wPM w, ptr := p, off := pOff p + wTarget w, bytes := natLE size (u.sv n (wD w)).toNat }] }) := by
  subst hp
  simp only [State.hstore, hinc, hacc, if_pos hroom, Bool.false_eq_true, if_false]

end

/-- Settles O54. -/
theorem sequencerMemoryInstructionsComplete : Obligations.SequencerMemoryInstructionsComplete := by
  refine ⟨?mfs, ?mts, ?pset, ?pget, ?padd, ?ldw, ?ldh, ?ldb, ?stw, ?sth, ?stb, ?ldl, ?stl⟩
  case mfs => exact fun n w x s u h hw hu => exec_of_sem rfl h hw hu rfl
  case mts => exact fun n w x s u t h hw hu hwrite => exec_of_sem rfl h hw hu hwrite
  case pset => exact fun n w x s u h hw hu => exec_of_sem rfl h hw hu rfl
  case pget => exact fun n w x s u h hw hu => exec_of_sem rfl h hw hu rfl
  case padd => exact fun n w x s u r off h hw hu hto => exec_of_sem rfl h hw hu (congrArg (u.movePtr n (wPP w)) hto)
  case ldw => exact fun n w x s u v p h hw hu hv hp hinc htag hacc hecc href =>
    exec_of_sem rfl h hw hu (hload_of_sound hv hp hinc htag hacc hecc href)
  case ldh => exact fun n w x s u v p h hw hu hv hp hinc htag hacc hecc href =>
    exec_of_sem rfl h hw hu (hload_of_sound hv hp hinc htag hacc hecc href)
  case ldb => exact fun n w x s u v p h hw hu hv hp hinc htag hacc hecc href =>
    exec_of_sem rfl h hw hu (hload_of_sound hv hp hinc htag hacc hecc href)
  case stw => exact fun n w x s u p h hw hu hp hinc hacc hroom => exec_of_sem rfl h hw hu (hstore_of_room hp hinc hacc hroom)
  case sth => exact fun n w x s u p h hw hu hp hinc hacc hroom => exec_of_sem rfl h hw hu (hstore_of_room hp hinc hacc hroom)
  case stb => exact fun n w x s u p h hw hu hp hinc hacc hroom => exec_of_sem rfl h hw hu (hstore_of_room hp hinc hacc hroom)
  case ldl =>
    intro n w x s u i h hw hu haddr hecc
    refine exec_of_sem rfl h hw hu ?_
    simp only [seqExec, semLdl, haddr, hecc, Nat.reduceEqDiff, if_false]
  case stl =>
    intro n w x s u i h hw hu haddr
    refine exec_of_sem rfl h hw hu ?_
    simp only [seqExec, semStl, haddr]

end Sys2Proof.Machine
end

section
/-!
PROOFS. Control, event and timer instructions complete.
-/

namespace Sys2Proof.Machine

/-- An address below 4,096 in V*a* is a target (R321). -/
theorem targetOf_of_lt {a : Word} (h : a.toNat < 4096) : targetOf a = some a.toNat := if_pos h

/-- A counter that is not 1 does not count down to 0. -/
theorem sub_one_ne_zero {a : Word} (h : a ≠ 1) : ¬ a - 1 = 0 := by
  bv_omega

/-- A jump pushes the next address onto a stack with room. -/
theorem callTo_of_room {u : State} {n t : Nat} (h : (u.sq n).stack.length < 8) :
    u.callTo n t = .ok (u.setSq n { u.sq n with stack := (u.sq n).pc :: (u.sq n).stack, pc := t % 4096 }) :=
  if_neg (Nat.not_le.mpr h)

/-- Settles O55. -/
theorem sequencerControlInstructionsComplete : Obligations.SequencerControlInstructionsComplete := by
  refine ⟨?nop, ?branch, ?branchNot, ?branchReg, ?branchRegNot, ?call, ?callReg, ?ret, ?rete, ?retf, ?loop, ?loopEnd, ?post, ?evm,
    ?waitCand, ?waitIdle, ?kick, ?tset, ?tstop, ?tget, ?earm, ?edis, ?eget, ?brkHalts, ?brkOff⟩
  case nop => exact fun n w x s u h hw hu => exec_of_sem rfl h hw hu rfl
  case branch => exact fun n w x s u h hw hu hcond => exec_of_sem rfl h hw hu (congrArg SRes.ok (if_pos hcond))
  case branchNot =>
    exact fun n w x s u h hw hu hcond => exec_of_sem rfl h hw hu (congrArg SRes.ok (if_neg (Bool.eq_false_iff.mp hcond)))
  case branchReg =>
    intro n w x s u h hw hu hta hcond
    refine exec_of_sem rfl h hw hu ?_
    simp only [seqExec, semBr, targetOf_of_lt hta, hcond, if_true]
  case branchRegNot =>
    intro n w x s u h hw hu hta hcond
    refine exec_of_sem rfl h hw hu ?_
    simp only [seqExec, semBr, targetOf_of_lt hta, hcond, Bool.false_eq_true, if_false]
  case call => exact fun n w x s u h hw hu hcond hroom => exec_of_sem rfl h hw hu ((if_pos hcond).trans (callTo_of_room hroom))
  case callReg =>
    intro n w x s u h hw hu hta hroom
    refine exec_of_sem rfl h hw hu ?_
    simp only [seqExec, semCallr, targetOf_of_lt hta]
    exact callTo_of_room hroom
  case ret =>
    intro n w x s u a l h hw hu hstack
    refine exec_of_sem rfl h hw hu ?_
    simp only [seqExec, semRet, hstack]
  case rete => exact fun n w x s u h hw hu hsvc => exec_of_sem rfl h hw hu (if_neg (by simp [hsvc]))
  case retf => exact fun n w x s u h hw hu hflt => exec_of_sem rfl h hw hu (if_neg (by simp [hflt]))
  case loop => exact fun n w x s u h hw hu hone => exec_of_sem rfl h hw hu (congrArg SRes.ok (if_neg (sub_one_ne_zero hone)))
  case loopEnd =>
    intro n w x s u h hw hu hone
    refine exec_of_sem rfl h hw hu ?_
    simp only [seqExec, semDjnz, hone]
    rfl
  case post => exact fun n w x s u h hw hu => exec_of_sem rfl h hw hu rfl
  case evm => exact fun n w x s u h hw hu => exec_of_sem rfl h hw hu rfl
  case waitCand => exact fun n w x s u h hw hu hcand => exec_of_sem rfl h hw hu (if_pos hcand)
  case waitIdle => exact fun n w x s u h hw hu hcand => exec_of_sem rfl h hw hu (if_neg (Bool.eq_false_iff.mp hcand))
  case kick => exact fun n w x s u h hw hu => exec_of_sem rfl h hw hu rfl
  case tset =>
    intro n w x s u h hw hu hcount hunit
    exact exec_of_sem rfl h hw hu (if_neg (not_or.mpr ⟨hcount, Nat.not_le.mpr hunit⟩))
  case tstop => exact fun n w x s u h hw hu => exec_of_sem rfl h hw hu rfl
  case tget =>
    intro n w x s u h hw hu hruns hus hpend hcarried
    refine exec_of_sem rfl h hw hu ?_
    simp only [seqExec, semTget, hruns, hus, hpend, hcarried, Bool.not_true, Bool.and_false, Bool.false_and, Bool.false_eq_true,
      if_false, b2n, if_true, Nat.zero_mul, Nat.one_mul, Nat.add_zero]
  case earm => exact fun n w x s u h hw hu hok => exec_of_sem rfl h hw hu (if_neg (by simp [hok]))
  case edis => exact fun n w x s u h hw hu => exec_of_sem rfl h hw hu rfl
  case eget =>
    intro n w x s u h hw hu hlatch hrb
    refine exec_of_sem rfl h hw hu ?_
    simp only [seqExec, semEget, hlatch, hrb, Bool.false_and, Bool.false_eq_true, if_false, b2n, Nat.zero_mul, Nat.add_zero]
  case brkHalts =>
    exact fun n w x s u h hw hu hen hstop => exec_of_sem rfl h hw hu (congrArg SRes.ok (if_pos ⟨hen, hstop⟩))
  case brkOff =>
    exact fun n w x s u h hw hu hen => exec_of_sem rfl h hw hu (congrArg SRes.ok (if_neg (fun hgo => hen hgo.1)))

end Sys2Proof.Machine
end

section
/-!
PROOFS. Flash bus instructions complete.
-/

namespace Sys2Proof.Machine

/-- A primitive with a chip enable runs on a channel without a commit in hold, after the stores before it. -/
theorem busGo_of_free {u : State} {n : Nat} {f : State → SRes} (hfree : u.chHold n = false) (hce : (u.sq n).ce ≠ none) :
    u.busGo n true f = f (u.drain n) :=
  (if_neg (by simp [hfree])).trans (if_neg (by simp [hce]))

/-- BSEL needs no chip enable. -/
theorem busGo_select {u : State} {n : Nat} {f : State → SRes} (hfree : u.chHold n = false) : u.busGo n false f = f (u.drain n) :=
  (if_neg (by simp [hfree])).trans (if_neg (by simp))

/-- Settles O56. -/
theorem sequencerBusInstructionsComplete : Obligations.SequencerBusInstructionsComplete := by
  refine ⟨?ptst, ?bcmd, ?badr, ?bsts, ?bsetf, ?bgetf, ?deselect, ?select, ?bdo, ?bdi, ?bidle⟩
  case ptst => exact fun n w x s u h hw hu => exec_of_sem rfl h hw hu rfl
  case bcmd =>
    intro n w x s u h hw hu hfree hce
    refine exec_of_sem rfl h hw hu ?_
    simp only [seqExec, semBcmd, busGo_of_free hfree hce]
  case badr =>
    intro n w x s u h hw hu hfree hce
    refine exec_of_sem rfl h hw hu ?_
    simp only [seqExec, semBadr, busGo_of_free hfree hce]
  case bsts =>
    intro n w x s u h hw hu hfree hce
    refine exec_of_sem rfl h hw hu ?_
    simp only [seqExec, semBsts, busGo_of_free hfree hce]
  case bsetf =>
    intro n w x s u h hw hu hfree hce
    refine exec_of_sem rfl h hw hu ?_
    simp only [seqExec, semBsetf, busGo_of_free hfree hce]
  case bgetf =>
    intro n w x s u h hw hu hfree hce
    refine exec_of_sem rfl h hw hu ?_
    simp only [seqExec, semBgetf, busGo_of_free hfree hce]
  case deselect =>
    intro n w x s u h hw hu hfree hbit
    refine exec_of_sem rfl h hw hu ?_
    simp only [seqExec, semBsel, busGo_select hfree, hbit, if_true]
  case select =>
    intro n w x s u h hw hu hfree hbit hmap
    refine exec_of_sem rfl h hw hu ?_
    simp only [seqExec, semBsel, busGo_select hfree, hbit, hmap, Bool.true_eq_false, Bool.false_eq_true, if_false]
  case bdo =>
    intro n w x s u v y p len r off h hw hu hfree hce hv hp hlen hfault hlost hput hto
    refine exec_of_sem rfl h hw hu ?_
    subst hv hp hlen
    simp only [seqExec, semBdo, busGo_of_free hfree hce, hfault, hlost, hput, hto, Bool.false_eq_true, if_false]
    rfl
  case bdi =>
    intro n w x s u v y p len r off l h hw hu hfree hce hv hp hlen hfault hecc hget hto hy
    refine exec_of_sem rfl h hw hu ?_
    subst hv hp hlen hy
    simp only [seqExec, semBdi, busGo_of_free hfree hce, hfault, if_neg hecc, hget, hto]
    rfl
  case bidle => exact fun n w x s u h hw hu => exec_of_sem rfl h hw hu rfl

end Sys2Proof.Machine
end

section
/-!
PROOFS. Operation slots, delivery, timers, edges and illegal instructions take their effect.
-/

namespace Sys2Proof.Machine

section
variable {n y i : Nat} {v : OutSlot} {o : DieOp} {s t : State}

/-- A write of a slot register that the channel takes, by a sequencer that executes. -/
theorem slotWrite_of_some (hexec : s.executes n = true) {r : Option State} (hr : r = some t) : s.slotWrite n r = t := by
  subst hr
  exact if_pos hexec

/-- A handed operation whose confirmations hold enters the free slot. -/
theorem slotTake_of_handed (hhand : (s.sq n).hand = some i) (hslot : s.slot? n y = none) (hop : s.dop? i = some o)
    (hconfirm : (s.beforeConfirms o o.parts).1 = true) :
    s.slotTake n y = some
      (let s2 := ((s.beforeConfirms o o.parts).2.setDop i { o with st := .open y }).setSlot n y { op := i, kind := o.kind, die := o.die }
       (s2.setSq n { s2.sq n with hand := none }).handNext n) := by
  have hpair : s.beforeConfirms o o.parts = (true, (s.beforeConfirms o o.parts).2) := Prod.ext hconfirm rfl
  simp only [State.slotTake, hhand, hslot, hop]
  rw [hpair]

/-- The first confirmation of a slot's operation starts it. -/
theorem slotConfirm_of_first (hslot : s.slot? n y = some v) (hfirst : v.started = none) (hop : s.dop? v.op = some o) :
    s.slotConfirm n y = some
      (let s2 := (s.setSlot n y { v with started := some s.clock }).setDop v.op { o with started := some s.clock, runFrom := s.clock }
       if o.kind = 1 ∨ o.kind = 2 then o.parts.foldl (fun (u : State) p => (u.useFlight p.use).elim u (fun k => u.logStarted k)) s2
       else s2) := by
  have hop' : (s.setSlot n y { v with started := some s.clock }).dop? v.op = some o := hop
  simp only [State.slotConfirm, hslot, hfirst, hop', Option.isSome_none, Bool.false_eq_true, if_false]
  split
  · refine congrArg (fun f => some (o.parts.foldl f _)) ?_
    funext u p
    cases u.useFlight p.use <;> rfl
  · rfl

end

/-- Settles O57. -/
theorem slotDeliveryAndDebugRowsTakeEffect : Obligations.SlotDeliveryAndDebugRowsTakeEffect := by
  refine ⟨?take, ?confirm, ?opend, ?ack, ?suspack, ?entryOk, ?delivery, ?breakpoint, ?timer, ?edge, ?illegal⟩
  case take =>
    intro n x i o l s hexec hhand hslot hop hconfirm
    have htake := slotTake_of_handed (s := s.withPs l) hhand hslot hop hconfirm
    exact exec_of_row rfl (slotWrite_of_some hexec (congrArg (Option.map State.endPs) htake))
  case confirm =>
    intro n x v o s hexec hslot hfirst hop
    exact exec_of_row rfl (slotWrite_of_some hexec (slotConfirm_of_first hslot hfirst hop))
  case opend =>
    intro n x oc v s hexec hoc hslot
    refine exec_of_row rfl (slotWrite_of_some hexec ((if_pos hoc).trans ?_))
    simp only [State.slotEnd, hslot]
  case ack =>
    intro n x v s hexec hslot
    refine exec_of_row rfl (slotWrite_of_some hexec ?_)
    simp only [State.slotAck, hslot]
  case suspack =>
    intro n x v o s hexec hslot hop
    have hop' : ∀ v' : OutSlot, (s.setSlot n (x % 8) v').dop? v.op = some o := fun _ => hop
    refine ⟨exec_of_row rfl (slotWrite_of_some hexec ?_), exec_of_row rfl (slotWrite_of_some hexec ?_)⟩
    · simp only [State.slotSuspack, hslot, hop', if_true]
    · simp only [State.slotSuspack, hslot, hop', Bool.false_eq_true, if_false]
  case entryOk =>
    intro n y s hexec hxch hentry
    refine exec_of_row rfl ((if_pos hexec).trans ?_)
    simp only [State.entryOk, hxch, hentry, if_true]
  case delivery =>
    intro n c s hn hdue hbreak hoffer hcand
    refine exec_of_row rfl ((if_pos ⟨hn, hdue, hbreak⟩).trans ?_)
    simp only [State.deliverBest, hoffer, hcand]
  case breakpoint => exact fun n s hruns hbreak => exec_of_row rfl (if_pos ⟨hruns, hbreak⟩)
  case timer =>
    intro n i s hhalted hruns hus hleft
    refine exec_of_row rfl (if_pos ?_)
    simp [hhalted, hruns, hleft]
  case edge =>
    intro n e level s hsrc hrb hkind harmed hlatch hlevel
    refine exec_of_row rfl ((if_neg (Bool.eq_false_iff.mp hrb)).trans ?_)
    have hfires : (level != (s.edge n e).level) = true := bne_iff_ne.mpr hlevel
    simp only [if_pos hsrc, hkind, harmed, hlatch, hfires, Nat.reduceEqDiff, Nat.reduceBEq, Bool.true_or, Bool.and_true,
      Bool.false_eq_true, if_true, if_false]
  case illegal => exact fun n x s hfetch hdec hecc => exec_of_row rfl (illegalInstruction_eq hfetch hdec hecc)

end Sys2Proof.Machine
end
